-- ==== Sys2Proof/Word.lean ====
section
/-!
DEFINITION. The word type of the YH-256 and its plainest arithmetic: 64-bit register words (R357), and the bit-field, sign
and saturation helpers that every chapter uses.
-/
namespace Sys2Proof

/-- A 64-bit register word. -/
abbrev Word := BitVec 64

/-- Bits `[lo + w - 1 : lo]` of `n`. -/
def bits (n lo w : Nat) : Nat := n / 2 ^ lo % 2 ^ w

/-- Bit `i` of `n`. -/
def bit (n i : Nat) : Bool := n / 2 ^ i % 2 == 1

/-- A Boolean as a one-bit number. -/
def b01 (b : Bool) : Nat := if b then 1 else 0

/-- `n + k`, held at the largest value of `w` bits (a counter that saturates). -/
def satAdd (w n k : Nat) : Nat := min (n + k) (2 ^ w - 1)

/-- Bit `i` of `n` set to 1. -/
def setBit (n i : Nat) : Nat := if bit n i then n else n + 2 ^ i

/-- Bit `i` of `n` cleared. -/
def clrBit (n i : Nat) : Nat := if bit n i then n - 2 ^ i else n

/-- The `w` low bits of `n` read as two's complement. -/
def toSigned (w n : Nat) : Int := if n % 2 ^ w < 2 ^ (w - 1) then Int.ofNat (n % 2 ^ w) else Int.ofNat (n % 2 ^ w) - 2 ^ w

/-- An integer as `w` bits of two's complement. -/
def ofSigned (w : Nat) (i : Int) : Nat := (i % (2 ^ w : Int)).toNat

/-- Quotient rounded up; 0 for a zero divisor. -/
def ceilDiv (a b : Nat) : Nat := if b = 0 then 0 else (a + b - 1) / b

end Sys2Proof
end

