-- ==== Sys2Proof/Syntax.lean ====
section
/-!
DEFINITION. The commands of the block: one constructor for each row of spec/opcode_table.json, with the operands that the
row's requirement names. What the outside brings (a measured code, a comparator outcome, a host value, a temperature, an
image) is an operand of the command.
-/
namespace Sys2Proof

/-- One byte. -/
abbrev Byte := BitVec 8

/-- One microword fetch (R187, R191, R195): `ua` where words that are not shown, which read clean, have brought the engine to that
microaddress; what a match with the trap table shows (0 clean, 1 a parity error that the replay clears, 2 one that persists); the 33 bits
read at the first fetch and at the replay fetch, the parity bit on top, where they differ from what the store holds; and whether the
internal condition of a conditional branch holds. -/
structure UFetch where
  ua : Option (Fin 16384) := none
  trap : Fin 3 := 0
  first : Option (BitVec 33) := none
  again : Option (BitVec 33) := none
  taken : Bool := false
  deriving DecidableEq, Repr

/-- An error that a sequencer meets while it executes one instruction, a wait or the entry of event service (R140, R195, R196). -/
inductive SeqErr where
  | none
  /-- A persistent parity error of the instruction fetch (R140). -/
  | pmem
  /-- A persistent parity error of a data-store read (R140). -/
  | dstore
  /-- The microwords fetched, down to the last that shows anything (R195); `eff`: where they lead to a machine check, the effect had
  taken place before it (R197). -/
  | micro (ws : List UFetch) (eff : Bool)
  /-- A directory read by the instruction that shows a parity error: clean after `n` replays, or persistent at 4 (R218). -/
  | dir (n : Fin 5)
  deriving DecidableEq, Repr

/-- The sequencer of field `f` goes on after a wait, or enters event service; `e` is the error that it meets as it does (R195, R199). -/
structure SeqTurn where
  f : Fin 16
  e : SeqErr := .none
  deriving DecidableEq, Repr

/-- The load of regulator `r` would draw `load`, in 0.5 nA and without its sign (R283). -/
structure DpsLoad where
  r : Fin 34
  load : Nat
  deriving DecidableEq, Repr

/-- An edge at the land of an input line (R310, R317): whether the level that it begins is long enough, and the absolute time at which it
arrives, in 0.5 ps. -/
structure LineEdge where
  wide : Bool
  at_ : Nat
  deriving DecidableEq, Repr

/-- A page whose content has been copied to its new frame, and the 32-bit words in it that could not be read (R337). -/
structure PageCopy where
  page : Fin 1048576
  bad : List Nat
  deriving DecidableEq, Repr

/-- The link of PE die `d` after a lane repair, and the smallest lane eye that its training then measures (R11, R413). -/
structure LaneEye where
  d : Fin 4
  eye : Nat
  deriving DecidableEq, Repr

/-- Boundary work that no row of its own starts (R17): a patch-RAM row (R198) or a directory row (R218). -/
inductive BoundaryWork where
  | patchRow (p : Fin 17) (row : Fin 256)
  | directoryRow (row : Nat)
  deriving DecidableEq, Repr

/-- A slice or a regulator. -/
inductive Unit2 where
  | slice (s : Fin 272)
  | dps (r : Fin 34)
  deriving DecidableEq, Repr

/-- A DAC with a slew limiter (R84): a level DAC of a slice (index 0 to 6, R97), its PMU force DAC, or a DPS DAC. -/
inductive DacId where
  | level (s : Fin 272) (i : Fin 7)
  | force (s : Fin 272)
  | dps (r : Fin 34)
  deriving DecidableEq, Repr

/-- What the mean round trip of one line pair shows (R311): whether the pulses return, the round trip and its spread. -/
structure LineMeas where
  loop : Bool
  rtt : Nat
  spread : Nat
  deriving DecidableEq, Repr

/-- The message type of a PTP message as the transparent clock tells them apart (R328): the Pdelay messages are Pdelay_Req and
Pdelay_Resp, which are event messages; `otherPtp` is any other general message. -/
inductive EthKind where
  | other
  | sync (twoStep : Bool)
  | followUp
  | delayReq
  | pdelay
  | otherPtp
  deriving DecidableEq, Repr

/-- A frame that arrives on an Ethernet port (R325 to R328): its length in bytes; whether it is good (0), has a bad FCS (1) or is
uncorrectable after FEC (2); its destination address, IEEE 802.1Q tags and Ethertype; the message type that its payload shows where the
frame is a PTP message, its sourcePortIdentity and sequenceId as one number, and its correctionField in 2^-16 ns. -/
structure EthFrame where
  len : Nat
  bad : Fin 3
  dst : Nat
  tags : List Nat
  etype : Nat
  kind : EthKind
  ident : Nat
  corr : Int
  deriving DecidableEq, Repr

/-- An Announce message (R329): the sender's clockIdentity, its domain, the data set that IEEE 1588 compares, and the announce
interval in sub-ticks. -/
structure PtpMaster where
  sender : Nat
  domain : Nat
  prio1 : Nat
  cls : Nat
  acc : Nat
  var : Nat
  prio2 : Nat
  gm : Nat
  steps : Nat
  interval : Nat
  deriving DecidableEq, Repr

/-- A Sync message (R329, R330): t1 where it is one-step, in 2^-16 ns as the other times; `fine` is what the ingress timestamp adds to
the clock's value at the present sub-tick; the sync interval in sub-ticks. -/
structure PtpSync where
  sender : Nat
  domain : Nat
  seq : Nat
  twoStep : Bool
  t1 : Int
  corr : Int
  fine : Int
  interval : Nat
  deriving DecidableEq, Repr

/-- A Follow_Up message. -/
structure PtpFollowUp where
  sender : Nat
  domain : Nat
  seq : Nat
  t1 : Int
  corr : Int
  deriving DecidableEq, Repr

/-- A Delay_Resp message that answers a Delay_Req of this module. -/
structure PtpDelayResp where
  sender : Nat
  domain : Nat
  seq : Nat
  t4 : Int
  corr : Int
  deriving DecidableEq, Repr

/-- What a .hso object holds (ch. 6): whether its header and lengths can be read at all (the spec does not lay the format out), the
program-memory and data-store images, the event-line table (line, and its EV_SRC word), and the entry and event-base addresses. -/
structure ProgImage where
  readable : Bool
  prog : List Word
  data : List Word
  events : List (Nat × Nat)
  entry : Nat
  evbase : Nat
  deriving DecidableEq, Repr

/-- What a calibration task measured on one slice (R424 to R426): new constants by CAL_K index, new clamp trims by CAL_CLIM index, the
worst residual in the unit of the task's limit (task 1: 1/1000 of the accuracy figure; task 2: 0.001 % of FS; tasks 4 and 5: 0.5 ps),
the worst DC residual in 10 µV, the drift in ppm, and, on a spare slice, the sets of its hinge paths: path, constant (0 to 23 CAL_K, 24 to
28 CAL_CLIM), value. -/
structure CalSlice where
  slice : Nat
  k : List (Nat × Nat)
  clim : List (Nat × Nat)
  res : Nat
  dc : Nat
  drift : Nat
  sets : List (Nat × Nat × Nat)
  deriving DecidableEq, Repr

/-- What task 3 measured on one regulator: residuals in 10 µV and 0.001 % of FS, drift in ppm. -/
structure CalDps where
  reg : Nat
  vRes : Nat
  iRes : Nat
  drift : Nat
  deriving DecidableEq, Repr

/-- What a calibration task measured: whether every measurement completed; the worst residual of the unit itself in tasks 0 (1/1000 of
the accuracy figure) and 6 (0.5 ps); slices; regulators; and constants for the engine's own store. -/
structure CalMeas where
  complete : Bool
  res : Nat
  slices : List CalSlice
  regs : List CalDps
  store : List (Nat × Nat)
  deriving DecidableEq, Repr

/-- The payload of a patch image (R193): the ROM level it applies to, the trap-table entries (valid bit, ROM address, patch-RAM
address), and the patch-RAM contents. -/
structure PatchImage where
  rom : Nat
  traps : List (Bool × Nat × Nat)
  words : List Nat
  deriving DecidableEq, Repr

/-- A signed image (R433, R434): its length in bytes, its header words, what the checks that need keys find (the fused hash agrees
with its complement; the public key has that hash; the signature verifies; decryption succeeds, tag included; the plaintext has the
digest of words 8 to 11), and its payload where it is a patch; and the rows that fail the read-back in the sequencers (R193), in order, as
sequencer and row. -/
structure SignedImage where
  len : Nat
  header : List Word
  fuseOk : Bool
  keyOk : Bool
  sigOk : Bool
  gcmOk : Bool
  digestOk : Bool
  patch : PatchImage
  badRows : List (Nat × Nat) := []
  deriving DecidableEq, Repr

/-- The repair map (R409): sequence number; field and channel of each slice substitution; spare regulator and land; the field that
sequencer 16 serves; NOSPARE marks by field, and of lands and sequencers; wear counts and worn units by RM_WEAR index; the patch-RAM
row maps (sequencer, row, spare row) and the directory row map (row, spare row); spare lanes in use by die, outward and inward; retired pseudo-channels; placement of
remapped pages (page, pseudo-channel, frame). -/
structure RepairMap where
  seq : Nat
  chans : List (Nat × Nat)
  lands : List (Nat × Nat)
  seqField : Option Nat
  noChan : List (Nat × Nat)
  noLand : Nat
  noSeq : Nat
  wear : List (Nat × Nat)
  worn : List Nat
  rows : List (Nat × Nat × Nat)
  dirRows : List (Nat × Nat)
  lanes : List (Nat × Nat × Nat)
  dead : List Nat
  pages : List (Nat × Nat × Nat)
  deriving DecidableEq, Repr

/-- What start-up finds (R436, R437): fuse complements; the known-answer tests; the identification of the two flash devices; the images of
slots A and B and of the recovery device; the stored patches, newest valid slot first, and the sequencers in which the one that is loaded
fails its read-back even with spare rows; the repair map of the flash, if a slot is
valid, and a Keeper mirror that carries a higher sequence number; training eyes of the memory and, by PE die, of the die-to-die links; the clear-code image; factory constants; VREF_IN and
RREF within limits; the full DIG and LVL runs by field and task; the comparator pairs that each regulator's monitor check observes
(swap, tie-high, tie-low; R109); and HOLD_N low when driven. -/
structure BootOutcome where
  fuseOk : Bool
  katOk : Bool
  id0 : Option Nat
  id1 : Option Nat
  images : List (Option SignedImage)
  patches : List SignedImage
  stuck : List Nat
  map : Option RepairMap
  mirror : Option RepairMap
  eyes : List (Nat × Nat)
  d2dEyes : List Nat
  clr : Option (List Word)
  factory : List CalSlice
  refOk : Bool
  cal : List (Nat × Nat × CalMeas)
  dpsPairs : List (Nat × Nat × Nat)
  holdOk : Bool
  deriving DecidableEq, Repr


/-- The operations and events of spec/opcode_table.json, one constructor for each row (R5 to R488). A row of an instruction
names the field whose sequencer executes it and an error that the memories or the microcode show while it does; its
operands stand in program memory. -/
inductive Instr where
  /-- REGISTER_WRITE (R5): A host write to a register that has no row of its own applies to each field as its access code provides. -/
  | registerWrite (a len : Nat) (v : Word)
  /-- BAR0_UNSUPPORTED_REQUEST (R357): A BAR0 request that is neither an aligned 4- or 8-byte read nor a write completes with Unsupported Request. -/
  | bar0UnsupportedRequest (a len : Nat)
  /-- BAR2_WRITE (R216): A BAR2 write is accepted only for an unprotected pattern page in FILLING; any other is discarded and counted. -/
  | bar2Write (a : Nat) (data : List Byte)
  /-- BAR2_READ (R216): A BAR2 read returns the page's present content, or all ones for a protected page. -/
  | bar2Read (a len : Nat)
  /-- START_STEP (R15): The host command that starts the programs of the named fields at start tick S, or refuses the start in every named field. -/
  | startStep (q : Fin 64)
  /-- FIELD_DONE (R157): Once the last issued vector of a stopped program has ended, the field plays no further vector. -/
  | fieldDone (f : Fin 16)
  /-- STEP_COMPLETE (R365): Once every named field is done and its records are visible, the step's completion entry is written and the fields reach their idle boundary. -/
  | stepComplete (q : Fin 64)
  /-- BOUNDARY_WORK_START (R17): At a tick boundary where the field or the module is idle, deferred boundary work starts. -/
  | boundaryWorkStart (w : BoundaryWork)
  /-- TICK_BOUNDARY (R38): The tick counter expires at K sub-ticks; TICKNO increments and the per-tick work anchored to B(n) is done. -/
  | tickBoundary
  /-- FRAME_COMPLETE (R44): Both the sequencer part and the Sower part of a frame are done, and the successor frame may start. -/
  | frameComplete (f : Fin 16)
  /-- LA_REARM (R50): A write of LA_STAT.REARM resets SLACK_MIN and LA_MIN. -/
  | laRearm (f : Fin 16)
  /-- REF_LOSS (R33): No REFCLK edge for 1 µs, or a frequency out of limits, declares the reference lost. -/
  | refLoss
  /-- WARM_CHANGE (R34): A change of OCXO_WARM moves the reference between warm and cold. -/
  | warmChange (level : Bool)
  /-- PLL_UNLOCK (R36): Loss of REFCLK or of any PLL lock stops the tick generator at once and switches to the fallback oscillator. -/
  | pllUnlock (p : Fin 4)
  /-- TICK_RESTART (R37): After REF_OK and all locks have held for 10 ms, the tick generator restarts at the next sync pulse. -/
  | tickRestart
  /-- PMU_CONVERSION (R68): A connected PMU converts once per tick at its sampling instant, with the flags of R69. -/
  | pmuConversion (s : Fin 272) (vcode icode : Nat) (clampI clampV : Bool)
  /-- WM_SAMPLE (R101): A window monitor powers up at its offset and samples the node, updating RAW, VERDICT, the SEEN bits and the counts. -/
  | wmSample (m : Unit2) (uv : Int) (hi lo : Bool)
  /-- SLEW_STEP (R84): The slew-limiter interval expires and the DAC output moves STEP codes towards its target. -/
  | slewStep (d : DacId)
  /-- BUCKET_DRAIN (R394): The drain counter of a fault source reaches FC_WIN and its bucket loses one event. -/
  | bucketDrain (n : Fin 640)
  /-- DRIVER_LIMIT_ENTRY (R80): The driver enters current limit, and slice interrupt source s is raised. -/
  | driverLimitEntry (s : Fin 272)
  /-- DRIVER_OVERLOAD (R80): A driver limit that has lasted 1 µs raises the slice's driver-overload fault source once. -/
  | driverOverload (s : Fin 272)
  /-- CLAMP_ENTRY (R67): A PMU clamp starts to act; CLAMP is counted and an interrupt is raised if enabled. -/
  | clampEntry (s : Fin 272) (volt : Bool)
  /-- PATH_RANGE_DROP (R71): At the first tick boundary after the ramp down ends, the current range drops to ±2 µA. -/
  | pathRangeDrop (s : Fin 272)
  /-- PATH_SWITCH_CHANGEOVER (R71): One sub-tick after B(H), the connect or mode switch changes over. -/
  | pathSwitchChangeover (s : Fin 272)
  /-- PATH_HOLD_END (R71): At B(H+1) the new range comes into force and the ramp up to the target begins. -/
  | pathHoldEnd (s : Fin 272)
  /-- BOLT_SWITCH_OPEN (R74): At the first tick boundary after the bolt ramp ends, the PMU switch opens under ±2 µA. -/
  | boltSwitchOpen (s : Fin 272)
  /-- SLICE_SUBSTITUTION (R76): At B(U) the repair manager starts substituting the spare slice, holding the worn driver off and ramping its PMU down. -/
  | sliceSubstitution (s : Fin 272)
  /-- SUBST_WORN_RETIRE (R76): At B(V) the worn slice disconnects and retires, and the spare takes over its settings. -/
  | substWornRetire (f : Fin 16)
  /-- SUBST_SPARE_CONNECT (R76): 10 ns after B(V) the spare connects through the hinge path and the channel map points to it. -/
  | substSpareConnect (f : Fin 16)
  /-- SUBST_SPARE_RESTORE (R76): At B(V+1) the spare takes the range, EN, DOFF and bleed of its settings and ramps up. -/
  | substSpareRestore (f : Fin 16)
  /-- CLR_N_ASSERT (R89): CLR_N held low for 100 ns forces every DAC to its clear code and stops all generators. -/
  | clrNAssert
  /-- CLR_N_DEASSERT (R91): CLR_N returns high; CLR_IN clears, but clearing holds until it is released. -/
  | clrNDeassert
  /-- CLR_REL (R91): A host write of CLR_REL.REL requests release of clearing, and is refused while CLR_N is low. -/
  | clrRel
  /-- CLEAR_RELEASE_APPLY (R91): At the next tick boundary HELD goes to 0 and every DAC ramps to its target. -/
  | clearReleaseApply
  /-- GENERATOR_START (R93): At the first tick boundary where RUN, a forcing mode and quiet conditions hold, the generator starts. -/
  | generatorStart (g : Unit2)
  /-- GENERATOR_STEP (R93): At each generator interval the output takes the next waveform point, clipped if necessary. -/
  | generatorStep (g : Unit2)
  /-- READBACK_SLOT (R98): A 2.4 µs read-back slot ends and the measured DAC output is compared with its nominal value. -/
  | readbackSlot (f : Fin 16) (uv : Int)
  /-- READBACK_OVERDUE (R100): RB_STAT.AGE crosses MAXAGE and the read-back-overdue source of the field is raised. -/
  | readbackOverdue (f : Fin 16)
  /-- WM_CLEAR (R105): A write of WM_STAT.CLEAR sets VERDICT to the present RAW. -/
  | wmClear (m : Unit2)
  /-- DPS_WM_CHK_START (R109): A write of DPS_WM_CHK.START requests a monitor self-check from the next tick. -/
  | dpsWmChkStart (r : Fin 34)
  /-- DPS_SELFCHECK_AUTO_START (R109): At each tick at which TICKNO mod INTV is 0, a self-check starts. -/
  | dpsSelfcheckAutoStart (r : Fin 34)
  /-- VECTOR_START (R117): A vector of the field's stream starts and places its edges and strobes under its timing set. -/
  | vectorStart (f : Fin 16) (upTo within after : List (List Int))
  /-- VECTOR_JUDGED (R166): At the first tick boundary at least 400 ns after a vector's last strobe, its fail bits set F and FMASK. -/
  | vectorJudged (f : Fin 16)
  /-- TS_CHK_RUN (R131): A write of TS_CHK.RUN checks the shadow timing table against R126. -/
  | tsChkRun (f : Fin 16)
  /-- TS_CHK_DONE (R131): The host table check ends within 40 µs and writes its outcome to TS_CHK. -/
  | tsChkDone (f : Fin 16)
  /-- NOP (R165): Instruction that does nothing. -/
  | nop (f : Fin 16) (e : SeqErr)
  /-- END (R157): Instruction that stops the program; closed frames play out. -/
  | endI (f : Fin 16) (e : SeqErr)
  /-- JMP (R165): Instruction that branches to the target when COND holds. -/
  | jmp (f : Fin 16) (e : SeqErr)
  /-- CALL (R149): Instruction that pushes the return address and branches when COND holds. -/
  | callI (f : Fin 16) (e : SeqErr)
  /-- RET (R149): Instruction that pops the return address pushed by a call. -/
  | ret (f : Fin 16) (e : SeqErr)
  /-- RETE (R153): Instruction that ends event service, restoring flags and resuming or abandoning an interrupted long instruction. -/
  | rete (f : Fin 16) (e : SeqErr)
  /-- LOOP (R150): Instruction that decrements a loop counter and branches while the result is not 0. -/
  | loopI (f : Fin 16) (e : SeqErr)
  /-- LDL (R165): Instruction that loads a loop counter with an immediate. -/
  | ldl (f : Fin 16) (e : SeqErr)
  /-- WAITEV (R155): Instruction that completes at once on a pending line or sleeps in a tick wait until woken or timed out. -/
  | waitev (f : Fin 16) (e : SeqErr)
  /-- WAITEV_TIMEOUT (R165): The WAITEV timeout expires at B(n+t-2) and the program continues with D = 65. -/
  | waitevTimeout (x : SeqTurn)
  /-- SYNCF (R166): Instruction that waits until every issued vector is judged, then sets P to NOT F. -/
  | syncf (f : Fin 16) (e : SeqErr)
  /-- WAITT (R165): Instruction that waits until F(n+k) is the frame under construction. -/
  | waitt (f : Fin 16) (e : SeqErr)
  /-- TICK_WAIT_END (R162): The awaited tick, frame or result becomes available and the waiting instruction completes. -/
  | tickWaitEnd (x : SeqTurn)
  /-- ADD (R167): Instruction D = Ga + Gb with flags. -/
  | add (f : Fin 16) (e : SeqErr)
  /-- SUB (R167): Instruction D = Ga - Gb with flags. -/
  | subI (f : Fin 16) (e : SeqErr)
  /-- ADDI (R167): Instruction D = Ga + sign-extended immediate. -/
  | addi (f : Fin 16) (e : SeqErr)
  /-- MUL (R167): Instruction D = low 64 bits of the unsigned product Ga × Gb. -/
  | mul (f : Fin 16) (e : SeqErr)
  /-- AND (R167): Instruction D = Ga AND Gb. -/
  | andI (f : Fin 16) (e : SeqErr)
  /-- OR (R167): Instruction D = Ga OR Gb. -/
  | orI (f : Fin 16) (e : SeqErr)
  /-- XOR (R167): Instruction D = Ga XOR Gb. -/
  | xorI (f : Fin 16) (e : SeqErr)
  /-- SHL (R167): Instruction that shifts Ga left. -/
  | shl (f : Fin 16) (e : SeqErr)
  /-- SHR (R167): Instruction that shifts Ga right logically. -/
  | shr (f : Fin 16) (e : SeqErr)
  /-- SAR (R167): Instruction that shifts Ga right arithmetically. -/
  | sar (f : Fin 16) (e : SeqErr)
  /-- CMP (R167): Instruction that sets the flags of Ga - Gb. -/
  | cmp (f : Fin 16) (e : SeqErr)
  /-- CMPI (R167): Instruction that sets the flags of Ga minus the immediate. -/
  | cmpi (f : Fin 16) (e : SeqErr)
  /-- MOV (R167): Instruction D = Ga. -/
  | mov (f : Fin 16) (e : SeqErr)
  /-- MOVI (R167): Instruction D = sign-extended immediate. -/
  | movi (f : Fin 16) (e : SeqErr)
  /-- MOVHI (R167): Instruction that sets D[63:41] from the immediate. -/
  | movhi (f : Fin 16) (e : SeqErr)
  /-- EXT (R167): Instruction that extracts a bit field of Ga. -/
  | ext (f : Fin 16) (e : SeqErr)
  /-- MFS (R167): Instruction that reads a special register. -/
  | mfs (f : Fin 16) (e : SeqErr)
  /-- MTS (R167): Instruction that writes a special register. -/
  | mts (f : Fin 16) (e : SeqErr)
  /-- LDD (R167): Instruction that loads a data-store word. -/
  | ldd (f : Fin 16) (e : SeqErr)
  /-- STD (R167): Instruction that stores a data-store word. -/
  | std (f : Fin 16) (e : SeqErr)
  /-- LDH (R140): Instruction that reads a word of a pattern page from HBM, waiting for the data. -/
  | ldh (f : Fin 16) (e : SeqErr)
  /-- HBM_DATA_ARRIVAL (R140): Data awaited by a sequencer HBM read arrives and the data wait ends. -/
  | hbmDataArrival (x : SeqTurn)
  /-- TSELI (R168): Instruction TSEL = immediate. -/
  | tseli (f : Fin 16) (e : SeqErr)
  /-- TSELR (R168): Instruction TSEL = Ga[5:0]. -/
  | tselr (f : Fin 16) (e : SeqErr)
  /-- PLAY (R169): Instruction that appends a pattern segment at the stream position. -/
  | play (f : Fin 16) (e : SeqErr)
  /-- FALLOW (R168): Instruction that appends fallow vectors. -/
  | fallow (f : Fin 16) (e : SeqErr)
  /-- SJMP (R170): Instruction that requests a segment jump anchored to B(n). -/
  | sjmp (f : Fin 16) (e : SeqErr)
  /-- SJMP_APPLY (R221): At the anchor boundary the Sower discards content after the jump point and fetches the new segment. -/
  | sjmpApply (f : Fin 16)
  /-- SYNCS (R147): Instruction that fills the stream to the next boundary and waits for its frame. -/
  | syncs (f : Fin 16) (e : SeqErr)
  /-- SETLVL (R171): Instruction that sets a level, force or threshold DAC target for the masked channels at B(n). -/
  | setlvl (f : Fin 16) (e : SeqErr)
  /-- SETPMU (R171): Instruction that sets PMU configuration or sampling offset. -/
  | setpmu (f : Fin 16) (e : SeqErr)
  /-- SETSLC (R171): Instruction that sets slice control, hysteresis or load currents. -/
  | setslc (f : Fin 16) (e : SeqErr)
  /-- SETSLEW (R171): Instruction that sets slew-limiter step or interval. -/
  | setslew (f : Fin 16) (e : SeqErr)
  /-- SETGEN (R171): Instruction that sets generator control or parameters. -/
  | setgen (f : Fin 16) (e : SeqErr)
  /-- SETWM (R171): Instruction that sets window-monitor control, offset, or clears its verdict. -/
  | setwm (f : Fin 16) (e : SeqErr)
  /-- SETDPS (R171): Instruction that sets a setting of regulator 2f or 2f + 1. -/
  | setdps (f : Fin 16) (e : SeqErr)
  /-- MEAS (R174): Instruction that reads the PMU conversion of a channel in tick m. -/
  | meas (f : Fin 16) (e : SeqErr)
  /-- VERD (R174): Instruction that reads a channel's window-monitor state for tick m. -/
  | verd (f : Fin 16) (e : SeqErr)
  /-- VERDALL (R174): Instruction that reads all sixteen verdicts for tick m. -/
  | verdall (f : Fin 16) (e : SeqErr)
  /-- LIMIT (R174): Instruction that judges Ga against limits from the data store and sets P. -/
  | limit (f : Fin 16) (e : SeqErr)
  /-- FMASK (R174): Instruction that reads, and optionally clears, the channel fail mask. -/
  | fmask (f : Fin 16) (e : SeqErr)
  /-- TIASTAMP (R174): Instruction that sets TIA stamping mode for the masked channels from B(n). -/
  | tiastamp (f : Fin 16) (e : SeqErr)
  /-- FREQ (R174): Instruction that starts a frequency measurement at B(n). -/
  | freq (f : Fin 16) (e : SeqErr)
  /-- FREQRD (R174): Instruction that reads the frequency result once the gate has ended. -/
  | freqrd (f : Fin 16) (e : SeqErr)
  /-- CARM (R176): Instruction that arms capture engine f at B(n). -/
  | carm (f : Fin 16) (e : SeqErr)
  /-- CTRIG (R176): Instruction that forces a capture trigger at B(n). -/
  | ctrig (f : Fin 16) (e : SeqErr)
  /-- CSTOP (R176): Instruction that disarms capture engine f. -/
  | cstop (f : Fin 16) (e : SeqErr)
  /-- TRGOUT (R176): Instruction that drives a TRIG_OUT line low, high or with a pulse. -/
  | trgout (f : Fin 16) (e : SeqErr)
  /-- DDSRUN (R176): Instruction that starts DDS list stepping at an entry. -/
  | ddsrun (f : Fin 16) (e : SeqErr)
  /-- DDSSTEP (R176): Instruction that requests one DDS list step. -/
  | ddsstep (f : Fin 16) (e : SeqErr)
  /-- DDSSTOP (R176): Instruction that stops the DDS source. -/
  | ddsstop (f : Fin 16) (e : SeqErr)
  /-- DIGACQ (R176): Instruction that starts a digitiser acquisition. -/
  | digacq (f : Fin 16) (e : SeqErr)
  /-- HCONN (R176): Instruction that connects the hinge bus to a channel pad or disconnects it. -/
  | hconn (f : Fin 16) (e : SeqErr)
  /-- RESULT (R177): Instruction that issues a result record of the given kind. -/
  | result (f : Fin 16) (e : SeqErr)
  /-- BIN (R177): Instruction that issues a bin record for a site. -/
  | binI (f : Fin 16) (e : SeqErr)
  /-- SIGNAL (R179): Instruction that raises a software-event source at once or at B(n). -/
  | signalI (f : Fin 16) (e : SeqErr)
  /-- EVACK (R179): Instruction that clears the pending bit of a source. -/
  | evack (f : Fin 16) (e : SeqErr)
  /-- HCLAIM (R179): Instruction that claims a hasp for the sequencer. -/
  | hclaim (f : Fin 16) (e : SeqErr)
  /-- HREL (R179): Instruction that releases a hasp held by the sequencer. -/
  | hrel (f : Fin 16) (e : SeqErr)
  /-- SWEEP (R182): Long instruction that steps a DAC through codes and stores a conversion per point. -/
  | sweep (f : Fin 16) (e : SeqErr)
  /-- SEARCH (R183): Long instruction that binary-searches the lowest code at which a judgement is true. -/
  | searchI (f : Fin 16) (e : SeqErr)
  /-- MEASALL (R184): Long instruction that stores, and optionally judges, the conversions of all masked channels. -/
  | measall (f : Fin 16) (e : SeqErr)
  /-- BMOVE (R185): Long instruction that copies words from a page or within the data store. -/
  | bmove (f : Fin 16) (e : SeqErr)
  /-- EVENT_SERVICE (R152): At an instruction boundary or restart point with an enabled pending line, the sequencer enters the service routine of the lowest line. -/
  | eventService (x : SeqTurn)
  /-- SCRUB_READ (R198): A free fetch slot every 64 cycles reads one control-store word, and a persistent error raises the control-store source. -/
  | scrubRead (p : Fin 17) (store : Fin 3) (ua : Nat) (err replayErr : Bool)
  /-- SEQUENCER_TAKEOVER (R159): As boundary work, the state of a worn sequencer is copied to sequencer 16. -/
  | sequencerTakeover (f : Fin 16)
  /-- TAKEOVER_DONE (R159): The copy ends; hasps pass, routes are rewritten to T16 and the old sequencer is retired. -/
  | takeoverDone (f : Fin 16) (ok : Bool)
  /-- SEQ_PMD_ACCESS (R160): A read or write of SEQ_PMD accesses program memory at SEQ_PMA and increments the address. -/
  | seqPmdAccess (f : Fin 16) (w : Option Word)
  /-- SEQ_DSD_ACCESS (R160): A read or write of SEQ_DSD accesses the data store at SEQ_DSA and increments the address. -/
  | seqDsdAccess (f : Fin 16) (w : Option Word)
  /-- SOWER_EXPAND (R207): In each core cycle the Sower reads up to two record words and emits up to four vectors. -/
  | sowerExpand (f : Fin 16) (dictErr : Bool)
  /-- PAGE_FETCH_COMPLETE (R219): All words of a prefetched page arrive and the page becomes resident. -/
  | pageFetchComplete (f : Fin 16) (dirErr : Fin 5)
  /-- SEG_ALLOC (R214): Segment command that allocates and links n FREE pages into a chain. -/
  | segAlloc (q : Fin 64) (dirErr : Fin 5)
  /-- SEG_SEAL (R214): Segment command that checks a pattern header and makes the chain READY. -/
  | segSeal (q : Fin 64) (dirErr : Fin 5)
  /-- SEG_UNSEAL (R214): Segment command that returns a READY pattern chain to FILLING. -/
  | segUnseal (q : Fin 64) (dirErr : Fin 5)
  /-- SEG_FREE (R214): Segment command that frees a READY or FILLING chain. -/
  | segFree (q : Fin 64) (dirErr : Fin 5)
  /-- SEG_FREE_DONE (R217): The zero-fill of a protected chain freed as a long operation ends and its pages become FREE. -/
  | segFreeDone (k : Fin 256)
  /-- SOW_DCD_ACCESS (R208): A read or write of SOW_DCD accesses a dictionary entry, refusing reserved symbols, and increments the address. -/
  | sowDcdAccess (f : Fin 16) (w : Option Word)
  /-- TIA_EDGE (R229): A selected comparator edge is stamped into the FIFO, or missed or lost. -/
  | tiaEdge (s : Fin 272) (uv : Int) (ofs : Nat)
  /-- STAMP_WRITE (R234): The stamp writer takes a stamp from a FIFO into the stamp chain. -/
  | stampWrite (f : Fin 16)
  /-- STAMP_FLUSH (R235): At step end, once the FIFOs have drained, the page in progress is padded and made READY. -/
  | stampFlush (f : Fin 16)
  /-- TIA_FCHAIN_WRITE (R233): A write of TIA_FCHAIN attaches or detaches a stamp chain when its conditions hold. -/
  | tiaFchainWrite (f : Fin 16) (v : Word)
  /-- STAMP_CHAIN_DETACH (R233): After the writer has flushed, the stamp chain is detached. -/
  | stampChainDetach (f : Fin 16)
  /-- TIA_POP (R233): A read of TIA_POP removes and returns the oldest FIFO stamp. -/
  | tiaPop (s : Fin 272)
  /-- TIA_CALIBRATION (R237): Before stamping or a gate starts, the interpolator measures GAIN and OFS. -/
  | tiaCalibration (s : Fin 272) (one two : Nat)
  /-- DLL_LOCK (R236): The DLL of a slice starts locking. -/
  | dllLock (s : Fin 272)
  /-- DLL_LOCK_DONE (R236): After 200 µs the DLL is locked and DLL_LOCK reads 1. -/
  | dllLockDone (s : Fin 272)
  /-- FREQ_GATE_OPEN (R240): A frequency gate opens at its boundary and edges start being counted and stamped. -/
  | freqGateOpen (s : Fin 272)
  /-- FREQ_GATE_END (R240): The gate time expires and the least-squares fit is computed. -/
  | freqGateEnd (s : Fin 272)
  /-- FREQ_RESULT (R241): At the first boundary 2 µs after the gate, the result is written to TIA_FRES and TIA_FINFO. -/
  | freqResult (s : Fin 272)
  /-- TIA_FCTL_START (R242): A write of TIA_FCTL.START opens a gate at the next tick, closing any open gate. -/
  | tiaFctlStart (s : Fin 272)
  /-- DDS_CMD_RUN (R252): Host DDS command that requests RUN at an entry. -/
  | ddsCmdRun (f : Fin 16) (entry : Nat)
  /-- DDS_CMD_STEP (R252): Host DDS command that requests one list step. -/
  | ddsCmdStep (f : Fin 16)
  /-- DDS_CMD_STOP (R255): Host DDS command that requests STOP. -/
  | ddsCmdStop (f : Fin 16)
  /-- DDS_RUN_APPLY (R252): At its boundary a RUN puts the entry in force and makes the source running. -/
  | ddsRunApply (f : Fin 16)
  /-- DDS_STEP_APPLY (R253): At a list boundary the source advances one entry per request, or wraps or holds at LAST. -/
  | ddsStepApply (f : Fin 16)
  /-- DDS_STOP_APPLY (R255): At its boundary STOP sets amplitude and offset to 0 V and stops the source. -/
  | ddsStopApply (f : Fin 16)
  /-- DDS_TICK_COUNT_STEP (R252): Under STEP_SRC 3, each NTICK ticks since RUN a step request arises. -/
  | ddsTickCountStep (f : Fin 16)
  /-- DDS_LD_ACCESS (R251): A read or write of DDS_LD accesses a list entry, refusing reserved values, and increments INDEX. -/
  | ddsLdAccess (f : Fin 16) (w : Option Word)
  /-- DIG_CMD_START (R259): Host command that starts a digitiser acquisition at a later tick boundary. -/
  | digCmdStart (f : Fin 16)
  /-- DIG_CMD_ABORT (R260): Host command that ends the acquisition early without valid results. -/
  | digCmdAbort (f : Fin 16)
  /-- DIG_ACQ_START (R259): At t0 the acquisition starts taking samples, discarding any read-back slot. -/
  | digAcqStart (f : Fin 16)
  /-- DIG_RESULTS (R260): At the first boundary 1 µs after the last sample, results are written and the digitiser-done source raised. -/
  | digResults (f : Fin 16) (codes : List Nat) (level n : Nat)
  /-- CAP_CMD_ARM (R266): Host command that requests arming of the capture engine. -/
  | capCmdArm (f : Fin 16)
  /-- CAP_CMD_TRIG (R268): Host command that forces a capture trigger. -/
  | capCmdTrig (f : Fin 16)
  /-- CAP_CMD_STOP (R273): Host command that requests disarming of the capture engine. -/
  | capCmdStop (f : Fin 16)
  /-- CAP_CMD_FLCLR (R275): Host command that clears the fail log at once. -/
  | capCmdFlclr (f : Fin 16)
  /-- CAPTURE_ARM_APPLY (R266): At its boundary an ARM is accepted into PRE or refused with BUSY or LENGTH. -/
  | captureArmApply (f : Fin 16)
  /-- CAPTURE_ENTRY (R264): An entry of the selected source is written as a capture word into the ring, slot or stream. -/
  | captureEntry (f : Fin 16) (code : Nat)
  /-- CAPTURE_TRIGGER (R269): A trigger is accepted into POST, or ignored as early or during re-arm. -/
  | captureTrigger (f : Fin 16)
  /-- CAPTURE_AUTO_TIMEOUT (R270): In auto mode, TOUT ticks after the pre-trigger part fills, a trigger is forced. -/
  | captureAutoTimeout (f : Fin 16)
  /-- CAPTURE_STOP_APPLY (R273): A stop ends the record in progress and the engine enters DONE. -/
  | captureStopApply (f : Fin 16)
  /-- SPILL_WRITE (R271): Buffered capture words are written into the spill chain. -/
  | spillWrite (f : Fin 16)
  /-- CAP_MD_READ (R276): A read of CAP_MD returns the SRAM word at CAP_MA and increments the address. -/
  | capMdRead (f : Fin 16)
  /-- DPS_CONNECT (R286): At B(L + UP_DLY) the output switch closes and the DAC ramps to its target. -/
  | dpsConnect (r : Fin 34)
  /-- DPS_DISCONNECT (R286): At the first boundary after the ramp to code 0, the switch opens and the discharge closes. -/
  | dpsDisconnect (r : Fin 34)
  /-- DPS_CONVERSION (R287): A connected regulator converts voltage and current once per tick. -/
  | dpsConversion (r : Fin 34) (vcode icode : Nat) (clamp : Bool)
  /-- DPS_SENSE_OPEN (R281): Force and sense differing by over 500 mV for 10 µs change the regulator to local sense. -/
  | dpsSenseOpen (r : Fin 34)
  /-- DPS_CLAMP_ENTRY (R282): The regulator enters its current clamp. -/
  | dpsClampEntry (x : DpsLoad)
  /-- DPS_OVERLOAD (R282): A clamp acting for 10 ms raises the DPS overload fault source. -/
  | dpsOverload (r : Fin 34)
  /-- DPS_GATE_LIMIT (R283): A booster gate at a limit for 100 µs sets GATE_LIM and raises its fault source. -/
  | dpsGateLimit (r : Fin 34)
  /-- DPS_BOLT_GROUP (R289): Once the higher DN_ORD groups have ended their ramps, the next group starts its bolt ramp. -/
  | dpsBoltGroup
  /-- DPS_SUBSTITUTION (R291): At an idle boundary a spare regulator takes over a worn one, or the substitution is deferred. -/
  | dpsSubstitution (r : Fin 34)
  /-- RING_WRITE (R301): A queued record is written to a free slot of the result ring, extending the wafer digest and site accounts. -/
  | ringWrite
  /-- NOTIFICATION_ENQUEUE (R303): A waiting fault notification enters the result queue as reserved entries come free. -/
  | notificationEnqueue
  /-- RES_CONS_WRITE (R304): A write of RES_CONS reports records consumed and frees ring slots, refused beyond RES_PROD. -/
  | resConsWrite (v : Word)
  /-- RES_CTRL_WRITE (R304): Setting EN resets the ring counters; clearing is allowed only with the queue empty. -/
  | resCtrlWrite (v : Word)
  /-- WAFER_OPEN (R305): Command that opens a wafer, clearing accounts and the digest. -/
  | waferOpen (q : Fin 64)
  /-- WAFER_SIGN (R306): Long command that snapshots the wafer summary and has it signed. -/
  | waferSign (q : Fin 64)
  /-- WAFER_SIGN_DONE (R306): The signed body and signature are written to the host buffer. -/
  | waferSignDone (k : Fin 256)
  /-- SKEW_CAL (R311): Long command that measures the line-pair round trips and sets DLY. -/
  | skewCal (q : Fin 64)
  /-- SKEW_CAL_DONE (R311): Skew calibration ends with each pair OK, NO_LOOP or TOO_LONG. -/
  | skewCalDone (k : Fin 256) (pairs : List LineMeas)
  /-- SYNC_ISSUE (R312): A write of SYNC_CMD.ISSUE to the master launches a sync pulse. -/
  | syncIssue
  /-- SYNC_LOCAL (R315): A write of SYNC_CMD.LOCAL makes a local sync pulse. -/
  | syncLocal
  /-- SYNC_PULSE_SAMPLE (R313): A compensated sync pulse is sampled and accepted or refused. -/
  | syncPulseSample (isLocal wide : Bool)
  /-- SYNC_B0 (R313): LEAD sub-ticks after the sampling edge, TICKNO restarts at 0 and the pending commit is discarded. -/
  | syncB0
  /-- AUTO_LOCAL_PULSE (R315): With AUTO_LOCAL, a module waiting after relock makes its own local pulse. -/
  | autoLocalPulse
  /-- TRG_OUT_CMD (R316): A host write of TRG_OUT_CFG.CMD drives a trigger line low, high or with a pulse. -/
  | trgOutCmd (n : Fin 8) (c : Fin 4)
  /-- TRIG_OUT_PULSE_END (R316): A trigger-output pulse of WIDTH sub-ticks ends and any waiting command acts. -/
  | trigOutPulseEnd (n : Fin 8)
  /-- TRIG_IN_EDGE (R317): A compensated edge of the set polarity on TRIG_IN raises its source and counts. -/
  | trigInEdge (n : Fin 8) (rising : Bool) (x : LineEdge)
  /-- COMMIT (R318): Command that makes generation G pending with target tick L, or refuses it. -/
  | commit (q : Fin 64)
  /-- COMMIT_READINESS (R319): At B(T-1) + 100 ns the module evaluates readiness of the pending commit. -/
  | commitReadiness
  /-- HOLD_RELEASE (R320): At B(T-1) + 200 ns a ready module releases HOLD_N. -/
  | holdRelease
  /-- HOLD_SAMPLE (R321): At B(T) - 200 ns HOLD_N is sampled and the commit is to apply or slips. -/
  | holdSample (high : Bool)
  /-- COMMIT_APPLY (R321): At B(T) every shadow value tagged G comes into force and MODE_GEN becomes G. -/
  | commitApply
  /-- ETH_FRAME_RX (R326): A frame arrives on an Ethernet port and is queued for forwarding or discarded. -/
  | ethFrameRx (p : Fin 2) (fr : EthFrame)
  /-- ETH_FRAME_FORWARD (R326): A queued frame leaves on the other port. -/
  | ethFrameForward (p : Fin 2) (res : Nat)
  /-- FOLLOW_UP_TIMEOUT (R328): A Follow_Up with no matching Sync within 1 s is forwarded unchanged and counted. -/
  | followUpTimeout (p : Fin 2)
  /-- ETH_LINK_CHANGE (R325): An Ethernet port goes up or down. -/
  | ethLinkChange (p : Fin 2) (up : Bool)
  /-- PTP_ANNOUNCE_RX (R329): An Announce message is received and master selection is updated. -/
  | ptpAnnounceRx (p : Fin 2) (m : PtpMaster)
  /-- PTP_SYNC_RX (R329): A Sync message from the master is received and a Delay_Req is sent. -/
  | ptpSyncRx (p : Fin 2) (m : PtpSync)
  /-- PTP_FOLLOW_UP_RX (R330): A Follow_Up from the master is received. -/
  | ptpFollowUpRx (p : Fin 2) (m : PtpFollowUp)
  /-- PTP_DELAY_RESP_RX (R330): A Delay_Resp completes an exchange and the clock offset and rate are updated. -/
  | ptpDelayRespRx (p : Fin 2) (m : PtpDelayResp)
  /-- PTP_STEP (R330): After the first exchange in LISTENING, the clock is set to the master's time at the next tick boundary. -/
  | ptpStep
  /-- PTP_HOLDOVER (R330): Missing Announce or Sync messages move the clock into HOLDOVER. -/
  | ptpHoldover
  /-- PTP_RELOCK (R330): A write of PTP_CMD.RELOCK returns the clock to LISTENING. -/
  | ptpRelock
  /-- PTP_NOW_READ (R333): A read of PTP_NOW_S latches PTP_NOW_NS. -/
  | ptpNowRead
  /-- HBM_GRANT (R341): On a pseudo-channel the controller grants the most urgent request. -/
  | hbmGrant (p : Fin 32) (bad : Nat) (err : Fin 5)
  /-- PAGE_RETIRE_SWITCH (R337): The copy ends and the directory is switched to the new frame. -/
  | pageRetireSwitch (x : PageCopy)
  /-- PAGE_REFETCH (R339): Long command that writes a host buffer into a page awaiting refetch. -/
  | pageRefetch (q : Fin 64)
  /-- PAGE_REFETCH_DONE (R339): A refetch completes with clean parity and the page becomes resident. -/
  | pageRefetchDone (page : Fin 1048576) (data : List Word) (ok : Bool)
  /-- HBM_LATENCY_FAULT (R342): A Sower or capture request waiting beyond 4 × target raises the HBM latency source. -/
  | hbmLatencyFault (port : Fin 7)
  /-- REFRESH_INTERVAL (R343): Each t_REFI a pseudo-channel owes another refresh interval; at the budget refresh is forced. -/
  | refreshInterval (p : Fin 32)
  /-- HBM_TEMP_READOUT (R343): Every 100 µs the stack temperature is read, updating HOT, RT_DUE and the over-temperature source. -/
  | hbmTempReadout (t : Int)
  /-- HBM_TRAIN (R346): Long command that retrains the HBM interface at a module idle boundary. -/
  | hbmTrain (q : Fin 64)
  /-- HBM_RETRAIN (R346): As boundary work, all pseudo-channels retrain when any has RT_DUE. -/
  | hbmRetrain
  /-- HBM_TRAIN_DONE (R347): Training ends; a pseudo-channel with no usable result becomes DEGRADED. -/
  | hbmTrainDone (eyes : List (Nat × Nat))
  /-- PC_EVACUATED (R348): When no page remains in the pseudo-channel it becomes RETIRED. -/
  | pcEvacuated (p : Fin 32)
  /-- HBM_CMD_QUIET (R350): A write of HBM_CMD.QUIET requests the Quiet state. -/
  | hbmCmdQuiet
  /-- HBM_CMD_WAKE (R350): A write of HBM_CMD.WAKE starts the exit from Quiet. -/
  | hbmCmdWake
  /-- QUIET_ENTERED (R350): After 5 µs the stack is in self-refresh and the controller is Quiet. -/
  | quietEntered
  /-- QUIET_EXITED (R350): The exit from Quiet completes and waiting requests proceed. -/
  | quietExited
  /-- HBM_REFQ_POP (R339): A read of HBM_REFQ removes and returns a page awaiting refetch. -/
  | hbmRefqPop
  /-- HBM_LOST_POP (R338): A read of HBM_LOST removes and returns the oldest damaged-page entry. -/
  | hbmLostPop
  /-- PERST_ASSERT (R354): Assertion of PERST_N bolts the module and resets core logic after the ramps. -/
  | perstAssert
  /-- PERST_DEASSERT (R436): Deassertion of PERST_N starts the boot stages. -/
  | perstDeassert (b : BootOutcome)
  /-- BOOT_READY (R353): Start-up completes and HQ_STAT.READY becomes 1. -/
  | bootReady (ms : Nat)
  /-- LINK_DOWN (R354): The PCIe link goes down without PERST_N; device writes wait in order. -/
  | linkDown
  /-- LINK_UP (R354): The PCIe link returns and waiting writes go out in order. -/
  | linkUp (gen width : Nat)
  /-- SQ_DOORBELL (R360): A write of a submission-queue doorbell makes new entries available. -/
  | sqDoorbell (q : Fin 64) (v : Word)
  /-- CQ_DOORBELL (R362): A write of a completion-queue doorbell reports entries consumed. -/
  | cqDoorbell (q : Fin 64) (v : Word)
  /-- SQ_FETCH (R360): The device fetches the next submission entry of a queue and starts the command. -/
  | sqFetch (q : Fin 64) (entry : List Word) (bad : Bool)
  /-- CQ_WRITE (R359): A completion entry is written when the CQ has room, and source 434 + q is raised. -/
  | cqWrite (q : Fin 64) (bad : Bool)
  /-- Q_CFG_WRITE (R362): A write of Q_CFG enables or disables an idle queue pair. -/
  | qCfgWrite (q : Fin 64) (v : Word)
  /-- READ_REGS (R369): Command that reads consecutive BAR0 words into host memory. -/
  | readRegs (q : Fin 64)
  /-- PROG_LOAD (R364): Command that loads a .hso image into an idle field's memories by DMA. -/
  | progLoad (q : Fin 64) (img : Option ProgImage)
  /-- HASP_CLAIM (R19): Command that claims a hasp entry for the queue pair. -/
  | haspClaim (q : Fin 64)
  /-- HASP_RELEASE (R21): Command that releases a hasp entry, with FORCE if set. -/
  | haspRelease (q : Fin 64)
  /-- PAGE_DMA (R364): Long command that moves data between host memory and a page chain. -/
  | pageDma (q : Fin 64)
  /-- PAGE_DMA_DONE (R368): The page DMA ends in DONE or FAILED. -/
  | pageDmaDone (k : Fin 256) (data : List Word) (bad : Bool)
  /-- LONG_OP_START (R367): A queued long operation starts running in its slot. -/
  | longOpStart (k : Fin 256)
  /-- OPSTAT_FREE (R367): A write of OPSTAT.FREE frees a DONE or FAILED slot. -/
  | opstatFree (k : Fin 256)
  /-- PTM_REQ (R375): A write of PTM_CTRL.REQ starts a PTM exchange. -/
  | ptmReq
  /-- PTM_AUTO (R375): Every INTV ms with AUTO set, a PTM exchange starts. -/
  | ptmAuto
  /-- PTM_EXCHANGE_DONE (R375): A PTM exchange ends and PTM_TICK, PTM_HOST and PTM_STAT are updated. -/
  | ptmExchangeDone (host : Nat) (ofs : Nat)
  /-- PTM_STAT_READ (R375): An 8-byte read of PTM_STAT latches PTM_TICK and PTM_HOST. -/
  | ptmStatRead
  /-- D3HOT_ENTER (R374): The host sets D3hot; fetching stops and pending messages are sent. -/
  | d3hotEnter
  /-- D0_RETURN (R374): On return to D0, waiting writes go out and held vectors fire. -/
  | d0Return
  /-- L1_ENTER (R373): The link enters ASPM L1 when nothing is outstanding. -/
  | l1Enter
  /-- L1_EXIT (R373): The link leaves L1 to carry a device request. -/
  | l1Exit
  /-- IC_RAISE (R380): A host write of IC_RAISE raises a software-event source. -/
  | icRaise (v : Word)
  /-- IC_PEND_CLEAR (R379): A W1C write of IC_PEND clears pending bits. -/
  | icPendClear (i : Fin 16) (v : Word)
  /-- IC_EN_SET (R389): A write of IC_EN_SET enables the sources written as 1. -/
  | icEnSet (i : Fin 16) (v : Word)
  /-- IC_EN_CLR (R389): A write of IC_EN_CLR disables the sources written as 1. -/
  | icEnClr (i : Fin 16) (v : Word)
  /-- IC_ROUTE_WRITE (R381): A write of IC_ROUTE changes a source's target, mapping retired sequencers to T16. -/
  | icRouteWrite (n : Fin 1024) (v : Word)
  /-- IC_HOSTIDLE_SET (R386): A write of IC_HOSTIDLE_SET marks vectors idle, bypassing moderation. -/
  | icHostidleSet (v : Word)
  /-- IC_HOSTIDLE_CLR (R386): A write of IC_HOSTIDLE_CLR clears vector idle bits. -/
  | icHostidleClr (v : Word)
  /-- MODERATION_STEP (R385): At each sub-tick each MSI-X vector is evaluated for firing. -/
  | moderationStep
  /-- MSIX_MASK_WRITE (R387): A host write of an MSI-X mask bit masks or unmasks a vector. -/
  | msixMaskWrite (v : Option (Fin 64)) (mask : Bool)
  /-- FC_RECOVER (R403): A write of FC_RECOVER requests recovery of a bolted scope. -/
  | fcRecover (v : Word)
  /-- RECOVERY_APPLY (R403): At the next tick boundary recovery succeeds or fails with RESULT. -/
  | recoveryApply
  /-- FC_CFG_WRITE (R397): A write of FC_CFG applies only with an exact complement. -/
  | fcCfgWrite (n : Fin 640) (v : Word)
  /-- FC_STICKY_CLEAR (R393): A W1C write of FC_STICKY clears sticky bits and can end a Degraded hold. -/
  | fcStickyClear (i : Fin 10) (v : Word)
  /-- ALIVE_TOGGLE (R404): Every 500 µs ALIVE toggles while a heartbeat is present and no stop holds. -/
  | aliveToggle
  /-- HEARTBEAT_LOSS (R404): No heartbeat for 2 ms holds ALIVE and raises source 423. -/
  | heartbeatLoss
  /-- RM_CMD (R407): A write of RM_CMD requests substitution of a unit at the next opportunity. -/
  | rmCmd (v : Word)
  /-- LANE_REPAIR (R408): At a module idle boundary the worst die-to-die lane is replaced by a spare. -/
  | laneRepair (d : Fin 4) (out : Bool)
  /-- D2D_PARITY_ERROR (R11): A die-to-die word with a parity error is replayed up to three times; a persistent error goes to fault collection. -/
  | d2dParityError (d : Fin 4) (lane : Nat) (replays : Fin 4) (persistent : Bool)
  /-- REPAIR_MAP_SAVE (R409): A change of the repair map starts a background save into the older slot. -/
  | repairMapSave
  /-- REPAIR_MAP_SAVE_DONE (R409): The save completes or fails, raising source 614 or 615. -/
  | repairMapSaveDone (ok : Bool)
  /-- TEMP_SAMPLE (R419): Every 100 µs each temperature sensor is sampled. -/
  | tempSample (f : Option (Fin 16)) (t : Int)
  /-- CAL_TASK_START (R421): When free, the engine starts the due task with the largest AGE, claiming its hasps. -/
  | calTaskStart (refOk : Bool)
  /-- CAL_TASK_END (R421): At the first boundary after measurement the constants come into force and the task ends. -/
  | calTaskEnd (m : CalMeas)
  /-- CAL_RUN (R423): Long command that makes the named calibration tasks due. -/
  | calRun (q : Fin 64)
  /-- CAL_RUN_DONE (R423): Every named task has run, failed or been deferred and the operation ends. -/
  | calRunDone (k : Fin 256)
  /-- PATCH_LOAD (R194): Long command that loads a signed microcode patch at a module idle boundary. -/
  | patchLoad (q : Fin 64) (img : SignedImage)
  /-- PATCH_ACTIVATE (R194): The new patch image comes into force in all sequencers at one tick boundary. -/
  | patchActivate
  /-- PATCH_LOAD_DONE (R194): The patch load ends in DONE or FAILED, with the old image restored on failure. -/
  | patchLoadDone (k : Fin 256) (stuck : List Nat)
  /-- FLASH_JOB_START (R432): The next flash program or erase job starts. -/
  | flashJobStart
  /-- FLASH_JOB_DONE (R432): A flash job ends, with FLASH_ERROR on failure. -/
  | flashJobDone (ok : Bool) (a : Nat)
  /-- KR_CHALLENGE (R438): Keyring service that writes a fresh login nonce. -/
  | krChallenge (q : Fin 64) (nonce : Nat)
  /-- KR_LOGIN (R438): Keyring service that grants a role on a correct response. -/
  | krLogin (q : Fin 64) (resp : Nat)
  /-- KR_LOGOUT (R438): Keyring service that drops the pair's roles. -/
  | krLogout (q : Fin 64)
  /-- NONCE_EXPIRY (R438): A login nonce expires 10 s after its challenge. -/
  | nonceExpiry (q : Fin 64)
  /-- LOCKOUT_EXPIRY (R438): A role lockout ends after 60 s. -/
  | lockoutExpiry (co : Bool)
  /-- KR_PROVISION (R442): Keyring service that provisions credentials, KEK and attestation key. -/
  | krProvision (q : Fin 64) (co user kek : Nat)
  /-- KR_PROVISION_DONE (R442): Provisioning completes and PROV becomes 1. -/
  | krProvisionDone (k : Fin 256)
  /-- KR_KEY_IMPORT (R443): Keyring service that unwraps a pattern key into a slot. -/
  | krKeyImport (q : Fin 64) (key : Option Nat)
  /-- KR_STREAM_IMPORT (R444): Keyring service that decrypts a seed stream into a protected chain. -/
  | krStreamImport (q : Fin 64) (keyTag plen : Nat)
  /-- KR_STREAM_IMPORT_DONE (R444): The import's tag is checked; it ends DONE, or FAILED with the chain zero-filled. -/
  | krStreamImportDone (k : Fin 256) (plain : Option (List Word))
  /-- KR_KEY_CLEAR (R439): Keyring service that clears one or all pattern key slots. -/
  | krKeyClear (q : Fin 64)
  /-- KR_ATTEST (R445): Keyring service that signs an attestation report. -/
  | krAttest (q : Fin 64)
  /-- KR_ATTEST_DONE (R445): The signed attestation report is written to the host buffer. -/
  | krAttestDone (k : Fin 256)
  /-- KR_ZEROISE (R447): Keyring service that zeroises keys and protected chains. -/
  | krZeroise (q : Fin 64)
  /-- KR_ZEROISE_DONE (R447): Zeroisation completes, PROV becomes 0 and source 598 is raised. -/
  | krZeroiseDone (k : Fin 256)
  /-- KR_SELFTEST (R446): Keyring service that repeats the known-answer tests. -/
  | krSelftest (q : Fin 64)
  /-- KR_SELFTEST_DONE (R446): The self-test ends; a pass returns the Keyring to OPERATIONAL. -/
  | krSelftestDone (k : Fin 256) (ok : Bool)
  /-- ENTROPY_FAIL (R446): A continuous entropy test fails and the Keyring enters ERROR. -/
  | entropyFail
  /-- FW_UPDATE (R448): Keyring service that verifies and stores a firmware image. -/
  | fwUpdate (q : Fin 64) (img : SignedImage)
  /-- FW_UPDATE_DONE (R448): The firmware image is written, read back and named for the next start. -/
  | fwUpdateDone (k : Fin 256)
  /-- CLR_STORE (R448): Keyring service that checks and stores a clear-code image. -/
  | clrStore (q : Fin 64) (img : Option (List Word))
  /-- CLR_STORE_DONE (R448): The clear-code image is stored in the flash. -/
  | clrStoreDone (k : Fin 256)
  /-- RETURN_PREP (R449): Keyring service that builds and signs the return record and zeroises. -/
  | returnPrep (q : Fin 64)
  /-- RETURN_PREP_DONE (R449): The return record is written, PROV becomes 2 and source 604 is raised. -/
  | returnPrepDone (k : Fin 256)
  /-- KR_CERT_READ (R442): Keyring service that writes the identity key and certificates to the host. -/
  | krCertRead (q : Fin 64)
  /-- KR_UNLOCK (R450): Keyring service that checks a signed unlock token for returned parts. -/
  | krUnlock (q : Fin 64) (tok : Option (Nat × Nat))
  /-- KR_UNLOCK_DONE (R450): A valid token blows ANALYSED and opens the test modes. -/
  | krUnlockDone (k : Fin 256)
  /-- SSP_NOP (R460): Supervisor-port command that does nothing. -/
  | sspNop (a : BitVec 12) (d : BitVec 16)
  /-- SSP_READ (R460): Supervisor-port command that reads a word. -/
  | sspRead (a : BitVec 12) (d : BitVec 16) (ramErr : Bool)
  /-- SSP_READ_NEXT (R461): Supervisor-port command that reads the next word without crossing a block. -/
  | sspReadNext (a : BitVec 12) (d : BitVec 16) (ramErr : Bool)
  /-- SSP_WRITE (R462): Supervisor-port command that writes SP_PAGE or the scratch area. -/
  | sspWrite (a : BitVec 12) (d : BitVec 16)
  /-- SSP_BOLT_ARM (R463): Supervisor-port command that arms a bolt request. -/
  | sspBoltArm (a : BitVec 12) (d : BitVec 16)
  /-- SSP_BOLT (R463): Supervisor-port command that, after BOLT_ARM, raises source 424 and bolts the module. -/
  | sspBolt (a : BitVec 12) (d : BitVec 16)
  /-- SSP_FRAME_DISCARD (R458): A short, long or too-soon frame is discarded and its reply carries the error. -/
  | sspFrameDiscard (edges : Nat) (soon : Bool)
  /-- KP_RD_ACCESS (R457): A read or write of KP_RD accesses retention RAM and increments the address. -/
  | kpRdAccess (w : Option Word) (ramErr : Bool)
  /-- KEEPER_SERVE (R411): The Keeper firmware serves an arrival on a source routed to it and clears it. -/
  | keeperServe (n : Fin 1024)
  /-- VAUX_POWER_UP (R456): VAUX comes up and the Keeper starts with zeroed retention RAM. -/
  | vauxPowerUp
  /-- VAUX_LOSS (R465): VAUX falls below 2.90 V and the Keeper resets, losing the sticky bits. -/
  | vauxLoss
  /-- MAIN_VALID (R466): Every main rail within its window for 10 ms sets SP_STAT.MAIN. -/
  | mainValid
  /-- RAIL_FAULT (R471): A main rail leaving its window for 2 µs clears MAIN and, with PERST_N deasserted, bolts the module. -/
  | railFault (rail : Fin 11)
  /-- RAIL_ORDER_VIOLATION (R469): A rail entering its window before an earlier step's rails sets the sticky bit of source 426. -/
  | railOrderViolation (rail : Fin 11)
  /-- PE_LOCAL_BOLT (R472): A PE die that loses a rail or link frames for 2 µs bolts its outputs locally. -/
  | peLocalBolt (d : Fin 4)
  /-- PLL_LOCK (R37): REFCLK returns within limits and the PLLs regain lock, setting REF_OK and the lock bits and starting the 10 ms hold before the tick restarts. -/
  | pllLock
  /-- DRIVER_LIMIT_EXIT (R80): The driver leaves current limit, DRV_OVL and the live bit clear, and a limit that ended before 1 µs raises no fault event. -/
  | driverLimitExit (s : Fin 272)
  /-- CLAMP_EXIT (R67): A PMU current or voltage clamp stops acting and SLC_STAT.CLAMP_I or CLAMP_V returns to 0. -/
  | clampExit (s : Fin 272) (volt : Bool)
  /-- DPS_CLAMP_EXIT (R282): A regulator leaves its current clamp, returns to voltage regulation and DPS_STAT.CLAMP clears, ending the 10 ms overload timing. -/
  | dpsClampExit (r : Fin 34)
  /-- REGISTER_READ (R357): A host BAR0 read of a register whose RC fields clear when read, such as the event counters and IC_CNT. -/
  | registerRead (a len : Nat)
  /-- ILLEGAL_OPCODE (R142): The sequencer reaches an instruction with an opcode that Instruction Reference does not assign and stops with a program fault of cause ILLEGAL. -/
  | illegalOpcode (f : Fin 16) (e : SeqErr)
  /-- CORE_RESET (R354): After PERST_N assertion, once the bolt ramps have ended or 10 ms have passed, the core logic is reset. -/
  | coreReset
  /-- LANE_REPAIR_DONE (R408): The 20 µs die-to-die lane replacement ends and the module idle boundary is free for steps again. -/
  | laneRepairDone (x : LaneEye)
  deriving DecidableEq, Repr

end Sys2Proof
end

