-- ==== Sys2Proof/Decode.lean ====
section
/-!
DEFINITION. The reading of a table word. No row of spec/opcode_table.json gives bits (every row's `fields` is empty: a row is
an operation or an event of the block, not a word), so no word spells a command.
-/
namespace Sys2Proof

/-- The command that a word of `nbits` bits spells by the table's bits: none, for no row gives bits (log entry 8). -/
def decodeTableWord (_nbits _w : Nat) : Option Instr := none

end Sys2Proof
end

