-- ==== Sys2Proof/Config.lean ====
section
/-!
DEFINITION. What a part fixes and what the spec leaves open: opaque constants with no body, so that no proof can see
their values. Each is named in the assumption log.
-/
namespace Sys2Proof.Config

/-- The serial number fused into the part (R376: "fused per part"). -/
opaque serno : Nat

/-- A value the spec leaves open, applied to the counter `State.freeCount` and advanced with it. -/
opaque freeValue : Nat → Nat

/-- Word `i` of the signature over a list of 64-bit words under the attestation key (SLH-DSA, R306, R445, R449). -/
opaque signature : List Nat → Nat → Nat

/-- Word `i` of the repair-map mirror in retention RAM after the map has been mirrored `n` times: the spec gives the mirror's place
and not its layout (R409, R456). -/
opaque mirrorWord (n i : Nat) : Nat

/-- Word `i` of output number `n` of the Keyring for which the spec gives no values: identity public key, certificate and attestation
key (R442). -/
opaque keyringWord (n i : Nat) : Nat

/-- The microword at ROM address `ua` of base level 3, without its parity bit: the encodings are internal to the maker (R187). -/
opaque romWord (ua : Nat) : Nat

end Sys2Proof.Config
end

