-- ==== Sys2Proof/Machine/RegBase.lean ====
section
/-!
DEFINITION. What a register field is (R5 to R8): its place, its access code, its reset value and its reserved encodings;
and the reset values that the register tables give by instance (R28, R10, R340, R396).
-/
namespace Sys2Proof.Machine

/-- The access codes of R5. -/
inductive Acc where
  | ro | rw | rws | w1c | wo | rc
  deriving DecidableEq, Repr

/-- One field of a register: the offset of its register from its block, its lowest bit, its width, its access code, its
reset value by the address of the register instance (R6), and the encodings that are not reserved (R8). -/
structure Fld where
  off : Nat
  lo : Nat
  w : Nat
  acc : Acc
  rst : Nat → Nat
  ok : Nat → Bool

/-- One register of a block: its name, offset, the strides and counts of its instances, and its fields. -/
structure RegDef where
  name : String
  off : Nat
  dims : List (Nat × Nat)
  flds : List Fld

/-- The base address of field block `f` (R356). -/
def FLD (f : Nat) : Nat := 0x100000 + f * 0x10000

/-- The base address of slice block `s` (R356). -/
def SLC (s : Nat) : Nat := 0x200000 + s * 0x1000

/-- The base address of DPS block `r` (R356). -/
def DPS (r : Nat) : Nat := 0x400000 + r * 0x1000

/-- Which instance stands at address `a` of an array of registers. -/
def inst (base stride a : Nat) : Nat := (a - base) / stride

/-- HASP_ENT[i].KIND (R19, R28). -/
def haspKind (i : Nat) : Nat :=
  if i < 256 then
    (if i % 16 < 7 then i % 16 else if i % 16 < 11 then 7 else 0xF)
  else if i < 264 then 8 else if i < 272 then 9 else if i < 274 then 0xA else 0xF

/-- The PE die of regulator `r` (R10). -/
def dpsDie (r : Nat) : Nat := if r < 32 then r / 8 else if r = 32 then 0 else 2

/-- HBM_PORT[i].TARGET in 10 ns units (R340). -/
def portTarget (i : Nat) : Nat :=
  if i = 0 then 100 else if i = 1 then 400 else if i = 2 then 400 else if i = 3 then 1000
  else if i = 4 then 2000 else if i = 5 then 2000 else 40

/-- The rows of R396: BASE, PROMO, FC_N, FC_WIN and SCOPE of fault source `s`. The sources R391 does not use take the
row of the single-cause Notice sources (DESIGN CHOICE, log entry 3). -/
def fcReset (s : Nat) : Nat × Nat × Nat × Nat × Nat :=
  if s < 272 then (0, 2, 16, 10000, 0)
  else if s < 288 then (0, 1, 16, 10000, 0)
  else if s < 322 then (if s % 2 = 0 then (0, 0, 0, 10000, 0) else (1, 2, 2, 65535, 0))
  else if s < 356 then (0, 2, 16, 10000, 0)
  else if s < 388 then (0, 1, 64, 1000, 2)
  else if s < 392 then (0, 1, 32, 1000, 2)
  else if s = 392 ∨ s = 394 ∨ s = 397 ∨ s = 425 then (0, 1, 8, 10000, 2)
  else if s = 393 ∨ (414 ≤ s ∧ s ≤ 418) then (1, 2, 4, 1000, 2)
  else if s = 395 ∨ s = 396 ∨ s = 424 ∨ s = 426 then (2, 2, 0, 10000, 2)
  else if 419 ≤ s ∧ s ≤ 422 then (3, 3, 0, 10000, 2)
  else (0, 0, 0, 10000, 2)

/-- FC_CFG[s].BASE at reset (R396). -/
def fcBase (s : Nat) : Nat := (fcReset s).1
/-- FC_CFG[s].PROMO at reset (R396). -/
def fcPromo (s : Nat) : Nat := (fcReset s).2.1
/-- FC_CFG[s].N at reset (R396). -/
def fcN (s : Nat) : Nat := (fcReset s).2.2.1
/-- FC_CFG[s].WIN at reset (R396). -/
def fcWin (s : Nat) : Nat := (fcReset s).2.2.2.1
/-- FC_CFG[s].SCOPE at reset (R396). -/
def fcScope (s : Nat) : Nat := (fcReset s).2.2.2.2

/-- The lower half of FC_CFG[s] at reset, whose complement NCFG holds (R397). -/
def fcCfgReset (s : Nat) : Nat :=
  fcBase s + fcPromo s * 4 + fcScope s * 16 + fcN s * 256 + fcWin s * 65536

/-- A symbol code that is not reserved (R201). -/
def symOk (c : Nat) : Bool := decide (c ≤ 6 ∨ (8 ≤ c ∧ c ≤ 10))

/-- No symbol of a 16-symbol word is reserved (R201, R8). -/
def symbolsOk (v : Nat) : Bool := (List.range 16).all (fun k => symOk (bits v (4 * k) 4))

end Sys2Proof.Machine
end

