-- ==== Sys2Proof/Machine/RegDps.lean ====
section
/-!
DEFINITION. The register map of the spec, field by field: the registers of a DPS block (R292, R114). Every field carries its place, its
access code (R5), its reset value (R6) and the encodings its description does not mark as reserved (R8).
-/
namespace Sys2Proof.Machine

/-- DPS_GEN_CTRL.WAVE [5:4], RWS (R112): 0b00 triangle; 0b01 sawtooth; 0b10 noise; 0b11 reserved -/
def DPS_GEN_CTRL.WAVE : Fld := ⟨0x150, 4, 2, .rws, fun _ => 0, fun v => v != 3⟩
/-- DPS_GEN_CTRL.RUN [0:0], RWS (R112): R93, R95 -/
def DPS_GEN_CTRL.RUN : Fld := ⟨0x150, 0, 1, .rws, fun _ => 0, fun _ => true⟩
/-- The register DPS_GEN_CTRL (R112): one instance. -/
def DPS_GEN_CTRL.reg : RegDef := ⟨"DPS_GEN_CTRL", 0x150, [], [ DPS_GEN_CTRL.WAVE, DPS_GEN_CTRL.RUN]⟩

/-- DPS_GEN_CFG.GINTV [63:54], RWS (R112): Generator interval in sub-ticks, 1 to 1,023; 0 reserved -/
def DPS_GEN_CFG.GINTV : Fld := ⟨0x158, 54, 10, .rws, fun _ => 1, fun v => v != 0⟩
/-- DPS_GEN_CFG.GSTEP [49:32], RWS (R112): Codes per step, 1 to 262,143; 0 reserved; ignored for noise -/
def DPS_GEN_CFG.GSTEP : Fld := ⟨0x158, 32, 18, .rws, fun _ => 1, fun v => v != 0⟩
/-- DPS_GEN_CFG.AMPL [17:0], RWS (R112): Amplitude A in codes -/
def DPS_GEN_CFG.AMPL : Fld := ⟨0x158, 0, 18, .rws, fun _ => 0, fun _ => true⟩
/-- The register DPS_GEN_CFG (R112): one instance. -/
def DPS_GEN_CFG.reg : RegDef := ⟨"DPS_GEN_CFG", 0x158, [], [ DPS_GEN_CFG.GINTV, DPS_GEN_CFG.GSTEP, DPS_GEN_CFG.AMPL]⟩

/-- DPS_GEN_SEED.SEED [22:0], RWS (R112): Noise start state; 0 reserved -/
def DPS_GEN_SEED.SEED : Fld := ⟨0x160, 0, 23, .rws, fun _ => 1, fun v => v != 0⟩
/-- The register DPS_GEN_SEED (R112): one instance. -/
def DPS_GEN_SEED.reg : RegDef := ⟨"DPS_GEN_SEED", 0x160, [], [ DPS_GEN_SEED.SEED]⟩

/-- DPS_GEN_STAT.OUT [49:32], RO (R112): Present force DAC output code -/
def DPS_GEN_STAT.OUT : Fld := ⟨0x168, 32, 18, .ro, fun _ => 0, fun _ => true⟩
/-- DPS_GEN_STAT.CLIPS [31:16], RC (R112): Clipped steps (R94); saturates at 0xFFFF -/
def DPS_GEN_STAT.CLIPS : Fld := ⟨0x168, 16, 16, .rc, fun _ => 0, fun _ => true⟩
/-- DPS_GEN_STAT.CAUSE [3:1], RO (R112): Last stop: 0 none; 1 RUN; 2 path; 3 bolting; 4 clearing; 5 to 7 not used -/
def DPS_GEN_STAT.CAUSE : Fld := ⟨0x168, 1, 3, .ro, fun _ => 0, fun _ => true⟩
/-- DPS_GEN_STAT.RUN_ACT [0:0], RO (R112): Generator running -/
def DPS_GEN_STAT.RUN_ACT : Fld := ⟨0x168, 0, 1, .ro, fun _ => 0, fun _ => true⟩
/-- The register DPS_GEN_STAT (R112): one instance. -/
def DPS_GEN_STAT.reg : RegDef := ⟨"DPS_GEN_STAT", 0x168, [], [ DPS_GEN_STAT.OUT, DPS_GEN_STAT.CLIPS, DPS_GEN_STAT.CAUSE, DPS_GEN_STAT.RUN_ACT]⟩

/-- DPS_WM_CTRL.OFS [47:32], RWS (R113): Sampling offset in sub-ticks (R101) -/
def DPS_WM_CTRL.OFS : Fld := ⟨0x200, 32, 16, .rws, fun _ => 0x1f4, fun _ => true⟩
/-- DPS_WM_CTRL.HYS [13:8], RWS (R113): Hysteresis in threshold codes -/
def DPS_WM_CTRL.HYS : Fld := ⟨0x200, 8, 6, .rws, fun _ => 0, fun _ => true⟩
/-- DPS_WM_CTRL.IRQ [2:2], RWS (R113): R106 -/
def DPS_WM_CTRL.IRQ : Fld := ⟨0x200, 2, 1, .rws, fun _ => 0, fun _ => true⟩
/-- DPS_WM_CTRL.LATCH [1:1], RWS (R113): R105 -/
def DPS_WM_CTRL.LATCH : Fld := ⟨0x200, 1, 1, .rws, fun _ => 0, fun _ => true⟩
/-- DPS_WM_CTRL.EN [0:0], RWS (R113): Monitor enabled -/
def DPS_WM_CTRL.EN : Fld := ⟨0x200, 0, 1, .rws, fun _ => 0, fun _ => true⟩
/-- The register DPS_WM_CTRL (R113): one instance. -/
def DPS_WM_CTRL.reg : RegDef := ⟨"DPS_WM_CTRL", 0x200, [], [ DPS_WM_CTRL.OFS, DPS_WM_CTRL.HYS, DPS_WM_CTRL.IRQ, DPS_WM_CTRL.LATCH, DPS_WM_CTRL.EN]⟩

/-- DPS_WM_TH.TH_HI [27:16], RWS (R113): Upper threshold code -/
def DPS_WM_TH.TH_HI : Fld := ⟨0x208, 16, 12, .rws, fun _ => 0x400, fun v => decide (205 ≤ v ∧ v ≤ 3584)⟩
/-- DPS_WM_TH.TH_LO [11:0], RWS (R113): Lower threshold code -/
def DPS_WM_TH.TH_LO : Fld := ⟨0x208, 0, 12, .rws, fun _ => 0x400, fun v => decide (205 ≤ v ∧ v ≤ 3584)⟩
/-- The register DPS_WM_TH (R113): one instance. -/
def DPS_WM_TH.reg : RegDef := ⟨"DPS_WM_TH", 0x208, [], [ DPS_WM_TH.TH_HI, DPS_WM_TH.TH_LO]⟩

/-- DPS_WM_STAT.TICK [63:48], RO (R113): TICKNO[15:0] of the last sample -/
def DPS_WM_STAT.TICK : Fld := ⟨0x210, 48, 16, .ro, fun _ => 0, fun _ => true⟩
/-- DPS_WM_STAT.CLEAR [12:12], WO (R113): Writing 1 sets VERDICT to RAW (R105) -/
def DPS_WM_STAT.CLEAR : Fld := ⟨0x210, 12, 1, .wo, fun _ => 0, fun _ => true⟩
/-- DPS_WM_STAT.CLR_HELD [10:10], RO (R113): R106 -/
def DPS_WM_STAT.CLR_HELD : Fld := ⟨0x210, 10, 1, .ro, fun _ => 0, fun _ => true⟩
/-- DPS_WM_STAT.SEEN_BELOW [9:9], W1C (R113): R105 -/
def DPS_WM_STAT.SEEN_BELOW : Fld := ⟨0x210, 9, 1, .w1c, fun _ => 0, fun _ => true⟩
/-- DPS_WM_STAT.SEEN_ABOVE [8:8], W1C (R113): R105 -/
def DPS_WM_STAT.SEEN_ABOVE : Fld := ⟨0x210, 8, 1, .w1c, fun _ => 0, fun _ => true⟩
/-- DPS_WM_STAT.RAW [6:4], RO (R113): R102 -/
def DPS_WM_STAT.RAW : Fld := ⟨0x210, 4, 3, .ro, fun _ => 0, fun _ => true⟩
/-- DPS_WM_STAT.VERDICT [2:0], RO (R113): R102 -/
def DPS_WM_STAT.VERDICT : Fld := ⟨0x210, 0, 3, .ro, fun _ => 0, fun _ => true⟩
/-- The register DPS_WM_STAT (R113): one instance. -/
def DPS_WM_STAT.reg : RegDef := ⟨"DPS_WM_STAT", 0x210, [], [ DPS_WM_STAT.TICK, DPS_WM_STAT.CLEAR, DPS_WM_STAT.CLR_HELD, DPS_WM_STAT.SEEN_BELOW, DPS_WM_STAT.SEEN_ABOVE, DPS_WM_STAT.RAW, DPS_WM_STAT.VERDICT]⟩

/-- DPS_WM_CLR_TH.NHI [59:48], RW (R113): Complement of HI -/
def DPS_WM_CLR_TH.NHI : Fld := ⟨0x218, 48, 12, .rw, fun _ => 0xF32, fun _ => true⟩
/-- DPS_WM_CLR_TH.NLO [43:32], RW (R113): Complement of LO -/
def DPS_WM_CLR_TH.NLO : Fld := ⟨0x218, 32, 12, .rw, fun _ => 0xF32, fun _ => true⟩
/-- DPS_WM_CLR_TH.HI [27:16], RW (R113): Clear code, upper threshold -/
def DPS_WM_CLR_TH.HI : Fld := ⟨0x218, 16, 12, .rw, fun _ => 0xCD, fun _ => true⟩
/-- DPS_WM_CLR_TH.LO [11:0], RW (R113): Clear code, lower threshold -/
def DPS_WM_CLR_TH.LO : Fld := ⟨0x218, 0, 12, .rw, fun _ => 0xCD, fun _ => true⟩
/-- The register DPS_WM_CLR_TH (R113): one instance. -/
def DPS_WM_CLR_TH.reg : RegDef := ⟨"DPS_WM_CLR_TH", 0x218, [], [ DPS_WM_CLR_TH.NHI, DPS_WM_CLR_TH.NLO, DPS_WM_CLR_TH.HI, DPS_WM_CLR_TH.LO]⟩

/-- DPS_WM_EVCNT.SKIPS [47:32], RC (R113): Samples not taken (R101); saturates at 0xFFFF -/
def DPS_WM_EVCNT.SKIPS : Fld := ⟨0x220, 32, 16, .rc, fun _ => 0, fun _ => true⟩
/-- DPS_WM_EVCNT.ABOVE [31:16], RC (R113): Entries into ABOVE; saturates at 0xFFFF -/
def DPS_WM_EVCNT.ABOVE : Fld := ⟨0x220, 16, 16, .rc, fun _ => 0, fun _ => true⟩
/-- DPS_WM_EVCNT.BELOW [15:0], RC (R113): Entries into BELOW; saturates at 0xFFFF -/
def DPS_WM_EVCNT.BELOW : Fld := ⟨0x220, 0, 16, .rc, fun _ => 0, fun _ => true⟩
/-- The register DPS_WM_EVCNT (R113): one instance. -/
def DPS_WM_EVCNT.reg : RegDef := ⟨"DPS_WM_EVCNT", 0x220, [], [ DPS_WM_EVCNT.SKIPS, DPS_WM_EVCNT.ABOVE, DPS_WM_EVCNT.BELOW]⟩

/-- DPS_WM_CHK.START [63:63], WO (R114): Writing 1 requests a check (R109) -/
def DPS_WM_CHK.START : Fld := ⟨0x228, 63, 1, .wo, fun _ => 0, fun _ => true⟩
/-- DPS_WM_CHK.INTV [47:32], RW (R114): Automatic check interval in ticks; 0 means on request only; 1 to 15 reserved -/
def DPS_WM_CHK.INTV : Fld := ⟨0x228, 32, 16, .rw, fun _ => 0x2710, fun v => decide (v = 0 ∨ 16 ≤ v)⟩
/-- DPS_WM_CHK.TICK [31:16], RO (R114): TICKNO[15:0] of tick C of the last check -/
def DPS_WM_CHK.TICK : Fld := ⟨0x228, 16, 16, .ro, fun _ => 0, fun _ => true⟩
/-- DPS_WM_CHK.RAW_SWAP [11:10], RO (R114): Observed (HI, LO) pair -/
def DPS_WM_CHK.RAW_SWAP : Fld := ⟨0x228, 10, 2, .ro, fun _ => 0, fun _ => true⟩
/-- DPS_WM_CHK.RAW_TIEH [9:8], RO (R114): Observed (HI, LO) pair -/
def DPS_WM_CHK.RAW_TIEH : Fld := ⟨0x228, 8, 2, .ro, fun _ => 0, fun _ => true⟩
/-- DPS_WM_CHK.RAW_TIEL [7:6], RO (R114): Observed (HI, LO) pair -/
def DPS_WM_CHK.RAW_TIEL : Fld := ⟨0x228, 6, 2, .ro, fun _ => 0, fun _ => true⟩
/-- DPS_WM_CHK.SWAP [5:4], RO (R114): 0 not run; 1 PASS; 2 FAIL; 3 SKIPPED -/
def DPS_WM_CHK.SWAP : Fld := ⟨0x228, 4, 2, .ro, fun _ => 0, fun _ => true⟩
/-- DPS_WM_CHK.TIEH [3:2], RO (R114): 0 not run; 1 PASS; 2 FAIL -/
def DPS_WM_CHK.TIEH : Fld := ⟨0x228, 2, 2, .ro, fun _ => 0, fun _ => true⟩
/-- DPS_WM_CHK.TIEL [1:0], RO (R114): 0 not run; 1 PASS; 2 FAIL -/
def DPS_WM_CHK.TIEL : Fld := ⟨0x228, 0, 2, .ro, fun _ => 0, fun _ => true⟩
/-- The register DPS_WM_CHK (R114): one instance. -/
def DPS_WM_CHK.reg : RegDef := ⟨"DPS_WM_CHK", 0x228, [], [ DPS_WM_CHK.START, DPS_WM_CHK.INTV, DPS_WM_CHK.TICK, DPS_WM_CHK.RAW_SWAP, DPS_WM_CHK.RAW_TIEH, DPS_WM_CHK.RAW_TIEL, DPS_WM_CHK.SWAP, DPS_WM_CHK.TIEH, DPS_WM_CHK.TIEL]⟩

/-- DPS_ID.ROLE [23:20], RO (R292): as SLC_ID.ROLE -/
def DPS_ID.ROLE : Fld := ⟨0x0, 20, 4, .ro, fun a => if (inst 0x400000 0x1000 a) < 32 then 0 else 1, fun _ => true⟩
/-- DPS_ID.LAND [13:8], RO (R292): Land served; 0x3F none -/
def DPS_ID.LAND : Fld := ⟨0x0, 8, 6, .ro, fun a => if (inst 0x400000 0x1000 a) < 32 then inst 0x400000 0x1000 a else 0x3F, fun _ => true⟩
/-- DPS_ID.DIE [1:0], RO (R292): PE die -/
def DPS_ID.DIE : Fld := ⟨0x0, 0, 2, .ro, fun a => dpsDie (inst 0x400000 0x1000 a), fun _ => true⟩
/-- The register DPS_ID (R292): one instance. -/
def DPS_ID.reg : RegDef := ⟨"DPS_ID", 0x0, [], [ DPS_ID.ROLE, DPS_ID.LAND, DPS_ID.DIE]⟩

/-- DPS_CTRL.CLAMP_IRQ [7:7], RWS (R292): R282 -/
def DPS_CTRL.CLAMP_IRQ : Fld := ⟨0x8, 7, 1, .rws, fun _ => 0, fun _ => true⟩
/-- DPS_CTRL.GUARD [6:6], RWS (R292): R288 -/
def DPS_CTRL.GUARD : Fld := ⟨0x8, 6, 1, .rws, fun _ => 0, fun _ => true⟩
/-- DPS_CTRL.IRANGE [5:4], RWS (R292): R279 -/
def DPS_CTRL.IRANGE : Fld := ⟨0x8, 4, 2, .rws, fun _ => 0, fun _ => true⟩
/-- DPS_CTRL.BOOST [3:3], RWS (R292): R283 -/
def DPS_CTRL.BOOST : Fld := ⟨0x8, 3, 1, .rws, fun _ => 0, fun _ => true⟩
/-- DPS_CTRL.LSENSE [2:2], RWS (R292): Local sense (R281) -/
def DPS_CTRL.LSENSE : Fld := ⟨0x8, 2, 1, .rws, fun _ => 0, fun _ => true⟩
/-- DPS_CTRL.DISCH [1:1], RWS (R292): Discharge (R286) -/
def DPS_CTRL.DISCH : Fld := ⟨0x8, 1, 1, .rws, fun _ => 1, fun _ => true⟩
/-- DPS_CTRL.EN [0:0], RWS (R292): R286 -/
def DPS_CTRL.EN : Fld := ⟨0x8, 0, 1, .rws, fun _ => 0, fun _ => true⟩
/-- The register DPS_CTRL (R292): one instance. -/
def DPS_CTRL.reg : RegDef := ⟨"DPS_CTRL", 0x8, [], [ DPS_CTRL.CLAMP_IRQ, DPS_CTRL.GUARD, DPS_CTRL.IRANGE, DPS_CTRL.BOOST, DPS_CTRL.LSENSE, DPS_CTRL.DISCH, DPS_CTRL.EN]⟩

/-- DPS_V.CODE [15:0], RWS (R292): Target (R278) -/
def DPS_V.CODE : Fld := ⟨0x10, 0, 16, .rws, fun _ => 0, fun _ => true⟩
/-- The register DPS_V (R292): one instance. -/
def DPS_V.reg : RegDef := ⟨"DPS_V", 0x10, [], [ DPS_V.CODE]⟩

/-- DPS_ICL.CODE [11:0], RWS (R292): Clamp (R279); 0 reserved -/
def DPS_ICL.CODE : Fld := ⟨0x18, 0, 12, .rws, fun _ => 0xfff, fun v => v != 0⟩
/-- The register DPS_ICL (R292): one instance. -/
def DPS_ICL.reg : RegDef := ⟨"DPS_ICL", 0x18, [], [ DPS_ICL.CODE]⟩

/-- DPS_SLEW.INTV [41:32], RWS (R292): Sub-ticks; 0 reserved -/
def DPS_SLEW.INTV : Fld := ⟨0x20, 32, 10, .rws, fun _ => 1, fun v => v != 0⟩
/-- DPS_SLEW.STEP [15:0], RWS (R292): Codes per step -/
def DPS_SLEW.STEP : Fld := ⟨0x20, 0, 16, .rws, fun _ => 0x40, fun _ => true⟩
/-- The register DPS_SLEW (R292): one instance. -/
def DPS_SLEW.reg : RegDef := ⟨"DPS_SLEW", 0x20, [], [ DPS_SLEW.INTV, DPS_SLEW.STEP]⟩

/-- DPS_TIME.UP_DLY [47:32], RWS (R292): Ticks (R286) -/
def DPS_TIME.UP_DLY : Fld := ⟨0x28, 32, 16, .rws, fun _ => 0, fun _ => true⟩
/-- DPS_TIME.OFS [31:16], RWS (R292): Sampling offset (R287) -/
def DPS_TIME.OFS : Fld := ⟨0x28, 16, 16, .rws, fun _ => 0x1f4, fun _ => true⟩
/-- DPS_TIME.DN_ORD [2:0], RWS (R292): R289 -/
def DPS_TIME.DN_ORD : Fld := ⟨0x28, 0, 3, .rws, fun _ => 0, fun _ => true⟩
/-- The register DPS_TIME (R292): one instance. -/
def DPS_TIME.reg : RegDef := ⟨"DPS_TIME", 0x28, [], [ DPS_TIME.UP_DLY, DPS_TIME.OFS, DPS_TIME.DN_ORD]⟩

/-- DPS_LIM.NCODE [63:48], RW (R292): Complement -/
def DPS_LIM.NCODE : Fld := ⟨0x30, 48, 16, .rw, fun _ => 0x3333, fun _ => true⟩
/-- DPS_LIM.CODE [15:0], RW (R292): VMAX; clear code -/
def DPS_LIM.CODE : Fld := ⟨0x30, 0, 16, .rw, fun _ => 0xCCCC, fun _ => true⟩
/-- The register DPS_LIM (R292): one instance. -/
def DPS_LIM.reg : RegDef := ⟨"DPS_LIM", 0x30, [], [ DPS_LIM.NCODE, DPS_LIM.CODE]⟩

/-- DPS_CLR.NCODE [63:48], RW (R292): Complement -/
def DPS_CLR.NCODE : Fld := ⟨0x38, 48, 16, .rw, fun _ => 0xFFFF, fun _ => true⟩
/-- DPS_CLR.CODE [15:0], RW (R292): VMAX; clear code -/
def DPS_CLR.CODE : Fld := ⟨0x38, 0, 16, .rw, fun _ => 0, fun _ => true⟩
/-- The register DPS_CLR (R292): one instance. -/
def DPS_CLR.reg : RegDef := ⟨"DPS_CLR", 0x38, [], [ DPS_CLR.NCODE, DPS_CLR.CODE]⟩

/-- DPS_BOOST.RSH [15:0], RW (R292): Shunt in µΩ, 10,000 to 65,535; below 10,000 reserved (R284) -/
def DPS_BOOST.RSH : Fld := ⟨0x40, 0, 16, .rw, fun _ => 0xc350, fun v => decide (10000 ≤ v)⟩
/-- The register DPS_BOOST (R292): one instance. -/
def DPS_BOOST.reg : RegDef := ⟨"DPS_BOOST", 0x40, [], [ DPS_BOOST.RSH]⟩

/-- DPS_STAT.BOLTED [20:20], RO (R292): no further words -/
def DPS_STAT.BOLTED : Fld := ⟨0x48, 20, 1, .ro, fun _ => 0, fun _ => true⟩
/-- DPS_STAT.OUT_SW [19:19], RO (R292): Output switch closed -/
def DPS_STAT.OUT_SW : Fld := ⟨0x48, 19, 1, .ro, fun _ => 0, fun _ => true⟩
/-- DPS_STAT.DISCH_ACT [18:18], RO (R292): no further words -/
def DPS_STAT.DISCH_ACT : Fld := ⟨0x48, 18, 1, .ro, fun _ => 1, fun _ => true⟩
/-- DPS_STAT.SENSE_OPEN [17:17], RO (R292): R281 -/
def DPS_STAT.SENSE_OPEN : Fld := ⟨0x48, 17, 1, .ro, fun _ => 0, fun _ => true⟩
/-- DPS_STAT.EN_ACT [16:16], RO (R292): no further words -/
def DPS_STAT.EN_ACT : Fld := ⟨0x48, 16, 1, .ro, fun _ => 0, fun _ => true⟩
/-- DPS_STAT.IRANGE_ACT [15:14], RO (R292): no further words -/
def DPS_STAT.IRANGE_ACT : Fld := ⟨0x48, 14, 2, .ro, fun _ => 0, fun _ => true⟩
/-- DPS_STAT.BOOST_ACT [13:13], RO (R292): no further words -/
def DPS_STAT.BOOST_ACT : Fld := ⟨0x48, 13, 1, .ro, fun _ => 0, fun _ => true⟩
/-- DPS_STAT.LOCAL [12:12], RO (R292): Local sense in use -/
def DPS_STAT.LOCAL : Fld := ⟨0x48, 12, 1, .ro, fun _ => 0, fun _ => true⟩
/-- DPS_STAT.GATE_LIM [5:5], RO (R292): R283 -/
def DPS_STAT.GATE_LIM : Fld := ⟨0x48, 5, 1, .ro, fun _ => 0, fun _ => true⟩
/-- DPS_STAT.CLAMP [4:4], RO (R292): R282 -/
def DPS_STAT.CLAMP : Fld := ⟨0x48, 4, 1, .ro, fun _ => 0, fun _ => true⟩
/-- DPS_STAT.RAMP [3:3], RO (R292): Ramp in progress -/
def DPS_STAT.RAMP : Fld := ⟨0x48, 3, 1, .ro, fun _ => 0, fun _ => true⟩
/-- DPS_STAT.WAIT [2:2], RO (R292): R286 -/
def DPS_STAT.WAIT : Fld := ⟨0x48, 2, 1, .ro, fun _ => 0, fun _ => true⟩
/-- The register DPS_STAT (R292): one instance. -/
def DPS_STAT.reg : RegDef := ⟨"DPS_STAT", 0x48, [], [ DPS_STAT.BOLTED, DPS_STAT.OUT_SW, DPS_STAT.DISCH_ACT, DPS_STAT.SENSE_OPEN, DPS_STAT.EN_ACT, DPS_STAT.IRANGE_ACT, DPS_STAT.BOOST_ACT, DPS_STAT.LOCAL, DPS_STAT.GATE_LIM, DPS_STAT.CLAMP, DPS_STAT.RAMP, DPS_STAT.WAIT]⟩

/-- DPS_MEAS.TICK [63:48], RO (R292): TICKNO[15:0] -/
def DPS_MEAS.TICK : Fld := ⟨0x50, 48, 16, .ro, fun _ => 0, fun _ => true⟩
/-- DPS_MEAS.VALID [47:47], RO (R292): no further words -/
def DPS_MEAS.VALID : Fld := ⟨0x50, 47, 1, .ro, fun _ => 0, fun _ => true⟩
/-- DPS_MEAS.CLAMP [46:46], RO (R292): no further words -/
def DPS_MEAS.CLAMP : Fld := ⟨0x50, 46, 1, .ro, fun _ => 0, fun _ => true⟩
/-- DPS_MEAS.RAMP [45:45], RO (R292): R287 -/
def DPS_MEAS.RAMP : Fld := ⟨0x50, 45, 1, .ro, fun _ => 0, fun _ => true⟩
/-- DPS_MEAS.OVR [44:44], RO (R292): Either code at its limit -/
def DPS_MEAS.OVR : Fld := ⟨0x50, 44, 1, .ro, fun _ => 0, fun _ => true⟩
/-- DPS_MEAS.IRANGE [43:42], RO (R292): no further words -/
def DPS_MEAS.IRANGE : Fld := ⟨0x50, 42, 2, .ro, fun _ => 0, fun _ => true⟩
/-- DPS_MEAS.VCODE [35:18], RO (R292): Voltage -/
def DPS_MEAS.VCODE : Fld := ⟨0x50, 18, 18, .ro, fun _ => 0, fun _ => true⟩
/-- DPS_MEAS.ICODE [17:0], RO (R292): Current, signed -/
def DPS_MEAS.ICODE : Fld := ⟨0x50, 0, 18, .ro, fun _ => 0, fun _ => true⟩
/-- The register DPS_MEAS (R292): one instance. -/
def DPS_MEAS.reg : RegDef := ⟨"DPS_MEAS", 0x50, [], [ DPS_MEAS.TICK, DPS_MEAS.VALID, DPS_MEAS.CLAMP, DPS_MEAS.RAMP, DPS_MEAS.OVR, DPS_MEAS.IRANGE, DPS_MEAS.VCODE, DPS_MEAS.ICODE]⟩

/-- DPS_EVCNT.CLAMP [47:32], RC (R292): Saturates at 0xFFFF -/
def DPS_EVCNT.CLAMP : Fld := ⟨0x58, 32, 16, .rc, fun _ => 0, fun _ => true⟩
/-- DPS_EVCNT.SENSE_OPEN [31:16], RC (R292): Saturates at 0xFFFF -/
def DPS_EVCNT.SENSE_OPEN : Fld := ⟨0x58, 16, 16, .rc, fun _ => 0, fun _ => true⟩
/-- DPS_EVCNT.GUARD [15:0], RC (R292): Saturates at 0xFFFF -/
def DPS_EVCNT.GUARD : Fld := ⟨0x58, 0, 16, .rc, fun _ => 0, fun _ => true⟩
/-- The register DPS_EVCNT (R292): one instance. -/
def DPS_EVCNT.reg : RegDef := ⟨"DPS_EVCNT", 0x58, [], [ DPS_EVCNT.CLAMP, DPS_EVCNT.SENSE_OPEN, DPS_EVCNT.GUARD]⟩

/-- Every register of the block. -/
def dpsRegs : List RegDef :=
  [ DPS_GEN_CTRL.reg, DPS_GEN_CFG.reg, DPS_GEN_SEED.reg, DPS_GEN_STAT.reg, DPS_WM_CTRL.reg, DPS_WM_TH.reg, DPS_WM_STAT.reg, DPS_WM_CLR_TH.reg] ++
  [ DPS_WM_EVCNT.reg, DPS_WM_CHK.reg, DPS_ID.reg, DPS_CTRL.reg, DPS_V.reg, DPS_ICL.reg, DPS_SLEW.reg, DPS_TIME.reg] ++
  [ DPS_LIM.reg, DPS_CLR.reg, DPS_BOOST.reg, DPS_STAT.reg, DPS_MEAS.reg, DPS_EVCNT.reg]

end Sys2Proof.Machine
end

