-- ==== Sys2Proof/Machine/RegField.lean ====
section
/-!
DEFINITION. The register map of the spec, field by field: the registers of a field block (R50, R115, R137, R160, R226, R246, R263, R277). Every field carries its place, its
access code (R5), its reset value (R6) and the encodings its description does not mark as reserved (R8).
-/
namespace Sys2Proof.Machine

/-- LA_STAT.SLACK_MIN [39:16], RO (R50): Least number of core cycles between a frame's completion and the boundary of its own tick, since the last re-arm; 0 after an underrun -/
def LA_STAT.SLACK_MIN : Fld := ⟨0x400, 16, 24, .ro, fun _ => 0xffffff, fun _ => true⟩
/-- LA_STAT.REARM [8:8], WO (R50): Writing 1 sets SLACK_MIN to 0xFF_FFFF and LA_MIN to 2 -/
def LA_STAT.REARM : Fld := ⟨0x400, 8, 1, .wo, fun _ => 0, fun _ => true⟩
/-- LA_STAT.LA_MIN [5:4], RO (R50): Least lookahead since the last re-arm -/
def LA_STAT.LA_MIN : Fld := ⟨0x400, 4, 2, .ro, fun _ => 2, fun _ => true⟩
/-- LA_STAT.LA_NOW [1:0], RO (R50): Present lookahead -/
def LA_STAT.LA_NOW : Fld := ⟨0x400, 0, 2, .ro, fun _ => 2, fun _ => true⟩
/-- The register LA_STAT (R50): one instance. -/
def LA_STAT.reg : RegDef := ⟨"LA_STAT", 0x400, [], [ LA_STAT.SLACK_MIN, LA_STAT.REARM, LA_STAT.LA_MIN, LA_STAT.LA_NOW]⟩

/-- SEQ_CATCHUP.COUNT [31:0], RC (R50): Shortened frames (R45); saturates at 0xFFFF_FFFF -/
def SEQ_CATCHUP.COUNT : Fld := ⟨0x408, 0, 32, .rc, fun _ => 0, fun _ => true⟩
/-- The register SEQ_CATCHUP (R50): one instance. -/
def SEQ_CATCHUP.reg : RegDef := ⟨"SEQ_CATCHUP", 0x408, [], [ SEQ_CATCHUP.COUNT]⟩

/-- SEQ_UNDERRUN.COUNT [31:0], RC (R50): Headland ticks played because of underrun (R46); saturates at 0xFFFF_FFFF -/
def SEQ_UNDERRUN.COUNT : Fld := ⟨0x410, 0, 32, .rc, fun _ => 0, fun _ => true⟩
/-- The register SEQ_UNDERRUN (R50): one instance. -/
def SEQ_UNDERRUN.reg : RegDef := ⟨"SEQ_UNDERRUN", 0x410, [], [ SEQ_UNDERRUN.COUNT]⟩

/-- RB_CTRL.MAXAGE [47:16], RW (R115): Ticks before the read-back-overdue source is raised (R100) -/
def RB_CTRL.MAXAGE : Fld := ⟨0x600, 16, 32, .rw, fun _ => 0x2710, fun _ => true⟩
/-- RB_CTRL.EN [0:0], RW (R115): Supervision running -/
def RB_CTRL.EN : Fld := ⟨0x600, 0, 1, .rw, fun _ => 1, fun _ => true⟩
/-- The register RB_CTRL (R115): one instance. -/
def RB_CTRL.reg : RegDef := ⟨"RB_CTRL", 0x600, [], [ RB_CTRL.MAXAGE, RB_CTRL.EN]⟩

/-- RB_TOL.DPS [63:48], RW (R115): DPS DACs, 10.0 mV -/
def RB_TOL.DPS : Fld := ⟨0x608, 48, 16, .rw, fun _ => 0x64, fun _ => true⟩
/-- RB_TOL.THR [47:32], RW (R115): Threshold DACs, 15.0 mV -/
def RB_TOL.THR : Fld := ⟨0x608, 32, 16, .rw, fun _ => 0x96, fun _ => true⟩
/-- RB_TOL.FORCE [31:16], RW (R115): PMU force DACs, 8.0 mV -/
def RB_TOL.FORCE : Fld := ⟨0x608, 16, 16, .rw, fun _ => 0x50, fun _ => true⟩
/-- RB_TOL.LVL [15:0], RW (R115): Level DACs, 8.0 mV -/
def RB_TOL.LVL : Fld := ⟨0x608, 0, 16, .rw, fun _ => 0x50, fun _ => true⟩
/-- The register RB_TOL (R115): one instance. -/
def RB_TOL.reg : RegDef := ⟨"RB_TOL", 0x608, [], [ RB_TOL.DPS, RB_TOL.THR, RB_TOL.FORCE, RB_TOL.LVL]⟩

/-- RB_STAT.AGE [63:40], RO (R115): R100; saturates at 0xFF_FFFF -/
def RB_STAT.AGE : Fld := ⟨0x610, 40, 24, .ro, fun _ => 0, fun _ => true⟩
/-- RB_STAT.CYCLES [31:16], RC (R115): Completed list cycles; saturates at 0xFFFF -/
def RB_STAT.CYCLES : Fld := ⟨0x610, 16, 16, .rc, fun _ => 0, fun _ => true⟩
/-- RB_STAT.STATE [1:0], RO (R115): 0b00 disabled; 0b01 running; 0b10 PAUSED; 0b11 not used -/
def RB_STAT.STATE : Fld := ⟨0x610, 0, 2, .ro, fun _ => 1, fun _ => true⟩
/-- The register RB_STAT (R115): one instance. -/
def RB_STAT.reg : RegDef := ⟨"RB_STAT", 0x610, [], [ RB_STAT.AGE, RB_STAT.CYCLES, RB_STAT.STATE]⟩

/-- RB_MISS.UNIT [56:48], RO (R115): Slice number for indices 0 to 9; regulator number for 16 to 18 -/
def RB_MISS.UNIT : Fld := ⟨0x618, 48, 9, .ro, fun _ => 0, fun _ => true⟩
/-- RB_MISS.DAC [45:40], RO (R115): Index (R97) -/
def RB_MISS.DAC : Fld := ⟨0x618, 40, 6, .ro, fun _ => 0, fun _ => true⟩
/-- RB_MISS.COUNT [31:0], RC (R115): Mismatches in the field; saturates at 0xFFFF_FFFF -/
def RB_MISS.COUNT : Fld := ⟨0x618, 0, 32, .rc, fun _ => 0, fun _ => true⟩
/-- The register RB_MISS (R115): one instance. -/
def RB_MISS.reg : RegDef := ⟨"RB_MISS", 0x618, [], [ RB_MISS.UNIT, RB_MISS.DAC, RB_MISS.COUNT]⟩

/-- TS_CTRL.VIEW [8:8], RW (R137): 0: RWS timing registers read shadow; 1: read in force -/
def TS_CTRL.VIEW : Fld := ⟨0x800, 8, 1, .rw, fun _ => 0, fun _ => true⟩
/-- TS_CTRL.HEAD_SET [5:0], RWS (R137): Timing set of the headland vector (R119) -/
def TS_CTRL.HEAD_SET : Fld := ⟨0x800, 0, 6, .rws, fun _ => 0, fun _ => true⟩
/-- The register TS_CTRL (R137): one instance. -/
def TS_CTRL.reg : RegDef := ⟨"TS_CTRL", 0x800, [], [ TS_CTRL.VIEW, TS_CTRL.HEAD_SET]⟩

/-- TS_CHK.RUN [63:63], WO (R137): Writing 1 checks the shadow table (R131) -/
def TS_CHK.RUN : Fld := ⟨0x808, 63, 1, .wo, fun _ => 0, fun _ => true⟩
/-- TS_CHK.STATE [49:48], RO (R137): 0 not run; 1 pass; 2 fail; 3 running -/
def TS_CHK.STATE : Fld := ⟨0x808, 48, 2, .ro, fun _ => 0, fun _ => true⟩
/-- TS_CHK.SET [45:40], RO (R137): First offending set; 0 after a passing check -/
def TS_CHK.SET : Fld := ⟨0x808, 40, 6, .ro, fun _ => 0, fun _ => true⟩
/-- TS_CHK.CHAN [35:32], RO (R137): First offending channel k; 0 after a passing check -/
def TS_CHK.CHAN : Fld := ⟨0x808, 32, 4, .ro, fun _ => 0, fun _ => true⟩
/-- TS_CHK.RULE [27:24], RO (R137): Lowest-numbered rule of R126 broken by that channel (R130): 0 none; 1 to 5 as numbered; 6 to 15 not used -/
def TS_CHK.RULE : Fld := ⟨0x808, 24, 4, .ro, fun _ => 0, fun _ => true⟩
/-- TS_CHK.GEN [15:0], RO (R137): Generation number [15:0] checked: G of the pending commit at L − 1 (R130); MODE_GEN + 1 at the write of RUN (R131) -/
def TS_CHK.GEN : Fld := ⟨0x808, 0, 16, .ro, fun _ => 0, fun _ => true⟩
/-- The register TS_CHK (R137): one instance. -/
def TS_CHK.reg : RegDef := ⟨"TS_CHK", 0x808, [], [ TS_CHK.RUN, TS_CHK.STATE, TS_CHK.SET, TS_CHK.CHAN, TS_CHK.RULE, TS_CHK.GEN]⟩

/-- TS_STAT.CLASH_DRV [63:48], RC (R137): Moved drive edges (R128); saturates at 0xFFFF -/
def TS_STAT.CLASH_DRV : Fld := ⟨0x810, 48, 16, .rc, fun _ => 0, fun _ => true⟩
/-- TS_STAT.CLASH_STB [47:32], RC (R137): Moved strobes (R128); saturates at 0xFFFF -/
def TS_STAT.CLASH_STB : Fld := ⟨0x810, 32, 16, .rc, fun _ => 0, fun _ => true⟩
/-- TS_STAT.LAST_K [19:16], RO (R137): Channel of the last moved edge -/
def TS_STAT.LAST_K : Fld := ⟨0x810, 16, 4, .ro, fun _ => 0, fun _ => true⟩
/-- TS_STAT.CAL_OVERDUE [1:1], RO (R137): R136 -/
def TS_STAT.CAL_OVERDUE : Fld := ⟨0x810, 1, 1, .ro, fun _ => 0, fun _ => true⟩
/-- The register TS_STAT (R137): one instance. -/
def TS_STAT.reg : RegDef := ⟨"TS_STAT", 0x810, [], [ TS_STAT.CLASH_DRV, TS_STAT.CLASH_STB, TS_STAT.LAST_K, TS_STAT.CAL_OVERDUE]⟩

/-- TS_PER.PERIOD [31:0], RWS (R137): Vector period in units of 0.5 ps; 1,000 to 2,000,000,000 (R118); reset 10.000 ns -/
def TS_PER.PERIOD : Fld := ⟨0x1000, 0, 32, .rws, fun _ => 0x4e20, fun v => decide (1000 ≤ v ∧ v ≤ 2000000000)⟩
/-- The register TS_PER (R137): 64 at stride 0x8. -/
def TS_PER.reg : RegDef := ⟨"TS_PER", 0x1000, [(0x8, 64)], [ TS_PER.PERIOD]⟩

/-- TS_DRV0.D_ON [63:32], RWS (R137): Drive-on time, 0.5 ps units -/
def TS_DRV0.D_ON : Fld := ⟨0x8000, 32, 32, .rws, fun _ => 0, fun _ => true⟩
/-- TS_DRV0.D_DATA [31:0], RWS (R137): Drive-data time -/
def TS_DRV0.D_DATA : Fld := ⟨0x8000, 0, 32, .rws, fun _ => 0, fun _ => true⟩
/-- The register TS_DRV0 (R137): 64 at stride 0x200 by 16 at stride 0x20. -/
def TS_DRV0.reg : RegDef := ⟨"TS_DRV0", 0x8000, [(0x200, 64), (0x20, 16)], [ TS_DRV0.D_ON, TS_DRV0.D_DATA]⟩

/-- TS_DRV1.D_RET [63:32], RWS (R137): Drive-return time; reset 5.000 ns -/
def TS_DRV1.D_RET : Fld := ⟨0x8008, 32, 32, .rws, fun _ => 0x2710, fun _ => true⟩
/-- TS_DRV1.D_OFF [31:0], RWS (R137): Drive-off time -/
def TS_DRV1.D_OFF : Fld := ⟨0x8008, 0, 32, .rws, fun _ => 0, fun _ => true⟩
/-- The register TS_DRV1 (R137): 64 at stride 0x200 by 16 at stride 0x20. -/
def TS_DRV1.reg : RegDef := ⟨"TS_DRV1", 0x8008, [(0x200, 64), (0x20, 16)], [ TS_DRV1.D_RET, TS_DRV1.D_OFF]⟩

/-- TS_STB.S_CLOSE [63:32], RWS (R137): Strobe-close time; reset 7.500 ns -/
def TS_STB.S_CLOSE : Fld := ⟨0x8010, 32, 32, .rws, fun _ => 0x3a98, fun _ => true⟩
/-- TS_STB.S_OPEN [31:0], RWS (R137): Strobe-open time; reset 5.000 ns -/
def TS_STB.S_OPEN : Fld := ⟨0x8010, 0, 32, .rws, fun _ => 0x2710, fun _ => true⟩
/-- The register TS_STB (R137): 64 at stride 0x200 by 16 at stride 0x20. -/
def TS_STB.reg : RegDef := ⟨"TS_STB", 0x8010, [(0x200, 64), (0x20, 16)], [ TS_STB.S_CLOSE, TS_STB.S_OPEN]⟩

/-- TS_FMT.DFMT [10:8], RWS (R137): Drive format (R121) -/
def TS_FMT.DFMT : Fld := ⟨0x8018, 8, 3, .rws, fun _ => 0, fun v => decide (v ≤ 4)⟩
/-- TS_FMT.CMODE [4:4], RWS (R137): 0 edge strobe; 1 window strobe (R125) -/
def TS_FMT.CMODE : Fld := ⟨0x8018, 4, 1, .rws, fun _ => 0, fun _ => true⟩
/-- TS_FMT.STB_OFF [0:0], RWS (R137): 1: compares of this channel masked in this set (R125) -/
def TS_FMT.STB_OFF : Fld := ⟨0x8018, 0, 1, .rws, fun _ => 0, fun _ => true⟩
/-- The register TS_FMT (R137): 64 at stride 0x200 by 16 at stride 0x20. -/
def TS_FMT.reg : RegDef := ⟨"TS_FMT", 0x8018, [(0x200, 64), (0x20, 16)], [ TS_FMT.DFMT, TS_FMT.CMODE, TS_FMT.STB_OFF]⟩

/-- SEQ_ENTRY.ENTRY [14:0], RW (R160): First instruction of a step (R156) -/
def SEQ_ENTRY.ENTRY : Fld := ⟨0x0, 0, 15, .rw, fun _ => 0, fun _ => true⟩
/-- The register SEQ_ENTRY (R160): one instance. -/
def SEQ_ENTRY.reg : RegDef := ⟨"SEQ_ENTRY", 0x0, [], [ SEQ_ENTRY.ENTRY]⟩

/-- SEQ_EVBASE.BASE [14:0], RW (R160): Address of the entry for line 0; values above 0x7FC0 are reserved (R8) -/
def SEQ_EVBASE.BASE : Fld := ⟨0x8, 0, 15, .rw, fun _ => 0x7fc0, fun v => decide (v ≤ 0x7FC0)⟩
/-- The register SEQ_EVBASE (R160): one instance. -/
def SEQ_EVBASE.reg : RegDef := ⟨"SEQ_EVBASE", 0x8, [], [ SEQ_EVBASE.BASE]⟩

/-- SEQ_STAT.PHYS [20:16], RO (R160): Physical sequencer serving the field -/
def SEQ_STAT.PHYS : Fld := ⟨0x10, 16, 5, .ro, fun a => inst 0x100000 0x10000 a, fun _ => true⟩
/-- SEQ_STAT.DEPTH [11:8], RO (R160): Return-stack entries in use -/
def SEQ_STAT.DEPTH : Fld := ⟨0x10, 8, 4, .ro, fun _ => 0, fun _ => true⟩
/-- SEQ_STAT.INSVC [7:7], RO (R160): In event service -/
def SEQ_STAT.INSVC : Fld := ⟨0x10, 7, 1, .ro, fun _ => 0, fun _ => true⟩
/-- SEQ_STAT.STATE [3:0], RO (R160): 0 IDLE; 1 RUN; 2 AHEAD (R145); 3 WAITEV; 4 TICKWAIT (R146); 5 FAULT; 6 DONE (R157); 7 DATAWAIT; 8 to 15 not used -/
def SEQ_STAT.STATE : Fld := ⟨0x10, 0, 4, .ro, fun _ => 0, fun _ => true⟩
/-- The register SEQ_STAT (R160): one instance. -/
def SEQ_STAT.reg : RegDef := ⟨"SEQ_STAT", 0x10, [], [ SEQ_STAT.PHYS, SEQ_STAT.DEPTH, SEQ_STAT.INSVC, SEQ_STAT.STATE]⟩

/-- SEQ_PC.PC [14:0], RO (R160): Next instruction -/
def SEQ_PC.PC : Fld := ⟨0x18, 0, 15, .ro, fun _ => 0, fun _ => true⟩
/-- The register SEQ_PC (R160): one instance. -/
def SEQ_PC.reg : RegDef := ⟨"SEQ_PC", 0x18, [], [ SEQ_PC.PC]⟩

/-- SEQ_FLAGS.FLAGS [6:0], RO (R160): S, O, P, F, C, N, Z from bit 6 to bit 0 (R139) -/
def SEQ_FLAGS.FLAGS : Fld := ⟨0x20, 0, 7, .ro, fun _ => 0, fun _ => true⟩
/-- The register SEQ_FLAGS (R160): one instance. -/
def SEQ_FLAGS.reg : RegDef := ⟨"SEQ_FLAGS", 0x20, [], [ SEQ_FLAGS.FLAGS]⟩

/-- SEQ_EVM.EVM [63:0], RW (R160): Bit i enables service of line i (R152) -/
def SEQ_EVM.EVM : Fld := ⟨0x28, 0, 64, .rw, fun _ => 0, fun _ => true⟩
/-- The register SEQ_EVM (R160): one instance. -/
def SEQ_EVM.reg : RegDef := ⟨"SEQ_EVM", 0x28, [], [ SEQ_EVM.EVM]⟩

/-- SEQ_TSEL.SET [5:0], RW (R160): TSEL -/
def SEQ_TSEL.SET : Fld := ⟨0x30, 0, 6, .rw, fun _ => 0, fun _ => true⟩
/-- The register SEQ_TSEL (R160): one instance. -/
def SEQ_TSEL.reg : RegDef := ⟨"SEQ_TSEL", 0x30, [], [ SEQ_TSEL.SET]⟩

/-- SEQ_PROG.OPCODE [63:56], RO (R160): Long instruction last started -/
def SEQ_PROG.OPCODE : Fld := ⟨0x38, 56, 8, .ro, fun _ => 0, fun _ => true⟩
/-- SEQ_PROG.SUSP [55:55], RO (R160): Suspended at a restart point, awaiting RETE -/
def SEQ_PROG.SUSP : Fld := ⟨0x38, 55, 1, .ro, fun _ => 0, fun _ => true⟩
/-- SEQ_PROG.ABAND [54:54], RO (R160): Last one abandoned (R153); cleared when a long instruction starts -/
def SEQ_PROG.ABAND : Fld := ⟨0x38, 54, 1, .ro, fun _ => 0, fun _ => true⟩
/-- SEQ_PROG.PC [46:32], RO (R160): Its address -/
def SEQ_PROG.PC : Fld := ⟨0x38, 32, 15, .ro, fun _ => 0, fun _ => true⟩
/-- SEQ_PROG.PROGRESS [31:0], RO (R160): Progress (R154) -/
def SEQ_PROG.PROGRESS : Fld := ⟨0x38, 0, 32, .ro, fun _ => 0, fun _ => true⟩
/-- The register SEQ_PROG (R160): one instance. -/
def SEQ_PROG.reg : RegDef := ⟨"SEQ_PROG", 0x38, [], [ SEQ_PROG.OPCODE, SEQ_PROG.SUSP, SEQ_PROG.ABAND, SEQ_PROG.PC, SEQ_PROG.PROGRESS]⟩

/-- SEQ_PMA.ADDR [14:0], RW (R160): Word address; in SEQ_DSA, bits [14:10] are RSV -/
def SEQ_PMA.ADDR : Fld := ⟨0x40, 0, 15, .rw, fun _ => 0, fun _ => true⟩
/-- The register SEQ_PMA (R160): one instance. -/
def SEQ_PMA.reg : RegDef := ⟨"SEQ_PMA", 0x40, [], [ SEQ_PMA.ADDR]⟩

/-- SEQ_DSA.ADDR [9:0], RW (R160): Word address; in SEQ_DSA, bits [14:10] are RSV -/
def SEQ_DSA.ADDR : Fld := ⟨0x50, 0, 10, .rw, fun _ => 0, fun _ => true⟩
/-- The register SEQ_DSA (R160): one instance. -/
def SEQ_DSA.reg : RegDef := ⟨"SEQ_DSA", 0x50, [], [ SEQ_DSA.ADDR]⟩

/-- SEQ_PMD.DATA [63:0], RW (R160): Word at ADDR; every read or applied write increments ADDR, wrapping from 32,767 (SEQ_PMA) or 1,023 (SEQ_DSA) to 0 -/
def SEQ_PMD.DATA : Fld := ⟨0x48, 0, 64, .rw, fun _ => 0, fun _ => true⟩
/-- The register SEQ_PMD (R160): one instance. -/
def SEQ_PMD.reg : RegDef := ⟨"SEQ_PMD", 0x48, [], [ SEQ_PMD.DATA]⟩

/-- SEQ_DSD.DATA [63:0], RW (R160): Word at ADDR; every read or applied write increments ADDR, wrapping from 32,767 (SEQ_PMA) or 1,023 (SEQ_DSA) to 0 -/
def SEQ_DSD.DATA : Fld := ⟨0x58, 0, 64, .rw, fun _ => 0, fun _ => true⟩
/-- The register SEQ_DSD (R160): one instance. -/
def SEQ_DSD.reg : RegDef := ⟨"SEQ_DSD", 0x58, [], [ SEQ_DSD.DATA]⟩

/-- SEQ_FAULT.TICK [63:48], RO (R160): TICKNO[15:0] at the fault -/
def SEQ_FAULT.TICK : Fld := ⟨0x60, 48, 16, .ro, fun _ => 0, fun _ => true⟩
/-- SEQ_FAULT.PC [46:32], RO (R160): Offending instruction -/
def SEQ_FAULT.PC : Fld := ⟨0x60, 32, 15, .ro, fun _ => 0, fun _ => true⟩
/-- SEQ_FAULT.CAUSE [7:0], RO (R160): 0 none; 1 ILLEGAL; 2 OPERAND; 3 STACK_OVER; 4 STACK_UNDER; 5 DSTORE_ADDR; 6 PAGE; 7 SPECIAL_RO; 8 PMEM_PARITY; 9 DSTORE_PARITY; 10 HASP; 11 STACK_KIND (R149); others not used -/
def SEQ_FAULT.CAUSE : Fld := ⟨0x60, 0, 8, .ro, fun _ => 0, fun _ => true⟩
/-- The register SEQ_FAULT (R160): one instance. -/
def SEQ_FAULT.reg : RegDef := ⟨"SEQ_FAULT", 0x60, [], [ SEQ_FAULT.TICK, SEQ_FAULT.PC, SEQ_FAULT.CAUSE]⟩

/-- SEQ_CYC.MAX [55:32], RC (R160): Largest cycle count of one frame, including the 96-cycle frame cost, since last read; saturates at 0xFF_FFFF -/
def SEQ_CYC.MAX : Fld := ⟨0x68, 32, 24, .rc, fun _ => 0, fun _ => true⟩
/-- SEQ_CYC.LAST [23:0], RO (R160): Cycles of the last closed frame -/
def SEQ_CYC.LAST : Fld := ⟨0x68, 0, 24, .ro, fun _ => 0, fun _ => true⟩
/-- The register SEQ_CYC (R160): one instance. -/
def SEQ_CYC.reg : RegDef := ⟨"SEQ_CYC", 0x68, [], [ SEQ_CYC.MAX, SEQ_CYC.LAST]⟩

/-- SEQ_G.VALUE [63:0], RW (R160): Gi -/
def SEQ_G.VALUE : Fld := ⟨0x100, 0, 64, .rw, fun _ => 0, fun _ => true⟩
/-- The register SEQ_G (R160): 32 at stride 0x8. -/
def SEQ_G.reg : RegDef := ⟨"SEQ_G", 0x100, [(0x8, 32)], [ SEQ_G.VALUE]⟩

/-- SEQ_L.COUNT [31:0], RW (R160): Li -/
def SEQ_L.COUNT : Fld := ⟨0x200, 0, 32, .rw, fun _ => 0, fun _ => true⟩
/-- The register SEQ_L (R160): 8 at stride 0x8. -/
def SEQ_L.reg : RegDef := ⟨"SEQ_L", 0x200, [(0x8, 8)], [ SEQ_L.COUNT]⟩

/-- EV_SRC.VALID [15:15], RW (R160): Line i is in use (R151) -/
def EV_SRC.VALID : Fld := ⟨0xA00, 15, 1, .rw, fun _ => 0, fun _ => true⟩
/-- EV_SRC.SRC [9:0], RW (R160): Interrupt source feeding line i -/
def EV_SRC.SRC : Fld := ⟨0xA00, 0, 10, .rw, fun _ => 0, fun _ => true⟩
/-- The register EV_SRC (R160): 64 at stride 0x8. -/
def EV_SRC.reg : RegDef := ⟨"EV_SRC", 0xA00, [(0x8, 64)], [ EV_SRC.VALID, EV_SRC.SRC]⟩

/-- SOW_CTRL.MK_SIG [7:4], RW (R226): Markers that raise the signal source (R223) -/
def SOW_CTRL.MK_SIG : Fld := ⟨0xC00, 4, 4, .rw, fun _ => 0, fun _ => true⟩
/-- SOW_CTRL.POLICY [0:0], RW (R226): STALL_POLICY: 0 HOLD; 1 ABORT (R46) -/
def SOW_CTRL.POLICY : Fld := ⟨0xC00, 0, 1, .rw, fun _ => 0, fun _ => true⟩
/-- The register SOW_CTRL (R226): one instance. -/
def SOW_CTRL.reg : RegDef := ⟨"SOW_CTRL", 0xC00, [], [ SOW_CTRL.MK_SIG, SOW_CTRL.POLICY]⟩

/-- SOW_HEAD.SYM [63:0], RWS (R226): Headland symbols, channel k in [4k+3:4k]; reserved codes under R8 -/
def SOW_HEAD.SYM : Fld := ⟨0xC08, 0, 64, .rws, fun _ => 0x6666666666666666, fun v => symbolsOk v⟩
/-- The register SOW_HEAD (R226): one instance. -/
def SOW_HEAD.reg : RegDef := ⟨"SOW_HEAD", 0xC08, [], [ SOW_HEAD.SYM]⟩

/-- SOW_DTAG.TAG [31:0], RW (R226): Dictionary tag (R209) -/
def SOW_DTAG.TAG : Fld := ⟨0xC10, 0, 32, .rw, fun _ => 0, fun _ => true⟩
/-- The register SOW_DTAG (R226): one instance. -/
def SOW_DTAG.reg : RegDef := ⟨"SOW_DTAG", 0xC10, [], [ SOW_DTAG.TAG]⟩

/-- SOW_DCA.ADDR [11:0], RW (R226): SOW_DCA: entry index -/
def SOW_DCA.ADDR : Fld := ⟨0xC18, 0, 12, .rw, fun _ => 0, fun _ => true⟩
/-- The register SOW_DCA (R226): one instance. -/
def SOW_DCA.reg : RegDef := ⟨"SOW_DCA", 0xC18, [], [ SOW_DCA.ADDR]⟩

/-- SOW_DCD.DATA [63:0], RW (R226): SOW_DCD: entry at ADDR; each read or applied write increments ADDR, wrapping from 4,095 to 0 -/
def SOW_DCD.DATA : Fld := ⟨0xC20, 0, 64, .rw, fun _ => 0x6666666666666666, fun v => symbolsOk v⟩
/-- The register SOW_DCD (R226): one instance. -/
def SOW_DCD.reg : RegDef := ⟨"SOW_DCD", 0xC20, [], [ SOW_DCD.DATA]⟩

/-- SOW_STAT.PAGE [63:44], RO (R226): Page being expanded -/
def SOW_STAT.PAGE : Fld := ⟨0xC28, 44, 20, .ro, fun _ => 0, fun _ => true⟩
/-- SOW_STAT.RESIDENT [35:32], RO (R226): Resident pages, 0 to 8 -/
def SOW_STAT.RESIDENT : Fld := ⟨0xC28, 32, 4, .ro, fun _ => 0, fun _ => true⟩
/-- SOW_STAT.QUEUE [29:24], RO (R226): Unfinished plays of the field, 0 to 32; a PLAY issued with 32 waits as a data wait -/
def SOW_STAT.QUEUE : Fld := ⟨0xC28, 24, 6, .ro, fun _ => 0, fun _ => true⟩
/-- SOW_STAT.STATE [2:0], RO (R226): 0 IDLE; 1 EXPAND; 2 PAGEWAIT; 3 HEADLAND; 4 FALLOW; 5 to 7 not used -/
def SOW_STAT.STATE : Fld := ⟨0xC28, 0, 3, .ro, fun _ => 0, fun _ => true⟩
/-- The register SOW_STAT (R226): one instance. -/
def SOW_STAT.reg : RegDef := ⟨"SOW_STAT", 0xC28, [], [ SOW_STAT.PAGE, SOW_STAT.RESIDENT, SOW_STAT.QUEUE, SOW_STAT.STATE]⟩

/-- SOW_EVCNT.WAITS [63:48], RC (R226): Page waits (R220); saturates at 0xFFFF -/
def SOW_EVCNT.WAITS : Fld := ⟨0xC30, 48, 16, .rc, fun _ => 0, fun _ => true⟩
/-- SOW_EVCNT.JUMPS [47:32], RC (R226): Jumps at a boundary (R221); saturates at 0xFFFF -/
def SOW_EVCNT.JUMPS : Fld := ⟨0xC30, 32, 16, .rc, fun _ => 0, fun _ => true⟩
/-- SOW_EVCNT.QFULL [31:16], RC (R226): PLAYs that waited on QUEUE; saturates at 0xFFFF -/
def SOW_EVCNT.QFULL : Fld := ⟨0xC30, 16, 16, .rc, fun _ => 0, fun _ => true⟩
/-- SOW_EVCNT.FMT_ERR [15:0], RC (R226): Format errors (R206); saturates at 0xFFFF -/
def SOW_EVCNT.FMT_ERR : Fld := ⟨0xC30, 0, 16, .rc, fun _ => 0, fun _ => true⟩
/-- The register SOW_EVCNT (R226): one instance. -/
def SOW_EVCNT.reg : RegDef := ⟨"SOW_EVCNT", 0xC30, [], [ SOW_EVCNT.WAITS, SOW_EVCNT.JUMPS, SOW_EVCNT.QFULL, SOW_EVCNT.FMT_ERR]⟩

/-- SOW_ERR.PAGE [63:44], RO (R226): Page of the last format error -/
def SOW_ERR.PAGE : Fld := ⟨0xC38, 44, 20, .ro, fun _ => 0, fun _ => true⟩
/-- SOW_ERR.WORD [43:32], RO (R226): Word within the page -/
def SOW_ERR.WORD : Fld := ⟨0xC38, 32, 12, .ro, fun _ => 0, fun _ => true⟩
/-- SOW_ERR.TICK [31:16], RO (R226): TICKNO[15:0] -/
def SOW_ERR.TICK : Fld := ⟨0xC38, 16, 16, .ro, fun _ => 0, fun _ => true⟩
/-- SOW_ERR.CODE [3:0], RO (R226): 0 none; 1 type; 2 reserved bits; 3 count or length; 4 nesting or body; 5 symbol; 6 no END; 7 set count; 8 dictionary parity; 9 damaged protected page (R338); 10 to 15 not used -/
def SOW_ERR.CODE : Fld := ⟨0xC38, 0, 4, .ro, fun _ => 0, fun _ => true⟩
/-- The register SOW_ERR (R226): one instance. -/
def SOW_ERR.reg : RegDef := ⟨"SOW_ERR", 0xC38, [], [ SOW_ERR.PAGE, SOW_ERR.WORD, SOW_ERR.TICK, SOW_ERR.CODE]⟩

/-- SOW_MKCNT.MK3 [63:48], RC (R226): Marker 3 pulses; saturates at 0xFFFF -/
def SOW_MKCNT.MK3 : Fld := ⟨0xC40, 48, 16, .rc, fun _ => 0, fun _ => true⟩
/-- SOW_MKCNT.MK2 [47:32], RC (R226): Marker 2 pulses; saturates at 0xFFFF -/
def SOW_MKCNT.MK2 : Fld := ⟨0xC40, 32, 16, .rc, fun _ => 0, fun _ => true⟩
/-- SOW_MKCNT.MK1 [31:16], RC (R226): Marker 1 pulses; saturates at 0xFFFF -/
def SOW_MKCNT.MK1 : Fld := ⟨0xC40, 16, 16, .rc, fun _ => 0, fun _ => true⟩
/-- SOW_MKCNT.MK0 [15:0], RC (R226): Marker 0 pulses; saturates at 0xFFFF -/
def SOW_MKCNT.MK0 : Fld := ⟨0xC40, 0, 16, .rc, fun _ => 0, fun _ => true⟩
/-- The register SOW_MKCNT (R226): one instance. -/
def SOW_MKCNT.reg : RegDef := ⟨"SOW_MKCNT", 0xC40, [], [ SOW_MKCNT.MK3, SOW_MKCNT.MK2, SOW_MKCNT.MK1, SOW_MKCNT.MK0]⟩

/-- TIA_FCHAIN.FULL_SIG [21:21], RW (R246): R235 -/
def TIA_FCHAIN.FULL_SIG : Fld := ⟨0xD00, 21, 1, .rw, fun _ => 0, fun _ => true⟩
/-- TIA_FCHAIN.EN [20:20], RW (R246): Chain attached (R233) -/
def TIA_FCHAIN.EN : Fld := ⟨0xD00, 20, 1, .rw, fun _ => 0, fun _ => true⟩
/-- TIA_FCHAIN.HEAD [19:0], RW (R246): Head page of the stamp chain -/
def TIA_FCHAIN.HEAD : Fld := ⟨0xD00, 0, 20, .rw, fun _ => 0, fun _ => true⟩
/-- The register TIA_FCHAIN (R246): one instance. -/
def TIA_FCHAIN.reg : RegDef := ⟨"TIA_FCHAIN", 0xD00, [], [ TIA_FCHAIN.FULL_SIG, TIA_FCHAIN.EN, TIA_FCHAIN.HEAD]⟩

/-- TIA_FSTAT.PAGE [63:44], RO (R246): Page being written -/
def TIA_FSTAT.PAGE : Fld := ⟨0xD08, 44, 20, .ro, fun _ => 0, fun _ => true⟩
/-- TIA_FSTAT.TRUNC [43:43], RO (R246): Chain exhausted (R235) -/
def TIA_FSTAT.TRUNC : Fld := ⟨0xD08, 43, 1, .ro, fun _ => 0, fun _ => true⟩
/-- TIA_FSTAT.WORDS [39:0], RO (R246): Words written since the last attach, epoch and padding words included -/
def TIA_FSTAT.WORDS : Fld := ⟨0xD08, 0, 40, .ro, fun _ => 0, fun _ => true⟩
/-- The register TIA_FSTAT (R246): one instance. -/
def TIA_FSTAT.reg : RegDef := ⟨"TIA_FSTAT", 0xD08, [], [ TIA_FSTAT.PAGE, TIA_FSTAT.TRUNC, TIA_FSTAT.WORDS]⟩

/-- DDS_CTRL.NTICK [63:48], RW (R263): Tick-count interval; 0 reserved when STEP_SRC is 3 -/
def DDS_CTRL.NTICK : Fld := ⟨0xE00, 48, 16, .rw, fun _ => 1, fun _ => true⟩
/-- DDS_CTRL.EVSRC [41:32], RW (R263): Interrupt source for STEP_SRC 2 -/
def DDS_CTRL.EVSRC : Fld := ⟨0xE00, 32, 10, .rw, fun _ => 0, fun _ => true⟩
/-- DDS_CTRL.MKSEL [9:8], RW (R263): Sower marker bit for STEP_SRC 1 -/
def DDS_CTRL.MKSEL : Fld := ⟨0xE00, 8, 2, .rw, fun _ => 0, fun _ => true⟩
/-- DDS_CTRL.ENDM [4:4], RW (R263): 0 wrap to FIRST; 1 hold at LAST (R253) -/
def DDS_CTRL.ENDM : Fld := ⟨0xE00, 4, 1, .rw, fun _ => 0, fun _ => true⟩
/-- DDS_CTRL.STEP_SRC [2:0], RW (R263): 0 program and host only; 1 Sower marker; 2 event; 3 tick count; 4 to 7 reserved -/
def DDS_CTRL.STEP_SRC : Fld := ⟨0xE00, 0, 3, .rw, fun _ => 0, fun v => decide (v ≤ 3)⟩
/-- The register DDS_CTRL (R263): one instance. -/
def DDS_CTRL.reg : RegDef := ⟨"DDS_CTRL", 0xE00, [], [ DDS_CTRL.NTICK, DDS_CTRL.EVSRC, DDS_CTRL.MKSEL, DDS_CTRL.ENDM, DDS_CTRL.STEP_SRC]⟩

/-- DDS_LIST.LAST [43:32], RW (R263): Last entry; below FIRST reserved -/
def DDS_LIST.LAST : Fld := ⟨0xE08, 32, 12, .rw, fun _ => 0xfff, fun _ => true⟩
/-- DDS_LIST.FIRST [11:0], RW (R263): First entry -/
def DDS_LIST.FIRST : Fld := ⟨0xE08, 0, 12, .rw, fun _ => 0, fun _ => true⟩
/-- The register DDS_LIST (R263): one instance. -/
def DDS_LIST.reg : RegDef := ⟨"DDS_LIST", 0xE08, [], [ DDS_LIST.LAST, DDS_LIST.FIRST]⟩

/-- DDS_OUT.OFFSET [63:48], RW (R263): R251 -/
def DDS_OUT.OFFSET : Fld := ⟨0xE10, 48, 16, .rw, fun _ => 0x4000, fun v => decide (9831 ≤ v ∧ v ≤ 55705)⟩
/-- DDS_OUT.MKW [39:32], RW (R263): Marker width in samples, 1 to 255; 0 reserved -/
def DDS_OUT.MKW : Fld := ⟨0xE10, 32, 8, .rw, fun _ => 1, fun v => v != 0⟩
/-- DDS_OUT.MKEN [19:16], RW (R263): Marker enables (R248, R254) -/
def DDS_OUT.MKEN : Fld := ⟨0xE10, 16, 4, .rw, fun _ => 0, fun _ => true⟩
/-- DDS_OUT.FAB [1:1], RW (R263): R247 -/
def DDS_OUT.FAB : Fld := ⟨0xE10, 1, 1, .rw, fun _ => 0, fun _ => true⟩
/-- DDS_OUT.BUS [0:0], RW (R263): R247 -/
def DDS_OUT.BUS : Fld := ⟨0xE10, 0, 1, .rw, fun _ => 0, fun _ => true⟩
/-- The register DDS_OUT (R263): one instance. -/
def DDS_OUT.reg : RegDef := ⟨"DDS_OUT", 0xE10, [], [ DDS_OUT.OFFSET, DDS_OUT.MKW, DDS_OUT.MKEN, DDS_OUT.FAB, DDS_OUT.BUS]⟩

/-- DDS_CMD.ENTRY [43:32], WO (R263): Entry for RUN -/
def DDS_CMD.ENTRY : Fld := ⟨0xE18, 32, 12, .wo, fun _ => 0, fun _ => true⟩
/-- DDS_CMD.CMD [1:0], WO (R263): 0 none; 1 RUN; 2 step; 3 STOP (R252) -/
def DDS_CMD.CMD : Fld := ⟨0xE18, 0, 2, .wo, fun _ => 0, fun _ => true⟩
/-- The register DDS_CMD (R263): one instance. -/
def DDS_CMD.reg : RegDef := ⟨"DDS_CMD", 0xE18, [], [ DDS_CMD.ENTRY, DDS_CMD.CMD]⟩

/-- DDS_LA.LIST [13:12], RW (R263): DDS_LA: 0 frequency; 1 phase; 2 amplitude; 3 reserved -/
def DDS_LA.LIST : Fld := ⟨0xE20, 12, 2, .rw, fun _ => 0, fun v => v != 3⟩
/-- DDS_LA.INDEX [11:0], RW (R263): DDS_LA: entry index -/
def DDS_LA.INDEX : Fld := ⟨0xE20, 0, 12, .rw, fun _ => 0, fun _ => true⟩
/-- The register DDS_LA (R263): one instance. -/
def DDS_LA.reg : RegDef := ⟨"DDS_LA", 0xE20, [], [ DDS_LA.LIST, DDS_LA.INDEX]⟩

/-- DDS_LD.DATA [63:0], RW (R263): DDS_LD: entry at INDEX (R251); each read or applied write increments INDEX, wrapping from 4,095 to 0 -/
def DDS_LD.DATA : Fld := ⟨0xE28, 0, 64, .rw, fun _ => 0, fun _ => true⟩
/-- The register DDS_LD (R263): one instance. -/
def DDS_LD.reg : RegDef := ⟨"DDS_LD", 0xE28, [], [ DDS_LD.DATA]⟩

/-- DDS_STAT.TICK [63:48], RO (R263): TICKNO[15:0] of the last entry change -/
def DDS_STAT.TICK : Fld := ⟨0xE30, 48, 16, .ro, fun _ => 0, fun _ => true⟩
/-- DDS_STAT.INDEX [43:32], RO (R263): Entry in force -/
def DDS_STAT.INDEX : Fld := ⟨0xE30, 32, 12, .ro, fun _ => 0, fun _ => true⟩
/-- DDS_STAT.SKEW_OLD [4:4], RO (R263): Skew constants not remeasured -/
def DDS_STAT.SKEW_OLD : Fld := ⟨0xE30, 4, 1, .ro, fun _ => 0, fun _ => true⟩
/-- DDS_STAT.RESYNC [3:3], W1C (R263): R250 -/
def DDS_STAT.RESYNC : Fld := ⟨0xE30, 3, 1, .w1c, fun _ => 0, fun _ => true⟩
/-- DDS_STAT.LOOP [2:2], RO (R263): R247 -/
def DDS_STAT.LOOP : Fld := ⟨0xE30, 2, 1, .ro, fun _ => 0, fun _ => true⟩
/-- DDS_STAT.STATE [1:0], RO (R263): 0 stopped; 1 running; 2 held; 3 not used -/
def DDS_STAT.STATE : Fld := ⟨0xE30, 0, 2, .ro, fun _ => 0, fun _ => true⟩
/-- The register DDS_STAT (R263): one instance. -/
def DDS_STAT.reg : RegDef := ⟨"DDS_STAT", 0xE30, [], [ DDS_STAT.TICK, DDS_STAT.INDEX, DDS_STAT.SKEW_OLD, DDS_STAT.RESYNC, DDS_STAT.LOOP, DDS_STAT.STATE]⟩

/-- DDS_EVCNT.STEPS [63:32], RC (R263): Steps taken; saturates at 0xFFFF_FFFF -/
def DDS_EVCNT.STEPS : Fld := ⟨0xE38, 32, 32, .rc, fun _ => 0, fun _ => true⟩
/-- DDS_EVCNT.ENDS [31:16], RC (R263): Steps from LAST; saturates at 0xFFFF -/
def DDS_EVCNT.ENDS : Fld := ⟨0xE38, 16, 16, .rc, fun _ => 0, fun _ => true⟩
/-- DDS_EVCNT.MERGED [15:0], RC (R263): R253; saturates at 0xFFFF -/
def DDS_EVCNT.MERGED : Fld := ⟨0xE38, 0, 16, .rc, fun _ => 0, fun _ => true⟩
/-- The register DDS_EVCNT (R263): one instance. -/
def DDS_EVCNT.reg : RegDef := ⟨"DDS_EVCNT", 0xE38, [], [ DDS_EVCNT.STEPS, DDS_EVCNT.ENDS, DDS_EVCNT.MERGED]⟩

/-- DIG_CFG.NSAMP [63:40], RW (R263): Samples, 1 to 16,777,215; 0 reserved -/
def DIG_CFG.NSAMP : Fld := ⟨0xF00, 40, 24, .rw, fun _ => 1, fun v => v != 0⟩
/-- DIG_CFG.OFS [31:16], RW (R263): Start offset in sub-ticks (R259) -/
def DIG_CFG.OFS : Fld := ⟨0xF00, 16, 16, .rw, fun _ => 0, fun _ => true⟩
/-- DIG_CFG.FAB [5:5], RW (R263): R247 -/
def DIG_CFG.FAB : Fld := ⟨0xF00, 5, 1, .rw, fun _ => 0, fun _ => true⟩
/-- DIG_CFG.BUS [4:4], RW (R263): R247 -/
def DIG_CFG.BUS : Fld := ⟨0xF00, 4, 1, .rw, fun _ => 0, fun _ => true⟩
/-- DIG_CFG.MODE [0:0], RW (R263): 0 HR; 1 HS -/
def DIG_CFG.MODE : Fld := ⟨0xF00, 0, 1, .rw, fun _ => 0, fun _ => true⟩
/-- The register DIG_CFG (R263): one instance. -/
def DIG_CFG.reg : RegDef := ⟨"DIG_CFG", 0xF00, [], [ DIG_CFG.NSAMP, DIG_CFG.OFS, DIG_CFG.FAB, DIG_CFG.BUS, DIG_CFG.MODE]⟩

/-- DIG_CMD.ABORT [1:1], WO (R263): Ends the acquisition (R260) -/
def DIG_CMD.ABORT : Fld := ⟨0xF08, 1, 1, .wo, fun _ => 0, fun _ => true⟩
/-- DIG_CMD.START [0:0], WO (R263): R259 -/
def DIG_CMD.START : Fld := ⟨0xF08, 0, 1, .wo, fun _ => 0, fun _ => true⟩
/-- The register DIG_CMD (R263): one instance. -/
def DIG_CMD.reg : RegDef := ⟨"DIG_CMD", 0xF08, [], [ DIG_CMD.ABORT, DIG_CMD.START]⟩

/-- DIG_STAT.COUNT [63:40], RO (R263): Samples taken in the last acquisition -/
def DIG_STAT.COUNT : Fld := ⟨0xF10, 40, 24, .ro, fun _ => 0, fun _ => true⟩
/-- DIG_STAT.TICK [31:16], RO (R263): TICKNO[15:0] of the last results -/
def DIG_STAT.TICK : Fld := ⟨0xF10, 16, 16, .ro, fun _ => 0, fun _ => true⟩
/-- DIG_STAT.ABORT [5:5], RO (R263): Last acquisition ended early -/
def DIG_STAT.ABORT : Fld := ⟨0xF10, 5, 1, .ro, fun _ => 0, fun _ => true⟩
/-- DIG_STAT.OVR [4:4], RO (R263): A sample was at a range limit -/
def DIG_STAT.OVR : Fld := ⟨0xF10, 4, 1, .ro, fun _ => 0, fun _ => true⟩
/-- DIG_STAT.VALID [3:3], RO (R263): Results valid -/
def DIG_STAT.VALID : Fld := ⟨0xF10, 3, 1, .ro, fun _ => 0, fun _ => true⟩
/-- DIG_STAT.STATE [1:0], RO (R263): 0 idle; 1 waiting for t0; 2 acquiring; 3 not used -/
def DIG_STAT.STATE : Fld := ⟨0xF10, 0, 2, .ro, fun _ => 0, fun _ => true⟩
/-- The register DIG_STAT (R263): one instance. -/
def DIG_STAT.reg : RegDef := ⟨"DIG_STAT", 0xF10, [], [ DIG_STAT.COUNT, DIG_STAT.TICK, DIG_STAT.ABORT, DIG_STAT.OVR, DIG_STAT.VALID, DIG_STAT.STATE]⟩

/-- DIG_SUM.SUM [41:0], RO (R263): Sum of sample codes -/
def DIG_SUM.SUM : Fld := ⟨0xF18, 0, 42, .ro, fun _ => 0, fun _ => true⟩
/-- The register DIG_SUM (R263): one instance. -/
def DIG_SUM.reg : RegDef := ⟨"DIG_SUM", 0xF18, [], [ DIG_SUM.SUM]⟩

/-- DIG_MM.MAX [49:32], RO (R263): Largest code -/
def DIG_MM.MAX : Fld := ⟨0xF20, 32, 18, .ro, fun _ => 0, fun _ => true⟩
/-- DIG_MM.MIN [17:0], RO (R263): Smallest code -/
def DIG_MM.MIN : Fld := ⟨0xF20, 0, 18, .ro, fun _ => 0, fun _ => true⟩
/-- The register DIG_MM (R263): one instance. -/
def DIG_MM.reg : RegDef := ⟨"DIG_MM", 0xF20, [], [ DIG_MM.MAX, DIG_MM.MIN]⟩

/-- CAP_CFG.AVG [63:48], RW (R277): N − 1 (R265); 0 no averaging -/
def CAP_CFG.AVG : Fld := ⟨0x2000, 48, 16, .rw, fun _ => 0, fun _ => true⟩
/-- CAP_CFG.CHMASK [47:32], RW (R277): Channels for SRC 2 and 3 -/
def CAP_CFG.CHMASK : Fld := ⟨0x2000, 32, 16, .rw, fun _ => 0, fun _ => true⟩
/-- CAP_CFG.LOG_RO [9:9], RW (R277): R268, R275 -/
def CAP_CFG.LOG_RO : Fld := ⟨0x2000, 9, 1, .rw, fun _ => 0, fun _ => true⟩
/-- CAP_CFG.STOPV [8:8], RW (R277): R274 -/
def CAP_CFG.STOPV : Fld := ⟨0x2000, 8, 1, .rw, fun _ => 0, fun _ => true⟩
/-- CAP_CFG.MASK_EN [7:7], RW (R277): R274 -/
def CAP_CFG.MASK_EN : Fld := ⟨0x2000, 7, 1, .rw, fun _ => 0, fun _ => true⟩
/-- CAP_CFG.STREAM [6:6], RW (R277): R271 -/
def CAP_CFG.STREAM : Fld := ⟨0x2000, 6, 1, .rw, fun _ => 0, fun _ => true⟩
/-- CAP_CFG.MODE [5:4], RW (R277): R270; 0b11 reserved -/
def CAP_CFG.MODE : Fld := ⟨0x2000, 4, 2, .rw, fun _ => 0, fun v => v != 3⟩
/-- CAP_CFG.SRC [2:0], RW (R277): R264; 4 to 7 reserved -/
def CAP_CFG.SRC : Fld := ⟨0x2000, 0, 3, .rw, fun _ => 0, fun v => decide (v ≤ 3)⟩
/-- The register CAP_CFG (R277): one instance. -/
def CAP_CFG.reg : RegDef := ⟨"CAP_CFG", 0x2000, [], [ CAP_CFG.AVG, CAP_CFG.CHMASK, CAP_CFG.LOG_RO, CAP_CFG.STOPV, CAP_CFG.MASK_EN, CAP_CFG.STREAM, CAP_CFG.MODE, CAP_CFG.SRC]⟩

/-- CAP_LEN.POST [63:32], RW (R277): Post-trigger words (R266, R271) -/
def CAP_LEN.POST : Fld := ⟨0x2008, 32, 32, .rw, fun _ => 1, fun _ => true⟩
/-- CAP_LEN.PRE [16:0], RW (R277): Pre-trigger words -/
def CAP_LEN.PRE : Fld := ⟨0x2008, 0, 17, .rw, fun _ => 0, fun _ => true⟩
/-- The register CAP_LEN (R277): one instance. -/
def CAP_LEN.reg : RegDef := ⟨"CAP_LEN", 0x2008, [], [ CAP_LEN.POST, CAP_LEN.PRE]⟩

/-- CAP_TRG.TOUT [63:40], RW (R277): Auto timeout in ticks; 0 reserved -/
def CAP_TRG.TOUT : Fld := ⟨0x2010, 40, 24, .rw, fun _ => 1, fun v => v != 0⟩
/-- CAP_TRG.LEVEL [39:22], RW (R277): Level code (R268) -/
def CAP_TRG.LEVEL : Fld := ⟨0x2010, 22, 18, .rw, fun _ => 0, fun _ => true⟩
/-- CAP_TRG.SLOPE [21:21], RW (R277): 0 rising; 1 falling -/
def CAP_TRG.SLOPE : Fld := ⟨0x2010, 21, 1, .rw, fun _ => 0, fun _ => true⟩
/-- CAP_TRG.EVSRC [19:10], RW (R277): Interrupt source for TSRC 4 -/
def CAP_TRG.EVSRC : Fld := ⟨0x2010, 10, 10, .rw, fun _ => 0, fun _ => true⟩
/-- CAP_TRG.SEL [7:4], RW (R277): Marker bit, line or channel -/
def CAP_TRG.SEL : Fld := ⟨0x2010, 4, 4, .rw, fun _ => 0, fun _ => true⟩
/-- CAP_TRG.TSRC [2:0], RW (R277): R268 -/
def CAP_TRG.TSRC : Fld := ⟨0x2010, 0, 3, .rw, fun _ => 0, fun v => v != 7⟩
/-- The register CAP_TRG (R277): one instance. -/
def CAP_TRG.reg : RegDef := ⟨"CAP_TRG", 0x2010, [], [ CAP_TRG.TOUT, CAP_TRG.LEVEL, CAP_TRG.SLOPE, CAP_TRG.EVSRC, CAP_TRG.SEL, CAP_TRG.TSRC]⟩

/-- CAP_CMD.FLCLR [3:3], WO (R277): Clears the fail log (R275) -/
def CAP_CMD.FLCLR : Fld := ⟨0x2018, 3, 1, .wo, fun _ => 0, fun _ => true⟩
/-- CAP_CMD.STOP [2:2], WO (R277): R273 -/
def CAP_CMD.STOP : Fld := ⟨0x2018, 2, 1, .wo, fun _ => 0, fun _ => true⟩
/-- CAP_CMD.TRIG [1:1], WO (R277): R268 -/
def CAP_CMD.TRIG : Fld := ⟨0x2018, 1, 1, .wo, fun _ => 0, fun _ => true⟩
/-- CAP_CMD.ARM [0:0], WO (R277): R266 -/
def CAP_CMD.ARM : Fld := ⟨0x2018, 0, 1, .wo, fun _ => 0, fun _ => true⟩
/-- The register CAP_CMD (R277): one instance. -/
def CAP_CMD.reg : RegDef := ⟨"CAP_CMD", 0x2018, [], [ CAP_CMD.FLCLR, CAP_CMD.STOP, CAP_CMD.TRIG, CAP_CMD.ARM]⟩

/-- CAP_STAT.KEPT [63:32], RO (R277): Words of the last or present record -/
def CAP_STAT.KEPT : Fld := ⟨0x2020, 32, 32, .ro, fun _ => 0, fun _ => true⟩
/-- CAP_STAT.SLOT [24:8], RO (R277): Slot of the last completed record -/
def CAP_STAT.SLOT : Fld := ⟨0x2020, 8, 17, .ro, fun _ => 0, fun _ => true⟩
/-- CAP_STAT.ARMRES [7:6], RO (R277): 0 OK; 1 LENGTH; 2 BUSY -/
def CAP_STAT.ARMRES : Fld := ⟨0x2020, 6, 2, .ro, fun _ => 0, fun _ => true⟩
/-- CAP_STAT.CAUSE [5:3], RO (R277): 0 none; 1 complete; 2 STOPPED; 3 TRUNCATED; 4 SPILL_LATE; 5 VIOLATION; 6 BOLTED; 7 not used -/
def CAP_STAT.CAUSE : Fld := ⟨0x2020, 3, 3, .ro, fun _ => 0, fun _ => true⟩
/-- CAP_STAT.STATE [2:0], RO (R277): 0 IDLE; 1 PRE; 2 READY; 3 POST; 4 REARM; 5 DONE; 6, 7 not used -/
def CAP_STAT.STATE : Fld := ⟨0x2020, 0, 3, .ro, fun _ => 0, fun _ => true⟩
/-- The register CAP_STAT (R277): one instance. -/
def CAP_STAT.reg : RegDef := ⟨"CAP_STAT", 0x2020, [], [ CAP_STAT.KEPT, CAP_STAT.SLOT, CAP_STAT.ARMRES, CAP_STAT.CAUSE, CAP_STAT.STATE]⟩

/-- CAP_EVCNT.EARLY_TRIG [63:48], RC (R277): R269; saturates at 0xFFFF -/
def CAP_EVCNT.EARLY_TRIG : Fld := ⟨0x2028, 48, 16, .rc, fun _ => 0, fun _ => true⟩
/-- CAP_EVCNT.REARM_MISS [47:32], RC (R277): R269; saturates at 0xFFFF -/
def CAP_EVCNT.REARM_MISS : Fld := ⟨0x2028, 32, 16, .rc, fun _ => 0, fun _ => true⟩
/-- CAP_EVCNT.FORCED [31:16], RC (R277): Forced triggers; saturates at 0xFFFF -/
def CAP_EVCNT.FORCED : Fld := ⟨0x2028, 16, 16, .rc, fun _ => 0, fun _ => true⟩
/-- CAP_EVCNT.RECORDS [15:0], RC (R277): Completed records; saturates at 0xFFFF -/
def CAP_EVCNT.RECORDS : Fld := ⟨0x2028, 0, 16, .rc, fun _ => 0, fun _ => true⟩
/-- The register CAP_EVCNT (R277): one instance. -/
def CAP_EVCNT.reg : RegDef := ⟨"CAP_EVCNT", 0x2028, [], [ CAP_EVCNT.EARLY_TRIG, CAP_EVCNT.REARM_MISS, CAP_EVCNT.FORCED, CAP_EVCNT.RECORDS]⟩

/-- CAP_LAST.ENTRY [63:16], RO (R277): Entry number of the last trigger entry -/
def CAP_LAST.ENTRY : Fld := ⟨0x2030, 16, 48, .ro, fun _ => 0, fun _ => true⟩
/-- CAP_LAST.TICK [15:0], RO (R277): TICKNO[15:0] of its tick -/
def CAP_LAST.TICK : Fld := ⟨0x2030, 0, 16, .ro, fun _ => 0, fun _ => true⟩
/-- The register CAP_LAST (R277): one instance. -/
def CAP_LAST.reg : RegDef := ⟨"CAP_LAST", 0x2030, [], [ CAP_LAST.ENTRY, CAP_LAST.TICK]⟩

/-- CAP_SPILL.EN [20:20], RW (R277): Spill chain attached (R271) -/
def CAP_SPILL.EN : Fld := ⟨0x2038, 20, 1, .rw, fun _ => 0, fun _ => true⟩
/-- CAP_SPILL.HEAD [19:0], RW (R277): Head page -/
def CAP_SPILL.HEAD : Fld := ⟨0x2038, 0, 20, .rw, fun _ => 0, fun _ => true⟩
/-- The register CAP_SPILL (R277): one instance. -/
def CAP_SPILL.reg : RegDef := ⟨"CAP_SPILL", 0x2038, [], [ CAP_SPILL.EN, CAP_SPILL.HEAD]⟩

/-- CAP_MA.ADDR [16:0], RW (R277): CAP_MA: SRAM word address -/
def CAP_MA.ADDR : Fld := ⟨0x2040, 0, 17, .rw, fun _ => 0, fun _ => true⟩
/-- The register CAP_MA (R277): one instance. -/
def CAP_MA.reg : RegDef := ⟨"CAP_MA", 0x2040, [], [ CAP_MA.ADDR]⟩

/-- CAP_MD.DATA [63:0], RO (R277): CAP_MD: word at ADDR; each read increments ADDR, wrapping from 131,071 to 0 -/
def CAP_MD.DATA : Fld := ⟨0x2048, 0, 64, .ro, fun _ => 0, fun _ => true⟩
/-- The register CAP_MD (R277): one instance. -/
def CAP_MD.reg : RegDef := ⟨"CAP_MD", 0x2048, [], [ CAP_MD.DATA]⟩

/-- CAP_FF.FAIL [63:48], RO (R277): FAIL bits of the first failing vector -/
def CAP_FF.FAIL : Fld := ⟨0x2050, 48, 16, .ro, fun _ => 0, fun _ => true⟩
/-- CAP_FF.VNUM [47:0], RO (R277): Its vector number; all ones when none -/
def CAP_FF.VNUM : Fld := ⟨0x2050, 0, 48, .ro, fun _ => 0xffffffffffff, fun _ => true⟩
/-- The register CAP_FF (R277): one instance. -/
def CAP_FF.reg : RegDef := ⟨"CAP_FF", 0x2050, [], [ CAP_FF.FAIL, CAP_FF.VNUM]⟩

/-- CAP_VIOL.OFS [63:32], RO (R277): Post offset of the first violation -/
def CAP_VIOL.OFS : Fld := ⟨0x2058, 32, 32, .ro, fun _ => 0, fun _ => true⟩
/-- CAP_VIOL.SEG [29:24], RO (R277): Segment -/
def CAP_VIOL.SEG : Fld := ⟨0x2058, 24, 6, .ro, fun _ => 0, fun _ => true⟩
/-- CAP_VIOL.K [21:18], RO (R277): Channel -/
def CAP_VIOL.K : Fld := ⟨0x2058, 18, 4, .ro, fun _ => 0, fun _ => true⟩
/-- CAP_VIOL.CODE [17:0], RO (R277): Violating code -/
def CAP_VIOL.CODE : Fld := ⟨0x2058, 0, 18, .ro, fun _ => 0, fun _ => true⟩
/-- The register CAP_VIOL (R277): one instance. -/
def CAP_VIOL.reg : RegDef := ⟨"CAP_VIOL", 0x2058, [], [ CAP_VIOL.OFS, CAP_VIOL.SEG, CAP_VIOL.K, CAP_VIOL.CODE]⟩

/-- CAP_FCNT.COUNT [31:0], RO (R277): R275; saturates at 0xFFFF_FFFF -/
def CAP_FCNT.COUNT : Fld := ⟨0x2100, 0, 32, .ro, fun _ => 0, fun _ => true⟩
/-- The register CAP_FCNT (R277): 16 at stride 0x8. -/
def CAP_FCNT.reg : RegDef := ⟨"CAP_FCNT", 0x2100, [(0x8, 16)], [ CAP_FCNT.COUNT]⟩

/-- CAP_MSKA.VALID [63:63], RW (R277): Segment in use -/
def CAP_MSKA.VALID : Fld := ⟨0x2200, 63, 1, .rw, fun _ => 0, fun _ => true⟩
/-- CAP_MSKA.END [47:24], RW (R277): Last post offset; below START reserved -/
def CAP_MSKA.END : Fld := ⟨0x2200, 24, 24, .rw, fun _ => 0, fun _ => true⟩
/-- CAP_MSKA.START [23:0], RW (R277): First post offset -/
def CAP_MSKA.START : Fld := ⟨0x2200, 0, 24, .rw, fun _ => 0, fun _ => true⟩
/-- The register CAP_MSKA (R277): 64 at stride 0x10. -/
def CAP_MSKA.reg : RegDef := ⟨"CAP_MSKA", 0x2200, [(0x10, 64)], [ CAP_MSKA.VALID, CAP_MSKA.END, CAP_MSKA.START]⟩

/-- CAP_MSKB.CHMASK [63:48], RW (R277): Channels, SRC 2 -/
def CAP_MSKB.CHMASK : Fld := ⟨0x2208, 48, 16, .rw, fun _ => 0, fun _ => true⟩
/-- CAP_MSKB.HI [41:24], RW (R277): Upper limit -/
def CAP_MSKB.HI : Fld := ⟨0x2208, 24, 18, .rw, fun _ => 0x3ffff, fun _ => true⟩
/-- CAP_MSKB.LO [17:0], RW (R277): Lower limit -/
def CAP_MSKB.LO : Fld := ⟨0x2208, 0, 18, .rw, fun _ => 0, fun _ => true⟩
/-- The register CAP_MSKB (R277): 64 at stride 0x10. -/
def CAP_MSKB.reg : RegDef := ⟨"CAP_MSKB", 0x2208, [(0x10, 64)], [ CAP_MSKB.CHMASK, CAP_MSKB.HI, CAP_MSKB.LO]⟩

/-- Every register of the block. -/
def fieldRegs : List RegDef :=
  [ LA_STAT.reg, SEQ_CATCHUP.reg, SEQ_UNDERRUN.reg, RB_CTRL.reg, RB_TOL.reg, RB_STAT.reg, RB_MISS.reg, TS_CTRL.reg] ++
  [ TS_CHK.reg, TS_STAT.reg, TS_PER.reg, TS_DRV0.reg, TS_DRV1.reg, TS_STB.reg, TS_FMT.reg, SEQ_ENTRY.reg] ++
  [ SEQ_EVBASE.reg, SEQ_STAT.reg, SEQ_PC.reg, SEQ_FLAGS.reg, SEQ_EVM.reg, SEQ_TSEL.reg, SEQ_PROG.reg, SEQ_PMA.reg] ++
  [ SEQ_DSA.reg, SEQ_PMD.reg, SEQ_DSD.reg, SEQ_FAULT.reg, SEQ_CYC.reg, SEQ_G.reg, SEQ_L.reg, EV_SRC.reg] ++
  [ SOW_CTRL.reg, SOW_HEAD.reg, SOW_DTAG.reg, SOW_DCA.reg, SOW_DCD.reg, SOW_STAT.reg, SOW_EVCNT.reg, SOW_ERR.reg] ++
  [ SOW_MKCNT.reg, TIA_FCHAIN.reg, TIA_FSTAT.reg, DDS_CTRL.reg, DDS_LIST.reg, DDS_OUT.reg, DDS_CMD.reg, DDS_LA.reg] ++
  [ DDS_LD.reg, DDS_STAT.reg, DDS_EVCNT.reg, DIG_CFG.reg, DIG_CMD.reg, DIG_STAT.reg, DIG_SUM.reg, DIG_MM.reg] ++
  [ CAP_CFG.reg, CAP_LEN.reg, CAP_TRG.reg, CAP_CMD.reg, CAP_STAT.reg, CAP_EVCNT.reg, CAP_LAST.reg, CAP_SPILL.reg] ++
  [ CAP_MA.reg, CAP_MD.reg, CAP_FF.reg, CAP_VIOL.reg, CAP_FCNT.reg, CAP_MSKA.reg, CAP_MSKB.reg]

end Sys2Proof.Machine
end

