-- ==== Sys2Proof/Machine/RegModule.lean ====
section
/-!
DEFINITION. The register map of the spec, field by field: the registers of the module blocks (R28, R49, R116, R200, R224, R225, R307, R324, R333, R351, R376, R377, R390, R412, R413, R427, R453 to R455, R457) and of the supervisor port (R464). Every field carries its place, its
access code (R5), its reset value (R6) and the encodings its description does not mark as reserved (R8).
-/
namespace Sys2Proof.Machine

/-- HASP_ENT.OWNER [55:48], RO (R28): 0x00 none; 0x01 to 0x11 sequencer n, coded 0x01 + n; 0x20 to 0x5F host queue pair q, coded 0x20 + q; 0x60 repair manager; 0x61 calibration engine; 0x62 firmware; other codes not used -/
def HASP_ENT.OWNER : Fld := ⟨0xC0000, 48, 8, .ro, fun _ => 0, fun _ => true⟩
/-- HASP_ENT.TAG [47:32], RO (R28): 16-bit tag supplied with the claim, for tracing; 0x0000 when free -/
def HASP_ENT.TAG : Fld := ⟨0xC0000, 32, 16, .ro, fun _ => 0, fun _ => true⟩
/-- HASP_ENT.GEN [31:16], RO (R28): Increments at every grant, takeover transfer and displacement; wraps from 0xFFFF to 0x0000 -/
def HASP_ENT.GEN : Fld := ⟨0xC0000, 16, 16, .ro, fun _ => 0, fun _ => true⟩
/-- HASP_ENT.STATE [7:4], RO (R28): 0x0 FREE; 0x1 HELD; 0x2 IN_USE (held and active in a running step, or armed) -/
def HASP_ENT.STATE : Fld := ⟨0xC0000, 4, 4, .ro, fun _ => 0, fun _ => true⟩
/-- HASP_ENT.KIND [3:0], RO (R28): 0x0 hinge bus; 0x1 spare slice; 0x2 DDS route; 0x3 digitiser input; 0x4 capture SRAM; 0x5 stamp chain; 0x6 spill chain; 0x7 marker; 0x8 trigger out; 0x9 trigger in; 0xA DPS hinge; 0xF no resource -/
def HASP_ENT.KIND : Fld := ⟨0xC0000, 0, 4, .ro, fun a => haspKind (inst 0xC0000 8 a), fun _ => true⟩
/-- The register HASP_ENT (R28): 274 at stride 0x8. -/
def HASP_ENT.reg : RegDef := ⟨"HASP_ENT", 0xC0000, [(0x8, 274)], [ HASP_ENT.OWNER, HASP_ENT.TAG, HASP_ENT.GEN, HASP_ENT.STATE, HASP_ENT.KIND]⟩

/-- HASP_CONFLICTS.COUNT [31:0], RC (R28): Claims refused with CLAIM_CONFLICT since last read; saturates at 0xFFFF_FFFF -/
def HASP_CONFLICTS.COUNT : Fld := ⟨0xC1000, 0, 32, .rc, fun _ => 0, fun _ => true⟩
/-- The register HASP_CONFLICTS (R28): one instance. -/
def HASP_CONFLICTS.reg : RegDef := ⟨"HASP_CONFLICTS", 0xC1000, [], [ HASP_CONFLICTS.COUNT]⟩

/-- HASP_LAST.REQUESTER [47:40], RO (R28): Owner code of the refused claimant -/
def HASP_LAST.REQUESTER : Fld := ⟨0xC1008, 40, 8, .ro, fun _ => 0, fun _ => true⟩
/-- HASP_LAST.OWNER [39:32], RO (R28): Owner code at the time of refusal -/
def HASP_LAST.OWNER : Fld := ⟨0xC1008, 32, 8, .ro, fun _ => 0, fun _ => true⟩
/-- HASP_LAST.INDEX [24:16], RO (R28): Entry index -/
def HASP_LAST.INDEX : Fld := ⟨0xC1008, 16, 9, .ro, fun _ => 0, fun _ => true⟩
/-- HASP_LAST.TICK [15:0], RO (R28): TICKNO[15:0] at refusal -/
def HASP_LAST.TICK : Fld := ⟨0xC1008, 0, 16, .ro, fun _ => 0, fun _ => true⟩
/-- The register HASP_LAST (R28): one instance. -/
def HASP_LAST.reg : RegDef := ⟨"HASP_LAST", 0xC1008, [], [ HASP_LAST.REQUESTER, HASP_LAST.OWNER, HASP_LAST.INDEX, HASP_LAST.TICK]⟩

/-- TB_CTRL.COLD_BLOCK [2:2], RW (R49): 1: START_STEP completes with REF_COLD while the reference is cold -/
def TB_CTRL.COLD_BLOCK : Fld := ⟨0x30000, 2, 1, .rw, fun _ => 0, fun _ => true⟩
/-- TB_CTRL.WARM_POL [1:1], RW (R49): 0: OCXO_WARM high means warm; 1: low means warm -/
def TB_CTRL.WARM_POL : Fld := ⟨0x30000, 1, 1, .rw, fun _ => 0, fun _ => true⟩
/-- TB_CTRL.WARM_IGNORE [0:0], RW (R49): 1: the reference is treated as warm regardless of OCXO_WARM -/
def TB_CTRL.WARM_IGNORE : Fld := ⟨0x30000, 0, 1, .rw, fun _ => 0, fun _ => true⟩
/-- The register TB_CTRL (R49): one instance. -/
def TB_CTRL.reg : RegDef := ⟨"TB_CTRL", 0x30000, [], [ TB_CTRL.COLD_BLOCK, TB_CTRL.WARM_POL, TB_CTRL.WARM_IGNORE]⟩

/-- TICK_K.K [16:0], RWS (R49): Tick length in sub-ticks; 100 to 100,000. Other values are reserved (R8). The value in force is read from TICK_K_ACT. -/
def TICK_K.K : Fld := ⟨0x30008, 0, 17, .rws, fun _ => 0x3e8, fun v => decide (100 ≤ v ∧ v ≤ 100000)⟩
/-- The register TICK_K (R49): one instance. -/
def TICK_K.reg : RegDef := ⟨"TICK_K", 0x30008, [], [ TICK_K.K]⟩

/-- TICK_K_ACT.K [16:0], RO (R49): Tick length in force -/
def TICK_K_ACT.K : Fld := ⟨0x30010, 0, 17, .ro, fun _ => 0x3e8, fun _ => true⟩
/-- The register TICK_K_ACT (R49): one instance. -/
def TICK_K_ACT.reg : RegDef := ⟨"TICK_K_ACT", 0x30010, [], [ TICK_K_ACT.K]⟩

/-- TICKNO.TICKNO [63:0], RO (R49): Ticks since the last sync pulse. A 64-bit read returns one consistent value; access-width rules are in Host Interface. -/
def TICKNO.TICKNO : Fld := ⟨0x30018, 0, 64, .ro, fun _ => 0, fun _ => true⟩
/-- The register TICKNO (R49): one instance. -/
def TICKNO.reg : RegDef := ⟨"TICKNO", 0x30018, [], [ TICKNO.TICKNO]⟩

/-- TB_STAT.TICK_RUN [8:8], RO (R49): 1 while the tick generator runs -/
def TB_STAT.TICK_RUN : Fld := ⟨0x30020, 8, 1, .ro, fun _ => 0, fun _ => true⟩
/-- TB_STAT.WARM_IN [7:7], RO (R49): OCXO_WARM after WARM_POL -/
def TB_STAT.WARM_IN : Fld := ⟨0x30020, 7, 1, .ro, fun _ => 0, fun _ => true⟩
/-- TB_STAT.REF_OK [6:6], RO (R49): REFCLK present and within limits (R33) -/
def TB_STAT.REF_OK : Fld := ⟨0x30020, 6, 1, .ro, fun _ => 0, fun _ => true⟩
/-- TB_STAT.HBM_LOCK [5:5], RO (R49): PLL_HBM locked -/
def TB_STAT.HBM_LOCK : Fld := ⟨0x30020, 5, 1, .ro, fun _ => 0, fun _ => true⟩
/-- TB_STAT.D2D_LOCK [4:4], RO (R49): PLL_D2D locked -/
def TB_STAT.D2D_LOCK : Fld := ⟨0x30020, 4, 1, .ro, fun _ => 0, fun _ => true⟩
/-- TB_STAT.TIM_LOCK [3:3], RO (R49): PLL_TIM locked -/
def TB_STAT.TIM_LOCK : Fld := ⟨0x30020, 3, 1, .ro, fun _ => 0, fun _ => true⟩
/-- TB_STAT.CORE_LOCK [2:2], RO (R49): PLL_CORE locked -/
def TB_STAT.CORE_LOCK : Fld := ⟨0x30020, 2, 1, .ro, fun _ => 0, fun _ => true⟩
/-- TB_STAT.K_PEND [1:1], RO (R49): 1 while a commit is pending whose generation changes K -/
def TB_STAT.K_PEND : Fld := ⟨0x30020, 1, 1, .ro, fun _ => 0, fun _ => true⟩
/-- TB_STAT.COLD [0:0], RO (R49): 1 while the reference is cold (R34) -/
def TB_STAT.COLD : Fld := ⟨0x30020, 0, 1, .ro, fun _ => 0, fun _ => true⟩
/-- The register TB_STAT (R49): one instance. -/
def TB_STAT.reg : RegDef := ⟨"TB_STAT", 0x30020, [], [ TB_STAT.TICK_RUN, TB_STAT.WARM_IN, TB_STAT.REF_OK, TB_STAT.HBM_LOCK, TB_STAT.D2D_LOCK, TB_STAT.TIM_LOCK, TB_STAT.CORE_LOCK, TB_STAT.K_PEND, TB_STAT.COLD]⟩

/-- TB_EVCNT.REF_LOSS [47:32], RC (R49): Reference losses; saturates at 0xFFFF -/
def TB_EVCNT.REF_LOSS : Fld := ⟨0x30028, 32, 16, .rc, fun _ => 0, fun _ => true⟩
/-- TB_EVCNT.UNLOCK [31:16], RC (R49): PLL loss-of-lock events; saturates at 0xFFFF -/
def TB_EVCNT.UNLOCK : Fld := ⟨0x30028, 16, 16, .rc, fun _ => 0, fun _ => true⟩
/-- TB_EVCNT.COLD_ENTRIES [15:0], RC (R49): Changes from warm to cold; saturates at 0xFFFF -/
def TB_EVCNT.COLD_ENTRIES : Fld := ⟨0x30028, 0, 16, .rc, fun _ => 0, fun _ => true⟩
/-- The register TB_EVCNT (R49): one instance. -/
def TB_EVCNT.reg : RegDef := ⟨"TB_EVCNT", 0x30028, [], [ TB_EVCNT.REF_LOSS, TB_EVCNT.UNLOCK, TB_EVCNT.COLD_ENTRIES]⟩

/-- CLR_STAT.ASSERTS [47:32], RC (R116): Clearing assertions (R89); saturates at 0xFFFF -/
def CLR_STAT.ASSERTS : Fld := ⟨0x20F00, 32, 16, .rc, fun _ => 0, fun _ => true⟩
/-- CLR_STAT.REL_REFUSED [2:2], RO (R116): R91 -/
def CLR_STAT.REL_REFUSED : Fld := ⟨0x20F00, 2, 1, .ro, fun _ => 0, fun _ => true⟩
/-- CLR_STAT.HELD [1:1], RO (R116): Outputs held at clear codes -/
def CLR_STAT.HELD : Fld := ⟨0x20F00, 1, 1, .ro, fun _ => 0, fun _ => true⟩
/-- CLR_STAT.CLR_IN [0:0], RO (R116): 1 while CLR_N is low after the filter -/
def CLR_STAT.CLR_IN : Fld := ⟨0x20F00, 0, 1, .ro, fun _ => 0, fun _ => true⟩
/-- The register CLR_STAT (R116): one instance. -/
def CLR_STAT.reg : RegDef := ⟨"CLR_STAT", 0x20F00, [], [ CLR_STAT.ASSERTS, CLR_STAT.REL_REFUSED, CLR_STAT.HELD, CLR_STAT.CLR_IN]⟩

/-- CLR_REL.REL [0:0], WO (R116): Writing 1 requests release (R91) -/
def CLR_REL.REL : Fld := ⟨0x20F08, 0, 1, .wo, fun _ => 0, fun _ => true⟩
/-- The register CLR_REL (R116): one instance. -/
def CLR_REL.reg : RegDef := ⟨"CLR_REL", 0x20F08, [], [ CLR_REL.REL]⟩

/-- UCODE_VER.ROM [63:56], RO (R200): ROM level (base level) -/
def UCODE_VER.ROM : Fld := ⟨0x10, 56, 8, .ro, fun _ => 3, fun _ => true⟩
/-- UCODE_VER.PATCH [47:32], RO (R200): Patch level in force; 0x0000 when no patch is loaded -/
def UCODE_VER.PATCH : Fld := ⟨0x10, 32, 16, .ro, fun _ => 0, fun _ => true⟩
/-- UCODE_VER.HASH [31:0], RO (R200): First 32 bits of the SHA-256 digest of the decrypted patch image in force; 0x0000_0000 when no patch is loaded -/
def UCODE_VER.HASH : Fld := ⟨0x10, 0, 32, .ro, fun _ => 0, fun _ => true⟩
/-- The register UCODE_VER (R200): one instance. -/
def UCODE_VER.reg : RegDef := ⟨"UCODE_VER", 0x10, [], [ UCODE_VER.ROM, UCODE_VER.PATCH, UCODE_VER.HASH]⟩

/-- UC_SEQ.MC_TICK [63:48], RO (R200): TICKNO[15:0] of the last machine check or persistent scrub error -/
def UC_SEQ.MC_TICK : Fld := ⟨0x100, 48, 16, .ro, fun _ => 0, fun _ => true⟩
/-- UC_SEQ.MC_UADDR [45:32], RO (R200): Microaddress of that error; for a trap-table error, the entry index -/
def UC_SEQ.MC_UADDR : Fld := ⟨0x100, 32, 14, .ro, fun _ => 0, fun _ => true⟩
/-- UC_SEQ.REPLAYS [31:24], RC (R200): Clean replay fetches (R195); saturates at 0xFF -/
def UC_SEQ.REPLAYS : Fld := ⟨0x100, 24, 8, .rc, fun _ => 0, fun _ => true⟩
/-- UC_SEQ.MC_COUNT [23:16], RO (R200): Machine checks since power-up; saturates at 0xFF -/
def UC_SEQ.MC_COUNT : Fld := ⟨0x100, 16, 8, .ro, fun _ => 0, fun _ => true⟩
/-- UC_SEQ.SPARE_ROWS [14:8], RO (R200): Spare patch-RAM rows in use, 0 to 64 -/
def UC_SEQ.SPARE_ROWS : Fld := ⟨0x100, 8, 7, .ro, fun _ => 0, fun _ => true⟩
/-- UC_SEQ.SCRUB [4:4], RO (R200): 1: the last error recorded was found by the scrub (R198) -/
def UC_SEQ.SCRUB : Fld := ⟨0x100, 4, 1, .ro, fun _ => 0, fun _ => true⟩
/-- UC_SEQ.MC_WHERE [3:2], RO (R200): Store of that error: 0 none; 1 ROM; 2 patch RAM; 3 trap table -/
def UC_SEQ.MC_WHERE : Fld := ⟨0x100, 2, 2, .ro, fun _ => 0, fun _ => true⟩
/-- UC_SEQ.PATCH_OK [1:1], RO (R200): The image in force passed read-back in this sequencer -/
def UC_SEQ.PATCH_OK : Fld := ⟨0x100, 1, 1, .ro, fun _ => 0, fun _ => true⟩
/-- UC_SEQ.RETIRED [0:0], RO (R200): The sequencer has been retired -/
def UC_SEQ.RETIRED : Fld := ⟨0x100, 0, 1, .ro, fun _ => 0, fun _ => true⟩
/-- The register UC_SEQ (R200): 17 at stride 0x8. -/
def UC_SEQ.reg : RegDef := ⟨"UC_SEQ", 0x100, [(0x8, 17)], [ UC_SEQ.MC_TICK, UC_SEQ.MC_UADDR, UC_SEQ.REPLAYS, UC_SEQ.MC_COUNT, UC_SEQ.SPARE_ROWS, UC_SEQ.SCRUB, UC_SEQ.MC_WHERE, UC_SEQ.PATCH_OK, UC_SEQ.RETIRED]⟩

/-- DIR_ENT0.STATE [63:60], RO (R224): R211 -/
def DIR_ENT0.STATE : Fld := ⟨0x1000000, 60, 4, .ro, fun _ => 0, fun _ => true⟩
/-- DIR_ENT0.OWNER [59:56], RO (R224): 0 free; 1 pattern; 2 capture; 3 stamps; 4 spill; 5 results; others not used -/
def DIR_ENT0.OWNER : Fld := ⟨0x1000000, 56, 4, .ro, fun _ => 0, fun _ => true⟩
/-- DIR_ENT0.HEAD [55:55], RO (R224): First page of its chain -/
def DIR_ENT0.HEAD : Fld := ⟨0x1000000, 55, 1, .ro, fun _ => 0, fun _ => true⟩
/-- DIR_ENT0.LAST [54:54], RO (R224): Last page of its chain -/
def DIR_ENT0.LAST : Fld := ⟨0x1000000, 54, 1, .ro, fun _ => 0, fun _ => true⟩
/-- DIR_ENT0.PROT [53:53], RO (R224): Protected (R217) -/
def DIR_ENT0.PROT : Fld := ⟨0x1000000, 53, 1, .ro, fun _ => 0, fun _ => true⟩
/-- DIR_ENT0.PC [52:48], RO (R224): Pseudo-channel -/
def DIR_ENT0.PC : Fld := ⟨0x1000000, 48, 5, .ro, fun a => (inst 0x1000000 16 a) % 32, fun _ => true⟩
/-- DIR_ENT0.FRAME [47:32], RO (R224): Frame within the pseudo-channel, 0 to 36,863 -/
def DIR_ENT0.FRAME : Fld := ⟨0x1000000, 32, 16, .ro, fun a => (inst 0x1000000 16 a) / 32, fun _ => true⟩
/-- DIR_ENT0.RPLY [31:28], RO (R224): HBM parity replays on the page; saturates at 15 -/
def DIR_ENT0.RPLY : Fld := ⟨0x1000000, 28, 4, .ro, fun _ => 0, fun _ => true⟩
/-- DIR_ENT0.NEXT [19:0], RO (R224): Next page of the chain; 0 when LAST -/
def DIR_ENT0.NEXT : Fld := ⟨0x1000000, 0, 20, .ro, fun _ => 0, fun _ => true⟩
/-- The register DIR_ENT0 (R224): 1048576 at stride 0x10. -/
def DIR_ENT0.reg : RegDef := ⟨"DIR_ENT0", 0x1000000, [(0x10, 1048576)], [ DIR_ENT0.STATE, DIR_ENT0.OWNER, DIR_ENT0.HEAD, DIR_ENT0.LAST, DIR_ENT0.PROT, DIR_ENT0.PC, DIR_ENT0.FRAME, DIR_ENT0.RPLY, DIR_ENT0.NEXT]⟩

/-- DIR_ENT1.PLAYS [57:48], RO (R224): Unfinished plays (R212); head page only -/
def DIR_ENT1.PLAYS : Fld := ⟨0x1000008, 48, 10, .ro, fun _ => 0, fun _ => true⟩
/-- DIR_ENT1.UNIT [47:44], RO (R224): Owning field of a capture, stamp or spill chain -/
def DIR_ENT1.UNIT : Fld := ⟨0x1000008, 44, 4, .ro, fun _ => 0, fun _ => true⟩
/-- DIR_ENT1.HEADPG [19:0], RO (R224): Head page of the chain -/
def DIR_ENT1.HEADPG : Fld := ⟨0x1000008, 0, 20, .ro, fun _ => 0, fun _ => true⟩
/-- The register DIR_ENT1 (R224): 1048576 at stride 0x10. -/
def DIR_ENT1.reg : RegDef := ⟨"DIR_ENT1", 0x1000008, [(0x10, 1048576)], [ DIR_ENT1.PLAYS, DIR_ENT1.UNIT, DIR_ENT1.HEADPG]⟩

/-- DIR_STAT.FREE [52:32], RO (R225): FREE pages -/
def DIR_STAT.FREE : Fld := ⟨0x9F000, 32, 21, .ro, fun _ => 0x100000, fun _ => true⟩
/-- DIR_STAT.WR_REFUSED [31:16], RC (R225): Discarded BAR2 writes (R216); saturates at 0xFFFF -/
def DIR_STAT.WR_REFUSED : Fld := ⟨0x9F000, 16, 16, .rc, fun _ => 0, fun _ => true⟩
/-- DIR_STAT.SPARE_ROWS [15:8], RO (R225): Spare directory rows in use, 0 to 128 -/
def DIR_STAT.SPARE_ROWS : Fld := ⟨0x9F000, 8, 8, .ro, fun _ => 0, fun _ => true⟩
/-- DIR_STAT.REPLAYS [7:0], RC (R225): Directory replays (R218); saturates at 0xFF -/
def DIR_STAT.REPLAYS : Fld := ⟨0x9F000, 0, 8, .rc, fun _ => 0, fun _ => true⟩
/-- The register DIR_STAT (R225): one instance. -/
def DIR_STAT.reg : RegDef := ⟨"DIR_STAT", 0x9F000, [], [ DIR_STAT.FREE, DIR_STAT.WR_REFUSED, DIR_STAT.SPARE_ROWS, DIR_STAT.REPLAYS]⟩

/-- DIR_LAST.PAGE [63:44], RO (R225): Page named -/
def DIR_LAST.PAGE : Fld := ⟨0x9F008, 44, 20, .ro, fun _ => 0, fun _ => true⟩
/-- DIR_LAST.REQUESTER [39:32], RO (R225): Owner code (R28), or 0x70 for BAR2 -/
def DIR_LAST.REQUESTER : Fld := ⟨0x9F008, 32, 8, .ro, fun _ => 0, fun _ => true⟩
/-- DIR_LAST.CODE [31:24], RO (R225): Completion code (R214) -/
def DIR_LAST.CODE : Fld := ⟨0x9F008, 24, 8, .ro, fun _ => 0, fun _ => true⟩
/-- DIR_LAST.TICK [15:0], RO (R225): TICKNO[15:0] -/
def DIR_LAST.TICK : Fld := ⟨0x9F008, 0, 16, .ro, fun _ => 0, fun _ => true⟩
/-- The register DIR_LAST (R225): one instance. -/
def DIR_LAST.reg : RegDef := ⟨"DIR_LAST", 0x9F008, [], [ DIR_LAST.PAGE, DIR_LAST.REQUESTER, DIR_LAST.CODE, DIR_LAST.TICK]⟩

/-- RES_CTRL.EN [0:0], RW (R307): Ring enabled (R304) -/
def RES_CTRL.EN : Fld := ⟨0xB0000, 0, 1, .rw, fun _ => 0, fun _ => true⟩
/-- The register RES_CTRL (R307): one instance. -/
def RES_CTRL.reg : RegDef := ⟨"RES_CTRL", 0xB0000, [], [ RES_CTRL.EN]⟩

/-- RES_RING_BASE.ADDR [63:5], RW (R307): Host address of slot 0, 32-byte aligned -/
def RES_RING_BASE.ADDR : Fld := ⟨0xB0008, 5, 59, .rw, fun _ => 0, fun _ => true⟩
/-- The register RES_RING_BASE (R307): one instance. -/
def RES_RING_BASE.reg : RegDef := ⟨"RES_RING_BASE", 0xB0008, [], [ RES_RING_BASE.ADDR]⟩

/-- RES_RING_SIZE.LOG2 [4:0], RW (R307): Ring of 2^LOG2 records, 10 to 20; others reserved (R8) -/
def RES_RING_SIZE.LOG2 : Fld := ⟨0xB0010, 0, 5, .rw, fun _ => 0xa, fun v => decide (10 ≤ v ∧ v ≤ 20)⟩
/-- The register RES_RING_SIZE (R307): one instance. -/
def RES_RING_SIZE.reg : RegDef := ⟨"RES_RING_SIZE", 0xB0010, [], [ RES_RING_SIZE.LOG2]⟩

/-- RES_PROD.COUNT [63:0], RO (R307): Records written; records consumed (R301, R304) -/
def RES_PROD.COUNT : Fld := ⟨0xB0018, 0, 64, .ro, fun _ => 0, fun _ => true⟩
/-- The register RES_PROD (R307): one instance. -/
def RES_PROD.reg : RegDef := ⟨"RES_PROD", 0xB0018, [], [ RES_PROD.COUNT]⟩

/-- RES_CONS.COUNT [63:0], RW (R307): Records written; records consumed (R301, R304) -/
def RES_CONS.COUNT : Fld := ⟨0xB0020, 0, 64, .rw, fun _ => 0, fun _ => true⟩
/-- The register RES_CONS (R307): one instance. -/
def RES_CONS.reg : RegDef := ⟨"RES_CONS", 0xB0020, [], [ RES_CONS.COUNT]⟩

/-- RES_STAT.QWAITS [63:48], RC (R307): R302; saturates at 0xFFFF -/
def RES_STAT.QWAITS : Fld := ⟨0xB0028, 48, 16, .rc, fun _ => 0, fun _ => true⟩
/-- RES_STAT.QLEVEL [44:32], RO (R307): Records in the queue, 0 to 4,096 -/
def RES_STAT.QLEVEL : Fld := ⟨0xB0028, 32, 13, .ro, fun _ => 0, fun _ => true⟩
/-- RES_STAT.NMERGED [31:16], RC (R307): Fault notifications merged under R303; saturates at 0xFFFF -/
def RES_STAT.NMERGED : Fld := ⟨0xB0028, 16, 16, .rc, fun _ => 0, fun _ => true⟩
/-- RES_STAT.WAFER [0:0], RO (R307): Wafer open (R305) -/
def RES_STAT.WAFER : Fld := ⟨0xB0028, 0, 1, .ro, fun _ => 0, fun _ => true⟩
/-- The register RES_STAT (R307): one instance. -/
def RES_STAT.reg : RegDef := ⟨"RES_STAT", 0xB0028, [], [ RES_STAT.QWAITS, RES_STAT.QLEVEL, RES_STAT.NMERGED, RES_STAT.WAFER]⟩

/-- RES_WAFER.ID [63:0], RO (R307): Identifier of the last WAFER_OPEN -/
def RES_WAFER.ID : Fld := ⟨0xB0030, 0, 64, .ro, fun _ => 0, fun _ => true⟩
/-- The register RES_WAFER (R307): one instance. -/
def RES_WAFER.reg : RegDef := ⟨"RES_WAFER", 0xB0030, [], [ RES_WAFER.ID]⟩

/-- RES_FGEN.FGEN [15:0], RO (R307): R300; wraps from 0xFFFF to 0x0000 -/
def RES_FGEN.FGEN : Fld := ⟨0xB0038, 0, 16, .ro, fun _ => 0, fun _ => true⟩
/-- The register RES_FGEN (R307): one instance. -/
def RES_FGEN.reg : RegDef := ⟨"RES_FGEN", 0xB0038, [], [ RES_FGEN.FGEN]⟩

/-- SITE_CH.NSITE [24:16], RWS (R307): Complement of [8:0] (R293) -/
def SITE_CH.NSITE : Fld := ⟨0xB1000, 16, 9, .rws, fun _ => 0x1ff, fun _ => true⟩
/-- SITE_CH.VALID [8:8], RWS (R307): Channel belongs to a site -/
def SITE_CH.VALID : Fld := ⟨0xB1000, 8, 1, .rws, fun _ => 0, fun _ => true⟩
/-- SITE_CH.SITE [7:0], RWS (R307): Site -/
def SITE_CH.SITE : Fld := ⟨0xB1000, 0, 8, .rws, fun _ => 0, fun _ => true⟩
/-- The register SITE_CH (R307): 256 at stride 0x8. -/
def SITE_CH.reg : RegDef := ⟨"SITE_CH", 0xB1000, [(0x8, 256)], [ SITE_CH.NSITE, SITE_CH.VALID, SITE_CH.SITE]⟩

/-- SITE_ACC0.MAPPED [63:63], RO (R307): Some channel maps to s in force -/
def SITE_ACC0.MAPPED : Fld := ⟨0xB2000, 63, 1, .ro, fun _ => 0, fun _ => true⟩
/-- SITE_ACC0.BINNED [62:62], RO (R307): A BIN record since WAFER_OPEN -/
def SITE_ACC0.BINNED : Fld := ⟨0xB2000, 62, 1, .ro, fun _ => 0, fun _ => true⟩
/-- SITE_ACC0.BIN [61:56], RO (R307): Bin (R299) -/
def SITE_ACC0.BIN : Fld := ⟨0xB2000, 56, 6, .ro, fun _ => 0, fun _ => true⟩
/-- SITE_ACC0.FLAGS [39:32], RO (R307): OR of record FLAGS[7:0] -/
def SITE_ACC0.FLAGS : Fld := ⟨0xB2000, 32, 8, .ro, fun _ => 0, fun _ => true⟩
/-- SITE_ACC0.RECORDS [31:0], RO (R307): Records of the site; saturates at 0xFFFF_FFFF -/
def SITE_ACC0.RECORDS : Fld := ⟨0xB2000, 0, 32, .ro, fun _ => 0, fun _ => true⟩
/-- The register SITE_ACC0 (R307): 256 at stride 0x10. -/
def SITE_ACC0.reg : RegDef := ⟨"SITE_ACC0", 0xB2000, [(0x10, 256)], [ SITE_ACC0.MAPPED, SITE_ACC0.BINNED, SITE_ACC0.BIN, SITE_ACC0.FLAGS, SITE_ACC0.RECORDS]⟩

/-- SITE_ACC1.PFAIL [63:32], RO (R307): Failed PF and PARAM records; saturates at 0xFFFF_FFFF -/
def SITE_ACC1.PFAIL : Fld := ⟨0xB2008, 32, 32, .ro, fun _ => 0, fun _ => true⟩
/-- SITE_ACC1.VFAIL [31:0], RO (R307): Sum of FCOUNT values; saturates at 0xFFFF_FFFF -/
def SITE_ACC1.VFAIL : Fld := ⟨0xB2008, 0, 32, .ro, fun _ => 0, fun _ => true⟩
/-- The register SITE_ACC1 (R307): 256 at stride 0x10. -/
def SITE_ACC1.reg : RegDef := ⟨"SITE_ACC1", 0xB2008, [(0x10, 256)], [ SITE_ACC1.PFAIL, SITE_ACC1.VFAIL]⟩

/-- SYNC_CTRL.LEAD [47:32], RW (R324): Sub-ticks from the sampling edge to B(0); 100 to 65,535; lower values reserved -/
def SYNC_CTRL.LEAD : Fld := ⟨0x40000, 32, 16, .rw, fun _ => 0x3e8, fun v => decide (100 ≤ v)⟩
/-- SYNC_CTRL.TGT [31:24], RW (R324): Skew target index, 0 to 104 (R311); higher values reserved -/
def SYNC_CTRL.TGT : Fld := ⟨0x40000, 24, 8, .rw, fun _ => 0, fun v => decide (v ≤ 104)⟩
/-- SYNC_CTRL.RETRY_MAX [19:16], RW (R324): COMMIT_RETRY_MAX, 1 to 15; 0 reserved -/
def SYNC_CTRL.RETRY_MAX : Fld := ⟨0x40000, 16, 4, .rw, fun _ => 4, fun v => v != 0⟩
/-- SYNC_CTRL.AUTO_LOCAL [5:5], RW (R324): R315 -/
def SYNC_CTRL.AUTO_LOCAL : Fld := ⟨0x40000, 5, 1, .rw, fun _ => 0, fun _ => true⟩
/-- SYNC_CTRL.HOLD_EN [4:4], RW (R324): Takes part in HOLD_N (R320) -/
def SYNC_CTRL.HOLD_EN : Fld := ⟨0x40000, 4, 1, .rw, fun _ => 1, fun _ => true⟩
/-- SYNC_CTRL.SOUT [0:0], RW (R324): 1: sync master (R312) -/
def SYNC_CTRL.SOUT : Fld := ⟨0x40000, 0, 1, .rw, fun _ => 0, fun _ => true⟩
/-- The register SYNC_CTRL (R324): one instance. -/
def SYNC_CTRL.reg : RegDef := ⟨"SYNC_CTRL", 0x40000, [], [ SYNC_CTRL.LEAD, SYNC_CTRL.TGT, SYNC_CTRL.RETRY_MAX, SYNC_CTRL.AUTO_LOCAL, SYNC_CTRL.HOLD_EN, SYNC_CTRL.SOUT]⟩

/-- SYNC_CMD.LOCAL [1:1], WO (R324): Local sync pulse (R315) -/
def SYNC_CMD.LOCAL : Fld := ⟨0x40008, 1, 1, .wo, fun _ => 0, fun _ => true⟩
/-- SYNC_CMD.ISSUE [0:0], WO (R324): Launch a sync pulse (R312) -/
def SYNC_CMD.ISSUE : Fld := ⟨0x40008, 0, 1, .wo, fun _ => 0, fun _ => true⟩
/-- The register SYNC_CMD (R324): one instance. -/
def SYNC_CMD.reg : RegDef := ⟨"SYNC_CMD", 0x40008, [], [ SYNC_CMD.LOCAL, SYNC_CMD.ISSUE]⟩

/-- SYNC_STAT.LOCAL_SCOPE [9:9], RO (R324): R323 -/
def SYNC_STAT.LOCAL_SCOPE : Fld := ⟨0x40010, 9, 1, .ro, fun _ => 0, fun _ => true⟩
/-- SYNC_STAT.HOLD_STUCK [8:8], RO (R324): R323 -/
def SYNC_STAT.HOLD_STUCK : Fld := ⟨0x40010, 8, 1, .ro, fun _ => 0, fun _ => true⟩
/-- SYNC_STAT.HOLD_IN [7:7], RO (R324): Live level of HOLD_N -/
def SYNC_STAT.HOLD_IN : Fld := ⟨0x40010, 7, 1, .ro, fun _ => 0, fun _ => true⟩
/-- SYNC_STAT.HOLD_REL [6:6], RO (R324): 1 while this module releases HOLD_N -/
def SYNC_STAT.HOLD_REL : Fld := ⟨0x40010, 6, 1, .ro, fun _ => 0, fun _ => true⟩
/-- SYNC_STAT.LEAD_RUN [4:4], RO (R324): R313 -/
def SYNC_STAT.LEAD_RUN : Fld := ⟨0x40010, 4, 1, .ro, fun _ => 0, fun _ => true⟩
/-- SYNC_STAT.REFUSED [3:3], RO (R324): Last pulse refused; cleared by the next accepted pulse -/
def SYNC_STAT.REFUSED : Fld := ⟨0x40010, 3, 1, .ro, fun _ => 0, fun _ => true⟩
/-- SYNC_STAT.SRC_LOCAL [2:2], RO (R324): Last accepted pulse was local -/
def SYNC_STAT.SRC_LOCAL : Fld := ⟨0x40010, 2, 1, .ro, fun _ => 0, fun _ => true⟩
/-- SYNC_STAT.WAIT [1:1], RO (R324): Waiting for a sync pulse (R315) -/
def SYNC_STAT.WAIT : Fld := ⟨0x40010, 1, 1, .ro, fun _ => 0, fun _ => true⟩
/-- SYNC_STAT.SYNCED [0:0], RO (R324): R313, R314 -/
def SYNC_STAT.SYNCED : Fld := ⟨0x40010, 0, 1, .ro, fun _ => 0, fun _ => true⟩
/-- The register SYNC_STAT (R324): one instance. -/
def SYNC_STAT.reg : RegDef := ⟨"SYNC_STAT", 0x40010, [], [ SYNC_STAT.LOCAL_SCOPE, SYNC_STAT.HOLD_STUCK, SYNC_STAT.HOLD_IN, SYNC_STAT.HOLD_REL, SYNC_STAT.LEAD_RUN, SYNC_STAT.REFUSED, SYNC_STAT.SRC_LOCAL, SYNC_STAT.WAIT, SYNC_STAT.SYNCED]⟩

/-- SYNC_EVCNT.PULSES [63:48], RC (R324): Accepted pulses; saturates at 0xFFFF -/
def SYNC_EVCNT.PULSES : Fld := ⟨0x40018, 48, 16, .rc, fun _ => 0, fun _ => true⟩
/-- SYNC_EVCNT.REFUSED [47:32], RC (R324): Refused pulses; saturates at 0xFFFF -/
def SYNC_EVCNT.REFUSED : Fld := ⟨0x40018, 32, 16, .rc, fun _ => 0, fun _ => true⟩
/-- SYNC_EVCNT.SLIPS [31:16], RC (R324): Commit slips; saturates at 0xFFFF -/
def SYNC_EVCNT.SLIPS : Fld := ⟨0x40018, 16, 16, .rc, fun _ => 0, fun _ => true⟩
/-- SYNC_EVCNT.FAILS [15:0], RC (R324): Discarded commits; saturates at 0xFFFF -/
def SYNC_EVCNT.FAILS : Fld := ⟨0x40018, 0, 16, .rc, fun _ => 0, fun _ => true⟩
/-- The register SYNC_EVCNT (R324): one instance. -/
def SYNC_EVCNT.reg : RegDef := ⟨"SYNC_EVCNT", 0x40018, [], [ SYNC_EVCNT.PULSES, SYNC_EVCNT.REFUSED, SYNC_EVCNT.SLIPS, SYNC_EVCNT.FAILS]⟩

/-- LINE_CAL.STATE [63:62], RO (R324): 0 never calibrated; 1 OK; 2 NO_LOOP; 3 TOO_LONG -/
def LINE_CAL.STATE : Fld := ⟨0x40040, 62, 2, .ro, fun _ => 0, fun _ => true⟩
/-- LINE_CAL.SPREAD [55:48], RO (R324): RMS spread of the round trips in 0.5 ps units; saturates at 255 -/
def LINE_CAL.SPREAD : Fld := ⟨0x40040, 48, 8, .ro, fun _ => 0, fun _ => true⟩
/-- LINE_CAL.RTT [44:24], RO (R324): Mean round trip in 0.5 ps units -/
def LINE_CAL.RTT : Fld := ⟨0x40040, 24, 21, .ro, fun _ => 0, fun _ => true⟩
/-- LINE_CAL.DLY [19:0], RO (R324): Compensation in 0.5 ps units (R310) -/
def LINE_CAL.DLY : Fld := ⟨0x40040, 0, 20, .ro, fun _ => 0, fun _ => true⟩
/-- The register LINE_CAL (R324): 9 at stride 0x8. -/
def LINE_CAL.reg : RegDef := ⟨"LINE_CAL", 0x40040, [(0x8, 9)], [ LINE_CAL.STATE, LINE_CAL.SPREAD, LINE_CAL.RTT, LINE_CAL.DLY]⟩

/-- TRG_OUT_CFG.WIDTH [63:56], RW (R324): Pulse width in sub-ticks, 1 to 255; 0 reserved -/
def TRG_OUT_CFG.WIDTH : Fld := ⟨0x40100, 56, 8, .rw, fun _ => 4, fun v => v != 0⟩
/-- TRG_OUT_CFG.CMD [47:46], WO (R324): 0 none; 1 low; 2 high; 3 pulse (R316) -/
def TRG_OUT_CFG.CMD : Fld := ⟨0x40100, 46, 2, .wo, fun _ => 0, fun _ => true⟩
/-- TRG_OUT_CFG.FIELD [39:36], RW (R324): Marker field -/
def TRG_OUT_CFG.FIELD : Fld := ⟨0x40100, 36, 4, .rw, fun _ => 0, fun _ => true⟩
/-- TRG_OUT_CFG.MBIT [33:32], RW (R324): Marker bit -/
def TRG_OUT_CFG.MBIT : Fld := ⟨0x40100, 32, 2, .rw, fun _ => 0, fun _ => true⟩
/-- TRG_OUT_CFG.SRC [2:1], RW (R324): 0 commands; 1 Sower marker; 2 DDS marker; 3 reserved -/
def TRG_OUT_CFG.SRC : Fld := ⟨0x40100, 1, 2, .rw, fun _ => 0, fun v => v != 3⟩
/-- TRG_OUT_CFG.LEVEL [0:0], RO (R324): Present output level -/
def TRG_OUT_CFG.LEVEL : Fld := ⟨0x40100, 0, 1, .ro, fun _ => 0, fun _ => true⟩
/-- The register TRG_OUT_CFG (R324): 8 at stride 0x8. -/
def TRG_OUT_CFG.reg : RegDef := ⟨"TRG_OUT_CFG", 0x40100, [(0x8, 8)], [ TRG_OUT_CFG.WIDTH, TRG_OUT_CFG.CMD, TRG_OUT_CFG.FIELD, TRG_OUT_CFG.MBIT, TRG_OUT_CFG.SRC, TRG_OUT_CFG.LEVEL]⟩

/-- TRG_IN_CFG.EDGES [47:32], RC (R324): Counted edges (R317); saturates at 0xFFFF -/
def TRG_IN_CFG.EDGES : Fld := ⟨0x40140, 32, 16, .rc, fun _ => 0, fun _ => true⟩
/-- TRG_IN_CFG.POL [1:1], RW (R324): 0 rising; 1 falling -/
def TRG_IN_CFG.POL : Fld := ⟨0x40140, 1, 1, .rw, fun _ => 0, fun _ => true⟩
/-- TRG_IN_CFG.LEVEL [0:0], RO (R324): Compensated input level -/
def TRG_IN_CFG.LEVEL : Fld := ⟨0x40140, 0, 1, .ro, fun _ => 0, fun _ => true⟩
/-- The register TRG_IN_CFG (R324): 8 at stride 0x8. -/
def TRG_IN_CFG.reg : RegDef := ⟨"TRG_IN_CFG", 0x40140, [(0x8, 8)], [ TRG_IN_CFG.EDGES, TRG_IN_CFG.POL, TRG_IN_CFG.LEVEL]⟩

/-- STAGE_GEN.GEN [15:0], RW (R324): Generation tagged onto RWS writes -/
def STAGE_GEN.GEN : Fld := ⟨0x40200, 0, 16, .rw, fun _ => 1, fun _ => true⟩
/-- The register STAGE_GEN (R324): one instance. -/
def STAGE_GEN.reg : RegDef := ⟨"STAGE_GEN", 0x40200, [], [ STAGE_GEN.GEN]⟩

/-- MODE_GEN.GEN [15:0], RO (R324): Generation in force -/
def MODE_GEN.GEN : Fld := ⟨0x40208, 0, 16, .ro, fun _ => 0, fun _ => true⟩
/-- The register MODE_GEN (R324): one instance. -/
def MODE_GEN.reg : RegDef := ⟨"MODE_GEN", 0x40208, [], [ MODE_GEN.GEN]⟩

/-- COMMIT_STAT.WCNT [63:32], RO (R324): Writes tagged MODE_GEN + 1 (R318) -/
def COMMIT_STAT.WCNT : Fld := ⟨0x40210, 32, 32, .ro, fun _ => 0, fun _ => true⟩
/-- COMMIT_STAT.SLIPS [31:28], RO (R324): Slips of the pending or last commit -/
def COMMIT_STAT.SLIPS : Fld := ⟨0x40210, 28, 4, .ro, fun _ => 0, fun _ => true⟩
/-- COMMIT_STAT.CAUSE [27:24], RO (R324): Last discard: 0 none; 1 retries; 2 RESYNC; 3 HOLD_N stuck; 4 to 15 not used -/
def COMMIT_STAT.CAUSE : Fld := ⟨0x40210, 24, 4, .ro, fun _ => 0, fun _ => true⟩
/-- COMMIT_STAT.WHY [23:20], RO (R324): Last evaluation: 0 ready; 1 write count; 2 timing table; 3 step running; 4 HOLD_N low; 5 sync lead; 6 to 15 not used -/
def COMMIT_STAT.WHY : Fld := ⟨0x40210, 20, 4, .ro, fun _ => 0, fun _ => true⟩
/-- COMMIT_STAT.STATE [19:16], RO (R324): 0 none; 1 pending; 2 last applied; 3 last discarded; 4 to 15 not used -/
def COMMIT_STAT.STATE : Fld := ⟨0x40210, 16, 4, .ro, fun _ => 0, fun _ => true⟩
/-- COMMIT_STAT.LTICK [15:0], RO (R324): TICKNO[15:0] of the target tick, or of the tick applied -/
def COMMIT_STAT.LTICK : Fld := ⟨0x40210, 0, 16, .ro, fun _ => 0, fun _ => true⟩
/-- The register COMMIT_STAT (R324): one instance. -/
def COMMIT_STAT.reg : RegDef := ⟨"COMMIT_STAT", 0x40210, [], [ COMMIT_STAT.WCNT, COMMIT_STAT.SLIPS, COMMIT_STAT.CAUSE, COMMIT_STAT.WHY, COMMIT_STAT.STATE, COMMIT_STAT.LTICK]⟩

/-- PTP_CTRL.DOMAIN [47:40], RW (R333): Domain of the ordinary clock -/
def PTP_CTRL.DOMAIN : Fld := ⟨0x50000, 40, 8, .rw, fun _ => 0, fun _ => true⟩
/-- PTP_CTRL.OFS_THR [31:16], RW (R333): Offset threshold in ns (R330) -/
def PTP_CTRL.OFS_THR : Fld := ⟨0x50000, 16, 16, .rw, fun _ => 0x3e8, fun _ => true⟩
/-- PTP_CTRL.TC_EN [1:1], RW (R333): 0: forward PTP messages uncorrected -/
def PTP_CTRL.TC_EN : Fld := ⟨0x50000, 1, 1, .rw, fun _ => 1, fun _ => true⟩
/-- PTP_CTRL.OC_EN [0:0], RW (R333): Ordinary clock enabled -/
def PTP_CTRL.OC_EN : Fld := ⟨0x50000, 0, 1, .rw, fun _ => 0, fun _ => true⟩
/-- The register PTP_CTRL (R333): one instance. -/
def PTP_CTRL.reg : RegDef := ⟨"PTP_CTRL", 0x50000, [], [ PTP_CTRL.DOMAIN, PTP_CTRL.OFS_THR, PTP_CTRL.TC_EN, PTP_CTRL.OC_EN]⟩

/-- PTP_CMD.RELOCK [0:0], WO (R333): Return to LISTENING (R330) -/
def PTP_CMD.RELOCK : Fld := ⟨0x50008, 0, 1, .wo, fun _ => 0, fun _ => true⟩
/-- The register PTP_CMD (R333): one instance. -/
def PTP_CMD.reg : RegDef := ⟨"PTP_CMD", 0x50008, [], [ PTP_CMD.RELOCK]⟩

/-- PTP_STAT.MASTER_CHG [7:7], W1C (R333): R330 -/
def PTP_STAT.MASTER_CHG : Fld := ⟨0x50010, 7, 1, .w1c, fun _ => 0, fun _ => true⟩
/-- PTP_STAT.PORT [6:6], RO (R333): Master's port: 0 ETH_A; 1 ETH_B -/
def PTP_STAT.PORT : Fld := ⟨0x50010, 6, 1, .ro, fun _ => 0, fun _ => true⟩
/-- PTP_STAT.LINK_B [5:5], RO (R333): ETH_B up -/
def PTP_STAT.LINK_B : Fld := ⟨0x50010, 5, 1, .ro, fun _ => 0, fun _ => true⟩
/-- PTP_STAT.LINK_A [4:4], RO (R333): ETH_A up -/
def PTP_STAT.LINK_A : Fld := ⟨0x50010, 4, 1, .ro, fun _ => 0, fun _ => true⟩
/-- PTP_STAT.STATE [2:0], RO (R333): 0 DISABLED; 1 LISTENING; 2 LOCKED; 3 HOLDOVER; 4 to 7 not used -/
def PTP_STAT.STATE : Fld := ⟨0x50010, 0, 3, .ro, fun _ => 0, fun _ => true⟩
/-- The register PTP_STAT (R333): one instance. -/
def PTP_STAT.reg : RegDef := ⟨"PTP_STAT", 0x50010, [], [ PTP_STAT.MASTER_CHG, PTP_STAT.PORT, PTP_STAT.LINK_B, PTP_STAT.LINK_A, PTP_STAT.STATE]⟩

/-- PTP_MASTER.CLOCKID [63:0], RO (R333): clockIdentity of the master -/
def PTP_MASTER.CLOCKID : Fld := ⟨0x50018, 0, 64, .ro, fun _ => 0, fun _ => true⟩
/-- The register PTP_MASTER (R333): one instance. -/
def PTP_MASTER.reg : RegDef := ⟨"PTP_MASTER", 0x50018, [], [ PTP_MASTER.CLOCKID]⟩

/-- PTP_OFS.MPD [63:32], RO (R333): Mean path delay, ns, unsigned -/
def PTP_OFS.MPD : Fld := ⟨0x50020, 32, 32, .ro, fun _ => 0, fun _ => true⟩
/-- PTP_OFS.OFS [31:0], RO (R333): Last offset from master, ns, signed; saturates -/
def PTP_OFS.OFS : Fld := ⟨0x50020, 0, 32, .ro, fun _ => 0, fun _ => true⟩
/-- The register PTP_OFS (R333): one instance. -/
def PTP_OFS.reg : RegDef := ⟨"PTP_OFS", 0x50020, [], [ PTP_OFS.MPD, PTP_OFS.OFS]⟩

/-- PTP_RATE.RATE [31:0], RO (R333): Signed, units of 2^−32; limited to ±200 ppm -/
def PTP_RATE.RATE : Fld := ⟨0x50028, 0, 32, .ro, fun _ => 0, fun _ => true⟩
/-- The register PTP_RATE (R333): one instance. -/
def PTP_RATE.reg : RegDef := ⟨"PTP_RATE", 0x50028, [], [ PTP_RATE.RATE]⟩

/-- PTP_NOW_S.SEC [47:0], RO (R333): Seconds -/
def PTP_NOW_S.SEC : Fld := ⟨0x50030, 0, 48, .ro, fun _ => 0, fun _ => true⟩
/-- The register PTP_NOW_S (R333): one instance. -/
def PTP_NOW_S.reg : RegDef := ⟨"PTP_NOW_S", 0x50030, [], [ PTP_NOW_S.SEC]⟩

/-- PTP_T0_S.VALID [63:63], RO (R333): PTP_T0_S only (R331); RSV in PTP_NOW_S -/
def PTP_T0_S.VALID : Fld := ⟨0x50040, 63, 1, .ro, fun _ => 0, fun _ => true⟩
/-- PTP_T0_S.SEC [47:0], RO (R333): Seconds -/
def PTP_T0_S.SEC : Fld := ⟨0x50040, 0, 48, .ro, fun _ => 0, fun _ => true⟩
/-- The register PTP_T0_S (R333): one instance. -/
def PTP_T0_S.reg : RegDef := ⟨"PTP_T0_S", 0x50040, [], [ PTP_T0_S.VALID, PTP_T0_S.SEC]⟩

/-- PTP_NOW_NS.NS [29:0], RO (R333): Nanoseconds -/
def PTP_NOW_NS.NS : Fld := ⟨0x50038, 0, 30, .ro, fun _ => 0, fun _ => true⟩
/-- The register PTP_NOW_NS (R333): one instance. -/
def PTP_NOW_NS.reg : RegDef := ⟨"PTP_NOW_NS", 0x50038, [], [ PTP_NOW_NS.NS]⟩

/-- PTP_T0_NS.NS [29:0], RO (R333): Nanoseconds -/
def PTP_T0_NS.NS : Fld := ⟨0x50048, 0, 30, .ro, fun _ => 0, fun _ => true⟩
/-- The register PTP_T0_NS (R333): one instance. -/
def PTP_T0_NS.reg : RegDef := ⟨"PTP_T0_NS", 0x50048, [], [ PTP_T0_NS.NS]⟩

/-- PTP_EVCNT.STEPS [63:48], RC (R333): Steps; saturates at 0xFFFF -/
def PTP_EVCNT.STEPS : Fld := ⟨0x50050, 48, 16, .rc, fun _ => 0, fun _ => true⟩
/-- PTP_EVCNT.HOLDOVERS [47:32], RC (R333): Entries into HOLDOVER; saturates -/
def PTP_EVCNT.HOLDOVERS : Fld := ⟨0x50050, 32, 16, .rc, fun _ => 0, fun _ => true⟩
/-- PTP_EVCNT.FU_UNMATCHED [31:16], RC (R333): R328; saturates -/
def PTP_EVCNT.FU_UNMATCHED : Fld := ⟨0x50050, 16, 16, .rc, fun _ => 0, fun _ => true⟩
/-- PTP_EVCNT.MASTER_CHGS [15:0], RC (R333): Master changes; saturates -/
def PTP_EVCNT.MASTER_CHGS : Fld := ⟨0x50050, 0, 16, .rc, fun _ => 0, fun _ => true⟩
/-- The register PTP_EVCNT (R333): one instance. -/
def PTP_EVCNT.reg : RegDef := ⟨"PTP_EVCNT", 0x50050, [], [ PTP_EVCNT.STEPS, PTP_EVCNT.HOLDOVERS, PTP_EVCNT.FU_UNMATCHED, PTP_EVCNT.MASTER_CHGS]⟩

/-- ETH_STAT.DROPS [63:48], RC (R333): Queue-full discards (R326); saturates -/
def ETH_STAT.DROPS : Fld := ⟨0x50100, 48, 16, .rc, fun _ => 0, fun _ => true⟩
/-- ETH_STAT.BAD_FCS [47:32], RC (R333): Saturates -/
def ETH_STAT.BAD_FCS : Fld := ⟨0x50100, 32, 16, .rc, fun _ => 0, fun _ => true⟩
/-- ETH_STAT.FEC_UNCORR [31:16], RC (R333): Uncorrectable codewords; saturates -/
def ETH_STAT.FEC_UNCORR : Fld := ⟨0x50100, 16, 16, .rc, fun _ => 0, fun _ => true⟩
/-- ETH_STAT.UP [0:0], RO (R333): Link up -/
def ETH_STAT.UP : Fld := ⟨0x50100, 0, 1, .ro, fun _ => 0, fun _ => true⟩
/-- The register ETH_STAT (R333): 2 at stride 0x8. -/
def ETH_STAT.reg : RegDef := ⟨"ETH_STAT", 0x50100, [(0x8, 2)], [ ETH_STAT.DROPS, ETH_STAT.BAD_FCS, ETH_STAT.FEC_UNCORR, ETH_STAT.UP]⟩

/-- HBM_CTRL.RT_DT [47:40], RW (R351): Retraining step in 0.25 °C, 4 to 255 (1.0 °C to 63.75 °C); lower values reserved (R346) -/
def HBM_CTRL.RT_DT : Fld := ⟨0x90000, 40, 8, .rw, fun _ => 0x14, fun v => decide (4 ≤ v)⟩
/-- HBM_CTRL.RPLY_MAX [35:32], RW (R351): Replays before page retirement, 1 to 15; 0 reserved (R337) -/
def HBM_CTRL.RPLY_MAX : Fld := ⟨0x90000, 32, 4, .rw, fun _ => 8, fun v => v != 0⟩
/-- The register HBM_CTRL (R351): one instance. -/
def HBM_CTRL.reg : RegDef := ⟨"HBM_CTRL", 0x90000, [], [ HBM_CTRL.RT_DT, HBM_CTRL.RPLY_MAX]⟩

/-- HBM_CMD.WAKE [1:1], WO (R351): Leave Quiet (R350) -/
def HBM_CMD.WAKE : Fld := ⟨0x90008, 1, 1, .wo, fun _ => 0, fun _ => true⟩
/-- HBM_CMD.QUIET [0:0], WO (R351): Enter Quiet (R350) -/
def HBM_CMD.QUIET : Fld := ⟨0x90008, 0, 1, .wo, fun _ => 0, fun _ => true⟩
/-- The register HBM_CMD (R351): one instance. -/
def HBM_CMD.reg : RegDef := ⟨"HBM_CMD", 0x90008, [], [ HBM_CMD.WAKE, HBM_CMD.QUIET]⟩

/-- HBM_STAT.TICK [63:48], RO (R351): TICKNO[15:0] of the last change of STATE -/
def HBM_STAT.TICK : Fld := ⟨0x90010, 48, 16, .ro, fun _ => 0, fun _ => true⟩
/-- HBM_STAT.DEG [42:38], RO (R351): Pseudo-channels DEGRADED -/
def HBM_STAT.DEG : Fld := ⟨0x90010, 38, 5, .ro, fun _ => 0, fun _ => true⟩
/-- HBM_STAT.RET [37:32], RO (R351): Pseudo-channels RETIRED, 0 to 32 -/
def HBM_STAT.RET : Fld := ⟨0x90010, 32, 6, .ro, fun _ => 0, fun _ => true⟩
/-- HBM_STAT.QREF [5:5], RO (R351): Last QUIET ignored; cleared by an accepted QUIET -/
def HBM_STAT.QREF : Fld := ⟨0x90010, 5, 1, .ro, fun _ => 0, fun _ => true⟩
/-- HBM_STAT.HOT [4:4], RO (R351): R343 -/
def HBM_STAT.HOT : Fld := ⟨0x90010, 4, 1, .ro, fun _ => 0, fun _ => true⟩
/-- HBM_STAT.STATE [2:0], RO (R351): 0 TRAINING; 1 RUN; 2 RETRAIN; 3 ENTERING; 4 QUIET; 5 EXITING; 6, 7 not used -/
def HBM_STAT.STATE : Fld := ⟨0x90010, 0, 3, .ro, fun _ => 0, fun _ => true⟩
/-- The register HBM_STAT (R351): one instance. -/
def HBM_STAT.reg : RegDef := ⟨"HBM_STAT", 0x90010, [], [ HBM_STAT.TICK, HBM_STAT.DEG, HBM_STAT.RET, HBM_STAT.QREF, HBM_STAT.HOT, HBM_STAT.STATE]⟩

/-- HBM_TEMP.TICK [63:48], RO (R351): TICKNO[15:0] of the last readout -/
def HBM_TEMP.TICK : Fld := ⟨0x90018, 48, 16, .ro, fun _ => 0, fun _ => true⟩
/-- HBM_TEMP.MAX [15:8], RC (R351): Highest readout since last read, °C -/
def HBM_TEMP.MAX : Fld := ⟨0x90018, 8, 8, .rc, fun _ => 0, fun _ => true⟩
/-- HBM_TEMP.NOW [7:0], RO (R351): Last readout, °C, signed -/
def HBM_TEMP.NOW : Fld := ⟨0x90018, 0, 8, .ro, fun _ => 0, fun _ => true⟩
/-- The register HBM_TEMP (R351): one instance. -/
def HBM_TEMP.reg : RegDef := ⟨"HBM_TEMP", 0x90018, [], [ HBM_TEMP.TICK, HBM_TEMP.MAX, HBM_TEMP.NOW]⟩

/-- HBM_MIRROR.BASE [63:15], RW (R351): Host address of the copy of page 0, 32 KiB aligned (R339) -/
def HBM_MIRROR.BASE : Fld := ⟨0x90020, 15, 49, .rw, fun _ => 0, fun _ => true⟩
/-- HBM_MIRROR.EN [0:0], RW (R351): Refetch from the mirror -/
def HBM_MIRROR.EN : Fld := ⟨0x90020, 0, 1, .rw, fun _ => 0, fun _ => true⟩
/-- The register HBM_MIRROR (R351): one instance. -/
def HBM_MIRROR.reg : RegDef := ⟨"HBM_MIRROR", 0x90020, [], [ HBM_MIRROR.BASE, HBM_MIRROR.EN]⟩

/-- HBM_REFQ.VALID [63:63], RC (R351): An entry was popped -/
def HBM_REFQ.VALID : Fld := ⟨0x90028, 63, 1, .rc, fun _ => 0, fun _ => true⟩
/-- HBM_REFQ.DEPTH [26:20], RO (R351): Entries remaining, 0 to 64; a further request waits in the controller -/
def HBM_REFQ.DEPTH : Fld := ⟨0x90028, 20, 7, .ro, fun _ => 0, fun _ => true⟩
/-- HBM_REFQ.PAGE [19:0], RC (R351): Page awaiting PAGE_REFETCH; reading removes the entry -/
def HBM_REFQ.PAGE : Fld := ⟨0x90028, 0, 20, .rc, fun _ => 0, fun _ => true⟩
/-- The register HBM_REFQ (R351): one instance. -/
def HBM_REFQ.reg : RegDef := ⟨"HBM_REFQ", 0x90028, [], [ HBM_REFQ.VALID, HBM_REFQ.DEPTH, HBM_REFQ.PAGE]⟩

/-- HBM_LOST.VALID [63:63], RC (R351): An entry was popped -/
def HBM_LOST.VALID : Fld := ⟨0x90030, 63, 1, .rc, fun _ => 0, fun _ => true⟩
/-- HBM_LOST.OWNER [59:56], RC (R351): Owner kind (R224) -/
def HBM_LOST.OWNER : Fld := ⟨0x90030, 56, 4, .rc, fun _ => 0, fun _ => true⟩
/-- HBM_LOST.UNIT [55:52], RC (R351): Owning field -/
def HBM_LOST.UNIT : Fld := ⟨0x90030, 52, 4, .rc, fun _ => 0, fun _ => true⟩
/-- HBM_LOST.TICK [47:32], RC (R351): TICKNO[15:0] of the damage -/
def HBM_LOST.TICK : Fld := ⟨0x90030, 32, 16, .rc, fun _ => 0, fun _ => true⟩
/-- HBM_LOST.PAGE [19:0], RC (R351): Damaged page (R338); log of 64 entries, reading removes the oldest; overflow keeps the oldest 64 -/
def HBM_LOST.PAGE : Fld := ⟨0x90030, 0, 20, .rc, fun _ => 0, fun _ => true⟩
/-- The register HBM_LOST (R351): one instance. -/
def HBM_LOST.reg : RegDef := ⟨"HBM_LOST", 0x90030, [], [ HBM_LOST.VALID, HBM_LOST.OWNER, HBM_LOST.UNIT, HBM_LOST.TICK, HBM_LOST.PAGE]⟩

/-- HBM_EVCNT.REPLAYS [63:48], RC (R351): R336; saturates at 0xFFFF -/
def HBM_EVCNT.REPLAYS : Fld := ⟨0x90038, 48, 16, .rc, fun _ => 0, fun _ => true⟩
/-- HBM_EVCNT.PG_RET [47:32], RC (R351): R337; saturates at 0xFFFF -/
def HBM_EVCNT.PG_RET : Fld := ⟨0x90038, 32, 16, .rc, fun _ => 0, fun _ => true⟩
/-- HBM_EVCNT.REFETCH [31:16], RC (R351): R339; saturates at 0xFFFF -/
def HBM_EVCNT.REFETCH : Fld := ⟨0x90038, 16, 16, .rc, fun _ => 0, fun _ => true⟩
/-- HBM_EVCNT.FORCED_REF [15:0], RC (R351): R343; saturates at 0xFFFF -/
def HBM_EVCNT.FORCED_REF : Fld := ⟨0x90038, 0, 16, .rc, fun _ => 0, fun _ => true⟩
/-- The register HBM_EVCNT (R351): one instance. -/
def HBM_EVCNT.reg : RegDef := ⟨"HBM_EVCNT", 0x90038, [], [ HBM_EVCNT.REPLAYS, HBM_EVCNT.PG_RET, HBM_EVCNT.REFETCH, HBM_EVCNT.FORCED_REF]⟩

/-- HBM_PORT.LAT_MAX [63:48], RC (R351): Longest grant latency in 10 ns units; saturates at 0xFFFF -/
def HBM_PORT.LAT_MAX : Fld := ⟨0x90100, 48, 16, .rc, fun _ => 0, fun _ => true⟩
/-- HBM_PORT.OVER [47:32], RC (R351): Requests beyond target; saturates at 0xFFFF -/
def HBM_PORT.OVER : Fld := ⟨0x90100, 32, 16, .rc, fun _ => 0, fun _ => true⟩
/-- HBM_PORT.TARGET [31:16], RO (R351): Latency target in 10 ns units -/
def HBM_PORT.TARGET : Fld := ⟨0x90100, 16, 16, .ro, fun a => portTarget (inst 0x90100 8 a), fun _ => true⟩
/-- The register HBM_PORT (R351): 7 at stride 0x8. -/
def HBM_PORT.reg : RegDef := ⟨"HBM_PORT", 0x90100, [(0x8, 7)], [ HBM_PORT.LAT_MAX, HBM_PORT.OVER, HBM_PORT.TARGET]⟩

/-- HBM_PC.TICK [63:48], RO (R351): TICKNO[15:0] of the last training -/
def HBM_PC.TICK : Fld := ⟨0x90200, 48, 16, .ro, fun _ => 0, fun _ => true⟩
/-- HBM_PC.TTEMP [47:40], RO (R351): Readout at the last training, °C, signed -/
def HBM_PC.TTEMP : Fld := ⟨0x90200, 40, 8, .ro, fun _ => 0, fun _ => true⟩
/-- HBM_PC.SPARE_FREE [25:13], RO (R351): Free spare frames, 0 to 4,096 -/
def HBM_PC.SPARE_FREE : Fld := ⟨0x90200, 13, 13, .ro, fun _ => 0x1000, fun _ => true⟩
/-- HBM_PC.RT_DUE [3:3], RO (R351): R346 -/
def HBM_PC.RT_DUE : Fld := ⟨0x90200, 3, 1, .ro, fun _ => 0, fun _ => true⟩
/-- HBM_PC.STATE [2:0], RO (R351): 0 OK; 1 DEGRADED; 2 EVACUATING; 3 RETIRED; 4 to 7 not used -/
def HBM_PC.STATE : Fld := ⟨0x90200, 0, 3, .ro, fun _ => 0, fun _ => true⟩
/-- The register HBM_PC (R351): 32 at stride 0x10. -/
def HBM_PC.reg : RegDef := ⟨"HBM_PC", 0x90200, [(0x10, 32)], [ HBM_PC.TICK, HBM_PC.TTEMP, HBM_PC.SPARE_FREE, HBM_PC.RT_DUE, HBM_PC.STATE]⟩

/-- HBM_EYE.NOSET [16:16], RO (R351): Last training found no usable result (R347) -/
def HBM_EYE.NOSET : Fld := ⟨0x90208, 16, 1, .ro, fun _ => 0, fun _ => true⟩
/-- HBM_EYE.RD [15:8], RO (R351): Read eye of the setting in force, 1/256 UI -/
def HBM_EYE.RD : Fld := ⟨0x90208, 8, 8, .ro, fun _ => 0, fun _ => true⟩
/-- HBM_EYE.WR [7:0], RO (R351): Write eye of the setting in force, 1/256 UI -/
def HBM_EYE.WR : Fld := ⟨0x90208, 0, 8, .ro, fun _ => 0, fun _ => true⟩
/-- The register HBM_EYE (R351): 32 at stride 0x10. -/
def HBM_EYE.reg : RegDef := ⟨"HBM_EYE", 0x90208, [(0x10, 32)], [ HBM_EYE.NOSET, HBM_EYE.RD, HBM_EYE.WR]⟩

/-- DEVID.VENDOR [63:48], RO (R376): PCI Vendor ID -/
def DEVID.VENDOR : Fld := ⟨0x0, 48, 16, .ro, fun _ => 0x1d9b, fun _ => true⟩
/-- DEVID.DEVICE [47:32], RO (R376): PCI Device ID -/
def DEVID.DEVICE : Fld := ⟨0x0, 32, 16, .ro, fun _ => 0x256, fun _ => true⟩
/-- The register DEVID (R376): one instance. -/
def DEVID.reg : RegDef := ⟨"DEVID", 0x0, [], [ DEVID.VENDOR, DEVID.DEVICE]⟩

/-- SIREV.REV [7:0], RO (R376): Silicon revision (R2) -/
def SIREV.REV : Fld := ⟨0x8, 0, 8, .ro, fun _ => 0xb0, fun _ => true⟩
/-- The register SIREV (R376): one instance. -/
def SIREV.reg : RegDef := ⟨"SIREV", 0x8, [], [ SIREV.REV]⟩

/-- FW_VER.MAJOR [63:48], RO (R376): Firmware version in force, set before READY -/
def FW_VER.MAJOR : Fld := ⟨0x18, 48, 16, .ro, fun _ => 0, fun _ => true⟩
/-- FW_VER.MINOR [47:32], RO (R376): no further words -/
def FW_VER.MINOR : Fld := ⟨0x18, 32, 16, .ro, fun _ => 0, fun _ => true⟩
/-- FW_VER.HASH [31:0], RO (R376): First 32 bits of the SHA-256 digest of the decrypted firmware image in force -/
def FW_VER.HASH : Fld := ⟨0x18, 0, 32, .ro, fun _ => 0, fun _ => true⟩
/-- The register FW_VER (R376): one instance. -/
def FW_VER.reg : RegDef := ⟨"FW_VER", 0x18, [], [ FW_VER.MAJOR, FW_VER.MINOR, FW_VER.HASH]⟩

/-- SERNO.SERNO [63:0], RO (R376): Serial number -/
def SERNO.SERNO : Fld := ⟨0x20, 0, 64, .ro, fun _ => Config.serno, fun _ => true⟩
/-- The register SERNO (R376): one instance. -/
def SERNO.reg : RegDef := ⟨"SERNO", 0x20, [], [ SERNO.SERNO]⟩

/-- BOOT_PROG.ERR [15:8], RO (R453): 0 none; 1 fuse complement; 2 self-test; 3 no valid image; 4 flash not identified; others not used -/
def BOOT_PROG.ERR : Fld := ⟨0x28, 8, 8, .ro, fun _ => 0, fun _ => true⟩
/-- BOOT_PROG.STAGE [3:0], RO (R453): R436; 15 halted; 10 to 14 not used -/
def BOOT_PROG.STAGE : Fld := ⟨0x28, 0, 4, .ro, fun _ => 0, fun _ => true⟩
/-- The register BOOT_PROG (R453): one instance. -/
def BOOT_PROG.reg : RegDef := ⟨"BOOT_PROG", 0x28, [], [ BOOT_PROG.ERR, BOOT_PROG.STAGE]⟩

/-- HQ_STAT.LINKDOWN [47:32], RC (R377): Link-down events; saturates at 0xFFFF -/
def HQ_STAT.LINKDOWN : Fld := ⟨0x1000, 32, 16, .rc, fun _ => 0, fun _ => true⟩
/-- HQ_STAT.GEN [18:16], RO (R377): Negotiated generation, 1 to 7 -/
def HQ_STAT.GEN : Fld := ⟨0x1000, 16, 3, .ro, fun _ => 0, fun _ => true⟩
/-- HQ_STAT.WIDTH [12:8], RO (R377): Negotiated width -/
def HQ_STAT.WIDTH : Fld := ⟨0x1000, 8, 5, .ro, fun _ => 0, fun _ => true⟩
/-- HQ_STAT.READY [0:0], RO (R377): R353 -/
def HQ_STAT.READY : Fld := ⟨0x1000, 0, 1, .ro, fun _ => 0, fun _ => true⟩
/-- The register HQ_STAT (R377): one instance. -/
def HQ_STAT.reg : RegDef := ⟨"HQ_STAT", 0x1000, [], [ HQ_STAT.LINKDOWN, HQ_STAT.GEN, HQ_STAT.WIDTH, HQ_STAT.READY]⟩

/-- HQ_ERR.TICK [63:48], RO (R377): TICKNO[15:0] of the last error -/
def HQ_ERR.TICK : Fld := ⟨0x1008, 48, 16, .ro, fun _ => 0, fun _ => true⟩
/-- HQ_ERR.QUEUE [45:40], RO (R377): Queue pair -/
def HQ_ERR.QUEUE : Fld := ⟨0x1008, 40, 6, .ro, fun _ => 0, fun _ => true⟩
/-- HQ_ERR.CAUSE [39:32], RO (R377): 0 none; 1 doorbell index; 2 submission fetch; 3 completion write; others not used (R363) -/
def HQ_ERR.CAUSE : Fld := ⟨0x1008, 32, 8, .ro, fun _ => 0, fun _ => true⟩
/-- HQ_ERR.CID [15:0], RO (R377): Command executing, if any -/
def HQ_ERR.CID : Fld := ⟨0x1008, 0, 16, .ro, fun _ => 0, fun _ => true⟩
/-- The register HQ_ERR (R377): one instance. -/
def HQ_ERR.reg : RegDef := ⟨"HQ_ERR", 0x1008, [], [ HQ_ERR.TICK, HQ_ERR.QUEUE, HQ_ERR.CAUSE, HQ_ERR.CID]⟩

/-- HQ_BADWR.COUNT [63:32], RC (R377): Discarded BAR0 writes (R356, R357); saturates at 0xFFFF_FFFF -/
def HQ_BADWR.COUNT : Fld := ⟨0x1010, 32, 32, .rc, fun _ => 0, fun _ => true⟩
/-- HQ_BADWR.OFFSET [24:0], RO (R377): Offset of the last one -/
def HQ_BADWR.OFFSET : Fld := ⟨0x1010, 0, 25, .ro, fun _ => 0, fun _ => true⟩
/-- The register HQ_BADWR (R377): one instance. -/
def HQ_BADWR.reg : RegDef := ⟨"HQ_BADWR", 0x1010, [], [ HQ_BADWR.COUNT, HQ_BADWR.OFFSET]⟩

/-- PTM_CTRL.INTV [47:32], RW (R377): Automatic interval in ms, 1 to 65,535; 0 reserved -/
def PTM_CTRL.INTV : Fld := ⟨0x1020, 32, 16, .rw, fun _ => 0x64, fun v => v != 0⟩
/-- PTM_CTRL.REQ [1:1], WO (R377): Request an exchange (R375) -/
def PTM_CTRL.REQ : Fld := ⟨0x1020, 1, 1, .wo, fun _ => 0, fun _ => true⟩
/-- PTM_CTRL.AUTO [0:0], RW (R377): Periodic exchanges -/
def PTM_CTRL.AUTO : Fld := ⟨0x1020, 0, 1, .rw, fun _ => 0, fun _ => true⟩
/-- The register PTM_CTRL (R377): one instance. -/
def PTM_CTRL.reg : RegDef := ⟨"PTM_CTRL", 0x1020, [], [ PTM_CTRL.INTV, PTM_CTRL.REQ, PTM_CTRL.AUTO]⟩

/-- PTM_HOST.VALUE [63:0], RO (R377): PTM_HOST: host PTM time in ns; PTM_TICK: TICKNO of the local instant -/
def PTM_HOST.VALUE : Fld := ⟨0x1028, 0, 64, .ro, fun _ => 0, fun _ => true⟩
/-- The register PTM_HOST (R377): one instance. -/
def PTM_HOST.reg : RegDef := ⟨"PTM_HOST", 0x1028, [], [ PTM_HOST.VALUE]⟩

/-- PTM_TICK.VALUE [63:0], RO (R377): PTM_HOST: host PTM time in ns; PTM_TICK: TICKNO of the local instant -/
def PTM_TICK.VALUE : Fld := ⟨0x1030, 0, 64, .ro, fun _ => 0, fun _ => true⟩
/-- The register PTM_TICK (R377): one instance. -/
def PTM_TICK.reg : RegDef := ⟨"PTM_TICK", 0x1030, [], [ PTM_TICK.VALUE]⟩

/-- PTM_STAT.COUNT [63:48], RO (R377): Exchanges completed; wraps -/
def PTM_STAT.COUNT : Fld := ⟨0x1038, 48, 16, .ro, fun _ => 0, fun _ => true⟩
/-- PTM_STAT.VALID [32:32], RO (R377): R375 -/
def PTM_STAT.VALID : Fld := ⟨0x1038, 32, 1, .ro, fun _ => 0, fun _ => true⟩
/-- PTM_STAT.OFS [31:0], RO (R377): Local instant after B(PTM_TICK), 0.5 ns units -/
def PTM_STAT.OFS : Fld := ⟨0x1038, 0, 32, .ro, fun _ => 0, fun _ => true⟩
/-- The register PTM_STAT (R377): one instance. -/
def PTM_STAT.reg : RegDef := ⟨"PTM_STAT", 0x1038, [], [ PTM_STAT.COUNT, PTM_STAT.VALID, PTM_STAT.OFS]⟩

/-- Q_SQBASE.ADDR [63:6], RW (R377): Host address of entry 0; 64-byte aligned in both registers (R362) -/
def Q_SQBASE.ADDR : Fld := ⟨0x1100, 6, 58, .rw, fun _ => 0, fun _ => true⟩
/-- The register Q_SQBASE (R377): 64 at stride 0x20. -/
def Q_SQBASE.reg : RegDef := ⟨"Q_SQBASE", 0x1100, [(0x20, 64)], [ Q_SQBASE.ADDR]⟩

/-- Q_CQBASE.ADDR [63:6], RW (R377): Host address of entry 0; 64-byte aligned in both registers (R362) -/
def Q_CQBASE.ADDR : Fld := ⟨0x1108, 6, 58, .rw, fun _ => 0, fun _ => true⟩
/-- The register Q_CQBASE (R377): 64 at stride 0x20. -/
def Q_CQBASE.reg : RegDef := ⟨"Q_CQBASE", 0x1108, [(0x20, 64)], [ Q_CQBASE.ADDR]⟩

/-- Q_CFG.CQ_LOG2 [20:16], RW (R377): CQ of 2^CQ_LOG2 entries, 4 to 16; others reserved -/
def Q_CFG.CQ_LOG2 : Fld := ⟨0x1110, 16, 5, .rw, fun _ => 6, fun v => decide (4 ≤ v ∧ v ≤ 16)⟩
/-- Q_CFG.SQ_LOG2 [12:8], RW (R377): SQ of 2^SQ_LOG2 entries, 4 to 16; others reserved -/
def Q_CFG.SQ_LOG2 : Fld := ⟨0x1110, 8, 5, .rw, fun _ => 6, fun v => decide (4 ≤ v ∧ v ≤ 16)⟩
/-- Q_CFG.EN [0:0], RW (R377): Pair enabled (R362) -/
def Q_CFG.EN : Fld := ⟨0x1110, 0, 1, .rw, fun _ => 0, fun _ => true⟩
/-- The register Q_CFG (R377): 64 at stride 0x20. -/
def Q_CFG.reg : RegDef := ⟨"Q_CFG", 0x1110, [(0x20, 64)], [ Q_CFG.CQ_LOG2, Q_CFG.SQ_LOG2, Q_CFG.EN]⟩

/-- Q_STAT.SQ_HEAD [63:48], RO (R377): Next entry to fetch -/
def Q_STAT.SQ_HEAD : Fld := ⟨0x1118, 48, 16, .ro, fun _ => 0, fun _ => true⟩
/-- Q_STAT.CQ_TAIL [47:32], RO (R377): Next entry to write -/
def Q_STAT.CQ_TAIL : Fld := ⟨0x1118, 32, 16, .ro, fun _ => 0, fun _ => true⟩
/-- Q_STAT.LAST_CODE [31:24], RO (R377): STATUS of the last completion -/
def Q_STAT.LAST_CODE : Fld := ⟨0x1118, 24, 8, .ro, fun _ => 0, fun _ => true⟩
/-- Q_STAT.STATE [2:0], RO (R377): 0 disabled; 1 idle; 2 executing; 3 waiting (R365); 4 CQ_FULL; 5 ERROR; 6, 7 not used -/
def Q_STAT.STATE : Fld := ⟨0x1118, 0, 3, .ro, fun _ => 0, fun _ => true⟩
/-- The register Q_STAT (R377): 64 at stride 0x20. -/
def Q_STAT.reg : RegDef := ⟨"Q_STAT", 0x1118, [(0x20, 64)], [ Q_STAT.SQ_HEAD, Q_STAT.CQ_TAIL, Q_STAT.LAST_CODE, Q_STAT.STATE]⟩

/-- Q_SQDB.INDEX [15:0], RW (R377): Q_SQDB: SQ tail written by the host; Q_CQDB: CQ head consumed by the host -/
def Q_SQDB.INDEX : Fld := ⟨0x2000, 0, 16, .rw, fun _ => 0, fun _ => true⟩
/-- The register Q_SQDB (R377): 64 at stride 0x10. -/
def Q_SQDB.reg : RegDef := ⟨"Q_SQDB", 0x2000, [(0x10, 64)], [ Q_SQDB.INDEX]⟩

/-- Q_CQDB.INDEX [15:0], RW (R377): Q_SQDB: SQ tail written by the host; Q_CQDB: CQ head consumed by the host -/
def Q_CQDB.INDEX : Fld := ⟨0x2008, 0, 16, .rw, fun _ => 0, fun _ => true⟩
/-- The register Q_CQDB (R377): 64 at stride 0x10. -/
def Q_CQDB.reg : RegDef := ⟨"Q_CQDB", 0x2008, [(0x10, 64)], [ Q_CQDB.INDEX]⟩

/-- OPSTAT.STATE [63:60], RO (R377): 0 FREE; 1 QUEUED; 2 RUNNING; 3 DONE; 4 FAILED; 5 to 15 not used -/
def OPSTAT.STATE : Fld := ⟨0x3000, 60, 4, .ro, fun _ => 0, fun _ => true⟩
/-- OPSTAT.FREE [59:59], WO (R377): Writing 1 frees a DONE or FAILED slot (R367) -/
def OPSTAT.FREE : Fld := ⟨0x3000, 59, 1, .wo, fun _ => 0, fun _ => true⟩
/-- OPSTAT.OPC [55:48], RO (R377): Command of the slot -/
def OPSTAT.OPC : Fld := ⟨0x3000, 48, 8, .ro, fun _ => 0, fun _ => true⟩
/-- OPSTAT.PCT [47:40], RO (R377): Percent done, 0 to 100 -/
def OPSTAT.PCT : Fld := ⟨0x3000, 40, 8, .ro, fun _ => 0, fun _ => true⟩
/-- OPSTAT.NPART [39:24], RO (R377): Partial results visible (R368) -/
def OPSTAT.NPART : Fld := ⟨0x3000, 24, 16, .ro, fun _ => 0, fun _ => true⟩
/-- OPSTAT.ERR [23:16], RO (R377): Completion code of a FAILED operation (R366) -/
def OPSTAT.ERR : Fld := ⟨0x3000, 16, 8, .ro, fun _ => 0, fun _ => true⟩
/-- OPSTAT.TICK [15:0], RO (R377): TICKNO[15:0] of the last update -/
def OPSTAT.TICK : Fld := ⟨0x3000, 0, 16, .ro, fun _ => 0, fun _ => true⟩
/-- The register OPSTAT (R377): 256 at stride 0x8. -/
def OPSTAT.reg : RegDef := ⟨"OPSTAT", 0x3000, [(0x8, 256)], [ OPSTAT.STATE, OPSTAT.FREE, OPSTAT.OPC, OPSTAT.PCT, OPSTAT.NPART, OPSTAT.ERR, OPSTAT.TICK]⟩

/-- OPRES.VALUE [63:0], RO (R377): Partial result word j (R368); zero when the slot is FREE -/
def OPRES.VALUE : Fld := ⟨0x4000, 0, 64, .ro, fun _ => 0, fun _ => true⟩
/-- The register OPRES (R377): 256 at stride 0x80 by 16 at stride 0x8. -/
def OPRES.reg : RegDef := ⟨"OPRES", 0x4000, [(0x80, 256), (0x8, 16)], [ OPRES.VALUE]⟩

/-- IC_PEND.BITS [63:0], W1C (R390): Bit b is source 64i + b. PEND: pending (R379). EN: enabled. SET, CLR: each 1 sets or clears that enable bit (R389) -/
def IC_PEND.BITS : Fld := ⟨0x10100, 0, 64, .w1c, fun _ => 0, fun _ => true⟩
/-- The register IC_PEND (R390): 16 at stride 0x8. -/
def IC_PEND.reg : RegDef := ⟨"IC_PEND", 0x10100, [(0x8, 16)], [ IC_PEND.BITS]⟩

/-- IC_EN.BITS [63:0], RW (R390): Bit b is source 64i + b. PEND: pending (R379). EN: enabled. SET, CLR: each 1 sets or clears that enable bit (R389) -/
def IC_EN.BITS : Fld := ⟨0x10180, 0, 64, .rw, fun _ => 0, fun _ => true⟩
/-- The register IC_EN (R390): 16 at stride 0x8. -/
def IC_EN.reg : RegDef := ⟨"IC_EN", 0x10180, [(0x8, 16)], [ IC_EN.BITS]⟩

/-- IC_EN_SET.BITS [63:0], WO (R390): Bit b is source 64i + b. PEND: pending (R379). EN: enabled. SET, CLR: each 1 sets or clears that enable bit (R389) -/
def IC_EN_SET.BITS : Fld := ⟨0x10200, 0, 64, .wo, fun _ => 0, fun _ => true⟩
/-- The register IC_EN_SET (R390): 16 at stride 0x8. -/
def IC_EN_SET.reg : RegDef := ⟨"IC_EN_SET", 0x10200, [(0x8, 16)], [ IC_EN_SET.BITS]⟩

/-- IC_EN_CLR.BITS [63:0], WO (R390): Bit b is source 64i + b. PEND: pending (R379). EN: enabled. SET, CLR: each 1 sets or clears that enable bit (R389) -/
def IC_EN_CLR.BITS : Fld := ⟨0x10280, 0, 64, .wo, fun _ => 0, fun _ => true⟩
/-- The register IC_EN_CLR (R390): 16 at stride 0x8. -/
def IC_EN_CLR.reg : RegDef := ⟨"IC_EN_CLR", 0x10280, [(0x8, 16)], [ IC_EN_CLR.BITS]⟩

/-- IC_RAISE.SRC [9:0], WO (R390): Software-event source to raise (R380) -/
def IC_RAISE.SRC : Fld := ⟨0x10300, 0, 10, .wo, fun _ => 0, fun _ => true⟩
/-- The register IC_RAISE (R390): one instance. -/
def IC_RAISE.reg : RegDef := ⟨"IC_RAISE", 0x10300, [], [ IC_RAISE.SRC]⟩

/-- IC_MOD.HOLDOFF [47:32], RW (R390): Ticks; 0 means no holdoff (R385) -/
def IC_MOD.HOLDOFF : Fld := ⟨0x10400, 32, 16, .rw, fun _ => 0, fun _ => true⟩
/-- IC_MOD.COUNT [7:0], RW (R390): Early-fire threshold, 1 to 255; 0 reserved -/
def IC_MOD.COUNT : Fld := ⟨0x10400, 0, 8, .rw, fun _ => 1, fun v => v != 0⟩
/-- The register IC_MOD (R390): 8 at stride 0x8. -/
def IC_MOD.reg : RegDef := ⟨"IC_MOD", 0x10400, [(0x8, 8)], [ IC_MOD.HOLDOFF, IC_MOD.COUNT]⟩

/-- IC_VEC.HC [63:48], RO (R390): Holdoff ticks remaining -/
def IC_VEC.HC : Fld := ⟨0x10500, 48, 16, .ro, fun _ => 0, fun _ => true⟩
/-- IC_VEC.ARR [47:40], RO (R390): Arrivals since the last message (R383) -/
def IC_VEC.ARR : Fld := ⟨0x10500, 40, 8, .ro, fun _ => 0, fun _ => true⟩
/-- IC_VEC.NVALID [32:32], RO (R390): Some enabled source routed to v is pending -/
def IC_VEC.NVALID : Fld := ⟨0x10500, 32, 1, .ro, fun _ => 0, fun _ => true⟩
/-- IC_VEC.NEXT [25:16], RO (R390): Lowest such source; 0 when NVALID is 0 -/
def IC_VEC.NEXT : Fld := ⟨0x10500, 16, 10, .ro, fun _ => 0, fun _ => true⟩
/-- IC_VEC.HELD [4:4], RO (R390): Message held by moderation (R385) -/
def IC_VEC.HELD : Fld := ⟨0x10500, 4, 1, .ro, fun _ => 0, fun _ => true⟩
/-- IC_VEC.CLASS [2:0], RW (R390): Moderation class -/
def IC_VEC.CLASS : Fld := ⟨0x10500, 0, 3, .rw, fun _ => 0, fun _ => true⟩
/-- The register IC_VEC (R390): 64 at stride 0x8. -/
def IC_VEC.reg : RegDef := ⟨"IC_VEC", 0x10500, [(0x8, 64)], [ IC_VEC.HC, IC_VEC.ARR, IC_VEC.NVALID, IC_VEC.NEXT, IC_VEC.HELD, IC_VEC.CLASS]⟩

/-- IC_HOSTIDLE.BITS [63:0], RO (R390): Bit v: vector v idle (R386); SET and CLR set or clear each bit written as 1 -/
def IC_HOSTIDLE.BITS : Fld := ⟨0x10700, 0, 64, .ro, fun _ => 0, fun _ => true⟩
/-- The register IC_HOSTIDLE (R390): one instance. -/
def IC_HOSTIDLE.reg : RegDef := ⟨"IC_HOSTIDLE", 0x10700, [], [ IC_HOSTIDLE.BITS]⟩

/-- IC_HOSTIDLE_SET.BITS [63:0], WO (R390): Bit v: vector v idle (R386); SET and CLR set or clear each bit written as 1 -/
def IC_HOSTIDLE_SET.BITS : Fld := ⟨0x10708, 0, 64, .wo, fun _ => 0, fun _ => true⟩
/-- The register IC_HOSTIDLE_SET (R390): one instance. -/
def IC_HOSTIDLE_SET.reg : RegDef := ⟨"IC_HOSTIDLE_SET", 0x10708, [], [ IC_HOSTIDLE_SET.BITS]⟩

/-- IC_HOSTIDLE_CLR.BITS [63:0], WO (R390): Bit v: vector v idle (R386); SET and CLR set or clear each bit written as 1 -/
def IC_HOSTIDLE_CLR.BITS : Fld := ⟨0x10710, 0, 64, .wo, fun _ => 0, fun _ => true⟩
/-- The register IC_HOSTIDLE_CLR (R390): one instance. -/
def IC_HOSTIDLE_CLR.reg : RegDef := ⟨"IC_HOSTIDLE_CLR", 0x10710, [], [ IC_HOSTIDLE_CLR.BITS]⟩

/-- IC_CNT.CNT [63:0], RC (R390): Counter of source 8j + b in [8b+7:8b]; saturates at 255 (R379, R389) -/
def IC_CNT.CNT : Fld := ⟨0x11000, 0, 64, .rc, fun _ => 0, fun _ => true⟩
/-- The register IC_CNT (R390): 128 at stride 0x8. -/
def IC_CNT.reg : RegDef := ⟨"IC_CNT", 0x11000, [(0x8, 128)], [ IC_CNT.CNT]⟩

/-- IC_ROUTE.TARGET [6:0], RW (R390): Target 0 to 81 (R381); reset T18, vector 0 -/
def IC_ROUTE.TARGET : Fld := ⟨0x12000, 0, 7, .rw, fun _ => 0x12, fun v => decide (v ≤ 81)⟩
/-- The register IC_ROUTE (R390): 1024 at stride 0x8. -/
def IC_ROUTE.reg : RegDef := ⟨"IC_ROUTE", 0x12000, [(0x8, 1024)], [ IC_ROUTE.TARGET]⟩

/-- FC_STICKY.BITS [63:0], W1C (R412): Bit b is source 64i + b (R393) -/
def FC_STICKY.BITS : Fld := ⟨0x20000, 0, 64, .w1c, fun _ => 0, fun _ => true⟩
/-- The register FC_STICKY (R412): 10 at stride 0x8. -/
def FC_STICKY.reg : RegDef := ⟨"FC_STICKY", 0x20000, [(0x8, 10)], [ FC_STICKY.BITS]⟩

/-- FC_LIVE.BITS [63:0], RO (R412): Bit b is source 64i + b (R393) -/
def FC_LIVE.BITS : Fld := ⟨0x20080, 0, 64, .ro, fun _ => 0, fun _ => true⟩
/-- The register FC_LIVE (R412): 10 at stride 0x8. -/
def FC_LIVE.reg : RegDef := ⟨"FC_LIVE", 0x20080, [(0x8, 10)], [ FC_LIVE.BITS]⟩

/-- FC_CTRL.ALIVE_SCOPE [0:0], RW (R412): R404 -/
def FC_CTRL.ALIVE_SCOPE : Fld := ⟨0x20100, 0, 1, .rw, fun _ => 0, fun _ => true⟩
/-- The register FC_CTRL (R412): one instance. -/
def FC_CTRL.reg : RegDef := ⟨"FC_CTRL", 0x20100, [], [ FC_CTRL.ALIVE_SCOPE]⟩

/-- FC_FIRST.STATE [63:62], RO (R412): 0 no reaction; 1 reacting; 2 Grave held; 3 not used -/
def FC_FIRST.STATE : Fld := ⟨0x20108, 62, 2, .ro, fun _ => 0, fun _ => true⟩
/-- FC_FIRST.CLASS [61:60], RO (R412): Class of the reaction: 1 Degraded; 2 Severe; 3 Grave. Code 0, Notice, is used by FC_CFG, the journal and SP_STAT, and no reaction has that class (R401) -/
def FC_FIRST.CLASS : Fld := ⟨0x20108, 60, 2, .ro, fun _ => 0, fun _ => true⟩
/-- FC_FIRST.SCOPE [57:56], RO (R412): 0 slice; 1 regulator; 2 field; 3 module -/
def FC_FIRST.SCOPE : Fld := ⟨0x20108, 56, 2, .ro, fun _ => 0, fun _ => true⟩
/-- FC_FIRST.UNIT [48:40], RO (R412): Slice, regulator or field number -/
def FC_FIRST.UNIT : Fld := ⟨0x20108, 40, 9, .ro, fun _ => 0, fun _ => true⟩
/-- FC_FIRST.MERGED [39:32], RO (R412): Merged events (R401); saturates at 255; cleared by the next reaction -/
def FC_FIRST.MERGED : Fld := ⟨0x20108, 32, 8, .ro, fun _ => 0, fun _ => true⟩
/-- FC_FIRST.SOURCE [25:16], RO (R412): First source of the reaction -/
def FC_FIRST.SOURCE : Fld := ⟨0x20108, 16, 10, .ro, fun _ => 0, fun _ => true⟩
/-- FC_FIRST.TICK [15:0], RO (R412): TICKNO[15:0] of the first event -/
def FC_FIRST.TICK : Fld := ⟨0x20108, 0, 16, .ro, fun _ => 0, fun _ => true⟩
/-- The register FC_FIRST (R412): one instance. -/
def FC_FIRST.reg : RegDef := ⟨"FC_FIRST", 0x20108, [], [ FC_FIRST.STATE, FC_FIRST.CLASS, FC_FIRST.SCOPE, FC_FIRST.UNIT, FC_FIRST.MERGED, FC_FIRST.SOURCE, FC_FIRST.TICK]⟩

/-- FC_RECOVER.GO [63:63], WO (R412): Writing 1 requests recovery (R403) -/
def FC_RECOVER.GO : Fld := ⟨0x20110, 63, 1, .wo, fun _ => 0, fun _ => true⟩
/-- FC_RECOVER.SCOPE [49:48], RW (R412): 0 slice; 1 regulator; 2 field; 3 module -/
def FC_RECOVER.SCOPE : Fld := ⟨0x20110, 48, 2, .rw, fun _ => 0, fun _ => true⟩
/-- FC_RECOVER.UNIT [40:32], RW (R412): Unit number; with SCOPE field, 16 names sequencer 16 before a takeover (R403) -/
def FC_RECOVER.UNIT : Fld := ⟨0x20110, 32, 9, .rw, fun _ => 0, fun _ => true⟩
/-- FC_RECOVER.RESULT [2:0], RO (R412): 0 none; 1 done; 2 not idle; 3 live fault; 4 complement mismatch; 5 not bolted at the scope named; 6 Grave; 7 not used (R403) -/
def FC_RECOVER.RESULT : Fld := ⟨0x20110, 0, 3, .ro, fun _ => 0, fun _ => true⟩
/-- The register FC_RECOVER (R412): one instance. -/
def FC_RECOVER.reg : RegDef := ⟨"FC_RECOVER", 0x20110, [], [ FC_RECOVER.GO, FC_RECOVER.SCOPE, FC_RECOVER.UNIT, FC_RECOVER.RESULT]⟩

/-- FC_ALIVE.STOPS [47:32], RC (R412): Stops of ALIVE; saturates at 0xFFFF -/
def FC_ALIVE.STOPS : Fld := ⟨0x20118, 32, 16, .rc, fun _ => 0, fun _ => true⟩
/-- FC_ALIVE.LEVEL [3:3], RO (R412): Present level of ALIVE -/
def FC_ALIVE.LEVEL : Fld := ⟨0x20118, 3, 1, .ro, fun _ => 0, fun _ => true⟩
/-- FC_ALIVE.HB [2:2], RO (R412): Heartbeat present -/
def FC_ALIVE.HB : Fld := ⟨0x20118, 2, 1, .ro, fun _ => 0, fun _ => true⟩
/-- FC_ALIVE.STATE [1:0], RO (R412): 0 toggling; 1 stopped high; 2 stopped low; 3 holding (no heartbeat) -/
def FC_ALIVE.STATE : Fld := ⟨0x20118, 0, 2, .ro, fun _ => 3, fun _ => true⟩
/-- The register FC_ALIVE (R412): one instance. -/
def FC_ALIVE.reg : RegDef := ⟨"FC_ALIVE", 0x20118, [], [ FC_ALIVE.STOPS, FC_ALIVE.LEVEL, FC_ALIVE.HB, FC_ALIVE.STATE]⟩

/-- FC_CFG.NCFG [63:32], RW (R412): R397 -/
def FC_CFG.NCFG : Fld := ⟨0x21000, 32, 32, .rw, fun a => 0xFFFFFFFF - fcCfgReset (inst 0x21000 8 a), fun _ => true⟩
/-- FC_CFG.WIN [31:16], RW (R412): Drain interval in ticks, 1 to 65,535; 0 reserved -/
def FC_CFG.WIN : Fld := ⟨0x21000, 16, 16, .rw, fun a => fcWin (inst 0x21000 8 a), fun v => v != 0⟩
/-- FC_CFG.N [15:8], RW (R412): Promotion threshold; 0 never -/
def FC_CFG.N : Fld := ⟨0x21000, 8, 8, .rw, fun a => fcN (inst 0x21000 8 a), fun _ => true⟩
/-- FC_CFG.SCOPE [5:4], RW (R412): 0 own unit; 1 field; 2 module; 3 reserved -/
def FC_CFG.SCOPE : Fld := ⟨0x21000, 4, 2, .rw, fun a => fcScope (inst 0x21000 8 a), fun v => v != 3⟩
/-- FC_CFG.PROMO [3:2], RW (R412): Class codes as FC_FIRST.CLASS -/
def FC_CFG.PROMO : Fld := ⟨0x21000, 2, 2, .rw, fun a => fcPromo (inst 0x21000 8 a), fun _ => true⟩
/-- FC_CFG.BASE [1:0], RW (R412): no further words -/
def FC_CFG.BASE : Fld := ⟨0x21000, 0, 2, .rw, fun a => fcBase (inst 0x21000 8 a), fun _ => true⟩
/-- The register FC_CFG (R412): 640 at stride 0x8. -/
def FC_CFG.reg : RegDef := ⟨"FC_CFG", 0x21000, [(0x8, 640)], [ FC_CFG.NCFG, FC_CFG.WIN, FC_CFG.N, FC_CFG.SCOPE, FC_CFG.PROMO, FC_CFG.BASE]⟩

/-- FC_STATE.CAUSE [63:56], W1C (R412): Bit 56 + c: cause c seen (R392) -/
def FC_STATE.CAUSE : Fld := ⟨0x23000, 56, 8, .w1c, fun _ => 0, fun _ => true⟩
/-- FC_STATE.BUCKET [55:48], RO (R412): R394 -/
def FC_STATE.BUCKET : Fld := ⟨0x23000, 48, 8, .ro, fun _ => 0, fun _ => true⟩
/-- FC_STATE.HELD [41:40], RO (R412): 0 none; 1 Degraded held; 2 bolted; 3 Grave -/
def FC_STATE.HELD : Fld := ⟨0x23000, 40, 2, .ro, fun _ => 0, fun _ => true⟩
/-- FC_STATE.LIVE [32:32], RO (R412): As FC_LIVE -/
def FC_STATE.LIVE : Fld := ⟨0x23000, 32, 1, .ro, fun _ => 0, fun _ => true⟩
/-- FC_STATE.EVENTS [31:16], RC (R412): Saturates at 0xFFFF -/
def FC_STATE.EVENTS : Fld := ⟨0x23000, 16, 16, .rc, fun _ => 0, fun _ => true⟩
/-- FC_STATE.TICK [15:0], RO (R412): TICKNO[15:0] of the last event -/
def FC_STATE.TICK : Fld := ⟨0x23000, 0, 16, .ro, fun _ => 0, fun _ => true⟩
/-- The register FC_STATE (R412): 640 at stride 0x8. -/
def FC_STATE.reg : RegDef := ⟨"FC_STATE", 0x23000, [(0x8, 640)], [ FC_STATE.CAUSE, FC_STATE.BUCKET, FC_STATE.HELD, FC_STATE.LIVE, FC_STATE.EVENTS, FC_STATE.TICK]⟩

/-- RM_CTRL.WEAR_N [47:40], RW (R413): R406; 0 reserved -/
def RM_CTRL.WEAR_N : Fld := ⟨0xA0000, 40, 8, .rw, fun _ => 4, fun v => v != 0⟩
/-- RM_CTRL.DRIFT [3:3], RW (R413): Drift judges wear -/
def RM_CTRL.DRIFT : Fld := ⟨0xA0000, 3, 1, .rw, fun _ => 1, fun _ => true⟩
/-- RM_CTRL.AUTO_SEQ [2:2], RW (R413): R407 -/
def RM_CTRL.AUTO_SEQ : Fld := ⟨0xA0000, 2, 1, .rw, fun _ => 1, fun _ => true⟩
/-- RM_CTRL.AUTO_DPS [1:1], RW (R413): no further words -/
def RM_CTRL.AUTO_DPS : Fld := ⟨0xA0000, 1, 1, .rw, fun _ => 1, fun _ => true⟩
/-- RM_CTRL.AUTO_SLC [0:0], RW (R413): no further words -/
def RM_CTRL.AUTO_SLC : Fld := ⟨0xA0000, 0, 1, .rw, fun _ => 1, fun _ => true⟩
/-- The register RM_CTRL (R413): one instance. -/
def RM_CTRL.reg : RegDef := ⟨"RM_CTRL", 0xA0000, [], [ RM_CTRL.WEAR_N, RM_CTRL.DRIFT, RM_CTRL.AUTO_SEQ, RM_CTRL.AUTO_DPS, RM_CTRL.AUTO_SLC]⟩

/-- RM_CMD.GO [63:63], WO (R413): Request substitution at the next opportunity -/
def RM_CMD.GO : Fld := ⟨0xA0008, 63, 1, .wo, fun _ => 0, fun _ => true⟩
/-- RM_CMD.KIND [49:48], WO (R413): 0 slice; 1 regulator; 2 sequencer; 3 reserved -/
def RM_CMD.KIND : Fld := ⟨0xA0008, 48, 2, .wo, fun _ => 0, fun v => v != 3⟩
/-- RM_CMD.UNIT [40:32], WO (R413): Slice, regulator or sequencer -/
def RM_CMD.UNIT : Fld := ⟨0xA0008, 32, 9, .wo, fun _ => 0, fun _ => true⟩
/-- The register RM_CMD (R413): one instance. -/
def RM_CMD.reg : RegDef := ⟨"RM_CMD", 0xA0008, [], [ RM_CMD.GO, RM_CMD.KIND, RM_CMD.UNIT]⟩

/-- RM_STAT.MAPSEQ [63:32], RO (R413): Sequence number in force -/
def RM_STAT.MAPSEQ : Fld := ⟨0xA0010, 32, 32, .ro, fun _ => 0, fun _ => true⟩
/-- RM_STAT.SPARE_SLC [31:24], RO (R413): Free spare slices -/
def RM_STAT.SPARE_SLC : Fld := ⟨0xA0010, 24, 8, .ro, fun _ => 0x10, fun _ => true⟩
/-- RM_STAT.SPARE_DPS [23:22], RO (R413): Free spare regulators -/
def RM_STAT.SPARE_DPS : Fld := ⟨0xA0010, 22, 2, .ro, fun _ => 2, fun _ => true⟩
/-- RM_STAT.SPARE_SEQ [21:21], RO (R413): Spare sequencer free -/
def RM_STAT.SPARE_SEQ : Fld := ⟨0xA0010, 21, 1, .ro, fun _ => 1, fun _ => true⟩
/-- RM_STAT.SAVE_FAIL [1:1], RO (R413): Last save failed -/
def RM_STAT.SAVE_FAIL : Fld := ⟨0xA0010, 1, 1, .ro, fun _ => 0, fun _ => true⟩
/-- RM_STAT.SAVE_PEND [0:0], RO (R413): R409 -/
def RM_STAT.SAVE_PEND : Fld := ⟨0xA0010, 0, 1, .ro, fun _ => 0, fun _ => true⟩
/-- The register RM_STAT (R413): one instance. -/
def RM_STAT.reg : RegDef := ⟨"RM_STAT", 0xA0010, [], [ RM_STAT.MAPSEQ, RM_STAT.SPARE_SLC, RM_STAT.SPARE_DPS, RM_STAT.SPARE_SEQ, RM_STAT.SAVE_FAIL, RM_STAT.SAVE_PEND]⟩

/-- RM_LAST.KIND [63:60], RO (R413): 0 slice; 1 regulator; 2 sequencer; 3 patch row; 4 directory row; 5 lane; 6 pseudo-channel; others not used -/
def RM_LAST.KIND : Fld := ⟨0xA0018, 60, 4, .ro, fun _ => 0, fun _ => true⟩
/-- RM_LAST.RESULT [59:56], RO (R413): 0 done; 1 deferred; 2 no spare; 3 abandoned on copy error -/
def RM_LAST.RESULT : Fld := ⟨0xA0018, 56, 4, .ro, fun _ => 0, fun _ => true⟩
/-- RM_LAST.DISPLACED [55:48], RO (R413): Displaced owner code (R26) -/
def RM_LAST.DISPLACED : Fld := ⟨0xA0018, 48, 8, .ro, fun _ => 0, fun _ => true⟩
/-- RM_LAST.UNIT [40:32], RO (R413): Worn unit, row, lane or pseudo-channel -/
def RM_LAST.UNIT : Fld := ⟨0xA0018, 32, 9, .ro, fun _ => 0, fun _ => true⟩
/-- RM_LAST.SPARE [24:16], RO (R413): Spare brought in -/
def RM_LAST.SPARE : Fld := ⟨0xA0018, 16, 9, .ro, fun _ => 0, fun _ => true⟩
/-- RM_LAST.TICK [15:0], RO (R413): TICKNO[15:0] -/
def RM_LAST.TICK : Fld := ⟨0xA0018, 0, 16, .ro, fun _ => 0, fun _ => true⟩
/-- The register RM_LAST (R413): one instance. -/
def RM_LAST.reg : RegDef := ⟨"RM_LAST", 0xA0018, [], [ RM_LAST.KIND, RM_LAST.RESULT, RM_LAST.DISPLACED, RM_LAST.UNIT, RM_LAST.SPARE, RM_LAST.TICK]⟩

/-- RM_CHMAP.NOSPARE [63:48], RO (R413): Bit 48 + k: channel k worn with no spare -/
def RM_CHMAP.NOSPARE : Fld := ⟨0xA0100, 48, 16, .ro, fun _ => 0, fun _ => true⟩
/-- RM_CHMAP.SUB [8:8], RO (R413): Slice 17f + 16 serves channel 16f + K -/
def RM_CHMAP.SUB : Fld := ⟨0xA0100, 8, 1, .ro, fun _ => 0, fun _ => true⟩
/-- RM_CHMAP.K [3:0], RO (R413): Substituted channel -/
def RM_CHMAP.K : Fld := ⟨0xA0100, 0, 4, .ro, fun _ => 0, fun _ => true⟩
/-- The register RM_CHMAP (R413): 16 at stride 0x8. -/
def RM_CHMAP.reg : RegDef := ⟨"RM_CHMAP", 0xA0100, [(0x8, 16)], [ RM_CHMAP.NOSPARE, RM_CHMAP.SUB, RM_CHMAP.K]⟩

/-- RM_DPSMAP.NOSPARE [63:32], RO (R413): Bit 32 + n: land n worn with no spare -/
def RM_DPSMAP.NOSPARE : Fld := ⟨0xA0020, 32, 32, .ro, fun _ => 0, fun _ => true⟩
/-- RM_DPSMAP.SUB33 [13:13], RO (R413): Spare 33 serves LAND33 -/
def RM_DPSMAP.SUB33 : Fld := ⟨0xA0020, 13, 1, .ro, fun _ => 0, fun _ => true⟩
/-- RM_DPSMAP.LAND33 [12:8], RO (R413): 16 to 31 -/
def RM_DPSMAP.LAND33 : Fld := ⟨0xA0020, 8, 5, .ro, fun _ => 0, fun _ => true⟩
/-- RM_DPSMAP.SUB32 [5:5], RO (R413): Spare 32 serves LAND32 -/
def RM_DPSMAP.SUB32 : Fld := ⟨0xA0020, 5, 1, .ro, fun _ => 0, fun _ => true⟩
/-- RM_DPSMAP.LAND32 [4:0], RO (R413): 0 to 15 -/
def RM_DPSMAP.LAND32 : Fld := ⟨0xA0020, 0, 5, .ro, fun _ => 0, fun _ => true⟩
/-- The register RM_DPSMAP (R413): one instance. -/
def RM_DPSMAP.reg : RegDef := ⟨"RM_DPSMAP", 0xA0020, [], [ RM_DPSMAP.NOSPARE, RM_DPSMAP.SUB33, RM_DPSMAP.LAND33, RM_DPSMAP.SUB32, RM_DPSMAP.LAND32]⟩

/-- RM_SEQMAP.NOSPARE [31:16], RO (R413): Bit 16 + f: field's sequencer worn with no spare -/
def RM_SEQMAP.NOSPARE : Fld := ⟨0xA0028, 16, 16, .ro, fun _ => 0, fun _ => true⟩
/-- RM_SEQMAP.SUB [4:4], RO (R413): Sequencer 16 serves FIELD -/
def RM_SEQMAP.SUB : Fld := ⟨0xA0028, 4, 1, .ro, fun _ => 0, fun _ => true⟩
/-- RM_SEQMAP.FIELD [3:0], RO (R413): no further words -/
def RM_SEQMAP.FIELD : Fld := ⟨0xA0028, 0, 4, .ro, fun _ => 0, fun _ => true⟩
/-- The register RM_SEQMAP (R413): one instance. -/
def RM_SEQMAP.reg : RegDef := ⟨"RM_SEQMAP", 0xA0028, [], [ RM_SEQMAP.NOSPARE, RM_SEQMAP.SUB, RM_SEQMAP.FIELD]⟩

/-- RM_D2D.ERR [63:48], RC (R413): Lane errors since last read; saturates at 0xFFFF -/
def RM_D2D.ERR : Fld := ⟨0xA0200, 48, 16, .rc, fun _ => 0, fun _ => true⟩
/-- RM_D2D.EYE [47:40], RO (R413): Smallest lane eye, 1/256 UI -/
def RM_D2D.EYE : Fld := ⟨0xA0200, 40, 8, .ro, fun _ => 0, fun _ => true⟩
/-- RM_D2D.SP_OUT [34:32], RO (R413): Spare lanes in use towards the PE die, 0 to 4 -/
def RM_D2D.SP_OUT : Fld := ⟨0xA0200, 32, 3, .ro, fun _ => 0, fun _ => true⟩
/-- RM_D2D.SP_IN [26:24], RO (R413): Spare lanes in use towards the core die, 0 to 4 -/
def RM_D2D.SP_IN : Fld := ⟨0xA0200, 24, 3, .ro, fun _ => 0, fun _ => true⟩
/-- RM_D2D.WORST [23:16], RO (R413): Lane with the most errors, 0 to 67 -/
def RM_D2D.WORST : Fld := ⟨0xA0200, 16, 8, .ro, fun _ => 0, fun _ => true⟩
/-- RM_D2D.TICK [15:0], RO (R413): TICKNO[15:0] of the last lane repair -/
def RM_D2D.TICK : Fld := ⟨0xA0200, 0, 16, .ro, fun _ => 0, fun _ => true⟩
/-- The register RM_D2D (R413): 4 at stride 0x8. -/
def RM_D2D.reg : RegDef := ⟨"RM_D2D", 0xA0200, [(0x8, 4)], [ RM_D2D.ERR, RM_D2D.EYE, RM_D2D.SP_OUT, RM_D2D.SP_IN, RM_D2D.WORST, RM_D2D.TICK]⟩

/-- RM_WEAR.COUNT [15:8], RO (R413): Wear count (R406); saturates at 255 -/
def RM_WEAR.COUNT : Fld := ⟨0xA1000, 8, 8, .ro, fun _ => 0, fun _ => true⟩
/-- RM_WEAR.DRIFT [2:2], RO (R413): Judged by drift -/
def RM_WEAR.DRIFT : Fld := ⟨0xA1000, 2, 1, .ro, fun _ => 0, fun _ => true⟩
/-- RM_WEAR.NOSPARE [1:1], RO (R413): R407 -/
def RM_WEAR.NOSPARE : Fld := ⟨0xA1000, 1, 1, .ro, fun _ => 0, fun _ => true⟩
/-- RM_WEAR.WORN [0:0], RO (R413): R406 -/
def RM_WEAR.WORN : Fld := ⟨0xA1000, 0, 1, .ro, fun _ => 0, fun _ => true⟩
/-- The register RM_WEAR (R413): 323 at stride 0x8. -/
def RM_WEAR.reg : RegDef := ⟨"RM_WEAR", 0xA1000, [(0x8, 323)], [ RM_WEAR.COUNT, RM_WEAR.DRIFT, RM_WEAR.NOSPARE, RM_WEAR.WORN]⟩

/-- CAL_CTRL.TWARN [63:56], RW (R427): Warning temperature in °C (sources 551 to 555) -/
def CAL_CTRL.TWARN : Fld := ⟨0x60000, 56, 8, .rw, fun _ => 0x64, fun _ => true⟩
/-- CAL_CTRL.DRIFT_LIM [47:32], RW (R427): ppm (R425); 0 reserved -/
def CAL_CTRL.DRIFT_LIM : Fld := ⟨0x60000, 32, 16, .rw, fun _ => 0x1f4, fun v => v != 0⟩
/-- CAL_CTRL.CAL_DT [15:8], RW (R427): Units of 0.0625 °C, 8 to 255; 0 to 7 reserved (R419) -/
def CAL_CTRL.CAL_DT : Fld := ⟨0x60000, 8, 8, .rw, fun _ => 0x20, fun v => decide (8 ≤ v)⟩
/-- CAL_CTRL.AUTO [0:0], RW (R427): R419 -/
def CAL_CTRL.AUTO : Fld := ⟨0x60000, 0, 1, .rw, fun _ => 1, fun _ => true⟩
/-- The register CAL_CTRL (R427): one instance. -/
def CAL_CTRL.reg : RegDef := ⟨"CAL_CTRL", 0x60000, [], [ CAL_CTRL.TWARN, CAL_CTRL.DRIFT_LIM, CAL_CTRL.CAL_DT, CAL_CTRL.AUTO]⟩

/-- CAL_STAT.DUE [46:40], RO (R427): Tasks due, deferred included, 0 to 112 -/
def CAL_STAT.DUE : Fld := ⟨0x60008, 40, 7, .ro, fun _ => 0, fun _ => true⟩
/-- CAL_STAT.TASK [31:28], RO (R427): Task running -/
def CAL_STAT.TASK : Fld := ⟨0x60008, 28, 4, .ro, fun _ => 0, fun _ => true⟩
/-- CAL_STAT.FIELD [27:24], RO (R427): Its field -/
def CAL_STAT.FIELD : Fld := ⟨0x60008, 24, 4, .ro, fun _ => 0, fun _ => true⟩
/-- CAL_STAT.REF_MISSING [3:3], RO (R427): R415 -/
def CAL_STAT.REF_MISSING : Fld := ⟨0x60008, 3, 1, .ro, fun _ => 0, fun _ => true⟩
/-- CAL_STAT.STARTUP_DONE [2:2], RO (R427): R420 -/
def CAL_STAT.STARTUP_DONE : Fld := ⟨0x60008, 2, 1, .ro, fun _ => 0, fun _ => true⟩
/-- CAL_STAT.BUSY [0:0], RO (R427): A task is running -/
def CAL_STAT.BUSY : Fld := ⟨0x60008, 0, 1, .ro, fun _ => 0, fun _ => true⟩
/-- The register CAL_STAT (R427): one instance. -/
def CAL_STAT.reg : RegDef := ⟨"CAL_STAT", 0x60008, [], [ CAL_STAT.DUE, CAL_STAT.TASK, CAL_STAT.FIELD, CAL_STAT.REF_MISSING, CAL_STAT.STARTUP_DONE, CAL_STAT.BUSY]⟩

/-- CAL_LAST.TASK [63:60], RO (R427): Last task ended or deferred -/
def CAL_LAST.TASK : Fld := ⟨0x60010, 60, 4, .ro, fun _ => 0, fun _ => true⟩
/-- CAL_LAST.FIELD [59:56], RO (R427): no further words -/
def CAL_LAST.FIELD : Fld := ⟨0x60010, 56, 4, .ro, fun _ => 0, fun _ => true⟩
/-- CAL_LAST.RESULT [55:52], RO (R427): 0 in force; 1 failed; 2 deferred; 3 skipped (R418) -/
def CAL_LAST.RESULT : Fld := ⟨0x60010, 52, 4, .ro, fun _ => 0, fun _ => true⟩
/-- CAL_LAST.DUR [47:16], RO (R427): Duration in µs -/
def CAL_LAST.DUR : Fld := ⟨0x60010, 16, 32, .ro, fun _ => 0, fun _ => true⟩
/-- CAL_LAST.TICK [15:0], RO (R427): TICKNO[15:0] of the event -/
def CAL_LAST.TICK : Fld := ⟨0x60010, 0, 16, .ro, fun _ => 0, fun _ => true⟩
/-- The register CAL_LAST (R427): one instance. -/
def CAL_LAST.reg : RegDef := ⟨"CAL_LAST", 0x60010, [], [ CAL_LAST.TASK, CAL_LAST.FIELD, CAL_LAST.RESULT, CAL_LAST.DUR, CAL_LAST.TICK]⟩

/-- CAL_CTEMP.TICK [63:48], RO (R427): TICKNO[15:0] of the last sample -/
def CAL_CTEMP.TICK : Fld := ⟨0x60018, 48, 16, .ro, fun _ => 0, fun _ => true⟩
/-- CAL_CTEMP.MAX [47:32], RC (R427): Highest reading since last read, as NOW; 0x8000 when none -/
def CAL_CTEMP.MAX : Fld := ⟨0x60018, 32, 16, .rc, fun _ => 0x8000, fun _ => true⟩
/-- CAL_CTEMP.NOW [15:0], RO (R427): Signed, units of 0.0625 °C -/
def CAL_CTEMP.NOW : Fld := ⟨0x60018, 0, 16, .ro, fun _ => 0, fun _ => true⟩
/-- The register CAL_CTEMP (R427): one instance. -/
def CAL_CTEMP.reg : RegDef := ⟨"CAL_CTEMP", 0x60018, [], [ CAL_CTEMP.TICK, CAL_CTEMP.MAX, CAL_CTEMP.NOW]⟩

/-- CAL_FTEMP.TICK [63:48], RO (R427): TICKNO[15:0] of the last sample -/
def CAL_FTEMP.TICK : Fld := ⟨0x60100, 48, 16, .ro, fun _ => 0, fun _ => true⟩
/-- CAL_FTEMP.MAX [47:32], RC (R427): Highest reading since last read, as NOW; 0x8000 when none -/
def CAL_FTEMP.MAX : Fld := ⟨0x60100, 32, 16, .rc, fun _ => 0x8000, fun _ => true⟩
/-- CAL_FTEMP.NOW [15:0], RO (R427): Signed, units of 0.0625 °C -/
def CAL_FTEMP.NOW : Fld := ⟨0x60100, 0, 16, .ro, fun _ => 0, fun _ => true⟩
/-- The register CAL_FTEMP (R427): 16 at stride 0x8. -/
def CAL_FTEMP.reg : RegDef := ⟨"CAL_FTEMP", 0x60100, [(0x8, 16)], [ CAL_FTEMP.TICK, CAL_FTEMP.MAX, CAL_FTEMP.NOW]⟩

/-- CAL_TASK.STATE [63:60], RO (R427): 0 never run; 1 in force; 2 due; 3 running; 5 DEFERRED; 6 FAILED; 4, 7 to 15 not used -/
def CAL_TASK.STATE : Fld := ⟨0x61000, 60, 4, .ro, fun _ => 0, fun _ => true⟩
/-- CAL_TASK.DEFER [59:56], RO (R427): 0 none; 1 hasp; 2 reference cold; 3 regulator enabled; others not used -/
def CAL_TASK.DEFER : Fld := ⟨0x61000, 56, 4, .ro, fun _ => 0, fun _ => true⟩
/-- CAL_TASK.OWNER [55:48], RO (R427): Owner code of the holding hasp (R28) -/
def CAL_TASK.OWNER : Fld := ⟨0x61000, 48, 8, .ro, fun _ => 0, fun _ => true⟩
/-- CAL_TASK.TLAST [47:32], RO (R427): R419, units of 0.0625 °C -/
def CAL_TASK.TLAST : Fld := ⟨0x61000, 32, 16, .ro, fun _ => 0, fun _ => true⟩
/-- CAL_TASK.AGE [31:0], RO (R427): Ticks since due; 0 when not due; saturates at 0xFFFF_FFFF -/
def CAL_TASK.AGE : Fld := ⟨0x61000, 0, 32, .ro, fun _ => 0, fun _ => true⟩
/-- The register CAL_TASK (R427): 16 at stride 0x40 by 7 at stride 0x8. -/
def CAL_TASK.reg : RegDef := ⟨"CAL_TASK", 0x61000, [(0x40, 16), (0x8, 7)], [ CAL_TASK.STATE, CAL_TASK.DEFER, CAL_TASK.OWNER, CAL_TASK.TLAST, CAL_TASK.AGE]⟩

/-- CAL_DPSQ.TICK [63:48], RO (R427): TICKNO[15:0] of the last run -/
def CAL_DPSQ.TICK : Fld := ⟨0x60200, 48, 16, .ro, fun _ => 0, fun _ => true⟩
/-- CAL_DPSQ.V_RES [47:40], RO (R427): Worst voltage residual, 10 µV units; saturates at 255 -/
def CAL_DPSQ.V_RES : Fld := ⟨0x60200, 40, 8, .ro, fun _ => 0, fun _ => true⟩
/-- CAL_DPSQ.I_RES [39:32], RO (R427): Worst current residual, 0.001 % of FS; saturates at 255 -/
def CAL_DPSQ.I_RES : Fld := ⟨0x60200, 32, 8, .ro, fun _ => 0, fun _ => true⟩
/-- CAL_DPSQ.DRIFT [31:16], RO (R427): ppm (R425); saturates at 0xFFFF -/
def CAL_DPSQ.DRIFT : Fld := ⟨0x60200, 16, 16, .ro, fun _ => 0, fun _ => true⟩
/-- CAL_DPSQ.FAIL [0:0], RO (R427): Last run failed -/
def CAL_DPSQ.FAIL : Fld := ⟨0x60200, 0, 1, .ro, fun _ => 0, fun _ => true⟩
/-- The register CAL_DPSQ (R427): 34 at stride 0x8. -/
def CAL_DPSQ.reg : RegDef := ⟨"CAL_DPSQ", 0x60200, [(0x8, 34)], [ CAL_DPSQ.TICK, CAL_DPSQ.V_RES, CAL_DPSQ.I_RES, CAL_DPSQ.DRIFT, CAL_DPSQ.FAIL]⟩

/-- KR_STAT.EPOCH [47:40], RO (R454): Epoch in use, 0 to 31; 32 when exhausted -/
def KR_STAT.EPOCH : Fld := ⟨0x70000, 40, 8, .ro, fun _ => 0, fun _ => true⟩
/-- KR_STAT.SLOTS [39:32], RO (R454): Pattern key slots loaded, 0 to 64 -/
def KR_STAT.SLOTS : Fld := ⟨0x70000, 32, 8, .ro, fun _ => 0, fun _ => true⟩
/-- KR_STAT.TESTMODE [11:11], RO (R454): R450 -/
def KR_STAT.TESTMODE : Fld := ⟨0x70000, 11, 1, .ro, fun _ => 0, fun _ => true⟩
/-- KR_STAT.ANALYSED [10:10], RO (R454): R451 -/
def KR_STAT.ANALYSED : Fld := ⟨0x70000, 10, 1, .ro, fun _ => 0, fun _ => true⟩
/-- KR_STAT.LOCK_CO [9:9], RO (R454): CO role locked (R438) -/
def KR_STAT.LOCK_CO : Fld := ⟨0x70000, 9, 1, .ro, fun _ => 0, fun _ => true⟩
/-- KR_STAT.LOCK_USER [8:8], RO (R454): User role locked -/
def KR_STAT.LOCK_USER : Fld := ⟨0x70000, 8, 1, .ro, fun _ => 0, fun _ => true⟩
/-- KR_STAT.PROV [5:4], RO (R454): 0 unprovisioned; 1 provisioned; 2 returned; 3 not used -/
def KR_STAT.PROV : Fld := ⟨0x70000, 4, 2, .ro, fun _ => 0, fun _ => true⟩
/-- KR_STAT.STATE [3:0], RO (R454): 0 SELFTEST; 1 OPERATIONAL; 2 ERROR; 3 ZEROISING; 4 to 15 not used -/
def KR_STAT.STATE : Fld := ⟨0x70000, 0, 4, .ro, fun _ => 0, fun _ => true⟩
/-- The register KR_STAT (R454): one instance. -/
def KR_STAT.reg : RegDef := ⟨"KR_STAT", 0x70000, [], [ KR_STAT.EPOCH, KR_STAT.SLOTS, KR_STAT.TESTMODE, KR_STAT.ANALYSED, KR_STAT.LOCK_CO, KR_STAT.LOCK_USER, KR_STAT.PROV, KR_STAT.STATE]⟩

/-- KR_ROLE_CO.BITS [63:0], RO (R454): ROLE: bit q set while queue pair q holds the role; SLOTS: bit i set while slot i is loaded -/
def KR_ROLE_CO.BITS : Fld := ⟨0x70008, 0, 64, .ro, fun _ => 0, fun _ => true⟩
/-- The register KR_ROLE_CO (R454): one instance. -/
def KR_ROLE_CO.reg : RegDef := ⟨"KR_ROLE_CO", 0x70008, [], [ KR_ROLE_CO.BITS]⟩

/-- KR_ROLE_USER.BITS [63:0], RO (R454): ROLE: bit q set while queue pair q holds the role; SLOTS: bit i set while slot i is loaded -/
def KR_ROLE_USER.BITS : Fld := ⟨0x70010, 0, 64, .ro, fun _ => 0, fun _ => true⟩
/-- The register KR_ROLE_USER (R454): one instance. -/
def KR_ROLE_USER.reg : RegDef := ⟨"KR_ROLE_USER", 0x70010, [], [ KR_ROLE_USER.BITS]⟩

/-- KR_SLOTS.BITS [63:0], RO (R454): ROLE: bit q set while queue pair q holds the role; SLOTS: bit i set while slot i is loaded -/
def KR_SLOTS.BITS : Fld := ⟨0x70018, 0, 64, .ro, fun _ => 0, fun _ => true⟩
/-- The register KR_SLOTS (R454): one instance. -/
def KR_SLOTS.reg : RegDef := ⟨"KR_SLOTS", 0x70018, [], [ KR_SLOTS.BITS]⟩

/-- KR_EVCNT.AUTH_FAIL [63:48], RC (R454): Saturates at 0xFFFF -/
def KR_EVCNT.AUTH_FAIL : Fld := ⟨0x70020, 48, 16, .rc, fun _ => 0, fun _ => true⟩
/-- KR_EVCNT.SIG_BAD [47:32], RC (R454): Saturates at 0xFFFF -/
def KR_EVCNT.SIG_BAD : Fld := ⟨0x70020, 32, 16, .rc, fun _ => 0, fun _ => true⟩
/-- KR_EVCNT.DECRYPT_BAD [31:16], RC (R454): Import tag, digest and unwrap failures; saturates at 0xFFFF -/
def KR_EVCNT.DECRYPT_BAD : Fld := ⟨0x70020, 16, 16, .rc, fun _ => 0, fun _ => true⟩
/-- KR_EVCNT.HEALTH [15:0], RC (R454): Entropy test failures; saturates at 0xFFFF -/
def KR_EVCNT.HEALTH : Fld := ⟨0x70020, 0, 16, .rc, fun _ => 0, fun _ => true⟩
/-- The register KR_EVCNT (R454): one instance. -/
def KR_EVCNT.reg : RegDef := ⟨"KR_EVCNT", 0x70020, [], [ KR_EVCNT.AUTH_FAIL, KR_EVCNT.SIG_BAD, KR_EVCNT.DECRYPT_BAD, KR_EVCNT.HEALTH]⟩

/-- KR_SLOT_TAG.TAG [15:0], RO (R454): Tag of the key in slot i; 0 when empty -/
def KR_SLOT_TAG.TAG : Fld := ⟨0x70100, 0, 16, .ro, fun _ => 0, fun _ => true⟩
/-- The register KR_SLOT_TAG (R454): 64 at stride 0x8. -/
def KR_SLOT_TAG.reg : RegDef := ⟨"KR_SLOT_TAG", 0x70100, [(0x8, 64)], [ KR_SLOT_TAG.TAG]⟩

/-- BOOT_STAT.FW_SVN_MIN [63:56], RO (R455): Firmware SVN minimum (R435) -/
def BOOT_STAT.FW_SVN_MIN : Fld := ⟨0x80000, 56, 8, .ro, fun _ => 0, fun _ => true⟩
/-- BOOT_STAT.PATCH_SVN_MIN [55:48], RO (R455): Patch SVN minimum -/
def BOOT_STAT.PATCH_SVN_MIN : Fld := ⟨0x80000, 48, 8, .ro, fun _ => 0, fun _ => true⟩
/-- BOOT_STAT.FW_SVN [47:40], RO (R455): SVN of the firmware in force -/
def BOOT_STAT.FW_SVN : Fld := ⟨0x80000, 40, 8, .ro, fun _ => 0, fun _ => true⟩
/-- BOOT_STAT.TIME [31:16], RO (R455): ms from PERST_N deassertion to READY -/
def BOOT_STAT.TIME : Fld := ⟨0x80000, 16, 16, .ro, fun _ => 0, fun _ => true⟩
/-- BOOT_STAT.NEXT [5:4], RO (R455): Slot tried first at the next start: 0 A; 1 B -/
def BOOT_STAT.NEXT : Fld := ⟨0x80000, 4, 2, .ro, fun _ => 0, fun _ => true⟩
/-- BOOT_STAT.SRC [1:0], RO (R455): 0 slot A; 1 slot B; 2 recovery; 3 not used -/
def BOOT_STAT.SRC : Fld := ⟨0x80000, 0, 2, .ro, fun _ => 0, fun _ => true⟩
/-- The register BOOT_STAT (R455): one instance. -/
def BOOT_STAT.reg : RegDef := ⟨"BOOT_STAT", 0x80000, [], [ BOOT_STAT.FW_SVN_MIN, BOOT_STAT.PATCH_SVN_MIN, BOOT_STAT.FW_SVN, BOOT_STAT.TIME, BOOT_STAT.NEXT, BOOT_STAT.SRC]⟩

/-- BF_CFG.DIV [5:0], RW (R455): BF_CLK = 400 MHz / DIV, 4 to 63; 0 to 3 reserved (R8) -/
def BF_CFG.DIV : Fld := ⟨0x80008, 0, 6, .rw, fun _ => 4, fun v => decide (4 ≤ v)⟩
/-- The register BF_CFG (R455): one instance. -/
def BF_CFG.reg : RegDef := ⟨"BF_CFG", 0x80008, [], [ BF_CFG.DIV]⟩

/-- BF_ID.ID1 [55:32], RO (R455): First three bytes of the 0x9F reply, recovery device -/
def BF_ID.ID1 : Fld := ⟨0x80010, 32, 24, .ro, fun _ => 0, fun _ => true⟩
/-- BF_ID.ID0 [23:0], RO (R455): The same, primary device -/
def BF_ID.ID0 : Fld := ⟨0x80010, 0, 24, .ro, fun _ => 0, fun _ => true⟩
/-- The register BF_ID (R455): one instance. -/
def BF_ID.reg : RegDef := ⟨"BF_ID", 0x80010, [], [ BF_ID.ID1, BF_ID.ID0]⟩

/-- BF_STAT.ERRORS [63:48], RC (R455): Flash errors (R432); saturates at 0xFFFF -/
def BF_STAT.ERRORS : Fld := ⟨0x80018, 48, 16, .rc, fun _ => 0, fun _ => true⟩
/-- BF_STAT.QUEUE [47:40], RO (R455): Flash jobs waiting -/
def BF_STAT.QUEUE : Fld := ⟨0x80018, 40, 8, .ro, fun _ => 0, fun _ => true⟩
/-- BF_STAT.ADDR [39:8], RO (R455): Flash address of the last error -/
def BF_STAT.ADDR : Fld := ⟨0x80018, 8, 32, .ro, fun _ => 0, fun _ => true⟩
/-- BF_STAT.BUSY [0:0], RO (R455): A flash job is running -/
def BF_STAT.BUSY : Fld := ⟨0x80018, 0, 1, .ro, fun _ => 0, fun _ => true⟩
/-- The register BF_STAT (R455): one instance. -/
def BF_STAT.reg : RegDef := ⟨"BF_STAT", 0x80018, [], [ BF_STAT.ERRORS, BF_STAT.QUEUE, BF_STAT.ADDR, BF_STAT.BUSY]⟩

/-- KP_RA.ADDR [13:2], RW (R457): 32-bit word address in the RAM -/
def KP_RA.ADDR : Fld := ⟨0x20F10, 2, 12, .rw, fun _ => 0, fun _ => true⟩
/-- The register KP_RA (R457): one instance. -/
def KP_RA.reg : RegDef := ⟨"KP_RA", 0x20F10, [], [ KP_RA.ADDR]⟩

/-- KP_RD.DATA [31:0], RW (R457): Word at ADDR -/
def KP_RD.DATA : Fld := ⟨0x20F18, 0, 32, .rw, fun _ => 0, fun _ => true⟩
/-- The register KP_RD (R457): one instance. -/
def KP_RD.reg : RegDef := ⟨"KP_RD", 0x20F18, [], [ KP_RD.DATA]⟩

/-- SP_ID.ID [15:0], RO (R464): Device -/
def SP_ID.ID : Fld := ⟨0x4000000, 0, 16, .ro, fun _ => 0x256, fun _ => true⟩
/-- The register SP_ID (R464): one instance. -/
def SP_ID.reg : RegDef := ⟨"SP_ID", 0x4000000, [], [ SP_ID.ID]⟩

/-- SP_STAT.MAIN [15:15], RO (R464): Main rails present -/
def SP_STAT.MAIN : Fld := ⟨0x4000008, 15, 1, .ro, fun _ => 0, fun _ => true⟩
/-- SP_STAT.HB [14:14], RO (R464): Tick heartbeat present -/
def SP_STAT.HB : Fld := ⟨0x4000008, 14, 1, .ro, fun _ => 0, fun _ => true⟩
/-- SP_STAT.ALIVE [13:12], RO (R464): As FC_ALIVE.STATE -/
def SP_STAT.ALIVE : Fld := ⟨0x4000008, 12, 2, .ro, fun _ => 3, fun _ => true⟩
/-- SP_STAT.CLASS [11:10], RO (R464): As FC_FIRST.CLASS -/
def SP_STAT.CLASS : Fld := ⟨0x4000008, 10, 2, .ro, fun _ => 0, fun _ => true⟩
/-- SP_STAT.REACT [9:9], RO (R464): Reaction in progress or Grave held -/
def SP_STAT.REACT : Fld := ⟨0x4000008, 9, 1, .ro, fun _ => 0, fun _ => true⟩
/-- SP_STAT.RAM_ERR [8:8], RO (R464): Source 425 raised since VAUX power-up -/
def SP_STAT.RAM_ERR : Fld := ⟨0x4000008, 8, 1, .ro, fun _ => 0, fun _ => true⟩
/-- The register SP_STAT (R464): one instance. -/
def SP_STAT.reg : RegDef := ⟨"SP_STAT", 0x4000008, [], [ SP_STAT.MAIN, SP_STAT.HB, SP_STAT.ALIVE, SP_STAT.CLASS, SP_STAT.REACT, SP_STAT.RAM_ERR]⟩

/-- SP_ERR.SHORT [15:10], RO (R464): FRAME_SHORT frames -/
def SP_ERR.SHORT : Fld := ⟨0x4000010, 10, 6, .ro, fun _ => 0, fun _ => true⟩
/-- SP_ERR.LONG [9:4], RO (R464): FRAME_LONG frames -/
def SP_ERR.LONG : Fld := ⟨0x4000010, 4, 6, .ro, fun _ => 0, fun _ => true⟩
/-- SP_ERR.SOON [3:0], RO (R464): TOO_SOON frames -/
def SP_ERR.SOON : Fld := ⟨0x4000010, 0, 4, .ro, fun _ => 0, fun _ => true⟩
/-- The register SP_ERR (R464): one instance. -/
def SP_ERR.reg : RegDef := ⟨"SP_ERR", 0x4000010, [], [ SP_ERR.SHORT, SP_ERR.LONG, SP_ERR.SOON]⟩

/-- SP_PAGE.PAGE [1:0], RW (R464): RAM page in the window -/
def SP_PAGE.PAGE : Fld := ⟨0x4000018, 0, 2, .rw, fun _ => 0, fun _ => true⟩
/-- The register SP_PAGE (R464): one instance. -/
def SP_PAGE.reg : RegDef := ⟨"SP_PAGE", 0x4000018, [], [ SP_PAGE.PAGE]⟩

/-- SP_JSEQ.SEQ [15:0], RO (R464): SEQ of the last journal entry -/
def SP_JSEQ.SEQ : Fld := ⟨0x4000020, 0, 16, .ro, fun _ => 0, fun _ => true⟩
/-- The register SP_JSEQ (R464): one instance. -/
def SP_JSEQ.reg : RegDef := ⟨"SP_JSEQ", 0x4000020, [], [ SP_JSEQ.SEQ]⟩

/-- Every register of the block. -/
def haspRegs : List RegDef :=
  [ HASP_ENT.reg, HASP_CONFLICTS.reg, HASP_LAST.reg]

/-- Every register of the block. -/
def tbRegs : List RegDef :=
  [ TB_CTRL.reg, TICK_K.reg, TICK_K_ACT.reg, TICKNO.reg, TB_STAT.reg, TB_EVCNT.reg]

/-- Every register of the block. -/
def fcRegs : List RegDef :=
  [ CLR_STAT.reg, CLR_REL.reg, FC_STICKY.reg, FC_LIVE.reg, FC_CTRL.reg, FC_FIRST.reg, FC_RECOVER.reg, FC_ALIVE.reg] ++
  [ FC_CFG.reg, FC_STATE.reg, KP_RA.reg, KP_RD.reg]

/-- Every register of the block. -/
def identRegs : List RegDef :=
  [ UCODE_VER.reg, UC_SEQ.reg, DEVID.reg, SIREV.reg, FW_VER.reg, SERNO.reg, BOOT_PROG.reg]

/-- Every register of the block. -/
def dirRegs : List RegDef :=
  [ DIR_ENT0.reg, DIR_ENT1.reg]

/-- Every register of the block. -/
def hbmRegs : List RegDef :=
  [ DIR_STAT.reg, DIR_LAST.reg, HBM_CTRL.reg, HBM_CMD.reg, HBM_STAT.reg, HBM_TEMP.reg, HBM_MIRROR.reg, HBM_REFQ.reg] ++
  [ HBM_LOST.reg, HBM_EVCNT.reg, HBM_PORT.reg, HBM_PC.reg, HBM_EYE.reg]

/-- Every register of the block. -/
def resRegs : List RegDef :=
  [ RES_CTRL.reg, RES_RING_BASE.reg, RES_RING_SIZE.reg, RES_PROD.reg, RES_CONS.reg, RES_STAT.reg, RES_WAFER.reg, RES_FGEN.reg] ++
  [ SITE_CH.reg, SITE_ACC0.reg, SITE_ACC1.reg]

/-- Every register of the block. -/
def syncRegs : List RegDef :=
  [ SYNC_CTRL.reg, SYNC_CMD.reg, SYNC_STAT.reg, SYNC_EVCNT.reg, LINE_CAL.reg, TRG_OUT_CFG.reg, TRG_IN_CFG.reg, STAGE_GEN.reg] ++
  [ MODE_GEN.reg, COMMIT_STAT.reg]

/-- Every register of the block. -/
def ptpRegs : List RegDef :=
  [ PTP_CTRL.reg, PTP_CMD.reg, PTP_STAT.reg, PTP_MASTER.reg, PTP_OFS.reg, PTP_RATE.reg, PTP_NOW_S.reg, PTP_T0_S.reg] ++
  [ PTP_NOW_NS.reg, PTP_T0_NS.reg, PTP_EVCNT.reg, ETH_STAT.reg]

/-- Every register of the block. -/
def hostqRegs : List RegDef :=
  [ HQ_STAT.reg, HQ_ERR.reg, HQ_BADWR.reg, PTM_CTRL.reg, PTM_HOST.reg, PTM_TICK.reg, PTM_STAT.reg, Q_SQBASE.reg] ++
  [ Q_CQBASE.reg, Q_CFG.reg, Q_STAT.reg, Q_SQDB.reg, Q_CQDB.reg, OPSTAT.reg, OPRES.reg]

/-- Every register of the block. -/
def icRegs : List RegDef :=
  [ IC_PEND.reg, IC_EN.reg, IC_EN_SET.reg, IC_EN_CLR.reg, IC_RAISE.reg, IC_MOD.reg, IC_VEC.reg, IC_HOSTIDLE.reg] ++
  [ IC_HOSTIDLE_SET.reg, IC_HOSTIDLE_CLR.reg, IC_CNT.reg, IC_ROUTE.reg]

/-- Every register of the block. -/
def rmRegs : List RegDef :=
  [ RM_CTRL.reg, RM_CMD.reg, RM_STAT.reg, RM_LAST.reg, RM_CHMAP.reg, RM_DPSMAP.reg, RM_SEQMAP.reg, RM_D2D.reg] ++
  [ RM_WEAR.reg]

/-- Every register of the block. -/
def calRegs : List RegDef :=
  [ CAL_CTRL.reg, CAL_STAT.reg, CAL_LAST.reg, CAL_CTEMP.reg, CAL_FTEMP.reg, CAL_TASK.reg, CAL_DPSQ.reg]

/-- Every register of the block. -/
def krRegs : List RegDef :=
  [ KR_STAT.reg, KR_ROLE_CO.reg, KR_ROLE_USER.reg, KR_SLOTS.reg, KR_EVCNT.reg, KR_SLOT_TAG.reg]

/-- Every register of the block. -/
def bootRegs : List RegDef :=
  [ BOOT_STAT.reg, BF_CFG.reg, BF_ID.reg, BF_STAT.reg]

/-- Every register of the block. -/
def portRegs : List RegDef :=
  [ SP_ID.reg, SP_STAT.reg, SP_ERR.reg, SP_PAGE.reg, SP_JSEQ.reg]

end Sys2Proof.Machine
end

