-- ==== Sys2Proof/Machine/RegSlice.lean ====
section
/-!
DEFINITION. The register map of the spec, field by field: the registers of a slice block (R79, R112, R113, R245, R428). Every field carries its place, its
access code (R5), its reset value (R6) and the encodings its description does not mark as reserved (R8).
-/
namespace Sys2Proof.Machine

/-- SLC_ID.ROLE [23:20], RO (R79): 0x0 ACTIVE; 0x1 SPARE_IDLE; 0x2 SUBSTITUTE; 0x3 RETIRED -/
def SLC_ID.ROLE : Fld := ⟨0x0, 20, 4, .ro, fun a => if (inst 0x200000 0x1000 a) % 17 = 16 then 1 else 0, fun _ => true⟩
/-- SLC_ID.CHAN [16:8], RO (R79): Channel served; 0x1FF when none -/
def SLC_ID.CHAN : Fld := ⟨0x0, 8, 9, .ro, fun a => if (inst 0x200000 0x1000 a) % 17 = 16 then 0x1FF else 16 * ((inst 0x200000 0x1000 a) / 17) + (inst 0x200000 0x1000 a) % 17, fun _ => true⟩
/-- SLC_ID.FIELD [7:4], RO (R79): Field of the slice -/
def SLC_ID.FIELD : Fld := ⟨0x0, 4, 4, .ro, fun a => (inst 0x200000 0x1000 a) / 17, fun _ => true⟩
/-- SLC_ID.DIE [1:0], RO (R79): PE die -/
def SLC_ID.DIE : Fld := ⟨0x0, 0, 2, .ro, fun a => (inst 0x200000 0x1000 a) / 68, fun _ => true⟩
/-- The register SLC_ID (R79): one instance. -/
def SLC_ID.reg : RegDef := ⟨"SLC_ID", 0x0, [], [ SLC_ID.ROLE, SLC_ID.CHAN, SLC_ID.FIELD, SLC_ID.DIE]⟩

/-- SLC_CTRL.CLAMP_IRQ [7:7], RWS (R79): 1: clamp entry raises slice interrupt source s -/
def SLC_CTRL.CLAMP_IRQ : Fld := ⟨0x8, 7, 1, .rws, fun _ => 0, fun _ => true⟩
/-- SLC_CTRL.DOFF [5:4], RWS (R79): Drive-off state: 0b00 high impedance; 0b01 50 Ω to VTT; 0b10 active load; 0b11 reserved -/
def SLC_CTRL.DOFF : Fld := ⟨0x8, 4, 2, .rws, fun _ => 0, fun v => v != 3⟩
/-- SLC_CTRL.BLEED [1:1], RWS (R79): 1: bleed on (R55) -/
def SLC_CTRL.BLEED : Fld := ⟨0x8, 1, 1, .rws, fun _ => 1, fun _ => true⟩
/-- SLC_CTRL.EN [0:0], RWS (R79): 1: driver follows vectors, drive-off per DOFF -/
def SLC_CTRL.EN : Fld := ⟨0x8, 0, 1, .rws, fun _ => 0, fun _ => true⟩
/-- The register SLC_CTRL (R79): one instance. -/
def SLC_CTRL.reg : RegDef := ⟨"SLC_CTRL", 0x8, [], [ SLC_CTRL.CLAMP_IRQ, SLC_CTRL.DOFF, SLC_CTRL.BLEED, SLC_CTRL.EN]⟩

/-- PMU_CFG.OFS [47:32], RWS (R79): Sampling offset in sub-ticks; used as min(OFS, K − 50) (R68) -/
def PMU_CFG.OFS : Fld := ⟨0x10, 32, 16, .rws, fun _ => 0x1f4, fun _ => true⟩
/-- PMU_CFG.FILT [11:10], RWS (R79): Measurement filter: 0b00 2 MHz; 0b01 200 kHz; 0b10 20 kHz; 0b11 2 kHz -/
def PMU_CFG.FILT : Fld := ⟨0x10, 10, 2, .rws, fun _ => 0, fun _ => true⟩
/-- PMU_CFG.MODE [8:6], RWS (R79): R62 -/
def PMU_CFG.MODE : Fld := ⟨0x10, 6, 3, .rws, fun _ => 0, fun v => decide (v ≤ 5)⟩
/-- PMU_CFG.IRANGE [2:0], RWS (R79): R63; ignored in OFF and FNMV -/
def PMU_CFG.IRANGE : Fld := ⟨0x10, 0, 3, .rws, fun _ => 0, fun v => decide (v ≤ 4)⟩
/-- The register PMU_CFG (R79): one instance. -/
def PMU_CFG.reg : RegDef := ⟨"PMU_CFG", 0x10, [], [ PMU_CFG.OFS, PMU_CFG.FILT, PMU_CFG.MODE, PMU_CFG.IRANGE]⟩

/-- LOAD_CFG.ISNK [27:16], RWS (R79): Sink current, 5.86 µA per code -/
def LOAD_CFG.ISNK : Fld := ⟨0x18, 16, 12, .rws, fun _ => 0, fun _ => true⟩
/-- LOAD_CFG.ISRC [11:0], RWS (R79): Source current, 5.86 µA per code -/
def LOAD_CFG.ISRC : Fld := ⟨0x18, 0, 12, .rws, fun _ => 0, fun _ => true⟩
/-- The register LOAD_CFG (R79): one instance. -/
def LOAD_CFG.reg : RegDef := ⟨"LOAD_CFG", 0x18, [], [ LOAD_CFG.ISNK, LOAD_CFG.ISRC]⟩

/-- CMP_CFG.HYST [1:0], RWS (R79): 0b00 none; 0b01 5 mV; 0b10 10 mV; 0b11 20 mV -/
def CMP_CFG.HYST : Fld := ⟨0x20, 0, 2, .rws, fun _ => 0, fun _ => true⟩
/-- The register CMP_CFG (R79): one instance. -/
def CMP_CFG.reg : RegDef := ⟨"CMP_CFG", 0x20, [], [ CMP_CFG.HYST]⟩

/-- SLC_STAT.PATH [23:21], RO (R79): 0 idle; 1 ramp down; 2 hold; 3 ramp up; 4 bolt ramp; 5 to 7 not used -/
def SLC_STAT.PATH : Fld := ⟨0x28, 21, 3, .ro, fun _ => 0, fun _ => true⟩
/-- SLC_STAT.BOLTED [20:20], RO (R79): Slice bolted -/
def SLC_STAT.BOLTED : Fld := ⟨0x28, 20, 1, .ro, fun _ => 0, fun _ => true⟩
/-- SLC_STAT.SER_CLOSED [19:19], RO (R79): Series disconnect closed -/
def SLC_STAT.SER_CLOSED : Fld := ⟨0x28, 19, 1, .ro, fun a => if (inst 0x200000 0x1000 a) % 17 = 16 then 0 else 1, fun _ => true⟩
/-- SLC_STAT.PMU_SW [18:18], RO (R79): PMU connect switch closed -/
def SLC_STAT.PMU_SW : Fld := ⟨0x28, 18, 1, .ro, fun _ => 0, fun _ => true⟩
/-- SLC_STAT.BLEED_ACT [17:17], RO (R79): Bleed on -/
def SLC_STAT.BLEED_ACT : Fld := ⟨0x28, 17, 1, .ro, fun _ => 1, fun _ => true⟩
/-- SLC_STAT.EN_ACT [16:16], RO (R79): EN in force -/
def SLC_STAT.EN_ACT : Fld := ⟨0x28, 16, 1, .ro, fun _ => 0, fun _ => true⟩
/-- SLC_STAT.DOFF_ACT [15:14], RO (R79): DOFF in force -/
def SLC_STAT.DOFF_ACT : Fld := ⟨0x28, 14, 2, .ro, fun _ => 0, fun _ => true⟩
/-- SLC_STAT.MODE_ACT [13:11], RO (R79): MODE in force -/
def SLC_STAT.MODE_ACT : Fld := ⟨0x28, 11, 3, .ro, fun _ => 0, fun _ => true⟩
/-- SLC_STAT.IRANGE_ACT [10:8], RO (R79): Range physically selected; 0 during the hold -/
def SLC_STAT.IRANGE_ACT : Fld := ⟨0x28, 8, 3, .ro, fun _ => 0, fun _ => true⟩
/-- SLC_STAT.CLAMP_I [5:5], RO (R79): Current clamp acting -/
def SLC_STAT.CLAMP_I : Fld := ⟨0x28, 5, 1, .ro, fun _ => 0, fun _ => true⟩
/-- SLC_STAT.CLAMP_V [4:4], RO (R79): Voltage clamp acting -/
def SLC_STAT.CLAMP_V : Fld := ⟨0x28, 4, 1, .ro, fun _ => 0, fun _ => true⟩
/-- SLC_STAT.DRV_OVL [3:3], RO (R79): Driver in current limit -/
def SLC_STAT.DRV_OVL : Fld := ⟨0x28, 3, 1, .ro, fun _ => 0, fun _ => true⟩
/-- SLC_STAT.DRV_HELD [2:2], RO (R79): Driver held off (R57) -/
def SLC_STAT.DRV_HELD : Fld := ⟨0x28, 2, 1, .ro, fun _ => 0, fun _ => true⟩
/-- The register SLC_STAT (R79): one instance. -/
def SLC_STAT.reg : RegDef := ⟨"SLC_STAT", 0x28, [], [ SLC_STAT.PATH, SLC_STAT.BOLTED, SLC_STAT.SER_CLOSED, SLC_STAT.PMU_SW, SLC_STAT.BLEED_ACT, SLC_STAT.EN_ACT, SLC_STAT.DOFF_ACT, SLC_STAT.MODE_ACT, SLC_STAT.IRANGE_ACT, SLC_STAT.CLAMP_I, SLC_STAT.CLAMP_V, SLC_STAT.DRV_OVL, SLC_STAT.DRV_HELD]⟩

/-- PMU_MEAS.TICK [63:48], RO (R79): TICKNO[15:0] of the conversion's tick -/
def PMU_MEAS.TICK : Fld := ⟨0x30, 48, 16, .ro, fun _ => 0, fun _ => true⟩
/-- PMU_MEAS.BLEED [44:44], RO (R79): Bleed was on -/
def PMU_MEAS.BLEED : Fld := ⟨0x30, 44, 1, .ro, fun _ => 0, fun _ => true⟩
/-- PMU_MEAS.VALID [43:43], RO (R79): A conversion has been taken since MODE left OFF; cleared when MODE comes into force as OFF -/
def PMU_MEAS.VALID : Fld := ⟨0x30, 43, 1, .ro, fun _ => 0, fun _ => true⟩
/-- PMU_MEAS.PATH [42:42], RO (R79): R69 -/
def PMU_MEAS.PATH : Fld := ⟨0x30, 42, 1, .ro, fun _ => 0, fun _ => true⟩
/-- PMU_MEAS.NSET [41:41], RO (R79): R69 -/
def PMU_MEAS.NSET : Fld := ⟨0x30, 41, 1, .ro, fun _ => 0, fun _ => true⟩
/-- PMU_MEAS.CLAMP_I [40:40], RO (R79): Current clamp acted -/
def PMU_MEAS.CLAMP_I : Fld := ⟨0x30, 40, 1, .ro, fun _ => 0, fun _ => true⟩
/-- PMU_MEAS.CLAMP_V [39:39], RO (R79): Voltage clamp acted -/
def PMU_MEAS.CLAMP_V : Fld := ⟨0x30, 39, 1, .ro, fun _ => 0, fun _ => true⟩
/-- PMU_MEAS.OVR [38:38], RO (R79): Code at range limit -/
def PMU_MEAS.OVR : Fld := ⟨0x30, 38, 1, .ro, fun _ => 0, fun _ => true⟩
/-- PMU_MEAS.IRANGE [37:35], RO (R79): Range at conversion -/
def PMU_MEAS.IRANGE : Fld := ⟨0x30, 35, 3, .ro, fun _ => 0, fun _ => true⟩
/-- PMU_MEAS.QTY [34:34], RO (R79): 0 voltage; 1 current -/
def PMU_MEAS.QTY : Fld := ⟨0x30, 34, 1, .ro, fun _ => 0, fun _ => true⟩
/-- PMU_MEAS.CODE [17:0], RO (R79): R66 -/
def PMU_MEAS.CODE : Fld := ⟨0x30, 0, 18, .ro, fun _ => 0, fun _ => true⟩
/-- The register PMU_MEAS (R79): one instance. -/
def PMU_MEAS.reg : RegDef := ⟨"PMU_MEAS", 0x30, [], [ PMU_MEAS.TICK, PMU_MEAS.BLEED, PMU_MEAS.VALID, PMU_MEAS.PATH, PMU_MEAS.NSET, PMU_MEAS.CLAMP_I, PMU_MEAS.CLAMP_V, PMU_MEAS.OVR, PMU_MEAS.IRANGE, PMU_MEAS.QTY, PMU_MEAS.CODE]⟩

/-- SLC_EVCNT.PATHS [47:32], RC (R79): Completed safe-value paths; saturates at 0xFFFF -/
def SLC_EVCNT.PATHS : Fld := ⟨0x38, 32, 16, .rc, fun _ => 0, fun _ => true⟩
/-- SLC_EVCNT.CLAMP [31:16], RC (R79): Clamp entries; saturates at 0xFFFF -/
def SLC_EVCNT.CLAMP : Fld := ⟨0x38, 16, 16, .rc, fun _ => 0, fun _ => true⟩
/-- SLC_EVCNT.DRV_OVL [15:0], RC (R79): Driver current-limit entries; saturates at 0xFFFF -/
def SLC_EVCNT.DRV_OVL : Fld := ⟨0x38, 0, 16, .rc, fun _ => 0, fun _ => true⟩
/-- The register SLC_EVCNT (R79): one instance. -/
def SLC_EVCNT.reg : RegDef := ⟨"SLC_EVCNT", 0x38, [], [ SLC_EVCNT.PATHS, SLC_EVCNT.CLAMP, SLC_EVCNT.DRV_OVL]⟩

/-- LVL_VIH.CODE [15:0], RWS (R112): Target code (R81) -/
def LVL_VIH.CODE : Fld := ⟨0x100, 0, 16, .rws, fun _ => 0x4000, fun v => decide (6554 ≤ v ∧ v ≤ 58982)⟩
/-- The register LVL_VIH (R112): one instance. -/
def LVL_VIH.reg : RegDef := ⟨"LVL_VIH", 0x100, [], [ LVL_VIH.CODE]⟩

/-- LVL_VIL.CODE [15:0], RWS (R112): Target code (R81) -/
def LVL_VIL.CODE : Fld := ⟨0x108, 0, 16, .rws, fun _ => 0x4000, fun v => decide (6554 ≤ v ∧ v ≤ 58982)⟩
/-- The register LVL_VIL (R112): one instance. -/
def LVL_VIL.reg : RegDef := ⟨"LVL_VIL", 0x108, [], [ LVL_VIL.CODE]⟩

/-- LVL_VOH.CODE [15:0], RWS (R112): Target code (R81) -/
def LVL_VOH.CODE : Fld := ⟨0x110, 0, 16, .rws, fun _ => 0x4000, fun v => decide (3277 ≤ v ∧ v ≤ 62259)⟩
/-- The register LVL_VOH (R112): one instance. -/
def LVL_VOH.reg : RegDef := ⟨"LVL_VOH", 0x110, [], [ LVL_VOH.CODE]⟩

/-- LVL_VOL.CODE [15:0], RWS (R112): Target code (R81) -/
def LVL_VOL.CODE : Fld := ⟨0x118, 0, 16, .rws, fun _ => 0x4000, fun v => decide (3277 ≤ v ∧ v ≤ 62259)⟩
/-- The register LVL_VOL (R112): one instance. -/
def LVL_VOL.reg : RegDef := ⟨"LVL_VOL", 0x118, [], [ LVL_VOL.CODE]⟩

/-- LVL_VTT.CODE [15:0], RWS (R112): Target code (R81) -/
def LVL_VTT.CODE : Fld := ⟨0x120, 0, 16, .rws, fun _ => 0x4000, fun v => decide (6554 ≤ v ∧ v ≤ 58982)⟩
/-- The register LVL_VTT (R112): one instance. -/
def LVL_VTT.reg : RegDef := ⟨"LVL_VTT", 0x120, [], [ LVL_VTT.CODE]⟩

/-- LVL_CLH.CODE [15:0], RWS (R112): Target code (R81) -/
def LVL_CLH.CODE : Fld := ⟨0x128, 0, 16, .rws, fun _ => 0x4000, fun v => decide (3277 ≤ v ∧ v ≤ 62259)⟩
/-- The register LVL_CLH (R112): one instance. -/
def LVL_CLH.reg : RegDef := ⟨"LVL_CLH", 0x128, [], [ LVL_CLH.CODE]⟩

/-- LVL_CLL.CODE [15:0], RWS (R112): Target code (R81) -/
def LVL_CLL.CODE : Fld := ⟨0x130, 0, 16, .rws, fun _ => 0x4000, fun v => decide (3277 ≤ v ∧ v ≤ 62259)⟩
/-- The register LVL_CLL (R112): one instance. -/
def LVL_CLL.reg : RegDef := ⟨"LVL_CLL", 0x130, [], [ LVL_CLL.CODE]⟩

/-- PMU_FORCE.CODE [17:0], RWS (R112): Force target (R65, R81, R82) -/
def PMU_FORCE.CODE : Fld := ⟨0x138, 0, 18, .rws, fun _ => 0x10000, fun _ => true⟩
/-- The register PMU_FORCE (R112): one instance. -/
def PMU_FORCE.reg : RegDef := ⟨"PMU_FORCE", 0x138, [], [ PMU_FORCE.CODE]⟩

/-- LVL_SLEW.INTV [41:32], RWS (R112): Step interval in sub-ticks, 1 to 1,023; 0 reserved (R84) -/
def LVL_SLEW.INTV : Fld := ⟨0x140, 32, 10, .rws, fun _ => 1, fun v => v != 0⟩
/-- LVL_SLEW.STEP [15:0], RWS (R112): Codes per step; 0 means one step. LVL_SLEW uses [15:0], and [17:16] are RSV in it -/
def LVL_SLEW.STEP : Fld := ⟨0x140, 0, 16, .rws, fun _ => 0, fun _ => true⟩
/-- The register LVL_SLEW (R112): one instance. -/
def LVL_SLEW.reg : RegDef := ⟨"LVL_SLEW", 0x140, [], [ LVL_SLEW.INTV, LVL_SLEW.STEP]⟩

/-- FORCE_SLEW.INTV [41:32], RWS (R112): Step interval in sub-ticks, 1 to 1,023; 0 reserved (R84) -/
def FORCE_SLEW.INTV : Fld := ⟨0x148, 32, 10, .rws, fun _ => 1, fun v => v != 0⟩
/-- FORCE_SLEW.STEP [17:0], RWS (R112): Codes per step; 0 means one step. LVL_SLEW uses [15:0], and [17:16] are RSV in it -/
def FORCE_SLEW.STEP : Fld := ⟨0x148, 0, 18, .rws, fun _ => 0x100, fun _ => true⟩
/-- The register FORCE_SLEW (R112): one instance. -/
def FORCE_SLEW.reg : RegDef := ⟨"FORCE_SLEW", 0x148, [], [ FORCE_SLEW.INTV, FORCE_SLEW.STEP]⟩

/-- GEN_CTRL.WAVE [5:4], RWS (R112): 0b00 triangle; 0b01 sawtooth; 0b10 noise; 0b11 reserved -/
def GEN_CTRL.WAVE : Fld := ⟨0x150, 4, 2, .rws, fun _ => 0, fun v => v != 3⟩
/-- GEN_CTRL.RUN [0:0], RWS (R112): R93, R95 -/
def GEN_CTRL.RUN : Fld := ⟨0x150, 0, 1, .rws, fun _ => 0, fun _ => true⟩
/-- The register GEN_CTRL (R112): one instance. -/
def GEN_CTRL.reg : RegDef := ⟨"GEN_CTRL", 0x150, [], [ GEN_CTRL.WAVE, GEN_CTRL.RUN]⟩

/-- GEN_CFG.GINTV [63:54], RWS (R112): Generator interval in sub-ticks, 1 to 1,023; 0 reserved -/
def GEN_CFG.GINTV : Fld := ⟨0x158, 54, 10, .rws, fun _ => 1, fun v => v != 0⟩
/-- GEN_CFG.GSTEP [49:32], RWS (R112): Codes per step, 1 to 262,143; 0 reserved; ignored for noise -/
def GEN_CFG.GSTEP : Fld := ⟨0x158, 32, 18, .rws, fun _ => 1, fun v => v != 0⟩
/-- GEN_CFG.AMPL [17:0], RWS (R112): Amplitude A in codes -/
def GEN_CFG.AMPL : Fld := ⟨0x158, 0, 18, .rws, fun _ => 0, fun _ => true⟩
/-- The register GEN_CFG (R112): one instance. -/
def GEN_CFG.reg : RegDef := ⟨"GEN_CFG", 0x158, [], [ GEN_CFG.GINTV, GEN_CFG.GSTEP, GEN_CFG.AMPL]⟩

/-- GEN_SEED.SEED [22:0], RWS (R112): Noise start state; 0 reserved -/
def GEN_SEED.SEED : Fld := ⟨0x160, 0, 23, .rws, fun _ => 1, fun v => v != 0⟩
/-- The register GEN_SEED (R112): one instance. -/
def GEN_SEED.reg : RegDef := ⟨"GEN_SEED", 0x160, [], [ GEN_SEED.SEED]⟩

/-- GEN_STAT.OUT [49:32], RO (R112): Present force DAC output code -/
def GEN_STAT.OUT : Fld := ⟨0x168, 32, 18, .ro, fun _ => 0x10000, fun _ => true⟩
/-- GEN_STAT.CLIPS [31:16], RC (R112): Clipped steps (R94); saturates at 0xFFFF -/
def GEN_STAT.CLIPS : Fld := ⟨0x168, 16, 16, .rc, fun _ => 0, fun _ => true⟩
/-- GEN_STAT.CAUSE [3:1], RO (R112): Last stop: 0 none; 1 RUN; 2 path; 3 bolting; 4 clearing; 5 to 7 not used -/
def GEN_STAT.CAUSE : Fld := ⟨0x168, 1, 3, .ro, fun _ => 0, fun _ => true⟩
/-- GEN_STAT.RUN_ACT [0:0], RO (R112): Generator running -/
def GEN_STAT.RUN_ACT : Fld := ⟨0x168, 0, 1, .ro, fun _ => 0, fun _ => true⟩
/-- The register GEN_STAT (R112): one instance. -/
def GEN_STAT.reg : RegDef := ⟨"GEN_STAT", 0x168, [], [ GEN_STAT.OUT, GEN_STAT.CLIPS, GEN_STAT.CAUSE, GEN_STAT.RUN_ACT]⟩

/-- LVL_ACT0.VIH [63:48], RO (R112): Present output code -/
def LVL_ACT0.VIH : Fld := ⟨0x170, 48, 16, .ro, fun _ => 0x4000, fun _ => true⟩
/-- LVL_ACT0.VIL [47:32], RO (R112): Present output code -/
def LVL_ACT0.VIL : Fld := ⟨0x170, 32, 16, .ro, fun _ => 0x4000, fun _ => true⟩
/-- LVL_ACT0.VOH [31:16], RO (R112): Present output code -/
def LVL_ACT0.VOH : Fld := ⟨0x170, 16, 16, .ro, fun _ => 0x4000, fun _ => true⟩
/-- LVL_ACT0.VOL [15:0], RO (R112): Present output code -/
def LVL_ACT0.VOL : Fld := ⟨0x170, 0, 16, .ro, fun _ => 0x4000, fun _ => true⟩
/-- The register LVL_ACT0 (R112): one instance. -/
def LVL_ACT0.reg : RegDef := ⟨"LVL_ACT0", 0x170, [], [ LVL_ACT0.VIH, LVL_ACT0.VIL, LVL_ACT0.VOH, LVL_ACT0.VOL]⟩

/-- LVL_ACT1.RAMP [62:56], RO (R112): One bit per level DAC, set while it ramps: bit 56 VIH up to bit 62 CLL -/
def LVL_ACT1.RAMP : Fld := ⟨0x178, 56, 7, .ro, fun _ => 0, fun _ => true⟩
/-- LVL_ACT1.VTT [47:32], RO (R112): Present output code -/
def LVL_ACT1.VTT : Fld := ⟨0x178, 32, 16, .ro, fun _ => 0x4000, fun _ => true⟩
/-- LVL_ACT1.CLH [31:16], RO (R112): Present output code -/
def LVL_ACT1.CLH : Fld := ⟨0x178, 16, 16, .ro, fun _ => 0x4000, fun _ => true⟩
/-- LVL_ACT1.CLL [15:0], RO (R112): Present output code -/
def LVL_ACT1.CLL : Fld := ⟨0x178, 0, 16, .ro, fun _ => 0x4000, fun _ => true⟩
/-- The register LVL_ACT1 (R112): one instance. -/
def LVL_ACT1.reg : RegDef := ⟨"LVL_ACT1", 0x178, [], [ LVL_ACT1.RAMP, LVL_ACT1.VTT, LVL_ACT1.CLH, LVL_ACT1.CLL]⟩

/-- FORCE_ACT.RAMP [63:63], RO (R112): Ramp in progress -/
def FORCE_ACT.RAMP : Fld := ⟨0x180, 63, 1, .ro, fun _ => 0, fun _ => true⟩
/-- FORCE_ACT.TARGET [49:32], RO (R112): Target in force -/
def FORCE_ACT.TARGET : Fld := ⟨0x180, 32, 18, .ro, fun _ => 0x10000, fun _ => true⟩
/-- FORCE_ACT.OUT [17:0], RO (R112): Present output code, excluding generator offset -/
def FORCE_ACT.OUT : Fld := ⟨0x180, 0, 18, .ro, fun _ => 0x10000, fun _ => true⟩
/-- The register FORCE_ACT (R112): one instance. -/
def FORCE_ACT.reg : RegDef := ⟨"FORCE_ACT", 0x180, [], [ FORCE_ACT.RAMP, FORCE_ACT.TARGET, FORCE_ACT.OUT]⟩

/-- RB_SLC.LAST_DAC [37:32], RO (R112): Index of the last mismatched DAC of this slice (R97) -/
def RB_SLC.LAST_DAC : Fld := ⟨0x188, 32, 6, .ro, fun _ => 0, fun _ => true⟩
/-- RB_SLC.MISS [15:0], RC (R112): Mismatches on this slice; saturates at 0xFFFF -/
def RB_SLC.MISS : Fld := ⟨0x188, 0, 16, .rc, fun _ => 0, fun _ => true⟩
/-- The register RB_SLC (R112): one instance. -/
def RB_SLC.reg : RegDef := ⟨"RB_SLC", 0x188, [], [ RB_SLC.LAST_DAC, RB_SLC.MISS]⟩

/-- CLR_LVL.NCODE [47:32], RW (R112): Complement of CODE (R86) -/
def CLR_LVL.NCODE : Fld := ⟨0x1C0, 32, 16, .rw, fun _ => 0xbfff, fun _ => true⟩
/-- CLR_LVL.CODE [15:0], RW (R112): Clear code -/
def CLR_LVL.CODE : Fld := ⟨0x1C0, 0, 16, .rw, fun _ => 0x4000, fun _ => true⟩
/-- The register CLR_LVL (R112): 7 at stride 0x8. -/
def CLR_LVL.reg : RegDef := ⟨"CLR_LVL", 0x1C0, [(0x8, 7)], [ CLR_LVL.NCODE, CLR_LVL.CODE]⟩

/-- CLR_FV.NCODE [49:32], RW (R112): Complement of CODE -/
def CLR_FV.NCODE : Fld := ⟨0x190, 32, 18, .rw, fun _ => 0x2FFFF, fun _ => true⟩
/-- CLR_FV.CODE [17:0], RW (R112): Clear code for the mode -/
def CLR_FV.CODE : Fld := ⟨0x190, 0, 18, .rw, fun _ => 0x10000, fun _ => true⟩
/-- The register CLR_FV (R112): one instance. -/
def CLR_FV.reg : RegDef := ⟨"CLR_FV", 0x190, [], [ CLR_FV.NCODE, CLR_FV.CODE]⟩

/-- CLR_FI.NCODE [49:32], RW (R112): Complement of CODE -/
def CLR_FI.NCODE : Fld := ⟨0x198, 32, 18, .rw, fun _ => 0x1FFFF, fun _ => true⟩
/-- CLR_FI.CODE [17:0], RW (R112): Clear code for the mode -/
def CLR_FI.CODE : Fld := ⟨0x198, 0, 18, .rw, fun _ => 0x20000, fun _ => true⟩
/-- The register CLR_FI (R112): one instance. -/
def CLR_FI.reg : RegDef := ⟨"CLR_FI", 0x198, [], [ CLR_FI.NCODE, CLR_FI.CODE]⟩

/-- WM_CTRL.OFS [47:32], RWS (R113): Sampling offset in sub-ticks (R101) -/
def WM_CTRL.OFS : Fld := ⟨0x200, 32, 16, .rws, fun _ => 0x1f4, fun _ => true⟩
/-- WM_CTRL.HYS [13:8], RWS (R113): Hysteresis in threshold codes -/
def WM_CTRL.HYS : Fld := ⟨0x200, 8, 6, .rws, fun _ => 0, fun _ => true⟩
/-- WM_CTRL.IRQ [2:2], RWS (R113): R106 -/
def WM_CTRL.IRQ : Fld := ⟨0x200, 2, 1, .rws, fun _ => 0, fun _ => true⟩
/-- WM_CTRL.LATCH [1:1], RWS (R113): R105 -/
def WM_CTRL.LATCH : Fld := ⟨0x200, 1, 1, .rws, fun _ => 0, fun _ => true⟩
/-- WM_CTRL.EN [0:0], RWS (R113): Monitor enabled -/
def WM_CTRL.EN : Fld := ⟨0x200, 0, 1, .rws, fun _ => 0, fun _ => true⟩
/-- The register WM_CTRL (R113): one instance. -/
def WM_CTRL.reg : RegDef := ⟨"WM_CTRL", 0x200, [], [ WM_CTRL.OFS, WM_CTRL.HYS, WM_CTRL.IRQ, WM_CTRL.LATCH, WM_CTRL.EN]⟩

/-- WM_TH.TH_HI [27:16], RWS (R113): Upper threshold code -/
def WM_TH.TH_HI : Fld := ⟨0x208, 16, 12, .rws, fun _ => 0x400, fun v => decide (205 ≤ v ∧ v ≤ 3891)⟩
/-- WM_TH.TH_LO [11:0], RWS (R113): Lower threshold code -/
def WM_TH.TH_LO : Fld := ⟨0x208, 0, 12, .rws, fun _ => 0x400, fun v => decide (205 ≤ v ∧ v ≤ 3891)⟩
/-- The register WM_TH (R113): one instance. -/
def WM_TH.reg : RegDef := ⟨"WM_TH", 0x208, [], [ WM_TH.TH_HI, WM_TH.TH_LO]⟩

/-- WM_STAT.TICK [63:48], RO (R113): TICKNO[15:0] of the last sample -/
def WM_STAT.TICK : Fld := ⟨0x210, 48, 16, .ro, fun _ => 0, fun _ => true⟩
/-- WM_STAT.CLEAR [12:12], WO (R113): Writing 1 sets VERDICT to RAW (R105) -/
def WM_STAT.CLEAR : Fld := ⟨0x210, 12, 1, .wo, fun _ => 0, fun _ => true⟩
/-- WM_STAT.CLR_HELD [10:10], RO (R113): R106 -/
def WM_STAT.CLR_HELD : Fld := ⟨0x210, 10, 1, .ro, fun _ => 0, fun _ => true⟩
/-- WM_STAT.SEEN_BELOW [9:9], W1C (R113): R105 -/
def WM_STAT.SEEN_BELOW : Fld := ⟨0x210, 9, 1, .w1c, fun _ => 0, fun _ => true⟩
/-- WM_STAT.SEEN_ABOVE [8:8], W1C (R113): R105 -/
def WM_STAT.SEEN_ABOVE : Fld := ⟨0x210, 8, 1, .w1c, fun _ => 0, fun _ => true⟩
/-- WM_STAT.RAW [6:4], RO (R113): R102 -/
def WM_STAT.RAW : Fld := ⟨0x210, 4, 3, .ro, fun _ => 0, fun _ => true⟩
/-- WM_STAT.VERDICT [2:0], RO (R113): R102 -/
def WM_STAT.VERDICT : Fld := ⟨0x210, 0, 3, .ro, fun _ => 0, fun _ => true⟩
/-- The register WM_STAT (R113): one instance. -/
def WM_STAT.reg : RegDef := ⟨"WM_STAT", 0x210, [], [ WM_STAT.TICK, WM_STAT.CLEAR, WM_STAT.CLR_HELD, WM_STAT.SEEN_BELOW, WM_STAT.SEEN_ABOVE, WM_STAT.RAW, WM_STAT.VERDICT]⟩

/-- WM_CLR_TH.NHI [59:48], RW (R113): Complement of HI -/
def WM_CLR_TH.NHI : Fld := ⟨0x218, 48, 12, .rw, fun _ => 0xbff, fun _ => true⟩
/-- WM_CLR_TH.NLO [43:32], RW (R113): Complement of LO -/
def WM_CLR_TH.NLO : Fld := ⟨0x218, 32, 12, .rw, fun _ => 0xbff, fun _ => true⟩
/-- WM_CLR_TH.HI [27:16], RW (R113): Clear code, upper threshold -/
def WM_CLR_TH.HI : Fld := ⟨0x218, 16, 12, .rw, fun _ => 0x400, fun _ => true⟩
/-- WM_CLR_TH.LO [11:0], RW (R113): Clear code, lower threshold -/
def WM_CLR_TH.LO : Fld := ⟨0x218, 0, 12, .rw, fun _ => 0x400, fun _ => true⟩
/-- The register WM_CLR_TH (R113): one instance. -/
def WM_CLR_TH.reg : RegDef := ⟨"WM_CLR_TH", 0x218, [], [ WM_CLR_TH.NHI, WM_CLR_TH.NLO, WM_CLR_TH.HI, WM_CLR_TH.LO]⟩

/-- WM_EVCNT.SKIPS [47:32], RC (R113): Samples not taken (R101); saturates at 0xFFFF -/
def WM_EVCNT.SKIPS : Fld := ⟨0x220, 32, 16, .rc, fun _ => 0, fun _ => true⟩
/-- WM_EVCNT.ABOVE [31:16], RC (R113): Entries into ABOVE; saturates at 0xFFFF -/
def WM_EVCNT.ABOVE : Fld := ⟨0x220, 16, 16, .rc, fun _ => 0, fun _ => true⟩
/-- WM_EVCNT.BELOW [15:0], RC (R113): Entries into BELOW; saturates at 0xFFFF -/
def WM_EVCNT.BELOW : Fld := ⟨0x220, 0, 16, .rc, fun _ => 0, fun _ => true⟩
/-- The register WM_EVCNT (R113): one instance. -/
def WM_EVCNT.reg : RegDef := ⟨"WM_EVCNT", 0x220, [], [ WM_EVCNT.SKIPS, WM_EVCNT.ABOVE, WM_EVCNT.BELOW]⟩

/-- TIA_CTRL.SRC [4:4], RWS (R245): 0 CMP_H; 1 CMP_L (R227) -/
def TIA_CTRL.SRC : Fld := ⟨0x300, 4, 1, .rws, fun _ => 0, fun _ => true⟩
/-- TIA_CTRL.IRQ [2:2], RWS (R245): R241; also raises slice source s at the first lost stamp after each read of TIA_EVCNT -/
def TIA_CTRL.IRQ : Fld := ⟨0x300, 2, 1, .rws, fun _ => 0, fun _ => true⟩
/-- TIA_CTRL.MODE [1:0], RWS (R245): 0b00 off; 0b01 rising; 0b10 falling; 0b11 both -/
def TIA_CTRL.MODE : Fld := ⟨0x300, 0, 2, .rws, fun _ => 0, fun _ => true⟩
/-- The register TIA_CTRL (R245): one instance. -/
def TIA_CTRL.reg : RegDef := ⟨"TIA_CTRL", 0x300, [], [ TIA_CTRL.SRC, TIA_CTRL.IRQ, TIA_CTRL.MODE]⟩

/-- TIA_STAT.LEVEL [15:8], RO (R245): FIFO entries, 0 to 64 -/
def TIA_STAT.LEVEL : Fld := ⟨0x308, 8, 8, .ro, fun _ => 0, fun _ => true⟩
/-- TIA_STAT.GATE [7:7], RO (R245): Frequency gate open -/
def TIA_STAT.GATE : Fld := ⟨0x308, 7, 1, .ro, fun _ => 0, fun _ => true⟩
/-- TIA_STAT.CAL_OK [6:6], RO (R245): Last calibration passed (R238) -/
def TIA_STAT.CAL_OK : Fld := ⟨0x308, 6, 1, .ro, fun _ => 0, fun _ => true⟩
/-- TIA_STAT.DLL_LOCK [5:5], RO (R245): R236 -/
def TIA_STAT.DLL_LOCK : Fld := ⟨0x308, 5, 1, .ro, fun _ => 0, fun _ => true⟩
/-- TIA_STAT.SRC_ACT [4:4], RO (R245): SRC in force -/
def TIA_STAT.SRC_ACT : Fld := ⟨0x308, 4, 1, .ro, fun _ => 0, fun _ => true⟩
/-- TIA_STAT.MODE_ACT [1:0], RO (R245): MODE in force -/
def TIA_STAT.MODE_ACT : Fld := ⟨0x308, 0, 2, .ro, fun _ => 0, fun _ => true⟩
/-- The register TIA_STAT (R245): one instance. -/
def TIA_STAT.reg : RegDef := ⟨"TIA_STAT", 0x308, [], [ TIA_STAT.LEVEL, TIA_STAT.GATE, TIA_STAT.CAL_OK, TIA_STAT.DLL_LOCK, TIA_STAT.SRC_ACT, TIA_STAT.MODE_ACT]⟩

/-- TIA_CAL.TICK [63:48], RO (R245): TICKNO[15:0] of the tick in which the calibration ran -/
def TIA_CAL.TICK : Fld := ⟨0x310, 48, 16, .ro, fun _ => 0, fun _ => true⟩
/-- TIA_CAL.GAIN [31:16], RO (R245): R237 -/
def TIA_CAL.GAIN : Fld := ⟨0x310, 16, 16, .ro, fun _ => 0, fun _ => true⟩
/-- TIA_CAL.OFS [15:0], RO (R245): Signed raw codes -/
def TIA_CAL.OFS : Fld := ⟨0x310, 0, 16, .ro, fun _ => 0, fun _ => true⟩
/-- The register TIA_CAL (R245): one instance. -/
def TIA_CAL.reg : RegDef := ⟨"TIA_CAL", 0x310, [], [ TIA_CAL.TICK, TIA_CAL.GAIN, TIA_CAL.OFS]⟩

/-- TIA_POP.STAMP [63:0], RC (R245): Oldest FIFO entry, removed by the read; a padding word when the FIFO is empty or a chain is attached (R233) -/
def TIA_POP.STAMP : Fld := ⟨0x318, 0, 64, .rc, fun _ => 0, fun _ => true⟩
/-- The register TIA_POP (R245): one instance. -/
def TIA_POP.reg : RegDef := ⟨"TIA_POP", 0x318, [], [ TIA_POP.STAMP]⟩

/-- TIA_EVCNT.MISSED [63:32], RC (R245): R229; saturates at 0xFFFF_FFFF -/
def TIA_EVCNT.MISSED : Fld := ⟨0x320, 32, 32, .rc, fun _ => 0, fun _ => true⟩
/-- TIA_EVCNT.LOST [31:16], RC (R245): R229, R243; saturates at 0xFFFF -/
def TIA_EVCNT.LOST : Fld := ⟨0x320, 16, 16, .rc, fun _ => 0, fun _ => true⟩
/-- TIA_EVCNT.LATE [15:8], RC (R245): R239; saturates at 0xFF -/
def TIA_EVCNT.LATE : Fld := ⟨0x320, 8, 8, .rc, fun _ => 0, fun _ => true⟩
/-- TIA_EVCNT.RESTARTS [7:0], RC (R245): R242; saturates at 0xFF -/
def TIA_EVCNT.RESTARTS : Fld := ⟨0x320, 0, 8, .rc, fun _ => 0, fun _ => true⟩
/-- The register TIA_EVCNT (R245): one instance. -/
def TIA_EVCNT.reg : RegDef := ⟨"TIA_EVCNT", 0x320, [], [ TIA_EVCNT.MISSED, TIA_EVCNT.LOST, TIA_EVCNT.LATE, TIA_EVCNT.RESTARTS]⟩

/-- TIA_FCTL.START [63:63], WO (R245): Writing 1 opens a gate at the next tick (R242) -/
def TIA_FCTL.START : Fld := ⟨0x328, 63, 1, .wo, fun _ => 0, fun _ => true⟩
/-- TIA_FCTL.GATE [23:0], RW (R245): Gate time in µs, 10 to 10,000,000; other values reserved (R8) -/
def TIA_FCTL.GATE : Fld := ⟨0x328, 0, 24, .rw, fun _ => 0x3e8, fun v => decide (10 ≤ v ∧ v ≤ 10000000)⟩
/-- The register TIA_FCTL (R245): one instance. -/
def TIA_FCTL.reg : RegDef := ⟨"TIA_FCTL", 0x328, [], [ TIA_FCTL.START, TIA_FCTL.GATE]⟩

/-- TIA_FRES.VALID [63:63], RO (R245): R241 -/
def TIA_FRES.VALID : Fld := ⟨0x330, 63, 1, .ro, fun _ => 0, fun _ => true⟩
/-- TIA_FRES.COLD [62:62], RO (R245): no further words -/
def TIA_FRES.COLD : Fld := ⟨0x330, 62, 1, .ro, fun _ => 0, fun _ => true⟩
/-- TIA_FRES.UNCAL [61:61], RO (R245): no further words -/
def TIA_FRES.UNCAL : Fld := ⟨0x330, 61, 1, .ro, fun _ => 0, fun _ => true⟩
/-- TIA_FRES.SHORT [60:60], RO (R245): R239 -/
def TIA_FRES.SHORT : Fld := ⟨0x330, 60, 1, .ro, fun _ => 0, fun _ => true⟩
/-- TIA_FRES.FEW [59:59], RO (R245): Fewer than three stamps -/
def TIA_FRES.FEW : Fld := ⟨0x330, 59, 1, .ro, fun _ => 0, fun _ => true⟩
/-- TIA_FRES.F_UHZ [50:0], RO (R245): Frequency in µHz -/
def TIA_FRES.F_UHZ : Fld := ⟨0x330, 0, 51, .ro, fun _ => 0, fun _ => true⟩
/-- The register TIA_FRES (R245): one instance. -/
def TIA_FRES.reg : RegDef := ⟨"TIA_FRES", 0x330, [], [ TIA_FRES.VALID, TIA_FRES.COLD, TIA_FRES.UNCAL, TIA_FRES.SHORT, TIA_FRES.FEW, TIA_FRES.F_UHZ]⟩

/-- TIA_FINFO.RESID [63:58], RO (R245): RMS fit residual, 0.5 ps units; saturates at 63 -/
def TIA_FINFO.RESID : Fld := ⟨0x338, 58, 6, .ro, fun _ => 0, fun _ => true⟩
/-- TIA_FINFO.STAMPS [57:34], RO (R245): Stamps fitted; saturates at 0xFF_FFFF -/
def TIA_FINFO.STAMPS : Fld := ⟨0x338, 34, 24, .ro, fun _ => 0, fun _ => true⟩
/-- TIA_FINFO.EDGES [33:0], RO (R245): Rising edges counted in the gate -/
def TIA_FINFO.EDGES : Fld := ⟨0x338, 0, 34, .ro, fun _ => 0, fun _ => true⟩
/-- The register TIA_FINFO (R245): one instance. -/
def TIA_FINFO.reg : RegDef := ⟨"TIA_FINFO", 0x338, [], [ TIA_FINFO.RESID, TIA_FINFO.STAMPS, TIA_FINFO.EDGES]⟩

/-- CAL_K.NK [63:32], RO (R428): Complement of K -/
def CAL_K.NK : Fld := ⟨0x400, 32, 32, .ro, fun _ => 0xffffffff, fun _ => true⟩
/-- CAL_K.K [31:0], RO (R428): Constant in force; its meaning is internal to Roestec -/
def CAL_K.K : Fld := ⟨0x400, 0, 32, .ro, fun _ => 0, fun _ => true⟩
/-- The register CAL_K (R428): 24 at stride 0x8. -/
def CAL_K.reg : RegDef := ⟨"CAL_K", 0x400, [(0x8, 24)], [ CAL_K.NK, CAL_K.K]⟩

/-- CAL_CLIM.NLIM [63:48], RO (R428): Complement of LIM -/
def CAL_CLIM.NLIM : Fld := ⟨0x4C0, 48, 16, .ro, fun _ => 0xffff, fun _ => true⟩
/-- CAL_CLIM.LIM [15:0], RO (R428): Current-clamp trim of range i (R67) -/
def CAL_CLIM.LIM : Fld := ⟨0x4C0, 0, 16, .ro, fun _ => 0, fun _ => true⟩
/-- The register CAL_CLIM (R428): 5 at stride 0x8. -/
def CAL_CLIM.reg : RegDef := ⟨"CAL_CLIM", 0x4C0, [(0x8, 5)], [ CAL_CLIM.NLIM, CAL_CLIM.LIM]⟩

/-- CAL_Q.TICK [63:48], RO (R428): TICKNO[15:0] of the last run of task 1 or 2 -/
def CAL_Q.TICK : Fld := ⟨0x4F8, 48, 16, .ro, fun _ => 0, fun _ => true⟩
/-- CAL_Q.EDGE_RES [47:40], RO (R428): Worst edge residual, 0.5 ps units; saturates at 255 -/
def CAL_Q.EDGE_RES : Fld := ⟨0x4F8, 40, 8, .ro, fun _ => 0, fun _ => true⟩
/-- CAL_Q.DC_RES [39:32], RO (R428): Worst DC residual, 10 µV units; saturates at 255 -/
def CAL_Q.DC_RES : Fld := ⟨0x4F8, 32, 8, .ro, fun _ => 0, fun _ => true⟩
/-- CAL_Q.DRIFT [31:16], RO (R428): ppm (R425); saturates at 0xFFFF -/
def CAL_Q.DRIFT : Fld := ⟨0x4F8, 16, 16, .ro, fun _ => 0, fun _ => true⟩
/-- CAL_Q.PATHS [3:3], RO (R428): Spare slice only (R426) -/
def CAL_Q.PATHS : Fld := ⟨0x4F8, 3, 1, .ro, fun _ => 0, fun _ => true⟩
/-- CAL_Q.FAIL_TIA [2:2], RO (R428): Last task 5 failed on this slice -/
def CAL_Q.FAIL_TIA : Fld := ⟨0x4F8, 2, 1, .ro, fun _ => 0, fun _ => true⟩
/-- CAL_Q.FAIL_EDGE [1:1], RO (R428): Last task 4 failed on this slice -/
def CAL_Q.FAIL_EDGE : Fld := ⟨0x4F8, 1, 1, .ro, fun _ => 0, fun _ => true⟩
/-- CAL_Q.FAIL_DC [0:0], RO (R428): Last task 1 or 2 failed on this slice -/
def CAL_Q.FAIL_DC : Fld := ⟨0x4F8, 0, 1, .ro, fun _ => 0, fun _ => true⟩
/-- The register CAL_Q (R428): one instance. -/
def CAL_Q.reg : RegDef := ⟨"CAL_Q", 0x4F8, [], [ CAL_Q.TICK, CAL_Q.EDGE_RES, CAL_Q.DC_RES, CAL_Q.DRIFT, CAL_Q.PATHS, CAL_Q.FAIL_TIA, CAL_Q.FAIL_EDGE, CAL_Q.FAIL_DC]⟩

/-- Every register of the block. -/
def sliceRegs : List RegDef :=
  [ SLC_ID.reg, SLC_CTRL.reg, PMU_CFG.reg, LOAD_CFG.reg, CMP_CFG.reg, SLC_STAT.reg, PMU_MEAS.reg, SLC_EVCNT.reg] ++
  [ LVL_VIH.reg, LVL_VIL.reg, LVL_VOH.reg, LVL_VOL.reg, LVL_VTT.reg, LVL_CLH.reg, LVL_CLL.reg, PMU_FORCE.reg] ++
  [ LVL_SLEW.reg, FORCE_SLEW.reg, GEN_CTRL.reg, GEN_CFG.reg, GEN_SEED.reg, GEN_STAT.reg, LVL_ACT0.reg, LVL_ACT1.reg] ++
  [ FORCE_ACT.reg, RB_SLC.reg, CLR_LVL.reg, CLR_FV.reg, CLR_FI.reg, WM_CTRL.reg, WM_TH.reg, WM_STAT.reg] ++
  [ WM_CLR_TH.reg, WM_EVCNT.reg, TIA_CTRL.reg, TIA_STAT.reg, TIA_CAL.reg, TIA_POP.reg, TIA_EVCNT.reg, TIA_FCTL.reg] ++
  [ TIA_FRES.reg, TIA_FINFO.reg, CAL_K.reg, CAL_CLIM.reg, CAL_Q.reg]

end Sys2Proof.Machine
end

