-- ==== Sys2Proof/Machine/Sparse.lean ====
section
/-!
DEFINITION. Sparse data by key: a list of key and value pairs with rising keys that lists no entry equal to what an
unlisted key reads as, so that equal contents are equal lists. Registers, per-unit engine state and memories are kept so.
-/
namespace Sys2Proof.Machine.Sparse

/-- The listed value of key `k`, if any. -/
def find {α : Type} (k : Nat) : List (Nat × α) → Option α
  | [] => none
  | (j, v) :: t => if j = k then some v else find k t

/-- The list without key `k`. -/
def del {α : Type} (k : Nat) : List (Nat × α) → List (Nat × α)
  | [] => []
  | (j, v) :: t => if j = k then del k t else (j, v) :: del k t

/-- The list with `v` at key `k`, keys kept rising. -/
def put {α : Type} (k : Nat) (v : α) : List (Nat × α) → List (Nat × α)
  | [] => [(k, v)]
  | (j, w) :: t => if k < j then (k, v) :: (j, w) :: t else if k = j then (k, v) :: t else (j, w) :: put k v t

/-- What key `k` reads as: its listed value, else the default `d`. -/
def get {α : Type} (d : α) (k : Nat) (l : List (Nat × α)) : α := (find k l).getD d

/-- Key `k` set to `v`; a value equal to the default removes the entry. -/
def set {α : Type} [DecidableEq α] (d : α) (k : Nat) (v : α) (l : List (Nat × α)) : List (Nat × α) :=
  if v = d then del k l else put k v l

/-- The keys rise strictly, each above `lo`. -/
def rising {α : Type} : Option Nat → List (Nat × α) → Bool
  | _, [] => true
  | none, (k, _) :: t => rising (some k) t
  | some j, (k, _) :: t => decide (j < k) && rising (some k) t

/-- The canonical form over one default: strictly rising keys and no entry equal to the default. -/
def wf {α : Type} [DecidableEq α] (d : α) (l : List (Nat × α)) : Bool :=
  rising none l && l.all (fun p => decide (p.2 ≠ d))

end Sys2Proof.Machine.Sparse
end

