-- ==== Sys2Proof/Machine/State.lean ====
section
/-!
DEFINITION. The state of the block as plain data: the register store (in force, shadow and generation tags), the state of
every engine that the chapters give beyond their registers, the addressed memories as one list of bytes, and the queue of
waiting commands.
-/
namespace Sys2Proof.Machine

/-- Why the block stops with a fault. -/
inductive Fault where
  /-- Raised by BAR2_READ and BAR2_WRITE for an access that runs past the 32 GiB window of R355, an address the spec says
  does not exist. Safe: the model stops where the link would not carry the request. -/
  | outsideWindow
  deriving DecidableEq, Repr

/-- Why the block refuses a command. -/
inductive Refusal where
  /-- Raised by `exec` for a command that has no meaning yet. Safe. -/
  | notModelled (mnemonic : String)
  deriving DecidableEq, Repr

/-! ### Steps and boundaries (ch. 1, 18) -/

/-- A running test step (R15, R365): the queue pair that started it, its named fields, its start tick, and the fields that
are done, took a program fault, a machine check, an underrun, a stall under ABORT, or were bolted. -/
structure StepRec where
  queue : Nat := 0
  mask : Nat := 0
  start : Nat := 0
  done : Nat := 0
  faulted : Nat := 0
  mchecked : Nat := 0
  underran : Nat := 0
  stalled : Nat := 0
  bolted : Nat := 0
  /-- its completion entry waits to be written -/
  closed : Bool := false
  deriving DecidableEq, Repr

/-- Boundary work in progress (R17): its field, or none for work that concerns the whole module, and what it is. -/
structure BWork where
  field : Option Nat
  what : Nat
  unit : Nat
  deriving DecidableEq, Repr

/-! ### Slices, monitors, generators, regulators (ch. 3, 4, 10, 13) -/

/-- What a slice holds beyond its registers. -/
structure SliceSt where
  /-- the PMU mode that the switch presents (R71) -/
  swMode : Nat := 0
  /-- the ramp down of a safe-value path has ended (R71) -/
  downDone : Bool := false
  /-- the switch has changed over in the path in progress (R71) -/
  changed : Bool := false
  /-- the range dropped at a tick boundary and the changeover is due one sub-tick later -/
  dropped : Bool := false
  /-- the slew limiter's position of the PMU force DAC; the output too unless clearing holds it (R90) -/
  forcePos : Nat := 65536
  /-- the slew limiter is moving that position, or timing its path while clearing holds the output (R84, R90) -/
  moving : Bool := false
  /-- the output is ramping to its clear code (R89) -/
  clrRamp : Bool := false
  /-- sub-tick at which a bolt ramp started (R84) -/
  rampFrom : Nat := 0
  /-- sub-tick at which the last ramp of the force DAC ended: settling runs from there (R69) -/
  rampEnd : Option Nat := none
  /-- where the slice stands in a calibration task that opens its series disconnect (R417): 0 in none, 1 on its path to OFF, 2 open, 3
  on its way back -/
  cal : Nat := 0
  /-- a local bolt of the PE die has opened the series disconnect (R472) -/
  localOpen : Bool := false
  /-- the comparator outputs CMP_H and CMP_L, as the strobes have followed them (R60) -/
  cmp : Bool × Bool := (false, false)
  /-- sub-tick at which the driver entered current limit (R80) -/
  limitAt : Option Nat := none
  /-- the driver-overload event of the present limit has been raised (R80) -/
  limitRaised : Bool := false
  /-- a clamp acted during the present track aperture, by kind (R67): current, voltage -/
  clampSeen : Bool × Bool := (false, false)
  /-- the conversion of the tick in progress (R68): its PMU_MEAS word -/
  measNext : Option Nat := none
  /-- the conversions of the latest ticks, newest first: TICKNO and PMU_MEAS word (R164) -/
  meas : List (Nat × Nat) := []
  /-- the generation or boundary setting wrote PMU_FORCE with the mode change at hand (R82) -/
  forceWritten : Bool := false
  /-- outputs held off by a substitution in progress (R76) -/
  substHold : Bool := false
  /-- the driver conducts (R121) -/
  drvOn : Bool := false
  /-- the level it drives -/
  drvHigh : Bool := false
  /-- time of its last transition and of its last strobe, absolute, 0.5 ps units (R127) -/
  lastEdge : Option Nat := none
  lastStrobe : Option Nat := none
  /-- the data of its last driving vector in the step (R122) -/
  lastData : Bool := false
  /-- the scope records by which the slice is bolted: scope code and unit (R403) -/
  boltBy : List (Nat × Nat) := []
  deriving DecidableEq, Repr

/-- What a window monitor holds beyond its registers (R101 to R111). -/
structure WmSt where
  /-- the state after each of the last ticks, newest first: TICKNO, and WM_STAT without SEEN bits (R107, R164) -/
  hist : List (Nat × Nat) := []
  /-- sub-tick at which the thresholds last changed (R101) -/
  thAt : Option Nat := none
  /-- phase of a DPS self-check: 0 none, 1 swap, 2 tie-high, 3 tie-low (R109) -/
  chk : Nat := 0
  /-- a check is to start at the next tick (R109) -/
  chkReq : Bool := false
  deriving DecidableEq, Repr

/-- What a generator holds beyond its registers (R93 to R96). -/
structure GenSt where
  lfsr : Nat := 0
  /-- leg of the waveform and steps taken in it -/
  leg : Nat := 0
  pos : Nat := 0
  /-- offset from the base, in codes -/
  offs : Int := 0
  /-- RUN must come into force as 0 before the generator starts again (R95) -/
  needOff : Bool := false
  deriving DecidableEq, Repr

/-- An open frequency gate (R240): when it ends, the edges counted, and the sums of the fit. -/
structure GateSt where
  /-- absolute sub-tick at which the gate opens and ends -/
  opensAt : Nat := 0
  endsAt : Nat := 0
  opened : Bool := false
  short : Bool := false
  cold : Bool := false
  bad : Bool := false
  edges : Nat := 0
  /-- first stamp: time and edge count -/
  t0 : Nat := 0
  e0 : Nat := 0
  s1 : Nat := 0
  se : Nat := 0
  st : Nat := 0
  see : Nat := 0
  set : Nat := 0
  stt : Nat := 0
  deriving DecidableEq, Repr

/-- What a TIA holds beyond its registers (R227 to R243). -/
structure TiaSt where
  /-- the FIFO, oldest first: epoch (sync pulses × 2^40 + TICKNO[63:24]), absolute time in 0.5 ps, stamp word -/
  fifo : List (Nat × Nat × Nat) := []
  /-- a start that came late waits for its calibration (R239): stamping, and the gate -/
  lateStamp : Bool := false
  lateGate : Bool := false
  /-- absolute time of the last stamp taken, 0.5 ps units -/
  lastStamp : Option Nat := none
  gap : Bool := false
  /-- stamping starts at this sub-tick after a late calibration; none where it starts at its boundary (R230, R237, R239) -/
  stampFrom : Option Nat := none
  stamping : Bool := false
  gate : Option GateSt := none
  /-- computed results waiting for their boundary, oldest first: sub-tick from which, TIA_FRES, TIA_FINFO -/
  results : List (Nat × Nat × Nat) := []
  /-- a result of the latest gate is still owed to FREQRD -/
  resultOwed : Bool := false
  /-- a lost stamp has been signalled since the last read of TIA_EVCNT -/
  lostSignalled : Bool := false
  dllDue : Bool := false
  dllAt : Option Nat := none
  /-- the comparator outputs CMP_H and CMP_L, as the TIA has followed them (R60, R227) -/
  cmp : Bool × Bool := (false, false)
  deriving DecidableEq, Repr

/-- What a regulator holds beyond its registers (ch. 13). -/
structure DpsSt where
  /-- the DAC output code, generator excluded -/
  out : Nat := 0
  /-- the slew limiter's position; the output too unless clearing holds it (R90, R290) -/
  pos : Nat := 0
  /-- the slew limiter is moving that position, or timing its ramp while clearing holds the output (R84, R90) -/
  moving : Bool := false
  /-- the output is ramping to its clear code (R290) -/
  clrRamp : Bool := false
  /-- the booster gate land is held at 0 V (R286, R289) -/
  gateHeld : Bool := true
  /-- the clamp before the range changeover in progress, in 0.5 nA (R285) -/
  oldClamp : Nat := 0
  /-- the land whose hinge path's calibration set the regulator uses, 0x3F its own (R291) -/
  calSet : Nat := 0x3F
  /-- tick boundaries still to pass before the switch closes (R286) -/
  waitLeft : Nat := 0
  /-- ramping to code 0 before the switch opens (R286) -/
  ending : Bool := false
  /-- bolt state: 0 none, 1 waiting for its group, 2 ramping (R289), and the bolt it belongs to -/
  bolt : Nat := 0
  boltId : Nat := 0
  /-- sub-tick at which a bolt ramp started (R84) -/
  rampFrom : Nat := 0
  /-- sub-tick at which the clamp began to act (R282) -/
  clampAt : Option Nat := none
  clampRaised : Bool := false
  /-- range changeover ends at this sub-tick (R285) -/
  rangeUntil : Nat := 0
  measNext : Option Nat := none
  meas : List (Nat × Nat) := []
  boltBy : List (Nat × Nat) := []
  deriving DecidableEq, Repr

/-- Read-back supervision of a field beyond its registers (R97 to R100): position in the list, consecutive mismatches of
that entry, tick index at which each entry was last checked, and whether the present crossing of MAXAGE has been raised. -/
structure RbSt where
  /-- the entry that the slot in progress checks, and the sub-tick at which it was chosen (R98) -/
  sel : Option Nat := none
  selAt : Nat := 0
  /-- sub-tick at which the converter was last taken by an acquisition or by the calibration engine (R100, R261) -/
  used : Nat := 0
  pos : Nat := 0
  miss : Nat := 0
  checked : List (Nat × Nat) := []
  overdue : Bool := false
  deriving DecidableEq, Repr

/-- A slice substitution in progress in a field (R76): the worn slice, the spare, the channel served and the step reached
(1 ramp down, 2 retired, 3 connected, 4 ramp up). -/
structure SubstSt where
  worn : Nat := 0
  chan : Nat := 0
  phase : Nat := 0
  displaced : Nat := 0
  /-- the settings carried over: EN, DOFF, BLEED and IRANGE are restored at B(V+1) -/
  fromPmu : Nat := 0
  deriving DecidableEq, Repr

/-! ### Field DDS source and digitiser (ch. 11) -/

/-- What a DDS source holds beyond its registers. -/
structure DdsSt where
  /-- host commands waiting for their boundary (R252): code 1 RUN, 2 step, 3 STOP; entry; sub-tick of the write -/
  cmds : List (Nat × Nat × Nat) := []
  /-- commands of the program for B(n) (R252, R144): code, entry, tick index of B(n) -/
  prog : List (Nat × Nat × Nat) := []
  /-- marker and event step requests: the sub-tick from which they apply (R252) -/
  steps : List Nat := []
  /-- TICKNO of the boundary of the last RUN (R252) -/
  runTick : Nat := 0
  /-- amplitude and offset in force are 0 V (R255) -/
  silent : Bool := true
  /-- OFFSET, MKEN, MKW, BUS and FAB in force (R256) -/
  offset : Nat := 16384
  mken : Nat := 0
  mkw : Nat := 1
  bus : Bool := false
  fab : Bool := false
  /-- markers emitted, by marker (R254), and the absolute time at which the last pulse of each ends -/
  marks : List (Nat × Nat) := []
  markEnd : List (Nat × Nat) := []
  /-- the list boundary (sub-tick + 1) at which requests last took effect, and how many did (R253) -/
  reqAt : Nat := 0
  reqs : Nat := 0
  /-- the entry that has come into force at this list boundary and whose markers are still to be emitted (R253) -/
  fresh : Option Nat := none
  /-- tick index, plus 1, of the last request of the tick count (R252) -/
  tickStep : Nat := 0
  deriving DecidableEq, Repr

/-- What a digitiser holds beyond its registers. -/
structure DigSt where
  /-- sub-tick of a host START waiting for its boundary (R259) -/
  startReq : Option Nat := none
  /-- absolute sub-tick of t0 once it is known, and that by which the last sample is taken -/
  t0 : Option Nat := none
  lastAt : Nat := 0
  nsamp : Nat := 0
  /-- samples that the capture engine has been offered (R264), and the codes of those it took, by sample (R260) -/
  taken : Nat := 0
  seen : List (Nat × Nat) := []
  /-- DIGACQ waits for its boundary: its tick index (R259) -/
  prog : Option Nat := none
  /-- owner code of the acquisition (R100) -/
  owner : Nat := 0
  deriving DecidableEq, Repr

/-! ### Capture engine (ch. 12) -/

/-- An averaging accumulator (R265). -/
structure AvgSt where
  n : Nat := 0
  sum : Int := 0
  sat : Bool := false
  flag : Bool := false
  tick : Nat := 0
  time : Nat := 0
  /-- an entry summed crosses the trigger level (R268) -/
  hit : Bool := false
  deriving DecidableEq, Repr

/-- What a capture engine holds beyond its registers. -/
structure CapSt where
  /-- the capture SRAM: words by address, 0 where unlisted -/
  sram : List (Nat × Nat) := []
  /-- entry number of the next entry since the arm instant (R264) -/
  entry : Nat := 0
  /-- entry number of the first entry of the present record -/
  recStart : Nat := 0
  /-- record number since ARM (R267) -/
  seq : Nat := 0
  slot : Nat := 0
  trigEntry : Nat := 0
  trigTick : Nat := 0
  forced : Bool := false
  viol : Bool := false
  /-- the first record since ARM has not filled its pre-trigger part (R269) -/
  first : Bool := true
  /-- requests waiting for their boundary: code 1 ARM, 2 TRIG, 3 STOP; sub-tick of the write; owner code of the claimant -/
  reqs : List (Nat × Nat × Nat) := []
  /-- the same from the program, for B(n): code, tick index, owner code -/
  prog : List (Nat × Nat × Nat) := []
  /-- trigger instants waiting for their entry: absolute time in 0.5 ps, forced flag -/
  trigs : List (Nat × Bool) := []
  /-- TICKNO in which the pre-trigger part became full (R270) -/
  fullTick : Option Nat := none
  /-- accumulators by channel, and the previous code of a channel for level triggers (R265, R268) -/
  avg : List (Nat × AvgSt) := []
  prev : List (Nat × Nat) := []
  /-- entries that wait to be taken: capture word, entry time, fail bits for the fail trigger (R264) -/
  feed : List (Nat × Nat × Nat) := []
  /-- words waiting for the spill chain, oldest first; the page and word to write next (R271) -/
  waiting : List Nat := []
  page : Option Nat := none
  word : Nat := 0
  /-- the last epoch copied since the arm instant, and the sync pulses behind the stamps before it (R264, R234) -/
  epoch : Option Nat := none
  syncs : Nat := 0
  /-- words of streaming records that ended before they were written: place (page × 4096 + word) and word (R271, R273) -/
  tail : List (Nat × Nat) := []
  /-- vector number of the next vector of the step (R275) -/
  vnum : Nat := 0
  /-- owner code of the claimant that armed -/
  owner : Nat := 0
  /-- the arm instant, absolute, 0.5 ps units (R264) -/
  armAt : Nat := 0
  /-- a streaming record has ended for this CAUSE and its words are still to be written (R271, R272); 0 none -/
  ending : Nat := 0
  /-- the spill chain is to be detached once the words that wait are written (R271) -/
  spillOff : Bool := false
  deriving DecidableEq, Repr

/-! ### Results (ch. 14) -/

/-- A record on its way to the ring (R296): words 0 to 3 without PHASE, its field, whether it is a notification, and for kinds
2 and 3 the number of vectors whose judgement it waits for (R178) and the stamp at which its record interval began (R298). -/
structure QRec where
  w0 : Nat
  w1 : Nat
  w2 : Nat
  w3 : Nat
  field : Nat
  notif : Bool
  upTo : Option Nat
  since : Nat
  /-- it holds one of the 64 reserved entries (R302) -/
  reserved : Bool
  deriving DecidableEq, Repr

/-- A notification waiting in fault collection (R303). -/
structure Notif where
  src : Nat
  cls : Nat
  field : Nat
  fgen : Nat
  merged : Nat
  deriving DecidableEq, Repr

/-- What the result unit holds beyond its registers. -/
structure ResSt where
  /-- the on-die queue, oldest first (R302) -/
  queue : List QRec := []
  waiting : List Notif := []
  /-- SEQ of each field within the step (R296) -/
  seq : List (Nat × Nat) := []
  /-- fail count and first failing vector by field × 256 + site (R295) -/
  fails : List (Nat × Nat) := []
  first : List (Nat × Nat) := []
  /-- order stamp of the last mark or record (R298) -/
  stamp : Nat := 0
  /-- stamp at which a flag's condition last ended: flag × 1024 + selector (0 every record, 1 + f records of field f,
  32 + c sites of channel c) -/
  marks : List (Nat × Nat) := []
  /-- stamp of the last record of a site by a field, field × 256 + site; and of the field's START_STEP -/
  issued : List (Nat × Nat) := []
  started : List (Nat × Nat) := []
  /-- fields with an underrun or a format error in the present step (R298) -/
  stalled : List (Nat × Nat) := []
  /-- fields whose next record carries PARTIAL (R154), key f, and whose records carry LOST_CAPTURE (R338), key 16 + f -/
  partials : List (Nat × Nat) := []
  /-- the open or last wafer: identifier, TICKNO at its opening, records digested, digest (R305, R306) -/
  waferId : Nat := 0
  waferTick : Nat := 0
  digested : Nat := 0
  digest : List Nat := [0, 0, 0, 0]
  deriving DecidableEq, Repr

/-! ### Faults and repair (ch. 20) -/

/-- A bolt in force (R399, R403): its scope (0 slice, 1 regulator, 2 field, 3 module), its unit, and the sources behind it. -/
structure BoltRec where
  scope : Nat
  unit : Nat
  srcs : List Nat
  deriving DecidableEq, Repr

/-- What fault collection, the repair manager and the Keeper's sticky record hold beyond the registers. -/
structure FaultSt where
  /-- drain counter of each source (R394) -/
  drain : List (Nat × Nat) := []
  bolts : List BoltRec := []
  /-- number of the next bolt of regulators (R289) -/
  boltNext : Nat := 1
  /-- units covered by the reaction in progress, and the sources merged into it with their scopes (R401) -/
  scopes : List (Nat × Nat) := []
  srcs : List (Nat × Nat × Nat) := []
  /-- sources held Degraded and their scopes (R398) -/
  degraded : List (Nat × Nat × Nat) := []
  /-- the module is in the Grave state (R402) -/
  grave : Bool := false
  /-- a release of clearing waits for its tick boundary (R91) -/
  relPend : Bool := false
  /-- a reaction is in progress (R401) -/
  reacting : Bool := false
  /-- a recovery requested (R403) -/
  recover : Bool := false
  /-- substitutions requested or due: kind (0 slice, 1 regulator, 2 sequencer), unit (R407) -/
  due : List (Nat × Nat) := []
  /-- links of a PE die with a lane repair due (R395, R408), and lanes under repair -/
  laneDue : List Nat := []
  laneBusy : List (Nat × Bool) := []
  /-- lane errors since the last repair, by die × 68 + lane (R408) -/
  laneErr : List (Nat × Nat) := []
  /-- directory rows and patch rows that wait for repair -/
  rowDue : List (Nat × Nat) := []
  /-- the repair map has changed since its last save began (R409) -/
  mapDirty : Bool := false
  /-- sequence number of the two repair-map slots, and a save asked for during a save (R409) -/
  saves : Nat := 0
  saveAgain : Bool := false
  /-- sub-tick at which the Keeper last received a heartbeat (R404) -/
  heartbeat : Nat := 0
  deriving DecidableEq, Repr


/-! ### Sequencers (ch. 6, 7) -/

/-- What a sequencer waits for (R146, R155, R145, R140). The instruction that waits is the one at PC, except WAITEV, which PC
has passed. -/
inductive Wait where
  /-- WAITEV, its destination register and the tick index at whose boundary it times out (R155, R165) -/
  | ev (d : Nat) (until_ : Option Nat)
  /-- WAITEV, woken and not yet examined (R155) -/
  | woken (d : Nat)
  /-- the conversion or verdict of the tick with this TICKNO: until B(m + 1) (R164) -/
  | meas (m : Nat)
  /-- the judgement of the first `v` vectors of the step (R166) -/
  | judged (v : Nat)
  /-- frame `n`, a tick index, under construction (R165) -/
  | frame (n : Nat)
  /-- the frequency result of channel `k` (R174) -/
  | gate (k : Nat)
  /-- data from HBM, room in the play queue, or room in the result queue (R140, R226, R302), since the core cycle given -/
  | data (since : Nat)
  deriving DecidableEq, Repr

/-- A long instruction in progress (R181 to R186): its opcode, address, units of work done, whether a point is issued and
awaited, the operands at its start (for SEARCH the present lo and hi), and whether a limit has failed. -/
structure LongSt where
  op : Nat := 0
  pc : Nat := 0
  done : Nat := 0
  issued : Bool := false
  /-- tick index in which the point awaited takes effect -/
  idx : Nat := 0
  gd : Nat := 0
  ga : Nat := 0
  gb : Nat := 0
  failed : Bool := false
  deriving DecidableEq, Repr

/-- An entry of the return stack (R149, R152): the return address, and for event service FLAGS, the wait and the long
instruction that it interrupted. -/
structure RetEntry where
  svc : Bool := false
  addr : Nat := 0
  flags : Nat := 0
  wait : Option Wait := none
  long : Option LongSt := none
  deriving DecidableEq, Repr

/-- What a program has asked for at B(n) (R143, R144). -/
inductive Act where
  /-- a setting: opcode, SEL, channel mask, value (R171, R174) -/
  | set (op sel mask value : Nat)
  /-- SIGNAL with ANCHOR (R179) -/
  | signal (src : Nat)
  /-- TRGOUT: line and action (R176) -/
  | trg (line act : Nat)
  /-- FREQ: channel and gate in µs (R174) -/
  | freq (ch gate : Nat)
  /-- HCONN (R176) -/
  | hconn (k : Nat)
  /-- the plays that SJMP has discarded, by head page (R170, R221) -/
  | sjmp (heads : List Nat)
  deriving DecidableEq, Repr

/-- What the sequencer of a field holds beyond its registers (R138 to R159). -/
structure SeqSt where
  stack : List RetEntry := []
  wait : Option Wait := none
  long : Option LongSt := none
  /-- the program has stopped in the present step, and the field is done (R157) -/
  ended : Bool := false
  done : Bool := false
  /-- tick index of the frame under construction by the sequencer, whether it is open, its cycles, and the core cycle at which
  it started and at which the previous one closed (R44, R145) -/
  frame : Nat := 0
  opened : Bool := false
  cycles : Nat := 0
  startCyc : Nat := 0
  closeCyc : Nat := 0
  /-- frames closed and not yet complete, by tick index, with the core cycle at which the sequencer's part completes (R44) -/
  closes : List (Nat × Nat) := []
  /-- tick index of the first frame whose sequencer's and Sower's parts are not both complete (R44) -/
  compl : Nat := 0
  /-- the stream position: absolute time of the next vector to be issued, 0.5 ps units (R143) -/
  pos : Nat := 0
  /-- vectors issued in the step, fallow vectors excepted, and vectors judged (R166) -/
  issued : Nat := 0
  judged : Nat := 0
  /-- vectors issued when F was last cleared (R139) -/
  fFrom : Nat := 0
  /-- actions waiting for B(n): tick index, sub-tick of issue, action, in program order -/
  acts : List (Nat × Nat × Act) := []
  /-- channels with a fail since START_STEP or the last clear (R174) -/
  fmask : Nat := 0
  /-- channels with a frequency measurement started since START_STEP (R175) -/
  freqs : Nat := 0
  /-- the field plays headland vectors because of an underrun (R46), and the sources that this underrun has raised: overrun, stall
  (R47) -/
  headland : Bool := false
  ovrRaised : Bool := false
  stlRaised : Bool := false
  /-- F(S) was opened at the acceptance of START_STEP: its tick index (R156) -/
  accepted : Option Nat := none
  deriving DecidableEq, Repr

/-! ### Sower and vector stream (ch. 5, 9) -/

/-- A REP block in progress (R205): the place of its body, its length, the words of the present pass still to read, the passes
still to run with the present one, its marker bits, and the pages entered since the body's start. -/
structure RepSt where
  page : Nat := 0
  word : Nat := 0
  len : Nat := 0
  left : Nat := 0
  passes : Nat := 0
  mks : Nat := 0
  back : Nat := 0
  deriving DecidableEq, Repr

/-- A play of a segment in expansion: its serial number, head page and TSEL at issue, where the next word stands, the set
selected, the REP blocks open, innermost first, the literal words still to read, the vectors read and not yet emitted (symbols
and count), markers for the next vector, the vectors that the header still promises under each set (key 64 for C_SEL), and the
place of the page among the resident ones. -/
structure Cur where
  id : Nat := 0
  head : Nat := 0
  tsel : Nat := 0
  page : Nat := 0
  word : Nat := 80
  ts : Option Nat := none
  reps : List RepSt := []
  lits : Nat := 0
  pend : List (Nat × Nat) := []
  mks : Nat := 0
  left : List (Nat × Nat) := []
  bi : Nat := 0
  deriving DecidableEq, Repr

/-- Issued content of the stream that the Sower has not begun (R145, R169), with its serial number. -/
inductive SowItem where
  /-- a play of a segment: head page, TSEL at issue, and the vectors of its header by set (key 64 for C_SEL) -/
  | seg (id head tsel : Nat) (counts : List (Nat × Nat))
  /-- fallow vectors (R146) -/
  | fallow (id n : Nat)
  /-- headland vectors after a format error (R206), the rest of the play with that number -/
  | head (id n : Nat)
  deriving DecidableEq, Repr

/-- Expanded vectors on their way to the PE die: `count` equal vectors from `start`, their symbols, timing set, period,
markers of the first one, kind 0 played, 1 fallow, 2 headland, and the serial number of their item (0 for a headland tick). -/
structure OutRun where
  id : Nat := 0
  start : Nat := 0
  count : Nat := 1
  sym : Nat := 0
  set : Nat := 0
  per : Nat := 0
  mks : Nat := 0
  kind : Nat := 0
  deriving DecidableEq, Repr

/-- A played vector that awaits its judgement (R166): number, start and instant from which it may be judged, fail bits,
fail bits of record-only symbols, the rest of its capture word (R264). -/
structure JudgeVec where
  num : Nat := 0
  start : Nat := 0
  due : Nat := 0
  fails : Nat := 0
  soft : Nat := 0
  word : Nat := 0
  deriving DecidableEq, Repr

/-- What a Sower and the stream of its field hold beyond the registers. -/
structure SowSt where
  queue : List SowItem := []
  cur : Option Cur := none
  /-- serial number of the next item -/
  nextId : Nat := 1
  /-- resident pages in stream order, and the page being fetched (R219) -/
  res : List Nat := []
  fetch : Option Nat := none
  /-- start time of the next vector to expand -/
  epos : Nat := 0
  out : List OutRun := []
  /-- number of the next vector played (R275) -/
  vnum : Nat := 0
  judge : List JudgeVec := []
  /-- the present page wait has been counted (R220) -/
  waiting : Bool := false
  /-- sub-tick of the last emission into the outbound buffer (R44) -/
  putAt : Nat := 0
  deriving DecidableEq, Repr

/-- The stamp writer of a field beyond its registers (R234): the last epoch written to the chain (as in `TiaSt.fifo`), the sync pulses that
the last stamp served had behind it, a detach that waits for the flush, and the slice served last. -/
structure ChainSt where
  epoch : Option Nat := none
  syncs : Nat := 0
  detach : Bool := false
  last : Nat := 16
  deriving DecidableEq, Repr

/-! ### Timing sets (ch. 5) -/

/-- A check of the staged table under way (R131): the result it will report. -/
structure TsSt where
  running : Bool := false
  set : Nat := 0
  chan : Nat := 0
  rule : Nat := 0
  gen : Nat := 0
  deriving DecidableEq, Repr

/-! ### HBM controller (ch. 17) -/

/-- A request waiting at a port (R340): port, page, the field it serves, and the sub-tick of its arrival. -/
structure HReq where
  port : Nat := 0
  page : Nat := 0
  unit : Nat := 0
  at_ : Nat := 0
  /-- its wait beyond four targets has been signalled (R342) -/
  late : Bool := false
  deriving DecidableEq, Repr

/-- What the HBM controller and the segment directory hold beyond the registers. -/
structure HbmSt where
  reqs : List HReq := []
  /-- refresh intervals owed and grants made, by pseudo-channel (R341, R343) -/
  owed : List (Nat × Nat) := []
  grants : List (Nat × Nat) := []
  /-- page retirements whose copy is under way: page, and the pseudo-channel and frame it moves to (R337) -/
  copying : List (Nat × Nat × Nat) := []
  /-- logical pages backed by each pseudo-channel, as its difference from 32,768 when below: key p holds 1 + the count once it
  has changed (R348) -/
  backed : List (Nat × Nat) := []
  /-- pages whose content awaits a refetch; those of them in the refetch queue, and those that wait for room in it (R339) -/
  refetch : List Nat := []
  refq : List Nat := []
  refWait : List Nat := []
  /-- pages being written by PAGE_REFETCH commands or from the mirror -/
  refBusy : List Nat := []
  /-- protected pages with unreadable words (R338) -/
  damaged : List Nat := []
  /-- the damage log: HBM_LOST words (R338) -/
  lost : List Nat := []
  /-- directory rows with a persistent error, not yet repaired (R218) -/
  badRows : List Nat := []
  /-- the directory row map: row, spare row (R218, R409) -/
  rowMap : List (Nat × Nat) := []
  /-- an over-temperature crossing has been raised (R345) -/
  hotOver : Bool := false
  /-- training was asked for by HBM_TRAIN in this slot (R346) -/
  trainSlot : Option Nat := none
  deriving DecidableEq, Repr

/-! ### Sync unit (ch. 15) -/

/-- A pending commit (R318 to R322): its generation, target tick, write count, scope and queue pair; the evaluation for the
present target tick; whether it is to apply at the next boundary. -/
structure CommitRec where
  gen : Nat := 0
  target : Nat := 0
  writes : Nat := 0
  shared : Bool := false
  queue : Nat := 0
  judged : Bool := false
  ready : Bool := false
  apply : Bool := false
  deriving DecidableEq, Repr

/-- What the sync unit holds beyond its registers. -/
structure SyncSt where
  /-- pulses in progress on TRIG_OUT, by line: end, absolute, 0.5 ps units (R316) -/
  pulses : List (Nat × Nat) := []
  /-- commands that wait for the end of a pulse, oldest first: line and action (1 low, 2 high, 3 pulse) -/
  waits : List (Nat × Nat) := []
  /-- host commands that wait for their boundary: line, action, sub-tick of the write -/
  cmds : List (Nat × Nat × Nat) := []
  /-- pulses commanded on SYNC_OUT, oldest first: the REFCLK edge E of each (R312) -/
  issues : List Nat := []
  /-- edges commanded at the output lands, newest last: line pair, instant at the land (0.5 ps units), level (R310) -/
  edges : List (Nat × Nat × Bool) := []
  /-- the sampling edges of local pulses, oldest first (R315), and B(0) of the accepted pulse (R313) -/
  locals : List Nat := []
  b0At : Option Nat := none
  commit : Option CommitRec := none
  deriving DecidableEq, Repr

/-! ### Network time (ch. 16) -/

/-- One direction of the Ethernet bridge (R326, R328): frames that wait with the sub-tick of their arrival, and the residence times of
the two-step Syncs that have left, by identity, one for each. -/
structure EthSt where
  queue : List (EthFrame × Nat) := []
  left : List (Nat × Nat) := []
  deriving DecidableEq, Repr

/-- An exchange under way (R330): the Sync's sequence number, t1 once it is known, its correction, t2; the Delay_Req's number and t3
once it is sent; t4 less its correction once it has come. Times are in 2^-16 ns. -/
structure PtpExch where
  seq : Nat := 0
  t1 : Option Int := none
  corr : Int := 0
  t2 : Int := 0
  reqSeq : Option Nat := none
  t3 : Int := 0
  t4 : Option Int := none
  deriving DecidableEq, Repr

/-- The ordinary clock and the two directions of the bridge (R326 to R331). The clock reads `base`, in 2^-32 ns, at sub-tick `at_`. -/
structure PtpSt where
  base : Int := 0
  at_ : Nat := 0
  /-- masters heard: port, data set, sub-tick of the last Announce -/
  heard : List (Nat × PtpMaster × Nat) := []
  /-- the master in use, and the port through which it is used -/
  master : Option (PtpMaster × Nat) := none
  lastSync : Nat := 0
  syncIntv : Nat := 0
  /-- exchanges under way, oldest first (R330) -/
  exchs : List PtpExch := []
  /-- sub-tick of the last Delay_Req, and the number of the next one -/
  lastReq : Option Nat := none
  reqSeq : Nat := 0
  /-- a step is due at the next tick boundary: the offset, in 2^-16 ns, and the sub-tick at which it became due -/
  step : Option (Int × Nat) := none
  /-- the anchor of the last accepted pulse is still to be latched; a step after RELOCK latches it anew -/
  t0Due : Bool := false
  relocked : Bool := false
  /-- the offset threshold is exceeded -/
  crossed : Bool := false
  /-- by ingress port -/
  eth : List (Nat × EthSt) := []
  /-- frames sent, by egress port, newest last -/
  out : List (Nat × EthFrame) := []
  deriving DecidableEq, Repr

/-! ### Host interface and MSI-X (ch. 18, 19) -/

/-- A long operation in its slot (R367): the queue pair and words of its command, and whether NOTIFY was set; `aux` holds what
its chapter snapshots at acceptance. -/
structure SlotRec where
  queue : Nat := 0
  words : List Nat := []
  notify : Bool := false
  aux : List Nat := []
  deriving DecidableEq, Repr

/-- A completion entry that waits to be written (R359, R362): queue pair, RESULT, and word 1 less PHASE. -/
structure CompRec where
  queue : Nat
  result : Nat
  word1 : Nat
  deriving DecidableEq, Repr

/-- What the host interface and the MSI-X logic hold beyond the registers. -/
structure HostSt where
  /-- the command that each queue pair executes: its eight words (R358, R360) -/
  cmds : List (Nat × List Nat) := []
  comps : List CompRec := []
  /-- completion entries not yet consumed, and entries written since the pair was enabled, by queue pair (R359, R362) -/
  cqOut : List (Nat × Nat) := []
  cqSeq : List (Nat × Nat) := []
  slots : List (Nat × SlotRec) := []
  /-- a PTM exchange is outstanding; the values of PTM_TICK and PTM_HOST latched by the last read of PTM_STAT (R375) -/
  ptmBusy : Bool := false
  ptmLatch : Option (Nat × Nat) := none
  /-- sub-tick of the last automatic PTM exchange (R375) -/
  ptmAt : Nat := 0
  /-- PERST_N is asserted, as it is before start-up (R352), and since when; none once core logic has been reset since (R354) -/
  perst : Bool := true
  perstAt : Option Nat := none
  linkUp : Bool := false
  /-- the link is in ASPM L1 (R373) -/
  l1 : Bool := false
  /-- the function is in D3hot, and is entering it (R374) -/
  d3 : Bool := false
  d3Entering : Bool := false
  /-- vectors whose mask bit is clear, and the function mask (R387) -/
  unmasked : List Nat := []
  fnMask : Bool := false
  /-- pending-bit array of the MSI-X structure -/
  pba : List Nat := []
  /-- vectors that fire without moderation at their next evaluation (R387) -/
  bypass : List Nat := []
  /-- MSI-X messages sent, by vector, newest last; PME signalled -/
  msgs : List Nat := []
  pme : Nat := 0
  /-- words written to host memory, newest last, and words that wait for the link: address, word (R31, R354, R374) -/
  out : List (Nat × Nat) := []
  owed : List (Nat × Nat) := []
  /-- what the last register or page read returned -/
  lastRead : List Nat := []
  deriving DecidableEq, Repr

/-! ### Calibration (ch. 21) -/

/-- The task under way (R421): field, task, whether it is a full run, the sensor's reading and the sub-tick at its start. -/
structure CalRun where
  field : Nat := 0
  task : Nat := 0
  full : Bool := false
  temp : Nat := 0
  since : Nat := 0
  deriving DecidableEq, Repr

/-- What the calibration engine holds beyond its registers: the task under way; tasks named by CAL_RUN and not yet run, by 8f + t, and
those of them to be run full; tasks that have run, failed or been skipped since power-up; sensors above TWARN (0 core die, 1 + f); the
engine's own store of constants (R426). -/
structure CalSt where
  run : Option CalRun := none
  forced : List Nat := []
  full : List Nat := []
  ran : List Nat := []
  warm : List Nat := []
  store : List (Nat × Nat) := []
  /-- the constants of the spare slices by hinge path: (16 × field + path) × 32 + constant (0 to 23 CAL_K, 24 to 28 CAL_CLIM) -/
  sets : List (Nat × Nat) := []
  /-- the hinge paths measured since power-up, as 16 × field + path -/
  seen : List Nat := []
  deriving DecidableEq, Repr

/-! ### Microcode (ch. 8) -/

/-- The engine of a sequencer (R187, R188): the microaddress of the next word where a command has shown the words before it, and the
micro-call stack, innermost return address first. -/
structure UEng where
  ua : Nat := 0
  calls : List Nat := []
  deriving DecidableEq, Repr

/-- The patch image in force in every sequencer (R193), none while no patch is loaded; and the one being loaded by a slot (R194). -/
structure UcSt where
  image : Option SignedImage := none
  load : Option (Nat × SignedImage) := none
  /-- the load of that slot has come into force -/
  active : Bool := false
  /-- the engines of the sequencers -/
  eng : List UEng := List.replicate 17 {}
  /-- the row maps of the patch RAMs: sequencer, row, spare row (R192) -/
  rows : List (Nat × Nat × Nat) := []
  /-- words that the scrub found bad (R198): sequencer and place, as `Block.uPlace` numbers it, 0x4000 on for trap-table entries -/
  bad : List (Nat × Nat) := []
  /-- the next word that the scrub of a sequencer reads: ROM, patch RAM, trap table in turn (R198) -/
  scrub : List Nat := List.replicate 17 0
  deriving DecidableEq, Repr

/-! ### Keyring, boot and flash (ch. 22) -/

/-- What the Keyring holds beyond its registers. Numbers of 32 bytes are little-endian in buffer order. -/
structure KrSt where
  /-- nonces by queue pair: value and sub-tick of the challenge (R438) -/
  nonces : List (Nat × Nat × Nat) := []
  /-- consecutive login failures and sub-tick of the lock, for User and Crypto Officer -/
  failUser : Nat := 0
  failCo : Nat := 0
  lockUser : Nat := 0
  lockCo : Nat := 0
  /-- the key store (R441): credentials, KEK, attestation key -/
  co : Nat := 0
  user : Nat := 0
  kek : Nat := 0
  att : Option Nat := none
  /-- pattern keys by slot -/
  keys : List (Nat × Nat) := []
  /-- the DRBG is instantiated; a known-answer test has failed since start-up -/
  drbg : Bool := false
  katBad : Bool := false
  /-- public-key certificates written by provisioning (R442) -/
  cert : List Nat := []
  /-- digests of the firmware and of the patch in force, 4 words each (R445), and of the repair map in force -/
  fwDigest : List Nat := []
  /-- SVN of the running firmware image, when it has ADV set (R435) -/
  adv : Option Nat := none
  /-- the slot that ran is not the one first tried (R437) -/
  other : Bool := false
  /-- images being stored, by slot (R448) -/
  stored : List (Nat × SignedImage) := []
  deriving DecidableEq, Repr

/-- The flash master (R432): jobs that wait, in order, the one that runs, and those that have ended, by kind (0 repair map, 1 patch, 2
firmware, 3 clear codes, 4 key store, 5 return record, 6 calibration log) and slot, with their outcome. -/
structure FlashSt where
  queue : List (Nat × Nat) := []
  running : Option (Nat × Nat) := none
  ended : List (Nat × Nat × Bool) := []
  deriving DecidableEq, Repr

/-! ### Keeper and supplies (ch. 23, 24) -/

/-- What the Keeper and its port hold beyond its registers: VAUX is present; the reply that the next frame shifts out, the
one that the last frame shifted out; the address last read; the last frame was an accepted BOLT_ARM; the journal entry to write next. -/
structure KeeperSt where
  vaux : Bool := true
  reply : Nat := 0x90000000
  shifted : Nat := 0xFFFFFFFF
  addr : Nat := 0xFFF
  armed : Bool := false
  /-- READ_NEXT has left the block of the last READ (R461) -/
  past : Bool := true
  pos : Nat := 0
  /-- times the repair map has been mirrored since VAUX power-up (R409, R456) -/
  mirror : Nat := 0
  /-- the retention RAM: 4,096 words of 32 bits, 0 where unlisted (R456) -/
  ram : List (Nat × Nat) := []
  deriving DecidableEq, Repr

/-! ### The block -/

/-- The tick unit beyond its registers (ch. 2): time in sub-ticks. -/
structure TimeSt where
  /-- sub-ticks since the start of the model's time -/
  now : Nat := 0
  /-- the sub-tick of the last tick boundary B(n) -/
  lastB : Nat := 0
  /-- tick boundaries passed since the start: an index that no sync pulse resets -/
  ticks : Nat := 0
  /-- sub-tick since which REF_OK and the four lock bits have been 1 (R37) -/
  lockSince : Option Nat := none
  /-- the tick generator stopped and waits for a sync pulse (R37) -/
  waitSync : Bool := false
  /-- OCXO_WARM as its pin stands -/
  warmPin : Bool := false
  /-- sync pulses that have set TICKNO (R234) -/
  syncs : Nat := 0
  /-- the module's timing zero: the sub-tick of B(0) of the last sync pulse (R249) -/
  zero : Nat := 0
  /-- values drawn from `Config.freeValue` so far (the model's own field) -/
  freeCount : Nat := 0
  deriving DecidableEq, Repr

/-- Registers and engines of the block. -/
structure Block where
  /-- the register store: values in force of every field of every register, by field key; unlisted fields hold their reset
  value -/
  regs : List (Nat × Nat) := []
  /-- the shadow values of the RWS fields (R5) -/
  shadow : List (Nat × Nat) := []
  /-- generation tags of the shadow values not yet applied: field key to generation + 1 (R5, R318) -/
  tags : List (Nat × Nat) := []
  time : TimeSt := {}
  steps : List StepRec := []
  bwork : List BWork := []
  slices : List (Nat × SliceSt) := []
  wms : List (Nat × WmSt) := []
  gens : List (Nat × GenSt) := []
  tias : List (Nat × TiaSt) := []
  dpss : List (Nat × DpsSt) := []
  rbs : List (Nat × RbSt) := []
  /-- sub-tick at which a DAC last changed its code, by unit × 32 + index (R98); regulators are units 272 + r -/
  touched : List (Nat × Nat) := []
  substs : List (Nat × SubstSt) := []
  /-- the bus tie and pad switch of a field (R176): 1 + k while the pad of channel k is connected, 0 open -/
  buses : List (Nat × Nat) := []
  ddss : List (Nat × DdsSt) := []
  digs : List (Nat × DigSt) := []
  caps : List (Nat × CapSt) := []
  seqs : List (Nat × SeqSt) := []
  sows : List (Nat × SowSt) := []
  tss : List (Nat × TsSt) := []
  chains : List (Nat × ChainSt) := []
  hbm : HbmSt := {}
  res : ResSt := {}
  flt : FaultSt := {}
  sync : SyncSt := {}
  ptp : PtpSt := {}
  host : HostSt := {}
  cal : CalSt := {}
  uc : UcSt := {}
  kr : KrSt := {}
  flash : FlashSt := {}
  keeper : KeeperSt := {}
  deriving DecidableEq, Repr

/-- The state of the YH-256: the commands that wait, first in first out; the registers and engines; and the addressed
memories, one byte a cell. -/
structure State where
  pending : List Instr
  blk : Block
  mem : List Host.Cell
  deriving DecidableEq, Repr

/-- The block right after reset: every register at the reset value of its table (R6), every memory empty, nothing waiting. -/
def State.reset : State := { pending := [], blk := {}, mem := [] }

end Sys2Proof.Machine
end

