-- ==== Sys2Proof/Machine/Ops.lean ====
section
/-!
DEFINITION. The named operations on registers, units, memories and time that every meaning is written with.
-/
namespace Sys2Proof.Machine

/-- The key of field `F` of the register instance whose block or array base is `base`. -/
def fkey (base : Nat) (F : Fld) : Nat := (base + F.off) * 64 + F.lo

namespace Block

/-- The value in force of a field (R5, R6). -/
def get (b : Block) (base : Nat) (F : Fld) : Nat := Sparse.get (F.rst (base + F.off)) (fkey base F) b.regs

/-- A field in force set to `v`, cut to its width. -/
def set (b : Block) (base : Nat) (F : Fld) (v : Nat) : Block :=
  { b with regs := Sparse.set (F.rst (base + F.off)) (fkey base F) (v % 2 ^ F.w) b.regs }

/-- The shadow value of an RWS field (R5). -/
def getSh (b : Block) (base : Nat) (F : Fld) : Nat := Sparse.get (F.rst (base + F.off)) (fkey base F) b.shadow

/-- The shadow value of an RWS field set to `v`. -/
def setSh (b : Block) (base : Nat) (F : Fld) (v : Nat) : Block :=
  { b with shadow := Sparse.set (F.rst (base + F.off)) (fkey base F) (v % 2 ^ F.w) b.shadow }

/-- A field set in force and in shadow storage. -/
def setBoth (b : Block) (base : Nat) (F : Fld) (v : Nat) : Block := (b.set base F v).setSh base F v

/-- A one-bit field as a Boolean. -/
def flag (b : Block) (base : Nat) (F : Fld) : Bool := b.get base F != 0

/-- A one-bit field set from a Boolean. -/
def setFlag (b : Block) (base : Nat) (F : Fld) (v : Bool) : Block := b.set base F (b01 v)

/-- A counter that saturates, moved up by `k`. -/
def count (b : Block) (base : Nat) (F : Fld) (k : Nat) : Block := b.set base F (satAdd F.w (b.get base F) k)

/-- A counter that wraps, moved up by one. -/
def bump (b : Block) (base : Nat) (F : Fld) : Block := b.set base F (b.get base F + 1)

/-! ### Units -/

/-- The engine state of slice `s`. -/
def slc (b : Block) (s : Nat) : SliceSt := Sparse.get {} s b.slices
/-- Slice `s` changed by `f`. -/
def updSlc (b : Block) (s : Nat) (f : SliceSt → SliceSt) : Block :=
  { b with slices := Sparse.set {} s (f (b.slc s)) b.slices }
/-- The monitor of unit `u`: slice `u`, or regulator `u - 272`. -/
def wm (b : Block) (u : Nat) : WmSt := Sparse.get {} u b.wms
/-- Monitor `u` changed by `f`. -/
def updWm (b : Block) (u : Nat) (f : WmSt → WmSt) : Block := { b with wms := Sparse.set {} u (f (b.wm u)) b.wms }
/-- The generator of unit `u`: slice `u`, or regulator `u - 272`. -/
def gen (b : Block) (u : Nat) : GenSt := Sparse.get {} u b.gens
/-- Generator `u` changed by `f`. -/
def updGen (b : Block) (u : Nat) (f : GenSt → GenSt) : Block := { b with gens := Sparse.set {} u (f (b.gen u)) b.gens }
/-- The TIA of slice `s`. -/
def tia (b : Block) (s : Nat) : TiaSt := Sparse.get {} s b.tias
/-- TIA `s` changed by `f`. -/
def updTia (b : Block) (s : Nat) (f : TiaSt → TiaSt) : Block := { b with tias := Sparse.set {} s (f (b.tia s)) b.tias }
/-- Regulator `r`. -/
def dps (b : Block) (r : Nat) : DpsSt := Sparse.get {} r b.dpss
/-- Regulator `r` changed by `f`. -/
def updDps (b : Block) (r : Nat) (f : DpsSt → DpsSt) : Block := { b with dpss := Sparse.set {} r (f (b.dps r)) b.dpss }
/-- Read-back supervision of field `f`. -/
def rb (b : Block) (f : Nat) : RbSt := Sparse.get {} f b.rbs
/-- Read-back supervision of field `f` changed by `g`. -/
def updRb (b : Block) (f : Nat) (g : RbSt → RbSt) : Block := { b with rbs := Sparse.set {} f (g (b.rb f)) b.rbs }
/-- The DAC of index `i` of unit `u` (R97) changes its code now (R98). -/
def touch (b : Block) (u i : Nat) : Block := { b with touched := Sparse.set 0 (u * 32 + i) b.time.now b.touched }
/-- The substitution in progress in field `f`. -/
def subst (b : Block) (f : Nat) : SubstSt := Sparse.get {} f b.substs
/-- The substitution of field `f` set. -/
def setSubst (b : Block) (f : Nat) (v : SubstSt) : Block := { b with substs := Sparse.set {} f v b.substs }
/-- The DDS source of field `f`. -/
def dds (b : Block) (f : Nat) : DdsSt := Sparse.get {} f b.ddss
/-- DDS source `f` changed by `g`. -/
def updDds (b : Block) (f : Nat) (g : DdsSt → DdsSt) : Block := { b with ddss := Sparse.set {} f (g (b.dds f)) b.ddss }
/-- The digitiser of field `f`. -/
def dig (b : Block) (f : Nat) : DigSt := Sparse.get {} f b.digs
/-- Digitiser `f` changed by `g`. -/
def updDig (b : Block) (f : Nat) (g : DigSt → DigSt) : Block := { b with digs := Sparse.set {} f (g (b.dig f)) b.digs }
/-- The capture engine of field `f`. -/
def cap (b : Block) (f : Nat) : CapSt := Sparse.get {} f b.caps
/-- The stamp writer of field `f`. -/
def chainSt (b : Block) (f : Nat) : ChainSt := Sparse.get {} f b.chains
/-- Stamp writer `f` changed by `g`. -/
def updChain (b : Block) (f : Nat) (g : ChainSt → ChainSt) : Block :=
  { b with chains := Sparse.set {} f (g (b.chainSt f)) b.chains }
/-- Capture engine `f` changed by `g`. -/
def updCap (b : Block) (f : Nat) (g : CapSt → CapSt) : Block := { b with caps := Sparse.set {} f (g (b.cap f)) b.caps }

/-- The sequencer of field `f` (by field; a takeover changes SEQ_STAT.PHYS only, R159). -/
def seq (b : Block) (f : Nat) : SeqSt := Sparse.get {} f b.seqs
/-- Sequencer of field `f` changed by `g`. -/
def updSeq (b : Block) (f : Nat) (g : SeqSt → SeqSt) : Block := { b with seqs := Sparse.set {} f (g (b.seq f)) b.seqs }

/-! ### Time (ch. 2) -/

/-- TICKNO (R38). -/
def tick (b : Block) : Nat := b.get 0 TICKNO.TICKNO
/-- TICKNO[15:0]. -/
def tick16 (b : Block) : Nat := b.tick % 65536
/-- The tick length in force, in sub-ticks (R40). -/
def k (b : Block) : Nat := b.get 0 TICK_K_ACT.K
/-- The reference is cold (R34). -/
def cold (b : Block) : Bool := b.flag 0 TB_STAT.COLD
/-- A value the spec leaves open, fresh each time. -/
def free (b : Block) : Nat := Config.freeValue b.time.freeCount
/-- The counter of free values moved on. -/
def freed (b : Block) : Block := { b with time := { b.time with freeCount := b.time.freeCount + 1 } }

/-- The boundary a request of sub-tick `at` waits for has come: at least 1 µs lies between (R252, R259, R266). -/
def ripe (b : Block) (at_ : Nat) : Bool := decide (at_ + 100 ≤ b.time.lastB)

/-- The present instant is a tick boundary. -/
def atBoundary (b : Block) : Bool := b.time.now == b.time.lastB

end Block

/-- The effective interval of R41: the largest divisor of `K` that does not exceed `n`. -/
def effIntv (K : Nat) : Nat → Nat
  | 0 => 1
  | n + 1 => if K % (n + 1) = 0 then n + 1 else effIntv K n

/-- A step of a sub-tick sequence with interval `n` falls now: a whole number of effective intervals after its origin, which
is the last tick boundary, or the start of a bolt ramp within the tick (R41, R84). -/
def onGrid (b : Block) (origin n : Nat) : Bool :=
  let o := max origin b.time.lastB
  decide (o < b.time.now) && (b.time.now - o) % effIntv b.k n == 0

/-! ### Lifting to the state -/

namespace State

/-- The block changed by `f`; queue and memories as they were. -/
def on (s : State) (f : Block → Block) : State := { s with blk := f s.blk }

end State

/-! ### Memories -/

/-- The memories of the block (R138, R208, R251, R267, R224). The spec gives each an address space of its own; the
model places them one after another in one space of bytes (DESIGN CHOICE, log entry 5). -/
inductive Ram where
  /-- program memory of a sequencer: 32,768 words (R138) -/
  | prog (p : Nat)
  /-- data store of a sequencer: 1,024 words (R138) -/
  | data (p : Nat)
  /-- Sower dictionary of a field: 4,096 words (R208) -/
  | dict (f : Nat)
  /-- DDS list `l` of a field: 4,096 words (R251) -/
  | dds (f l : Nat)
  /-- pattern, capture, stamp and result pages: 4,096 words each (R215) -/
  | pages
  deriving DecidableEq, Repr

/-- The first byte of a memory in the model's space. -/
def Ram.base : Ram → Nat
  | .pages => 0
  | .prog p => 2 ^ 36 + p * 2 ^ 18
  | .data p => 2 ^ 37 + p * 2 ^ 13
  | .dict f => 2 ^ 38 + f * 2 ^ 15
  | .dds f l => 2 ^ 39 + (f * 3 + l) * 2 ^ 15

/-- The canonical form of the memory: rising addresses, no listed zero byte. -/
abbrev Memory.wf (m : List Host.Cell) : Prop := Sparse.wf (0 : BitVec 8) m = true

/-- The byte at address `a`; a byte that nothing has written reads 0 (DESIGN CHOICE, log entry 6). -/
def Memory.byte (m : List Host.Cell) (a : Nat) : BitVec 8 := Sparse.get 0 a m

/-- The memory with byte `v` at address `a`. -/
def Memory.setByte (m : List Host.Cell) (a : Nat) (v : BitVec 8) : List Host.Cell := Sparse.set 0 a v m

/-- The `n` bytes from address `a`, little-endian. -/
def Memory.bytes (m : List Host.Cell) (a : Nat) : Nat → Nat
  | 0 => 0
  | n + 1 => (Memory.byte m a).toNat + 256 * Memory.bytes m (a + 1) n

/-- The memory with the `n` low bytes of `v` from address `a`, little-endian. -/
def Memory.setBytes (m : List Host.Cell) (a v : Nat) : Nat → List Host.Cell
  | 0 => m
  | n + 1 => Memory.setBytes (Memory.setByte m a (BitVec.ofNat 8 v)) (a + 1) (v / 256) n

/-- 64-bit word `i` of a memory. -/
def Memory.word (m : List Host.Cell) (r : Ram) (i : Nat) : Nat := Memory.bytes m (r.base + 8 * i) 8

/-- A memory with word `i` set to `v`. -/
def Memory.setWord (m : List Host.Cell) (r : Ram) (i v : Nat) : List Host.Cell := Memory.setBytes m (r.base + 8 * i) v 8

/-- A memory with the words `vs` from word `i`. -/
def Memory.setWords (m : List Host.Cell) (r : Ram) (i : Nat) : List Nat → List Host.Cell
  | [] => m
  | v :: vs => Memory.setWords (Memory.setWord m r i v) r (i + 1) vs

end Sys2Proof.Machine
end

