-- ==== Sys2Proof/Machine/Irq.lean ====
section
/-!
DEFINITION. The event and interrupt controller (ch. 19): pending bits, arrival counters, routes, and what an arrival does.
-/
namespace Sys2Proof.Machine
namespace Block

/-- The pending bit of source `n` (R379). -/
def icPend (b : Block) (n : Nat) : Bool := bit (b.get (8 * (n / 64)) IC_PEND.BITS) (n % 64)
/-- The enable bit of source `n` (R379). -/
def icEn (b : Block) (n : Nat) : Bool := bit (b.get (8 * (n / 64)) IC_EN.BITS) (n % 64)
/-- The target of source `n` (R381). -/
def icRoute (b : Block) (n : Nat) : Nat := b.get (8 * n) IC_ROUTE.TARGET

/-- Source `n` is pending, enabled and routed to target `t` (R382). -/
def icHits (b : Block) (t n : Nat) : Bool := b.icPend n && b.icEn n && b.icRoute n == t

/-- The lowest source that is pending, enabled and routed to `t`. -/
def icNext (b : Block) (t : Nat) : Option Nat := (List.range 1024).find? (b.icHits t)

/-- The pending bit of source `n` cleared (R379, R389). -/
def icClear (b : Block) (n : Nat) : Block :=
  b.set (8 * (n / 64)) IC_PEND.BITS (clrBit (b.get (8 * (n / 64)) IC_PEND.BITS) (n % 64))

/-- One more arrival for MSI-X vector `v` (R383). -/
def icArr (b : Block) (v : Nat) : Block := b.count (8 * v) IC_VEC.ARR 1

/-- Event line `i` of field `f` is pending (R151). -/
def linePending (b : Block) (f i : Nat) : Bool :=
  b.flag (FLD f + 8 * i) EV_SRC.VALID && b.icHits (b.get (FLD f) SEQ_STAT.PHYS) (b.get (FLD f + 8 * i) EV_SRC.SRC)

/-- The lowest pending event line of field `f`. -/
def lowestLine (b : Block) (f : Nat) : Option Nat := (List.range 64).find? (b.linePending f)

/-- What WAITEV writes to D when field `f` is looked at (R155): the lowest pending line, 64 for a foreign source only,
nothing while no source routed to the sequencer is pending. -/
def eventCode (b : Block) (f : Nat) : Option Nat :=
  match b.lowestLine f with
  | some i => some i
  | none => (b.icNext (b.get (FLD f) SEQ_STAT.PHYS)).map (fun _ => 64)

/-- A WAITEV of field `f` with destination register `d` completes with `v` in it (R155). -/
def endWaitev (b : Block) (f d v : Nat) : Block :=
  ((b.set (FLD f + 8 * d) SEQ_G.VALUE v).set (FLD f) SEQ_STAT.STATE 1).updSeq f (fun q => { q with wait := none })

/-- A sequencer asleep in WAITEV wakes when an enabled source routed to it is pending (R384); it examines what is pending at
TICK_WAIT_END (R155). -/
def wake (b : Block) (f : Nat) : Block :=
  let state := b.get (FLD f) SEQ_STAT.STATE
  match (b.seq f).wait with
  | some (.ev d _) =>
    if (b.eventCode f).isSome ∧ (state = 2 ∨ state = 3) then
      (if state = 3 then b.set (FLD f) SEQ_STAT.STATE 1 else b).updSeq f (fun q => { q with wait := some (.woken d) })
    else b
  | _ => b

/-- All sequencers looked at (R382, R384). -/
def wakeAll (b : Block) : Block := (List.range 16).foldl wake b

/-- The counter of source `n` in IC_CNT moved up by one; it saturates at 255 (R379). -/
def icCount (b : Block) (n : Nat) : Block :=
  let w := b.get (8 * (n / 8)) IC_CNT.CNT
  if bits w (8 * (n % 8)) 8 = 255 then b else b.set (8 * (n / 8)) IC_CNT.CNT (w + 2 ^ (8 * (n % 8)))

/-- A step request for every DDS source that steps on source `n`: it applies 48 ns later (R252). -/
def ddsOnEvent (b : Block) (n : Nat) : Block :=
  (List.range 16).foldl (fun b f =>
    if b.get (FLD f) DDS_CTRL.STEP_SRC = 2 ∧ b.get (FLD f) DDS_CTRL.EVSRC = n ∧ b.get (FLD f) DDS_STAT.STATE ≠ 0 then
      b.updDds f (fun d => { d with steps := d.steps ++ [b.time.now + 5] })
    else b) b

/-- The capture engine of field `f` has a record in progress (R266, R270). -/
def capActive (b : Block) (f : Nat) : Bool :=
  decide (1 ≤ b.get (FLD f) CAP_STAT.STATE ∧ b.get (FLD f) CAP_STAT.STATE ≤ 4)

/-- A trigger instant for the capture engine of field `f`, at an absolute time in 0.5 ps units (R268); an engine that is neither
armed nor about to be takes none. -/
def capTrig (b : Block) (f t : Nat) (forced : Bool) : Block :=
  if b.capActive f ∨ (b.cap f).reqs.any (fun r => r.1 == 1) ∨ (b.cap f).prog.any (fun r => r.1 == 1) then
    b.updCap f (fun c => { c with trigs := c.trigs ++ [(t, forced)] })
  else b

/-- A trigger for every capture engine whose trigger is source `n` (R268). -/
def capOnEvent (b : Block) (n : Nat) : Block :=
  (List.range 16).foldl (fun b f =>
    if b.get (FLD f) CAP_TRG.TSRC = 4 ∧ b.get (FLD f) CAP_TRG.EVSRC = n then
      b.capTrig f (b.time.now * 20000) false
    else b) b

/-- An arrival on source `n` (R379, R383, R384): its pending bit and counter, the count of the vector it is routed to, the
units that it steps or triggers, and the wake of a sleeping sequencer. -/
def arrive (b : Block) (n : Nat) : Block :=
  let b := b.set (8 * (n / 64)) IC_PEND.BITS (setBit (b.get (8 * (n / 64)) IC_PEND.BITS) (n % 64))
  let b := b.icCount n
  let b := if b.icEn n && decide (18 ≤ b.icRoute n) then b.icArr (b.icRoute n - 18) else b
  ((b.ddsOnEvent n).capOnEvent n).wakeAll

/-- An arrival where `c` holds. -/
def arriveIf (b : Block) (c : Bool) (n : Nat) : Block := if c then b.arrive n else b

/-- An edge commanded for the absolute time `t` on the output land of line pair `i`: it leaves the land 20 ns and DLY later (R310). -/
def outEdge (b : Block) (i t : Nat) (level : Bool) : Block :=
  { b with sync := { b.sync with edges := b.sync.edges ++ [(i, t + 40000 + b.get (8 * i) LINE_CAL.DLY, level)] } }

/-- SYNC_OUT and the TRIG_OUT lines are driven low now (R399): what was commanded for later is dropped. -/
def linesLow (b : Block) : Block :=
  let t := b.time.now * 20000
  let b := (List.range 8).foldl (fun b n => b.set (8 * n) TRG_OUT_CFG.LEVEL 0)
    { b with sync := { b.sync with
        pulses := [], waits := [], issues := b.sync.issues.filter (fun e => decide (e ≤ b.time.now))
        edges := b.sync.edges.filter (fun e => decide (e.2.1 ≤ t + 40000 + b.get (8 * e.1) LINE_CAL.DLY)) } }
  (List.range 9).foldl (fun b i => b.outEdge i t false) b

end Block
end Sys2Proof.Machine
end

