-- ==== Sys2Proof/Machine/Flash.lean ====
section
/-!
DEFINITION. Flash jobs (R432): program and erase work of the boot flash, one job at a time, in order of arrival, a repair-map save
ahead of every job that has not started. The flash devices themselves are outside the block.
-/
namespace Sys2Proof.Machine
namespace Block

/-- BF_STAT brought up to the jobs that wait and run (R455). -/
def flashSync (b : Block) : Block :=
  (b.set 0 BF_STAT.QUEUE b.flash.queue.length).setFlag 0 BF_STAT.BUSY b.flash.running.isSome

/-- A flash job of a kind for slot `k` arrives (R432). -/
def flashAsk (b : Block) (kind k : Nat) : Block :=
  let q := if kind = 0 then (kind, k) :: b.flash.queue else b.flash.queue ++ [(kind, k)]
  ({ b with flash := { b.flash with queue := q } }).flashSync

/-- A job of a kind for slot `k` waits or runs. -/
def flashBusy (b : Block) (kind k : Nat) : Bool := b.flash.queue.contains (kind, k) || b.flash.running == some (kind, k)

/-- How the job of a kind for slot `k` has ended, if it has. -/
def flashOutcome (b : Block) (kind k : Nat) : Option Bool :=
  (b.flash.ended.find? (fun x => x.1 == kind && x.2.1 == k)).map (fun x => x.2.2)

/-- The outcome of the job of a kind for slot `k` has been taken. -/
def flashForget (b : Block) (kind k : Nat) : Block :=
  { b with flash := { b.flash with ended := b.flash.ended.filter (fun x => !(x.1 == kind && x.2.1 == k)) } }

/-- The next job starts (R432). -/
def flashStart (b : Block) : Block :=
  match b.flash.running, b.flash.queue with
  | none, j :: t => ({ b with flash := { b.flash with queue := t, running := some j } }).flashSync
  | _, _ => b

/-- The job that runs ends; a failure is counted with its flash address and raises source 603 (R432, R455). Calibration-log records
have no one who waits for them. -/
def flashDone (b : Block) (ok : Bool) (a : Nat) : Block :=
  match b.flash.running with
  | none => b
  | some j =>
    let ended := if j.1 = 6 then b.flash.ended else b.flash.ended ++ [(j.1, j.2, ok)]
    let b := ({ b with flash := { b.flash with running := none, ended := ended } }).flashSync
    if ok then b else ((b.count 0 BF_STAT.ERRORS 1).set 0 BF_STAT.ADDR a).arrive 603

end Block

/-- FLASH_JOB_START (R432). -/
def execFlashJobStart (st : State) : Host.Outcome State Fault Refusal := .next (st.on Block.flashStart)
/-- FLASH_JOB_DONE (R432). -/
def execFlashJobDone (ok : Bool) (a : Nat) (st : State) : Host.Outcome State Fault Refusal := .next (st.on (fun b => b.flashDone ok a))

end Sys2Proof.Machine
end

