-- ==== Sys2Proof/Machine/SliceOps.lean ====
section
/-!
DEFINITION. Slices, level DACs, generators and monitors as shared operations (ch. 3 and 4): codings, clear codes, status,
safe-value paths, stopping a generator and bolting a slice.
-/
namespace Sys2Proof.Machine

/-- A forcing PMU mode (R57, R62). -/
def forcing (m : Nat) : Bool := decide (1 ≤ m ∧ m ≤ 4)
/-- A voltage-forcing mode (R62). -/
def forcesV (m : Nat) : Bool := m == 1 || m == 2
/-- A current-forcing mode (R62). -/
def forcesI (m : Nat) : Bool := m == 3 || m == 4
/-- The safe value of a mode (R71): 0 V in FV, 0 A in FI. -/
def safeCode (m : Nat) : Nat := if forcesI m then 131072 else 65536
/-- A force code valid in a mode (R65, R81). -/
def forceOk (m c : Nat) : Bool := if forcesV m then decide (13108 ≤ c ∧ c ≤ 249036) else true
/-- The target register of level DAC `i` (R97). -/
def lvlTarget : Nat → Fld
  | 0 => LVL_VIH.CODE | 1 => LVL_VIL.CODE | 2 => LVL_VOH.CODE | 3 => LVL_VOL.CODE | 4 => LVL_VTT.CODE | 5 => LVL_CLH.CODE
  | _ => LVL_CLL.CODE
/-- The output of level DAC `i` (R112). -/
def lvlAct : Nat → Fld
  | 0 => LVL_ACT0.VIH | 1 => LVL_ACT0.VIL | 2 => LVL_ACT0.VOH | 3 => LVL_ACT0.VOL | 4 => LVL_ACT1.VTT | 5 => LVL_ACT1.CLH
  | _ => LVL_ACT1.CLL
/-- A level code valid for DAC `i` (R81). -/
def lvlOk (i c : Nat) : Bool :=
  if i = 0 ∨ i = 1 ∨ i = 4 then decide (6554 ≤ c ∧ c ≤ 58982) else decide (3277 ≤ c ∧ c ≤ 62259)
/-- A channel threshold code valid (R81). -/
def thOk (c : Nat) : Bool := decide (205 ≤ c ∧ c ≤ 3891)
/-- A DPS threshold code valid (R81). -/
def dpsThOk (c : Nat) : Bool := decide (205 ≤ c ∧ c ≤ 3584)

/-- A change of range or mode needs a safe-value path (R70). -/
def needsPath (oldMode oldRange newMode newRange : Nat) : Bool :=
  (forcing oldMode && forcing newMode && oldRange != newRange) ||
  (forcesV oldMode && forcesI newMode) || (forcesI oldMode && forcesV newMode) ||
  (forcing oldMode != forcing newMode)

/-- Settling time in sub-ticks of range and filter (R63). -/
def settleSub (range filt : Nat) : Nat :=
  (if range = 0 then 40000 else if range = 1 then 10000 else if range = 2 then 2000 else if range = 3 then 500 else 200) +
  (if filt = 0 then 0 else if filt = 1 then 800 else if filt = 2 then 8000 else 80000)

/-- The output of a DAC moved one slew-limiter step towards `t` (R84); STEP 0 reaches it at once. -/
def slewTo (step v t : Nat) : Nat :=
  if step = 0 then t else if v ≤ t then min (v + step) t else max (v - step) t

namespace Block

/-- Clearing holds the DACs at their clear codes (R89). -/
def held (b : Block) : Bool := b.flag 0 CLR_STAT.HELD

/-- Slice `s` is bolted (R56). -/
def slcBolted (b : Block) (s : Nat) : Bool := b.flag (SLC s) SLC_STAT.BOLTED

/-- Slice `s` is in the role given (R52): 0 active, 1 spare idle, 2 substitute, 3 retired. -/
def slcRole (b : Block) (s : Nat) : Nat := b.get (SLC s) SLC_ID.ROLE

/-- The clear code of level DAC `i`, the factory code where its complement fails, and whether it holds (R81, R88). -/
def lvlClear (b : Block) (s i : Nat) : Nat × Bool :=
  let c := b.get (SLC s + 8 * i) CLR_LVL.CODE
  if c + b.get (SLC s + 8 * i) CLR_LVL.NCODE = 65535 then (c, true) else (16384, false)

/-- The FV clear code of the force DAC (R86, R88). -/
def fvClear (b : Block) (s : Nat) : Nat × Bool :=
  let c := b.get (SLC s) CLR_FV.CODE
  if c + b.get (SLC s) CLR_FV.NCODE = 262143 then (c, true) else (65536, false)

/-- The FI clear code of the force DAC (R86, R88). -/
def fiClear (b : Block) (s : Nat) : Nat × Bool :=
  let c := b.get (SLC s) CLR_FI.CODE
  if c + b.get (SLC s) CLR_FI.NCODE = 262143 then (c, true) else (131072, false)

/-- The clear code of the force DAC for a mode (R89): FI in FI modes, FV otherwise. -/
def forceClear (b : Block) (s m : Nat) : Nat × Bool := if forcesI m then b.fiClear s else b.fvClear s

/-- The clear codes of the channel thresholds, upper and lower, and whether they hold (R86, R88). -/
def thClear (b : Block) (s : Nat) : Nat × Nat × Bool :=
  let h := b.get (SLC s) WM_CLR_TH.HI
  let l := b.get (SLC s) WM_CLR_TH.LO
  if h + b.get (SLC s) WM_CLR_TH.NHI = 4095 ∧ l + b.get (SLC s) WM_CLR_TH.NLO = 4095 then (h, l, true) else (1024, 1024, false)

/-- Every clear code of slice `s` agrees with its complement (R88, R405). -/
def slcClearOk (b : Block) (s : Nat) : Bool :=
  (List.range 7).all (fun i => (b.lvlClear s i).2) && (b.fvClear s).2 && (b.fiClear s).2 && (b.thClear s).2.2

/-! ### The driver at the land (R57, R124, R127) -/

end Block

/-- What the driver of a slice does at its node (R51, R124): nothing, a level, 50 Ω to VTT, or the active load. -/
inductive LandDrive where
  | hiZ | level (high : Bool) | vtt | load
  deriving DecidableEq, Repr

namespace Block

/-- The timed edges act on the driver of slice `s`: EN is 1 in force and the driver is not held (R57, R124). -/
def edgesAct (b : Block) (s : Nat) : Bool := b.flag (SLC s) SLC_STAT.EN_ACT && !b.flag (SLC s) SLC_STAT.DRV_HELD

/-- What the driver of slice `s` presents: the state and level that the timed edges have left, in drive-off what DOFF selects; high
impedance with termination and load off while the edges do not act (R57, R79, R124). -/
def landDrive (b : Block) (s : Nat) : LandDrive :=
  if !b.edgesAct s then .hiZ
  else if (b.slc s).drvOn then .level (b.slc s).drvHigh
  else if b.get (SLC s) SLC_STAT.DOFF_ACT = 1 then .vtt
  else if b.get (SLC s) SLC_STAT.DOFF_ACT = 2 then .load
  else .hiZ

/-- The values that SLC_STAT shows: switches, values in force, hold of the driver (R51, R52, R57, R79). The bleed, EN and DOFF of a spare
slice that takes over a channel are those of its settings from B(V + 1) on (R76); a series disconnect opened for calibration or
by a local bolt stays open (R417, R472). -/
def slcShow (b : Block) (s : Nat) : Block :=
  let m := b.get (SLC s) PMU_CFG.MODE
  let b := b.set (SLC s) SLC_STAT.SER_CLOSED (b01 ((b.slcRole s == 0 || b.slcRole s == 2) && (b.slc s).cal != 2 &&
    !(b.slc s).localOpen))
  let b := if (b.slc s).substHold && s % 17 == 16 then b
    else
      let b := b.set (SLC s) SLC_STAT.BLEED_ACT (b.get (SLC s) SLC_CTRL.BLEED)
      let b := b.set (SLC s) SLC_STAT.EN_ACT (b.get (SLC s) SLC_CTRL.EN)
      b.set (SLC s) SLC_STAT.DOFF_ACT (b.get (SLC s) SLC_CTRL.DOFF)
  let b := b.set (SLC s) SLC_STAT.MODE_ACT m
  b.setFlag (SLC s) SLC_STAT.DRV_HELD (forcing m || b.get (SLC s) SLC_STAT.PATH != 0 || (b.slc s).substHold)

/-- SLC_STAT brought up to the values in force. A driver that thereby turns on or off makes a transition now (R124, R127). -/
def slcSync (b : Block) (s : Nat) : Block :=
  let n := b.slcShow s
  if n.edgesAct s != b.edgesAct s && (n.slc s).drvOn then
    n.updSlc s (fun x => { x with lastEdge := some (max (n.time.now * 20000) (x.lastEdge.getD 0)) })
  else n

/-! ### The comparators (R59, R60, R487) -/

end Block

/-- The node at `uv` µV lies above level code `c` (R81). -/
def aboveLevel (uv : Int) (c : Nat) : Bool := decide (Int.ofNat c * 10000000 < (uv + 2500000) * 65536)

/-- The node at `uv` µV lies below level code `c` (R81). -/
def belowLevel (uv : Int) (c : Nat) : Bool := decide ((uv + 2500000) * 65536 < Int.ofNat c * 10000000)

/-- The hysteresis that CMP_CFG.HYST selects, in µV (R60, R79). -/
def hystUv (c : Nat) : Nat := if c = 0 then 0 else if c = 1 then 5000 else if c = 2 then 10000 else 20000

/-- CMP_H and CMP_L when the node comes to `uv` µV, from what they were, under thresholds `voh` and `vol` and hysteresis `h` µV: an active
output returns only beyond the hysteresis (R60). Beyond the input range they are those of its ends for any valid threshold (R487). -/
def cmpNext (voh vol h : Nat) (c : Bool × Bool) (uv : Int) : Bool × Bool :=
  if 7000000 < uv then (true, false)
  else if uv < -2000000 then (false, true)
  else (aboveLevel uv voh || (c.1 && h != 0 && !belowLevel (uv + h) voh),
    belowLevel uv vol || (c.2 && h != 0 && !aboveLevel (uv - h) vol))

/-- An expectation is met (R59): 0 low, 1 high, 2 mid. -/
def cmpMeets (lvl : Nat) (c : Bool × Bool) : Bool := if lvl = 0 then c.2 else if lvl = 1 then c.1 else !c.1 && !c.2

namespace Block

/-- The comparators of slice `s` when its node comes to `uv` µV, under the thresholds that its DACs present and the hysteresis in force. -/
def cmpStep (b : Block) (s : Nat) (c : Bool × Bool) (uv : Int) : Bool × Bool :=
  cmpNext (b.get (SLC s) LVL_ACT0.VOH) (b.get (SLC s) LVL_ACT0.VOL) (hystUv (b.get (SLC s) CMP_CFG.HYST)) c uv

/-! ### The force DAC (R84, R89, R90) -/

/-- The output of the force DAC takes code `v`. -/
def forceOut (b : Block) (s v : Nat) : Block :=
  if b.get (SLC s) FORCE_ACT.OUT = v ∧ b.get (SLC s) GEN_STAT.OUT = v then b
  else ((b.set (SLC s) FORCE_ACT.OUT v).set (SLC s) GEN_STAT.OUT v).touch s 7

/-- The force DAC at slew-limiter position `v` (R90): the output follows it unless clearing holds the output. -/
def forceAt (b : Block) (s v : Nat) : Block :=
  let b := b.updSlc s (fun x => { x with forcePos := v })
  if b.held then b else b.forceOut s v

/-- The force output while clearing holds it: the clear code of the mode that the switch presents (R90), once it has ramped there. -/
def forceHeld (b : Block) (s : Nat) : Block :=
  if b.held && !(b.slc s).clrRamp then b.forceOut s (b.forceClear s (b.slc s).swMode).1 else b

/-- FORCE_ACT.RAMP shows a ramp under the slew limiter or to the clear code (R112). -/
def forceRampSync (b : Block) (s : Nat) : Block := b.setFlag (SLC s) FORCE_ACT.RAMP ((b.slc s).moving || (b.slc s).clrRamp)

/-- The slew limiter of the force DAC moves, or rests. -/
def forceMove (b : Block) (s : Nat) (go : Bool) : Block := (b.updSlc s (fun x => { x with moving := go })).forceRampSync s

/-- The target in force of the force DAC shown in FORCE_ACT (R112). -/
def forceTargetSync (b : Block) (s : Nat) : Block := b.set (SLC s) FORCE_ACT.TARGET (b.get (SLC s) PMU_FORCE.CODE)

/-- The PMU generator of slice `s` stops (R95). The force DAC's position is the generator's output (R95: "from the present
output"). -/
def slcGenStop (b : Block) (s cause : Nat) : Block :=
  if b.flag (SLC s) GEN_STAT.RUN_ACT then
    let out := b.get (SLC s) GEN_STAT.OUT
    let b := (b.setFlag (SLC s) GEN_STAT.RUN_ACT false).set (SLC s) GEN_STAT.CAUSE cause
    let b := b.updGen s (fun g => { g with needOff := cause != 1, offs := 0 })
    (b.updSlc s (fun x => { x with forcePos := out })).forceOut s out
  else b

/-- A safe-value path starts (R70, R71): the force DAC is to ramp to the safe value of the mode that the switch presents. -/
def pathStart (b : Block) (s : Nat) : Block :=
  let b := b.slcGenStop s 2
  let m := (b.slc s).swMode
  let b := b.updSlc s (fun x => { x with changed := false, dropped := false })
  let b := b.updSlc s (fun x => { x with downDone := !forcing m || x.forcePos == safeCode m })
  (b.set (SLC s) SLC_STAT.PATH 1).forceMove s (!(b.slc s).downDone)

/-- The level DACs of slice `s` begin to ramp towards their targets where they differ (R84, R85); clearing holds them. -/
def lvlRamp (b : Block) (s : Nat) : Block :=
  if b.held then b
  else
    b.set (SLC s) LVL_ACT1.RAMP ((List.range 7).foldl (fun n i =>
      if b.get (SLC s) (lvlTarget i) = b.get (SLC s) (lvlAct i) then n else n + 2 ^ i) 0)

/-- Every level DAC of slice `s` takes its clear code in one step (R89, R92). -/
def lvlToClear (b : Block) (s : Nat) : Block :=
  ((List.range 7).foldl (fun b i => (b.set (SLC s) (lvlAct i) (b.lvlClear s i).1).touch s i) b).set (SLC s) LVL_ACT1.RAMP 0

/-- The threshold DACs of slice `s` jump (R85, R98). -/
def thTouch (b : Block) (s : Nat) : Block := (b.touch s 8).touch s 9

/-- The constants measured for the hinge path of channel `k` of field `f` are those of its spare slice, with their complements (R76,
R426). -/
def calSelect (b : Block) (f k : Nat) : Block :=
  let v := fun i => Sparse.get 0 ((16 * f + k) * 32 + i) b.cal.sets
  let a := SLC (17 * f + 16)
  let b := (List.range 24).foldl (fun b i => (b.set (a + 8 * i) CAL_K.K (v i)).set (a + 8 * i) CAL_K.NK (2 ^ 32 - 1 - v i)) b
  (List.range 5).foldl (fun b i => (b.set (a + 8 * i) CAL_CLIM.LIM (v (24 + i))).set (a + 8 * i) CAL_CLIM.NLIM (2 ^ 16 - 1 - v (24 + i))) b

/-- The open gate of slice `s` ends without a result (R242, R243). -/
def gateDrop (b : Block) (s : Nat) : Block :=
  (b.updTia s (fun t => { t with gate := none, resultOwed := false })).setFlag (SLC s) TIA_STAT.GATE false

/-- The TIA mode in force of slice `s` becomes off (R230). -/
def tiaOff (b : Block) (s : Nat) : Block :=
  ((b.set (SLC s) TIA_CTRL.MODE 0).set (SLC s) TIA_STAT.MODE_ACT 0).updTia s
    (fun t => { t with stamping := false, stampFrom := none })

/-- Bolting a slice (R56, R74, R92, R399, R403): EN 0, BLEED 1 and MODE OFF in force and in shadow, targets at the clear
codes, level and threshold DACs there at once, the generator and gate stopped, and the PMU on its bolt ramp. A series disconnect open for
calibration closes (R52), and PMU_MEAS is no longer valid (R79). -/
def slcBolt (b : Block) (s : Nat) : Block :=
  if b.slcBolted s then b
  else
    let b := ((b.setBoth (SLC s) SLC_CTRL.EN 0).setBoth (SLC s) SLC_CTRL.BLEED 1).setBoth (SLC s) PMU_CFG.MODE 0
    let b := (List.range 7).foldl (fun b i => b.setBoth (SLC s) (lvlTarget i) (b.lvlClear s i).1) b
    let b := b.lvlToClear s
    let b := (b.setBoth (SLC s) WM_TH.TH_HI (b.thClear s).1).setBoth (SLC s) WM_TH.TH_LO (b.thClear s).2.1
    let b := b.slcGenStop s 3
    let b := b.setBoth (SLC s) PMU_FORCE.CODE (b.fvClear s).1
    let b := (b.forceTargetSync s).gateDrop s
    let b := ((b.setFlag (SLC s) SLC_STAT.BOLTED true).setFlag (SLC s) WM_STAT.CLR_HELD true).thTouch s
    let b := (b.setFlag (SLC s) PMU_MEAS.VALID false).updSlc s (fun x => { x with cal := 0 })
    let b := if b.flag (SLC s) SLC_STAT.PMU_SW || b.get (SLC s) SLC_STAT.PATH != 0 then
        let m := (b.slc s).swMode
        let b := b.updSlc s (fun x => { x with downDone := !forcing m || x.forcePos == safeCode m, rampFrom := b.time.now })
        (b.set (SLC s) SLC_STAT.PATH 4).forceMove s (!(b.slc s).downDone)
      else ((b.forceAt s (b.fvClear s).1).forceHeld s).forceMove s false
    b.slcSync s

/-- The bolt ramp of slice `s` has not ended (R401). -/
def slcRamping (b : Block) (s : Nat) : Bool := b.get (SLC s) SLC_STAT.PATH == 4 && !(b.slc s).downDone

end Block
end Sys2Proof.Machine
end

