-- ==== Sys2Proof/Machine/UnitOps.lean ====
section
/-!
DEFINITION. Which unit serves what (R4, R413), and how regulators, DDS sources, digitisers, capture engines and sequencers
stop when their field is bolted (R399).
-/
namespace Sys2Proof.Machine
namespace Block

/-- The slice that serves channel `k` of field `f` (R4, R413). -/
def chSlice (b : Block) (f k : Nat) : Nat :=
  if b.flag (8 * f) RM_CHMAP.SUB && b.get (8 * f) RM_CHMAP.K == k then 17 * f + 16 else 17 * f + k

/-- The channel that slice `s` serves, if any (R79). -/
def slcChan (b : Block) (s : Nat) : Option Nat :=
  let c := b.get (SLC s) SLC_ID.CHAN
  if c < 256 then some c else none

/-- The regulator that serves land `n` (R10, R413). -/
def landReg (b : Block) (n : Nat) : Nat :=
  if b.flag 0 RM_DPSMAP.SUB32 && b.get 0 RM_DPSMAP.LAND32 == n then 32
  else if b.flag 0 RM_DPSMAP.SUB33 && b.get 0 RM_DPSMAP.LAND33 == n then 33 else n

/-- The land that regulator `r` serves, if any (R292). -/
def dpsLand (b : Block) (r : Nat) : Option Nat :=
  let l := b.get (DPS r) DPS_ID.LAND
  if l < 32 then some l else none

/-! ### Field and module idleness (ch. 1) -/

/-- A step that names field `f` is running (R17). -/
def inStep (b : Block) (f : Nat) : Bool := b.steps.any (fun st => bit st.mask f)

/-- Boundary work concerns field `f`: its own, or the module's (R18). This is FLD_STAT.BNDRY_BUSY, a register that the spec
names and places at no offset (log entry 7). -/
def boundaryBusy (b : Block) (f : Nat) : Bool :=
  b.bwork.any (fun w => w.field == some f || w.field == none)

/-- Field `f` is at an idle boundary (R17). -/
def idle (b : Block) (f : Nat) : Bool := !b.inStep f

/-- The module is at its idle boundary (R17). -/
def moduleIdle (b : Block) : Bool := (List.range 16).all b.idle

/-- The boundary work of field `fld`, or of the module, starts (R18). -/
def workStart (b : Block) (fld : Option Nat) (what unit : Nat) : Block := { b with bwork := b.bwork ++ [⟨fld, what, unit⟩] }

/-- The boundary work of that kind and unit ends (R18). -/
def workEnd (b : Block) (what unit : Nat) : Block :=
  { b with bwork := b.bwork.filter (fun w => !(w.what == what && w.unit == unit)) }

/-! ### Regulators (R289, R290) -/

/-- The clear code of the DPS DAC, 0 where its complement fails, and whether it holds (R290). -/
def dpsClear (b : Block) (r : Nat) : Nat × Bool :=
  let c := b.get (DPS r) DPS_CLR.CODE
  if c + b.get (DPS r) DPS_CLR.NCODE = 65535 then (c, true) else (0, false)

/-- VMAX of a regulator and whether its complement holds (R278, R290). -/
def dpsVmax (b : Block) (r : Nat) : Nat × Bool :=
  let c := b.get (DPS r) DPS_LIM.CODE
  (c, c + b.get (DPS r) DPS_LIM.NCODE == 65535)

/-- The clear codes of the DPS thresholds and whether they hold (R86). -/
def dpsThClear (b : Block) (r : Nat) : Nat × Nat × Bool :=
  let h := b.get (DPS r) DPS_WM_CLR_TH.HI
  let l := b.get (DPS r) DPS_WM_CLR_TH.LO
  if h + b.get (DPS r) DPS_WM_CLR_TH.NHI = 4095 ∧ l + b.get (DPS r) DPS_WM_CLR_TH.NLO = 4095 then (h, l, true)
  else (205, 205, false)

/-- Every complement-checked value of regulator `r` agrees (R405). -/
def dpsClearOk (b : Block) (r : Nat) : Bool := (b.dpsClear r).2 && (b.dpsVmax r).2 && (b.dpsThClear r).2.2

/-- The output of the DPS DAC takes code `v`. -/
def dpsOut (b : Block) (r v : Nat) : Block :=
  ((b.updDps r (fun d => { d with out := v })).set (DPS r) DPS_GEN_STAT.OUT v).touch (272 + r) 16

/-- The DPS DAC at slew-limiter position `v`: the output follows it unless clearing holds the output (R90, R290). -/
def dpsAt (b : Block) (r v : Nat) : Block :=
  let b := b.updDps r (fun d => { d with pos := v })
  if b.held then b else b.dpsOut r v

/-- DPS_STAT.RAMP shows a ramp under the slew limiter or to the clear code (R287, R292). -/
def dpsRampSync (b : Block) (r : Nat) : Block := b.setFlag (DPS r) DPS_STAT.RAMP ((b.dps r).moving || (b.dps r).clrRamp)

/-- The slew limiter of the DPS DAC moves, or rests. -/
def dpsMove (b : Block) (r : Nat) (go : Bool) : Block := (b.updDps r (fun d => { d with moving := go })).dpsRampSync r

/-- The threshold DACs of regulator `r` jump (R85, R98). -/
def dpsThTouch (b : Block) (r : Nat) : Block := (b.touch (272 + r) 17).touch (272 + r) 18

/-- The current clamp that DPS_ICL and the range in force set, in 0.5 nA (R279). -/
def dpsClampSet (b : Block) (r : Nat) : Nat :=
  let i := b.get (DPS r) DPS_CTRL.IRANGE
  b.get (DPS r) DPS_ICL.CODE * (if i = 0 then 1250 else if i = 1 then 12500 else if i = 2 then 125000 else 1953125)

/-- The current clamp in force: during a range changeover the smaller of the old one and the new one (R285). -/
def dpsClamp (b : Block) (r : Nat) : Nat :=
  if b.time.now < (b.dps r).rangeUntil then min (b.dps r).oldClamp (b.dpsClampSet r) else b.dpsClampSet r

/-- DPS_STAT brought up to the values in force (R292). -/
def dpsSync (b : Block) (r : Nat) : Block :=
  let b := b.set (DPS r) DPS_STAT.EN_ACT (b.get (DPS r) DPS_CTRL.EN)
  let b := b.set (DPS r) DPS_STAT.IRANGE_ACT (b.get (DPS r) DPS_CTRL.IRANGE)
  let b := b.set (DPS r) DPS_STAT.BOOST_ACT (b.get (DPS r) DPS_CTRL.BOOST)
  let b := b.setFlag (DPS r) DPS_STAT.DISCH_ACT (!b.flag (DPS r) DPS_STAT.OUT_SW &&
    (b.flag (DPS r) DPS_CTRL.DISCH || b.flag (DPS r) DPS_STAT.BOLTED))
  b.setFlag (DPS r) DPS_STAT.LOCAL (b.flag (DPS r) DPS_CTRL.LSENSE || b.flag (DPS r) DPS_STAT.SENSE_OPEN)

/-- The DPS generator of regulator `r` stops (R95). -/
def dpsGenStop (b : Block) (r cause : Nat) : Block :=
  if b.flag (DPS r) DPS_GEN_STAT.RUN_ACT then
    let out := b.get (DPS r) DPS_GEN_STAT.OUT
    let b := (b.setFlag (DPS r) DPS_GEN_STAT.RUN_ACT false).set (DPS r) DPS_GEN_STAT.CAUSE cause
    let b := b.updGen (272 + r) (fun g => { g with needOff := cause != 1, offs := 0 })
    (b.updDps r (fun d => { d with pos := out })).dpsOut r out
  else b

/-- Regulator `r` is bolted: EN 0 and its targets at the clear codes, in force and in shadow; it waits for its group where it stands when
its EN was 1 in force (R289, R403). -/
def dpsBoltOne (b : Block) (id r : Nat) : Block :=
  if b.flag (DPS r) DPS_STAT.BOLTED then b
  else
    let en := b.flag (DPS r) DPS_CTRL.EN
    let b := b.dpsGenStop r 3
    let b := (b.setBoth (DPS r) DPS_CTRL.EN 0).setBoth (DPS r) DPS_V.CODE (b.dpsClear r).1
    let b := (b.setBoth (DPS r) DPS_WM_TH.TH_HI (b.dpsThClear r).1).setBoth (DPS r) DPS_WM_TH.TH_LO (b.dpsThClear r).2.1
    let b := (b.setFlag (DPS r) DPS_STAT.BOLTED true).setFlag (DPS r) DPS_STAT.WAIT false
    let b := (b.setFlag (DPS r) DPS_WM_STAT.CLR_HELD true).dpsThTouch r
    let b := b.updDps r (fun d => { d with waitLeft := 0, bolt := if en then 1 else d.bolt, boltId := id })
    (if en then b.dpsMove r false else b).dpsSync r

/-- The highest DN_ORD among the regulators that wait in bolt `id`, if any waits (R289). -/
def topGroup (b : Block) (id : Nat) : Option Nat :=
  (List.range 34).foldl (fun m r =>
    if (b.dps r).bolt = 1 ∧ (b.dps r).boltId = id then
      match m with
      | none => some (b.get (DPS r) DPS_TIME.DN_ORD)
      | some o => some (max o (b.get (DPS r) DPS_TIME.DN_ORD))
    else m) none

/-- The waiting group of bolt `id` with the highest DN_ORD starts its bolt ramp (R289). -/
def groupStart (b : Block) (id : Nat) : Block :=
  match b.topGroup id with
  | none => b
  | some o =>
    (List.range 34).foldl (fun b r =>
      if (b.dps r).bolt = 1 ∧ (b.dps r).boltId = id ∧ b.get (DPS r) DPS_TIME.DN_ORD = o then
        (b.updDps r (fun d => { d with bolt := 2, ending := false, rampFrom := b.time.now })).dpsMove r ((b.dps r).pos != 0)
      else b) b

/-- One bolt that covers the regulators `rs` (R289). -/
def dpsBolt (b : Block) (rs : List Nat) : Block :=
  let id := b.flt.boltNext
  let b := { b with flt := { b.flt with boltNext := id + 1 } }
  (rs.foldl (fun b r => b.dpsBoltOne id r) b).groupStart id

/-- The bolt ramp of regulator `r` has not ended (R401). -/
def dpsRamping (b : Block) (r : Nat) : Bool := (b.dps r).bolt == 1 || ((b.dps r).bolt == 2 && (b.dps r).pos != 0)

/-! ### Field engines -/

/-- The DDS source of field `f` stops: amplitude and offset in force at 0 V (R255). -/
def ddsStop (b : Block) (f : Nat) : Block :=
  (b.set (FLD f) DDS_STAT.STATE 0).updDds f (fun d => { d with silent := true, offset := 16384, steps := [], fresh := none })

/-- Bolting the field stops its DDS source and opens the DDS route and FAB switches (R255). -/
def ddsBolt (b : Block) (f : Nat) : Block :=
  let b := (b.ddsStop f).updDds f (fun d => { d with bus := false, fab := false, cmds := [], prog := [] })
  ((b.set (FLD f) DDS_OUT.BUS 0).set (FLD f) DDS_OUT.FAB 0).set (FLD f) DIG_CFG.FAB 0

/-- The sample period of the digitiser in 0.5 ps units (R258). -/
def digPeriod (b : Block) (f : Nat) : Nat := if b.flag (FLD f) DIG_CFG.MODE then 4000 else 100000

/-- Samples that the acquisition in progress has taken so far (R259, R263). -/
def digTaken (b : Block) (f : Nat) : Nat :=
  match (b.dig f).t0 with
  | some t0 =>
    if b.get (FLD f) DIG_STAT.STATE = 2 ∧ t0 ≤ b.time.now then
      min (b.dig f).nsamp ((b.time.now - t0) * 20000 / b.digPeriod f + 1)
    else 0
  | none => 0

/-- An acquisition that waits or runs ends early without valid results (R260); COUNT shows the samples that it took (R263). -/
def digAbort (b : Block) (f : Nat) : Block :=
  if b.get (FLD f) DIG_STAT.STATE = 0 ∧ (b.dig f).startReq = none then b
  else
    let b := if b.get (FLD f) DIG_STAT.STATE = 2 then b.updRb f (fun r => { r with used := b.time.now }) else b
    let b := ((b.set (FLD f) DIG_STAT.COUNT (b.digTaken f)).set (FLD f) DIG_STAT.STATE 0).setFlag (FLD f) DIG_STAT.VALID false
    (b.setFlag (FLD f) DIG_STAT.ABORT true).updDig f (fun d => { d with startReq := none, t0 := none, prog := none })

/-- Words of one slot (R267). -/
def slotLen (b : Block) (f : Nat) : Nat := b.get (FLD f) CAP_LEN.PRE + b.get (FLD f) CAP_LEN.POST + 1

/-- A word of the capture SRAM of field `f` set (R267). -/
def sramSet (b : Block) (f a v : Nat) : Block := b.updCap f (fun c => { c with sram := Sparse.set 0 (a % 131072) v c.sram })

/-- Ring position of the oldest pre-trigger word, `n` being the entry number after the last one of the ring (R267). -/
def ringPtr (b : Block) (f n : Nat) : Nat :=
  let pre := b.get (FLD f) CAP_LEN.PRE
  let c := b.cap f
  if pre = 0 then 0 else if c.recStart + pre ≤ n then n % pre else c.recStart % pre

/-- The header of the present record is written (R267). -/
def capHeader (b : Block) (f : Nat) (short : Bool) : Block :=
  let c := b.cap f
  let n := if b.get (FLD f) CAP_STAT.STATE = 3 then c.trigEntry else c.entry
  b.sramSet f (c.slot * b.slotLen f)
    (c.trigTick % 65536 * 2 ^ 48 + b01 c.forced * 2 ^ 47 + b01 c.viol * 2 ^ 46 + b01 short * 2 ^ 45 +
      b.ringPtr f n * 2 ^ 24 + c.seq % 2 ^ 24)

/-- The places (page × 4,096 + word) of words that go on from word `w` of page `p` of a spill chain, as far as the chain reaches (R271). -/
def spillPlaces (b : Block) : List Nat → Nat → Nat → List (Nat × Nat)
  | [], _, _ => []
  | v :: vs, p, w =>
    if w < 4096 then (p * 4096 + w, v) :: b.spillPlaces vs p (w + 1)
    else if b.flag (16 * p) DIR_ENT0.LAST then []
    else
      let q := b.get (16 * p) DIR_ENT0.NEXT
      (q * 4096, v) :: b.spillPlaces vs q 1

/-- A streaming record is stopped (R271, R273): the words that wait keep their places and are counted, and the pages of the record are
READY. -/
def spillStop (b : Block) (f : Nat) : Block :=
  let c := b.cap f
  match c.page with
  | none => b.updCap f (fun c => { c with waiting := [], word := 0 })
  | some p =>
    let ws := b.spillPlaces c.waiting p c.word
    let pages : List Nat := ((if c.word = 0 then [] else [p]) ++ ws.map (fun x : Nat × Nat => x.1 / 4096)).eraseDups
    let b := pages.foldl (fun (b : Block) p => b.set (16 * p) DIR_ENT0.STATE 2) b
    (b.set (FLD f) CAP_STAT.KEPT (b.get (FLD f) CAP_STAT.KEPT + ws.length)).updCap f (fun c => { c with
      waiting := [], page := none, word := 0, tail := c.tail ++ ws })

/-- The words of the present record of a buffer-mode engine: those of its ring until it has a trigger (R263, R267). -/
def capKept (b : Block) (f : Nat) : Nat :=
  let c := b.cap f
  if b.get (FLD f) CAP_STAT.STATE = 3 then b.get (FLD f) CAP_STAT.KEPT
  else min (b.get (FLD f) CAP_LEN.PRE) (c.entry - c.recStart)

/-- The record in progress ends early for `cause` and the engine enters DONE; with no record it simply enters DONE (R272,
R273). -/
def capEnd (b : Block) (f cause : Nat) : Block :=
  if b.capActive f then
    let b := if b.flag (FLD f) CAP_CFG.STREAM then b.spillStop f
      else (b.capHeader f true).set (FLD f) CAP_STAT.KEPT (b.capKept f)
    ((b.set (FLD f) CAP_STAT.CAUSE cause).set (FLD f) CAP_STAT.STATE 5).updCap f (fun c => { c with trigs := [], ending := 0 })
  else b.set (FLD f) CAP_STAT.STATE 5

/-- The sequencer of field `f` stops as at END (R157, R399). -/
def seqEnd (b : Block) (f : Nat) (state : Nat) : Block :=
  (b.set (FLD f) SEQ_STAT.STATE state).updSeq f (fun q => { q with ended := true, wait := none })

/-- A step that names field `f` is running and the field's program has not stopped. -/
def seqLive (b : Block) (f : Nat) : Bool := b.inStep f && !(b.seq f).ended

/-- Every step that names field `f` is changed by `g`. -/
def updStep (b : Block) (f : Nat) (g : StepRec → StepRec) : Block :=
  { b with steps := b.steps.map (fun st => if bit st.mask f then g st else st) }

end Block
end Sys2Proof.Machine
end

