-- ==== Sys2Proof/Machine/Fault.lean ====
section
/-!
DEFINITION. Fault collection (ch. 20): an event on a fault source with everything it leads to in the same step, namely its
log, bucket, class and promotion (R393 to R397), wear (R406), the reaction or its merge (R398, R401), the bolted states
(R399) and the notification (R400, R303).
-/
namespace Sys2Proof.Machine
namespace Block

/-! ### Record flags and notifications (ch. 14) -/

/-- The condition of flag `fl` (R298) that held for selector `sel` has ended: later records whose interval covers this moment
carry the flag. -/
def mark (b : Block) (fl sel : Nat) : Block :=
  let n := b.res.stamp + 1
  { b with res := { b.res with stamp := n, marks := Sparse.set 0 (fl * 1024 + sel) n b.res.marks } }

/-- Entries of the result queue that are not reserved ones in use (R302). -/
def queueUsed (b : Block) : Nat := (b.res.queue.filter (fun r => !r.reserved)).length

/-- Reserved entries in use (R302). -/
def reservedUsed (b : Block) : Nat := (b.res.queue.filter (fun r => r.reserved)).length

/-- SEQ of the next record of stream `f` (R296). -/
def nextSeq (b : Block) (f : Nat) : Nat := Sparse.get 0 f b.res.seq % 65536

/-- A record appended to the result queue (R302). -/
def enqueue (b : Block) (r : QRec) : Block :=
  let b := { b with res := { b.res with queue := b.res.queue ++ [r] } }
  b.set 0 RES_STAT.QLEVEL b.res.queue.length

/-- A notification enters the result queue (R303, R400): its words with the SEQ of its stream. TICK is that of its entry into the queue,
also for one that has waited in fault collection (DESIGN CHOICE, log entry 156). -/
def enqueueNotif (b : Block) (n : Notif) (reserved : Bool) : Block :=
  let seq := b.nextSeq n.field
  let b := { b with res := { b.res with seq := Sparse.set 0 n.field (seq + 1) b.res.seq } }
  b.enqueue { w0 := 3 * 2 ^ 60 + min n.field 15 * 2 ^ 56 + seq, w1 := n.merged * 2 ^ 32 + n.cls * 2 ^ 16 + n.src,
              w2 := b.tick, w3 := n.fgen * 2 ^ 48, field := n.field, notif := true, upTo := none, since := 0,
              reserved := reserved }

/-- A notification is issued for source `src` with class `cls` in stream `field` (16: module scope): RES_FGEN moves on; it
merges into a waiting one of its source, waits behind waiting ones, or enters the queue, in a reserved entry only when the
others are full (R300, R302, R303). -/
def notify (b : Block) (src cls field : Nat) : Block :=
  let b := b.bump 0 RES_FGEN.FGEN
  let g := b.get 0 RES_FGEN.FGEN
  if b.res.waiting.any (fun n => n.src == src) then
    let upd := fun n : Notif =>
      if n.src = src then { n with cls := max n.cls cls, fgen := g, merged := satAdd 16 n.merged 1 } else n
    ({ b with res := { b.res with waiting := b.res.waiting.map upd } }).count 0 RES_STAT.NMERGED 1
  else
    let n : Notif := { src := src, cls := cls, field := field, fgen := g, merged := 0 }
    if b.res.waiting.isEmpty && decide (b.queueUsed < 4032) then b.enqueueNotif n false
    else if b.res.waiting.isEmpty && decide (b.reservedUsed < 64) then b.enqueueNotif n true
    else { b with res := { b.res with waiting := b.res.waiting ++ [n] } }

/-! ### Units, classes and scopes -/

/-- The unit of a source (R391, R398): scope code (0 slice, 1 regulator, 2 field, 3 module) and number. Sequencer 16 before a
takeover is (2, 16). -/
def faultUnit (b : Block) (s : Nat) : Nat × Nat :=
  if s < 272 then (0, s)
  else if s < 288 then (2, s - 272)
  else if s < 322 then
    let p := (s - 288) / 2
    if p < 16 then (2, p) else if b.flag 0 RM_SEQMAP.SUB then (2, b.get 0 RM_SEQMAP.FIELD) else (2, 16)
  else if s < 356 then (1, s - 322)
  else (3, 0)

/-- A unit widened by FC_CFG.SCOPE (R398). -/
def widen (b : Block) (u : Nat × Nat) (scope : Nat) : Nat × Nat :=
  if scope = 2 then (3, 0)
  else if scope = 1 then
    match u.1 with
    | 0 => (2, u.2 / 17)
    | 1 => match b.dpsLand u.2 with
      | some l => (2, l / 2)
      | none => u
    | _ => u
  else u

/-- The stream of a notification (R400); 16 stands for FIELD 0xF, placed after the records of every field. -/
def notifField (b : Block) (u : Nat × Nat) : Nat :=
  match u.1 with
  | 0 => u.2 / 17
  | 1 => match b.dpsLand u.2 with
    | some l => l / 2
    | none => 16
  | 2 => u.2
  | _ => 16

end Block

/-- The fixed class of a cause (R392): 0 Notice, 1 Degraded, 2 Severe, 3 Grave. -/
def fixedClass (s cause : Nat) : Nat :=
  if s < 272 then (if 4 ≤ cause ∧ cause ≤ 7 then 2 else 0)
  else if s < 288 then 0
  else if s < 322 then (if s % 2 = 1 ∧ cause = 0 then 1 else 0)
  else if s < 356 then (if cause = 4 ∨ cause = 7 then 2 else 0)
  else if 419 ≤ s ∧ s ≤ 422 then 3
  else if s = 395 ∨ s = 396 ∨ s = 424 ∨ s = 426 then 2
  else 0

/-- The RM_WEAR index of the unit that an event counts towards, if its cause counts (R392, R406). A cause given as 8 + c is cause c of an
event that does not count. -/
def wearUnit (s cause : Nat) : Option Nat :=
  if s < 272 then (if cause = 2 ∨ cause = 3 ∨ cause = 4 ∨ cause = 6 ∨ cause = 7 then some s else none)
  else if 288 ≤ s ∧ s < 322 then (if s % 2 = 1 ∧ cause ≤ 2 then some (306 + (s - 288) / 2) else none)
  else if 322 ≤ s ∧ s < 356 then (if 5 ≤ cause ∧ cause ≤ 7 then some (272 + (s - 322)) else none)
  else none

/-- Scope `a` covers scope `c`: the same unit, a unit of the field, or anything within the module (R401). -/
def covers (a c : Nat × Nat) : Bool :=
  a == c || a.1 == 3 || (a.1 == 2 && c.1 == 0 && c.2 / 17 == a.2)

namespace Block

/-! ### Bolting (R399) -/

/-- The slices that a scope covers: those serving or idle, not the retired ones. -/
def scopeSlices (b : Block) (sc : Nat × Nat) : List Nat :=
  match sc.1 with
  | 0 => [sc.2]
  | 2 => if sc.2 < 16 then ((List.range 17).map (fun j => 17 * sc.2 + j)).filter (fun s => b.slcRole s != 3) else []
  | 3 => (List.range 272).filter (fun s => b.slcRole s != 3)
  | _ => []

/-- The regulators that a scope covers: those serving the field's lands, or all that are not retired. -/
def scopeRegs (b : Block) (sc : Nat × Nat) : List Nat :=
  match sc.1 with
  | 1 => [sc.2]
  | 2 => if sc.2 < 16 then [b.landReg (2 * sc.2), b.landReg (2 * sc.2 + 1)] else []
  | 3 => (List.range 34).filter (fun r => b.get (DPS r) DPS_ID.ROLE != 3)
  | _ => []

/-- The fields that a scope covers. -/
def scopeFields (sc : Nat × Nat) : List Nat :=
  match sc.1 with
  | 2 => if sc.2 < 16 then [sc.2] else []
  | 3 => List.range 16
  | _ => []

/-- The engines of field `f` in the bolted state: the program stops as at END, the DDS source stops, the acquisition aborts,
the capture ends, and a running step carries BOLTED (R399). -/
def fieldBolt (b : Block) (f : Nat) : Block :=
  let b := if b.seqLive f then b.seqEnd f 6 else b
  let b := ((b.ddsBolt f).digAbort f).capEnd f 6
  b.updStep f (fun st => { st with bolted := setBit st.bolted f })

/-- The bolted state of a scope entered in one bolt (R399), and the scope recorded with the sources behind it (R403). -/
def bolt (b : Block) (srcs : List Nat) (sc : Nat × Nat) : Block :=
  let regs := (b.scopeRegs sc).filter (fun r => !b.flag (DPS r) DPS_STAT.BOLTED)
  let b := (b.scopeSlices sc).foldl slcBolt b
  let b := if regs.isEmpty then b else b.dpsBolt regs
  let b := (scopeFields sc).foldl fieldBolt b
  let b := if sc.1 = 3 then b.linesLow else b
  let add := fun r : BoltRec => { r with srcs := r.srcs ++ srcs.filter (fun x => !r.srcs.contains x) }
  let bolts := if b.flt.bolts.any (fun r => r.scope == sc.1 && r.unit == sc.2) then
      b.flt.bolts.map (fun r => if r.scope = sc.1 ∧ r.unit = sc.2 then add r else r)
    else b.flt.bolts ++ [⟨sc.1, sc.2, srcs⟩]
  { b with flt := { b.flt with bolts := bolts } }

/-- Events that bolting a scope finds as it uses the clear codes (R88, R290): sources and causes of the units that are not
bolted yet. -/
def boltFinds (b : Block) (sc : Nat × Nat) : List (Nat × Nat) :=
  ((b.scopeSlices sc).filter (fun s => !b.slcBolted s && !b.slcClearOk s)).map (fun s => (s, 4)) ++
  ((b.scopeRegs sc).filter (fun r => !b.flag (DPS r) DPS_STAT.BOLTED && !b.dpsClearOk r)).map (fun r => (322 + r, 7))

/-- A field that a bolt holds: START_STEP naming it completes with BOLTED (R399). -/
def fieldBolted (b : Block) (f : Nat) : Bool :=
  b.flt.grave || b.flt.bolts.any (fun r => r.scope == 3 || (r.scope == 2 && r.unit == f))

/-! ### ALIVE (R404) -/

/-- The state of ALIVE brought up to the stops that hold: 0 toggling, 1 stopped high, 2 stopped low, 3 holding; each stop is
counted and raises source 632. -/
def aliveSync (b : Block) : Block :=
  let st := if b.flt.grave then 2
    else if b.flt.bolts.any (fun r => r.scope == 3 || (r.scope == 2 && b.flag 0 FC_CTRL.ALIVE_SCOPE)) then 1
    else if b.flag 0 FC_ALIVE.HB then 0 else 3
  let old := b.get 0 FC_ALIVE.STATE
  let b := b.set 0 FC_ALIVE.STATE st
  let b := if st = 1 then b.set 0 FC_ALIVE.LEVEL 1 else if st = 2 then b.set 0 FC_ALIVE.LEVEL 0 else b
  if st ≠ 0 ∧ st ≠ old then (b.count 0 FC_ALIVE.STOPS 1).arrive 632 else b

/-! ### The Keeper's journal (R457) -/

/-- The Keeper firmware writes a journal entry: the next of 512 in a ring, four 32-bit words of two 16-bit words each, SEQ in the first
one, from 1 on and from 0xFFFF back to 1; class and unit are those of FC_FIRST. -/
def journal (b : Block) (kind n : Nat) : Block :=
  let sq := if b.get 0 SP_JSEQ.SEQ = 0xFFFF then 1 else b.get 0 SP_JSEQ.SEQ + 1
  let w1 := kind * 2 ^ 14 + n % 1024
  let w2 := b.get 0 FC_FIRST.CLASS * 2 ^ 14 + b.get 0 FC_FIRST.UNIT
  let a := 4 * (b.keeper.pos % 512)
  let put := fun (i v : Nat) (m : List (Nat × Nat)) => Sparse.set 0 (a + i) (v % 2 ^ 32) m
  let ram := put 0 (w1 * 2 ^ 16 + sq) (put 3 (b.tick / 2 ^ 48) (put 2 (b.tick / 2 ^ 16) (put 1 (b.tick * 2 ^ 16 + w2) b.keeper.ram)))
  { b.set 0 SP_JSEQ.SEQ sq with keeper := { b.keeper with ram := ram, pos := (b.keeper.pos + 1) % 512 } }

/-! ### The repair map and its last repair (R408, R409) -/

/-- The repair map has changed and is to be saved (R409). -/
def mapChanged (b : Block) : Block := { b with flt := { b.flt with mapDirty := true } }

/-- A repair recorded in RM_LAST (R408, R413). -/
def rmRecord (b : Block) (kind result displaced unit spare : Nat) : Block :=
  let b := ((b.set 0 RM_LAST.KIND kind).set 0 RM_LAST.RESULT result).set 0 RM_LAST.DISPLACED displaced
  ((b.set 0 RM_LAST.UNIT unit).set 0 RM_LAST.SPARE spare).set 0 RM_LAST.TICK b.tick

/-! ### Wear (R406, R407) -/

/-- The spare that could replace unit `u` of RM_WEAR is in use (R407). -/
def noSpare (b : Block) (u : Nat) : Bool :=
  if u < 272 then b.flag (8 * (u / 17)) RM_CHMAP.SUB
  else if u < 306 then
    let r := u - 272
    if r < 16 ∨ r = 32 then b.flag 0 RM_DPSMAP.SUB32 else b.flag 0 RM_DPSMAP.SUB33
  else b.flag 0 RM_SEQMAP.SUB

/-- Source of a unit of RM_WEAR (R391). -/
def wearSource (u : Nat) : Nat := if u < 272 then u else if u < 306 then 322 + (u - 272) else 289 + 2 * (u - 306)

/-- A worn unit with no spare: marked NOSPARE, which the repair map holds, recorded in RM_LAST, held Degraded, source 613 (R407, R409,
R413). -/
def markNoSpare (b : Block) (u : Nat) : Block :=
  let b := (b.setFlag (8 * u) RM_WEAR.NOSPARE true).mapChanged
  let b := if u < 272 then b.rmRecord 0 2 0 u 0 else if u < 306 then b.rmRecord 1 2 0 (u - 272) 0
    else b.rmRecord 2 2 0 (u - 306) 0
  let b := if u < 272 then
      match b.slcChan u with
      | some c => b.set (8 * (u / 17)) RM_CHMAP.NOSPARE (setBit (b.get (8 * (u / 17)) RM_CHMAP.NOSPARE) (c % 16))
      | none => b
    else if u < 306 then
      match b.dpsLand (u - 272) with
      | some l => b.set 0 RM_DPSMAP.NOSPARE (setBit (b.get 0 RM_DPSMAP.NOSPARE) l)
      | none => b
    else
      let f := if u = 322 then b.get 0 RM_SEQMAP.FIELD else u - 306
      b.set 0 RM_SEQMAP.NOSPARE (setBit (b.get 0 RM_SEQMAP.NOSPARE) f)
  let src := wearSource u
  let b := b.set (8 * src) FC_STATE.HELD (max 1 (b.get (8 * src) FC_STATE.HELD))
  let b := { b with flt := { b.flt with degraded := b.flt.degraded ++ [(src, b.faultUnit src)] } }
  b.arrive 613

/-- Unit `u` of RM_WEAR is asked to be substituted at its next opportunity, or found without a spare (R407). -/
def substDue (b : Block) (u : Nat) : Block :=
  if b.noSpare u then b.markNoSpare u
  else
    let e := if u < 272 then (0, u) else if u < 306 then (1, u - 272) else (2, u - 306)
    if b.flt.due.contains e then b else { b with flt := { b.flt with due := b.flt.due ++ [e] } }

/-- The AUTO bit of the kind of unit `u` (R407). -/
def autoSubst (b : Block) (u : Nat) : Bool :=
  if u < 272 then b.flag 0 RM_CTRL.AUTO_SLC else if u < 306 then b.flag 0 RM_CTRL.AUTO_DPS else b.flag 0 RM_CTRL.AUTO_SEQ

/-- Unit `u` is judged worn: marked, source 612, and substituted at its next opportunity while AUTO is 1 (R406, R407). -/
def judgeWorn (b : Block) (u : Nat) : Block :=
  if b.flag (8 * u) RM_WEAR.WORN then b
  else
    let b := (b.setFlag (8 * u) RM_WEAR.WORN true).arrive 612
    if b.autoSubst u then b.substDue u else b

/-- An event counts towards the wear of unit `u` (R406), and the count is part of the repair map (R409). -/
def wearEvent (b : Block) (u : Nat) : Block :=
  let b := (b.count (8 * u) RM_WEAR.COUNT 1).mapChanged
  if b.get 0 RM_CTRL.WEAR_N ≤ b.get (8 * u) RM_WEAR.COUNT then b.judgeWorn u else b

/-! ### The reaction (R398, R401) -/

/-- The bolt ramps of the units of a scope have ended. -/
def scopeQuiet (b : Block) (sc : Nat × Nat) : Bool :=
  (b.scopeSlices sc).all (fun s => !b.slcRamping s) && (b.scopeRegs sc).all (fun r => !b.dpsRamping r)

/-- The reaction in progress has ended (R401): its notifications are in the queue and its bolt ramps are over. -/
def reactionOver (b : Block) : Bool :=
  b.res.waiting.all (fun n => !(b.flt.srcs.any (fun x => x.1 == n.src))) &&
  (b.get 0 FC_FIRST.CLASS == 1 || b.flt.scopes.all b.scopeQuiet)

/-- The reaction ended where it is over (R401); a Grave state stays (R402). -/
def endReaction (b : Block) : Block :=
  if b.flt.reacting && b.reactionOver then
    let b := { b with flt := { b.flt with reacting := false, scopes := [], srcs := [] } }
    b.set 0 FC_FIRST.STATE (if b.flt.grave then 2 else 0)
  else b

/-- FC_STATE.HELD of every source of the reaction raised to its class; Degraded ones are listed with their scopes (R398). -/
def holdSources (b : Block) (cls : Nat) : Block :=
  let b := b.flt.srcs.foldl (fun b x => b.set (8 * x.1) FC_STATE.HELD (max cls (b.get (8 * x.1) FC_STATE.HELD))) b
  if cls = 1 then
    { b with flt := { b.flt with
      degraded := b.flt.degraded ++ b.flt.srcs.filter (fun x => !b.flt.degraded.contains x) } }
  else b

/-- The reaction of class `cls` carried out for source `src` (R398): bolts, holds, notification, class source, ALIVE. -/
def carry (b : Block) (src cls : Nat) (sc : Nat × Nat) : Block :=
  let b := if cls = 3 then
      (({ b with flt := { b.flt with grave := true } }).set 0 FC_FIRST.STATE 2).bolt (b.flt.srcs.map Prod.fst) (3, 0)
    else if cls = 2 then
      b.flt.scopes.foldl (fun b s => b.bolt ((b.flt.srcs.filter (fun x => x.2 == s)).map Prod.fst) s) b
    else b
  let b := b.holdSources cls
  let b := b.notify src cls (if cls = 3 then 16 else b.notifField sc)
  (b.arrive (626 + cls)).aliveSync

/-- What the bolts of a reaction of class `cls` find, before they are carried out. -/
def carryFinds (b : Block) (cls : Nat) : List (Nat × Nat) :=
  if cls = 3 then b.boltFinds (3, 0) else if cls = 2 then b.flt.scopes.flatMap b.boltFinds else []

/-- The reaction to an event of class `cls` on source `src` with scope `sc` (R401): a Notice outside a reaction is only
logged; an event during a reaction is merged; any other starts one. Answers the events that the bolts find. -/
def react (b : Block) (src cls : Nat) (sc : Nat × Nat) : Block × List (Nat × Nat) :=
  if b.flt.reacting then
    let b := (b.count 0 FC_FIRST.MERGED 1).arrive 630
    let b := { b with flt := { b.flt with
      srcs := if b.flt.srcs.any (fun x => x.1 == src) then b.flt.srcs else b.flt.srcs ++ [(src, sc)] } }
    let old := b.get 0 FC_FIRST.CLASS
    let added := !b.flt.scopes.any (fun a => covers a sc)
    let b := if added then { b with flt := { b.flt with scopes := b.flt.scopes ++ [sc] } } else b
    let b := b.set 0 FC_FIRST.CLASS (max old cls)
    if old < cls ∨ added then
      (b.carry src (max old cls) sc, b.carryFinds (max old cls))
    else (b.holdSources old, [])
  else if cls = 0 then (b.arrive 626, [])
  else
    let b := { b with flt := { b.flt with reacting := true, scopes := [sc], srcs := [(src, sc)] } }
    let b := (((b.set 0 FC_FIRST.STATE 1).set 0 FC_FIRST.CLASS cls).set 0 FC_FIRST.SCOPE sc.1).set 0 FC_FIRST.UNIT sc.2
    let b := ((b.set 0 FC_FIRST.MERGED 0).set 0 FC_FIRST.SOURCE src).set 0 FC_FIRST.TICK b.tick
    (b.carry src cls sc, b.carryFinds cls)

/-! ### The event (R393 to R397) -/

/-- FC_CFG[s] agrees with its stored complement (R397). -/
def fcCfgOk (b : Block) (s : Nat) : Bool :=
  b.get (8 * s) FC_CFG.BASE + 4 * b.get (8 * s) FC_CFG.PROMO + 16 * b.get (8 * s) FC_CFG.SCOPE +
    256 * b.get (8 * s) FC_CFG.N + 65536 * b.get (8 * s) FC_CFG.WIN + b.get (8 * s) FC_CFG.NCFG == 2 ^ 32 - 1

/-- BASE, PROMO, N and SCOPE that judge an event on `s`: those in force, or the reset values of R396 (R397). -/
def fcVals (b : Block) (s : Nat) : Nat × Nat × Nat × Nat :=
  if b.fcCfgOk s then
    (b.get (8 * s) FC_CFG.BASE, b.get (8 * s) FC_CFG.PROMO, b.get (8 * s) FC_CFG.N, b.get (8 * s) FC_CFG.SCOPE)
  else (fcBase s, fcPromo s, fcN s, fcScope s)

/-- The log of an event (R393, R394): sticky bit, cause bit, EVENTS, TICK and bucket; the drain counter restarts when the
bucket goes from 0 to 1. -/
def faultLog (b : Block) (s cause : Nat) : Block :=
  let b := b.set (8 * (s / 64)) FC_STICKY.BITS (setBit (b.get (8 * (s / 64)) FC_STICKY.BITS) (s % 64))
  let b := b.set (8 * s) FC_STATE.CAUSE (setBit (b.get (8 * s) FC_STATE.CAUSE) (cause % 8))
  let b := (b.count (8 * s) FC_STATE.EVENTS 1).set (8 * s) FC_STATE.TICK b.tick
  let b := if b.get (8 * s) FC_STATE.BUCKET = 0 then
      { b with flt := { b.flt with drain := Sparse.set 0 s 0 b.flt.drain } } else b
  b.count (8 * s) FC_STATE.BUCKET 1

/-- The class of an event whose bucket, with the event in it, is `after` (R395). -/
def faultClass (b : Block) (s cause after : Nat) : Nat :=
  let v := b.fcVals s
  let c := max v.1 (fixedClass s (cause % 8))
  if v.2.2.1 ≠ 0 ∧ v.2.2.1 ≤ after then max c v.2.1 else c

/-- DEG and RET of HBM_STAT brought up to the pseudo-channels' states (R351). -/
def hbmCounts (b : Block) : Block :=
  let n := fun st => ((List.range 32).filter (fun p => b.get (16 * p) HBM_PC.STATE == st)).length
  (b.set 0 HBM_STAT.DEG (n 1)).set 0 HBM_STAT.RET (n 3)

/-- Pseudo-channel `p` starts evacuating (R348). -/
def evacStart (b : Block) (p : Nat) : Block :=
  if b.get (16 * p) HBM_PC.STATE < 2 then ((b.set (16 * p) HBM_PC.STATE 2).hbmCounts).arrive (514 + p) else b

/-- The first event that takes PROMO raises source 631, starts retirement of a pseudo-channel, or schedules a lane repair
(R395). -/
def promote (b : Block) (s before after : Nat) : Block :=
  let n := (b.fcVals s).2.2.1
  if n ≠ 0 ∧ n ≤ after ∧ before < n then
    let b := b.arrive 631
    if 356 ≤ s ∧ s ≤ 387 then b.evacStart (s - 356)
    else if 388 ≤ s ∧ s ≤ 391 then { b with flt := { b.flt with laneDue := b.flt.laneDue ++ [s - 388] } }
    else b
  else b

/-- An event on fault source `s` with cause `cause` (R393 to R401). Bolting can find clear codes that fail their complement,
and each such event is merged in turn; `fuel` bounds that chain, which widens its scope at every link. -/
def faultN : Nat → Block → Nat → Nat → Block
  | 0, b, _, _ => b
  | fuel + 1, b, s, cause =>
    let b := if s ≠ 419 ∧ !b.fcCfgOk s then faultN fuel b 419 0 else b
    let before := b.get (8 * s) FC_STATE.BUCKET
    let b := b.faultLog s cause
    let after := b.get (8 * s) FC_STATE.BUCKET
    let cls := b.faultClass s cause after
    let b := b.promote s before after
    let b := match wearUnit s cause with
      | some u => b.wearEvent u
      | none => b
    let r := b.react s cls (b.widen (b.faultUnit s) (b.fcVals s).2.2.2)
    (r.2.foldl (fun b e => faultN fuel b e.1 e.2) r.1).endReaction

/-- An event on a fault source with the cause given (R393). -/
def fault (b : Block) (s cause : Nat) : Block := faultN 5 b s cause

/-- An event where `c` holds. -/
def faultIf (b : Block) (c : Bool) (s cause : Nat) : Block := if c then b.fault s cause else b

/-- The live bit of a source (R393). -/
def setLive (b : Block) (s : Nat) (v : Bool) : Block :=
  let w := b.get (8 * (s / 64)) FC_LIVE.BITS
  (b.set (8 * (s / 64)) FC_LIVE.BITS (if v then setBit w (s % 64) else clrBit w (s % 64))).setFlag (8 * s) FC_STATE.LIVE v

end Block
end Sys2Proof.Machine
end

