-- ==== Sys2Proof/Machine/Hostq.lean ====
section
/-!
DEFINITION. Command queues and long-operation slots as shared operations (ch. 18): the command a queue pair executes, its
completion, and the life of a slot. Host memory is outside the block: what the device reads from it is an operand of the
command that brings it, and what it writes there goes to `HostSt.out`, or waits in `HostSt.owed` while the link is down
(R354, R374).
-/
namespace Sys2Proof.Machine
namespace Block

/-- Device writes leave at once: the link is up and the function is in D0 (R354, R374). -/
def linkOpen (b : Block) : Bool := b.host.linkUp && !b.host.d3

/-- Words written to host memory from address `a`, in order; they wait while the link is down or in D3hot (R31, R354, R374). -/
def hostWrite (b : Block) (a : Nat) (ws : List Nat) : Block :=
  let cells := ws.zipIdx.map (fun x => (a + 8 * x.2, x.1))
  if b.linkOpen then { b with host := { b.host with out := b.host.out ++ cells, l1 := false } }
  else { b with host := { b.host with owed := b.host.owed ++ cells } }

/-- The state of queue pair `q` (R377). -/
def qState (b : Block) (q : Nat) : Nat := b.get (32 * q) Q_STAT.STATE

/-- The command of queue pair `q` waits for its outcome: a step, or a commit (R365). -/
def cmdWaits (b : Block) (q : Nat) : Bool :=
  b.steps.any (fun s => s.queue == q && !s.closed) || (b.sync.commit.map (fun c => c.queue == q)).getD false

/-- The words of the command that queue pair `q` executes, if its opcode is `opc` (R358, R360); a pair in ERROR ends the command it
has begun (R363). -/
def cmdOf (b : Block) (q opc : Nat) : Option (List Nat) :=
  let ws := Sparse.get [] q b.host.cmds
  if (b.qState q = 2 ∨ b.qState q = 5) ∧ !b.cmdWaits q ∧ ws.length = 8 ∧ bits (ws.getD 0 0) 56 8 = opc then some ws else none

/-- A completion entry of queue pair `q` becomes due (R359): RESULT, and word 1 with LONG, SLOT, STATUS, SQHD and CID. -/
def completeWith (b : Block) (q result long slot status : Nat) : Block :=
  let w0 := (Sparse.get [] q b.host.cmds).getD 0 0
  let w1 := long * 2 ^ 56 + slot * 2 ^ 48 + status % 256 * 2 ^ 40 + b.get (32 * q) Q_STAT.SQ_HEAD * 2 ^ 16 + bits w0 32 16
  { b with host := { b.host with comps := b.host.comps ++ [⟨q, result % 2 ^ 64, w1⟩], cmds := Sparse.set [] q [] b.host.cmds } }

/-- The command of queue pair `q` completes with a RESULT and a completion code (R366). -/
def complete (b : Block) (q result status : Nat) : Block := b.completeWith q result 0 0 status

/-- The command of queue pair `q` holds its queue until its outcome is known (R365). -/
def holdQueue (b : Block) (q : Nat) : Block := if b.qState q = 2 then b.set (32 * q) Q_STAT.STATE 3 else b

/-- The lowest-numbered FREE slot (R367). -/
def freeSlot (b : Block) : Option Nat := (List.range 256).find? (fun k => b.get (8 * k) OPSTAT.STATE == 0)

/-- The state of slot `k` set, with the tick of the update (R367, R377). -/
def slotState (b : Block) (k st : Nat) : Block := (b.set (8 * k) OPSTAT.STATE st).set (8 * k) OPSTAT.TICK b.tick16

/-- A long command of queue pair `q` is accepted: it takes the lowest free slot and completes with LONG and its number, or
with NO_SLOT (R367). -/
def takeSlot (b : Block) (q : Nat) (aux : List Nat) : Block :=
  let ws := Sparse.get [] q b.host.cmds
  match b.freeSlot with
  | none => b.complete q 0 0x03
  | some k =>
    let r : SlotRec := { queue := q, words := ws, notify := bit (ws.getD 0 0) 48, aux := aux }
    let b := { b with host := { b.host with slots := Sparse.set {} k r b.host.slots } }
    let b := ((b.slotState k 1).set (8 * k) OPSTAT.OPC (bits (ws.getD 0 0) 56 8)).set (8 * k) OPSTAT.PCT 0
    let b := (b.set (8 * k) OPSTAT.NPART 0).set (8 * k) OPSTAT.ERR 0
    b.completeWith q 0 1 k 0

/-- The long operation in slot `k`. -/
def slot (b : Block) (k : Nat) : SlotRec := Sparse.get {} k b.host.slots

/-- Slot `k` runs an operation with opcode `opc` (R367). -/
def slotRuns (b : Block) (k opc : Nat) : Bool := b.get (8 * k) OPSTAT.STATE == 2 && b.get (8 * k) OPSTAT.OPC == opc

/-- Operand word `i` of the long operation in slot `k`. -/
def slotWord (b : Block) (k i : Nat) : Nat := (b.slot k).words.getD i 0

/-- A partial-result word of slot `k` (R368). -/
def opres (b : Block) (k j v : Nat) : Block := b.set (128 * k + 8 * j) OPRES.VALUE v

/-- The number of partial results of slot `k` (R368). -/
def npart (b : Block) (k n : Nat) : Block := (b.set (8 * k) OPSTAT.NPART n).set (8 * k) OPSTAT.TICK b.tick16

/-- The operation in slot `k` ends: DONE at 100 percent, or FAILED with its code; with NOTIFY its source is raised (R367,
R368). -/
def slotEnd (b : Block) (k err : Nat) : Block :=
  let b := if err = 0 then (b.slotState k 3).set (8 * k) OPSTAT.PCT 100 else (b.slotState k 4).set (8 * k) OPSTAT.ERR err
  b.arriveIf (b.slot k).notify (498 + k / 16)

/-- The operation in slot `k` ends in FAILED with an error for which the spec gives no code: ERR is a free value. -/
def slotFail (b : Block) (k : Nat) : Block :=
  let b := ((b.slotState k 4).set (8 * k) OPSTAT.ERR b.free).freed
  b.arriveIf (b.slot k).notify (498 + k / 16)

/-- Queue pair `q` enters ERROR (R363). -/
def queueError (b : Block) (q cause cid : Nat) : Block :=
  let b := (b.set (32 * q) Q_STAT.STATE 5).set 0 HQ_ERR.TICK b.tick16
  let b := ((b.set 0 HQ_ERR.QUEUE q).set 0 HQ_ERR.CAUSE cause).set 0 HQ_ERR.CID cid
  b.arrive (434 + q)

/-- Queue pair `q` holds the User role; the Crypto Officer may use every User service (R438). -/
def hasUser (b : Block) (q : Nat) : Bool := bit (b.get 0 KR_ROLE_USER.BITS) q || bit (b.get 0 KR_ROLE_CO.BITS) q

/-- Queue pair `q` holds the Crypto Officer role (R438). -/
def hasCo (b : Block) (q : Nat) : Bool := bit (b.get 0 KR_ROLE_CO.BITS) q

/-- Why the Keyring turns service `opc` of pair `q` away, 0 where it does not: it is in ERROR (R446), or the role is missing (`need` 1
User, 2 Crypto Officer; R439). -/
def krRefuse (b : Block) (q opc need : Nat) : Nat :=
  if b.get 0 KR_STAT.STATE = 2 ∧ !([0x48, 0x49, 0x4C, 0x4D].contains opc) then 0x6B
  else if (need = 1 ∧ !b.hasUser q) ∨ (need = 2 ∧ !b.hasCo q) then 0x60
  else 0

/-- The owner code of queue pair `q` (R28). -/
def queueOwner (q : Nat) : Nat := 0x20 + q

end Block
end Sys2Proof.Machine
end

