-- ==== Sys2Proof/Machine/Hasp.lean ====
section
/-!
DEFINITION. The hasp table (ch. 1, R19 to R29): owners, claims and releases, and the commands HASP_CLAIM and HASP_RELEASE.
-/
namespace Sys2Proof.Machine

/-- Entry `i` names a resource (R19). -/
def haspExists (i : Nat) : Bool := decide (i < 274) && haspKind i != 0xF

/-- A sequencer or a host queue may claim entry `i` (R19). -/
def haspOpen (i : Nat) : Bool := haspKind i != 1 && haspKind i != 0xA

namespace Block

/-- The owner code of entry `i` (R28). -/
def haspOwner (b : Block) (i : Nat) : Nat := b.get (8 * i) HASP_ENT.OWNER

/-- Some sequencer holds entry `i`. -/
def seqHeld (b : Block) (i : Nat) : Bool := decide (1 ≤ b.haspOwner i ∧ b.haspOwner i ≤ 0x11)

/-- A host queue holds entry `i` (R28). -/
def hostHeld (b : Block) (i : Nat) : Bool := decide (0x20 ≤ b.haspOwner i ∧ b.haspOwner i < 0x60)

/-- The owner code of the sequencer that serves field `f` (R25, R28). -/
def seqOwner (b : Block) (f : Nat) : Nat := 1 + b.get (FLD f) SEQ_STAT.PHYS

/-- The sequencer of field `f` holds entry `i`. -/
def holds (b : Block) (f i : Nat) : Bool := b.haspOwner i == b.seqOwner f

/-- The field that the sequencer with owner code `o` serves. -/
def ownerField (b : Block) (o : Nat) : Nat := if o = 0x11 then b.get 0 RM_SEQMAP.FIELD else o - 1

/-- The resource of entry `i` is active in a running step, or armed (R20, R28; the resources' states are a DESIGN CHOICE, log
entry 9). -/
def haspActive (b : Block) (i : Nat) : Bool :=
  if i < 256 then
    let f := i / 16
    let run := b.inStep f
    let j := i % 16
    if j = 0 then run && (Sparse.get 0 f b.buses != 0 || b.flag (8 * f) RM_CHMAP.SUB)
    else if j = 1 then run && b.flag (8 * f) RM_CHMAP.SUB
    else if j = 2 then run && b.get (FLD f) DDS_STAT.STATE != 0
    else if j = 3 then b.get (FLD f) DIG_STAT.STATE != 0
    else if j = 4 then b.capActive f
    else if j = 5 then run && b.flag (FLD f) TIA_FCHAIN.EN
    else if j = 6 then b.capActive f && b.flag (FLD f) CAP_CFG.STREAM
    else run && bit (b.dds f).mken (j - 7) && b.get (FLD f) DDS_STAT.STATE != 0
  else if i < 264 then b.sync.pulses.any (fun p => p.1 == i - 256)
  else if i = 272 then b.flag 0 RM_DPSMAP.SUB32 && b.inStep (b.get 0 RM_DPSMAP.LAND32 / 2)
  else if i = 273 then b.flag 0 RM_DPSMAP.SUB33 && b.inStep (b.get 0 RM_DPSMAP.LAND33 / 2)
  else (List.range 16).any (fun f => b.capActive f && b.get (FLD f) CAP_TRG.TSRC == 3 && b.get (FLD f) CAP_TRG.SEL == i - 264)

/-- HASP_ENT[i].STATE as it reads (R28). -/
def haspState (b : Block) (i : Nat) : Nat := if b.haspOwner i = 0 then 0 else if b.haspActive i then 2 else 1

/-- Claim of entry `i` by owner code `o` with a tag (R20, R21): the block after it, the code, and the owner on a conflict. -/
def haspClaim (b : Block) (o i tag : Nat) : Block × Nat × Nat :=
  if !haspExists i then (b, 0x22, 0)
  else if !haspOpen i then (b, 0x23, 0)
  else
    let w := b.haspOwner i
    if w = o then (b.set (8 * i) HASP_ENT.TAG tag, 0, 0)
    else if w = 0 then
      ((((b.set (8 * i) HASP_ENT.OWNER o).set (8 * i) HASP_ENT.TAG tag).set (8 * i) HASP_ENT.STATE 1).bump (8 * i) HASP_ENT.GEN, 0, 0)
    else
      let b := (b.count 0 HASP_CONFLICTS.COUNT 1).set 0 HASP_LAST.REQUESTER o
      (((b.set 0 HASP_LAST.OWNER w).set 0 HASP_LAST.INDEX i).set 0 HASP_LAST.TICK b.tick16, 0x21, w)

/-- Entry `i` freed; GEN stays (R24, R28). -/
def haspFree (b : Block) (i : Nat) : Block :=
  ((b.set (8 * i) HASP_ENT.OWNER 0).set (8 * i) HASP_ENT.TAG 0).set (8 * i) HASP_ENT.STATE 0

/-- Release of entry `i` by owner code `o`, with or without FORCE (R20 to R24). -/
def haspRelease (b : Block) (o i : Nat) (force : Bool) : Block × Nat :=
  let w := b.haspOwner i
  if !haspExists i then (b, 0x22)
  else if w = 0 then (b, if force then 0 else 0x25)
  else if !haspOpen i ∨ (force ∧ 0x60 ≤ w) then (b, 0x23)
  else if w ≠ o ∧ !force then (b, 0x25)
  else if b.haspActive i ∨ (w ≠ o ∧ w ≤ 0x11 ∧ !b.idle (b.ownerField w)) then (b, 0x24)
  else (b.haspFree i, 0)

end Block

/-- HASP_CLAIM (R19, R364): the claim for the queue pair; RESULT carries the owner of a conflict. -/
def execHaspClaim (q : Fin 64) (st : State) : Host.Outcome State Fault Refusal :=
  .next (st.on (fun b => match b.cmdOf q 0x18 with
    | some ws =>
      let r := b.haspClaim (Block.queueOwner q) (bits (ws.getD 1 0) 0 9) (bits (ws.getD 1 0) 16 16)
      r.1.complete q (r.2.2 * 256) r.2.1
    | none => b))

/-- HASP_RELEASE (R21, R364). -/
def execHaspRelease (q : Fin 64) (st : State) : Host.Outcome State Fault Refusal :=
  .next (st.on (fun b => match b.cmdOf q 0x19 with
    | some ws =>
      let r := b.haspRelease (Block.queueOwner q) (bits (ws.getD 1 0) 0 9) (bit (ws.getD 1 0) 63)
      r.1.complete q 0 r.2
    | none => b))

end Sys2Proof.Machine
end

