-- ==== Sys2Proof/Machine/Latch.lean ====
section
/-!
DEFINITION. What follows when new values come into force for a slice or a regulator, at the latch tick of a commit or at a
program's tick boundary B(n) (R144): target checks, bleed, paths, ramps, generators, monitors, stamping and the enable
sequence of a supply. `old` is the block before the new values.
-/
namespace Sys2Proof.Machine

/-- The registers of a window monitor, of a slice or of a regulator (R113, R114). -/
structure MonRegs where
  base : Nat
  unit : Nat
  source : Nat
  en : Fld
  latch : Fld
  irq : Fld
  hys : Fld
  ofs : Fld
  hi : Fld
  lo : Fld
  tick : Fld
  clrHeld : Fld
  seenA : Fld
  seenB : Fld
  raw : Fld
  verd : Fld
  skips : Fld
  above : Fld
  below : Fld

/-- The monitor of slice `s` (R113). -/
def monSlice (s : Nat) : MonRegs :=
  ⟨SLC s, s, s, WM_CTRL.EN, WM_CTRL.LATCH, WM_CTRL.IRQ, WM_CTRL.HYS, WM_CTRL.OFS, WM_TH.TH_HI, WM_TH.TH_LO, WM_STAT.TICK,
   WM_STAT.CLR_HELD, WM_STAT.SEEN_ABOVE, WM_STAT.SEEN_BELOW, WM_STAT.RAW, WM_STAT.VERDICT, WM_EVCNT.SKIPS, WM_EVCNT.ABOVE,
   WM_EVCNT.BELOW⟩

/-- The monitor of regulator `r` (R114). -/
def monDps (r : Nat) : MonRegs :=
  ⟨DPS r, 272 + r, 400 + r, DPS_WM_CTRL.EN, DPS_WM_CTRL.LATCH, DPS_WM_CTRL.IRQ, DPS_WM_CTRL.HYS, DPS_WM_CTRL.OFS,
   DPS_WM_TH.TH_HI, DPS_WM_TH.TH_LO, DPS_WM_STAT.TICK, DPS_WM_STAT.CLR_HELD, DPS_WM_STAT.SEEN_ABOVE, DPS_WM_STAT.SEEN_BELOW,
   DPS_WM_STAT.RAW, DPS_WM_STAT.VERDICT, DPS_WM_EVCNT.SKIPS, DPS_WM_EVCNT.ABOVE, DPS_WM_EVCNT.BELOW⟩

namespace Block

/-- New monitor settings come into force (R101, R104): enabling reads UNSETTLED, disabling OFF, and a change of thresholds is
remembered for the sample of this tick. -/
def wmLatch (old b : Block) (m : MonRegs) : Block :=
  let e0 := old.flag m.base m.en
  let e1 := b.flag m.base m.en
  let b := if e1 && !e0 then (b.set m.base m.raw 1).set m.base m.verd 1
    else if e0 && !e1 then (b.set m.base m.raw 0).set m.base m.verd 0 else b
  if old.get m.base m.hi ≠ b.get m.base m.hi ∨ old.get m.base m.lo ≠ b.get m.base m.lo then
    let b := b.updWm m.unit (fun w => { w with thAt := some b.time.lastB })
    if m.unit < 272 then b.thTouch m.unit else b.dpsThTouch (m.unit - 272)
  else b

/-! ### Ramps and paths of the PMU (R69 to R77, R85) -/

/-- The substitution of field `f` completes: repair record, source 610, boundary work over (R76, R408). -/
def substComplete (b : Block) (f : Nat) : Block :=
  let x := b.subst f
  let b := ((b.setSubst f {}).rmRecord 0 0 x.displaced x.worn (17 * f + 16)).mapChanged
  (b.workEnd 1 x.worn).arrive 610

/-- A path of slice `s` is over: a substitution whose spare was on it completes (R76), and a slice on its way back from calibration is
there (R417). -/
def pathOver (b : Block) (s : Nat) : Block :=
  let b := b.updSlc s (fun x => { x with cal := if x.cal = 3 then 0 else x.cal })
  if (b.subst (s / 17)).phase = 4 ∧ s % 17 = 16 then b.substComplete (s / 17) else b

/-- A ramp up, or a ramp without a path, has ended: the path ends and is counted, and settling begins (R69, R71, R72). The ramp up of a
substitution is such a path too: it shows as PATH 2 and 3 of the spare, and counts (DESIGN CHOICE, log entry 159). -/
def rampUpEnd (b : Block) (s : Nat) : Block :=
  let path := b.get (SLC s) SLC_STAT.PATH == 3
  let b := if path then (b.set (SLC s) SLC_STAT.PATH 0).count (SLC s) SLC_EVCNT.PATHS 1 else b
  let b := ((b.forceMove s false).updSlc s (fun x => { x with rampEnd := some b.time.now })).slcSync s
  if path then b.pathOver s else b

/-- The force DAC turns towards its target without a path (R85); a running generator moves on to it, and clearing holds the output (R90,
R94). -/
def forceRamp (b : Block) (s : Nat) : Block :=
  if b.flag (SLC s) GEN_STAT.RUN_ACT then b
  else if b.held then b.forceMove s false
  else if (b.slc s).forcePos != b.get (SLC s) PMU_FORCE.CODE then b.forceMove s true
  else if (b.slc s).moving then b.rampUpEnd s
  else b

/-- A ramp up on a path turns towards the target in force (R73); at the target the path ends. -/
def pathRamp (b : Block) (s : Nat) : Block :=
  if (b.slc s).forcePos = b.get (SLC s) PMU_FORCE.CODE then b.rampUpEnd s else b.forceMove s true

/-- Slice `s` waits in a substitution (R76): a worn slice for B(V), a spare for B(V + 1). -/
def substHolds (b : Block) (s : Nat) : Bool :=
  let x := b.subst (s / 17)
  (x.phase == 1 && x.worn == s) || ((x.phase == 2 || x.phase == 3) && s % 17 == 16)

/-- The configuration of the PMU after a latch tick whose old mode and range were `om` and `rng` (R70, R73). At B(V) the values of a
spare that is not connected yet become its destination (R77), and so do those of a slice that calibration has taken to OFF (R417). -/
def pathLatch (b : Block) (s om rng : Nat) : Block :=
  let nm := b.get (SLC s) PMU_CFG.MODE
  let nr := b.get (SLC s) PMU_CFG.IRANGE
  let need := needsPath om rng nm nr
  let ph := b.get (SLC s) SLC_STAT.PATH
  if ((b.subst (s / 17)).phase = 2 ∧ s % 17 = 16) ∨ (b.slc s).cal = 1 ∨ (b.slc s).cal = 2 then b
  else if ph = 0 then
    if need then b.pathStart s
    else
      let b := b.updSlc s (fun x => { x with swMode := nm })
      let b := b.setFlag (SLC s) SLC_STAT.PMU_SW (nm != 0)
      let b := if forcing nm then b.set (SLC s) SLC_STAT.IRANGE_ACT nr else b
      b.forceRamp s
  else if ph = 2 then
    if (b.slc s).changed && need then b.updSlc s (fun x => { x with changed := false, dropped := true }) else b
  else if ph = 3 then
    if need then b.pathStart s else b.pathRamp s
  else b

/-- New TIA settings come into force (R230): stamping starts or stops at this boundary. -/
def tiaLatch (old b : Block) (s : Nat) : Block :=
  let m0 := old.get (SLC s) TIA_CTRL.MODE
  let m1 := b.get (SLC s) TIA_CTRL.MODE
  let b := (b.set (SLC s) TIA_STAT.MODE_ACT m1).set (SLC s) TIA_STAT.SRC_ACT (b.get (SLC s) TIA_CTRL.SRC)
  if m0 = 0 ∧ m1 ≠ 0 then b.updTia s (fun t => { t with stamping := true, stampFrom := none })
  else if m1 = 0 ∧ m0 ≠ 0 then b.updTia s (fun t => { t with stamping := false, stampFrom := none })
  else b

/-- The force target after a mode change without a write of PMU_FORCE, and its check against the mode in force (R81, R82). -/
def forceJudge (old b : Block) (s : Nat) (wroteForce : Bool) : Block :=
  let om := old.get (SLC s) PMU_CFG.MODE
  let nm := b.get (SLC s) PMU_CFG.MODE
  let b := if ((forcesV om && forcesI nm) || (forcesI om && forcesV nm)) && !wroteForce then
      (b.set (SLC s) PMU_FORCE.CODE (safeCode nm)).fault s 0 else b
  let b := if forcing nm && !forceOk nm (b.get (SLC s) PMU_FORCE.CODE) then
      let prev := old.get (SLC s) PMU_FORCE.CODE
      (b.set (SLC s) PMU_FORCE.CODE (if forceOk nm prev then prev else safeCode nm)).fault s 0
    else b
  b.forceTargetSync s

/-- The bleed is cleared, in force and in shadow, when EN comes into force as 1 or the PMU leaves OFF (R55). -/
def bleedRemoval (old b : Block) (s : Nat) : Block :=
  if (!old.flag (SLC s) SLC_CTRL.EN && b.flag (SLC s) SLC_CTRL.EN) ||
      (old.get (SLC s) PMU_CFG.MODE == 0 && b.get (SLC s) PMU_CFG.MODE != 0) then b.setBoth (SLC s) SLC_CTRL.BLEED 0
  else b

/-- RUN in force as 0 stops the generator of slice `s`, which ramps back to the base, and lets it start again (R95). -/
def genLatch (b : Block) (s : Nat) : Block :=
  if b.flag (SLC s) GEN_CTRL.RUN then b
  else ((b.slcGenStop s 1).updGen s (fun g => { g with needOff := false }))

/-- New values have come into force for slice `s` (R55, R70, R81, R82, R85, R93, R95, R101, R104, R230). -/
def slcLatch (old b : Block) (s : Nat) (wroteForce : Bool) : Block :=
  let b := forceJudge old b s wroteForce
  if b.slcBolted s then b else
  let b := bleedRemoval old b s
  let b := if b.get (SLC s) PMU_CFG.MODE = 0 then b.setFlag (SLC s) PMU_MEAS.VALID false else b
  let b := (b.genLatch s).pathLatch s (old.get (SLC s) PMU_CFG.MODE) (old.get (SLC s) PMU_CFG.IRANGE)
  (tiaLatch old (wmLatch old (b.lvlRamp s) (monSlice s)) s).slcSync s

/-- The control value of regulator `r` as it was before, in force (R284). -/
def dpsCtrlKeep (old b : Block) (r : Nat) : Block :=
  [DPS_CTRL.CLAMP_IRQ, DPS_CTRL.GUARD, DPS_CTRL.IRANGE, DPS_CTRL.BOOST, DPS_CTRL.LSENSE, DPS_CTRL.DISCH, DPS_CTRL.EN].foldl
    (fun b F => b.set (DPS r) F (old.get (DPS r) F)) b

/-- A refused control value (R284): BOOST changed while EN is 1, or a range and BOOST that do not go together. -/
def dpsRefused (old b : Block) (r : Nat) : Bool :=
  (old.flag (DPS r) DPS_CTRL.EN && old.get (DPS r) DPS_CTRL.BOOST != b.get (DPS r) DPS_CTRL.BOOST) ||
  ((b.get (DPS r) DPS_CTRL.IRANGE == 3) != b.flag (DPS r) DPS_CTRL.BOOST)

/-- The control register was changed by the new values. -/
def dpsCtrlChanged (old b : Block) (r : Nat) : Bool :=
  [DPS_CTRL.CLAMP_IRQ, DPS_CTRL.GUARD, DPS_CTRL.IRANGE, DPS_CTRL.BOOST, DPS_CTRL.LSENSE, DPS_CTRL.DISCH, DPS_CTRL.EN].any
    (fun F => old.get (DPS r) F != b.get (DPS r) F)

/-- The voltage target above VMAX leaves the previous target in force (R278); VMAX is checked at this use (R290). -/
def dpsTargetJudge (old b : Block) (r : Nat) : Block :=
  if old.get (DPS r) DPS_V.CODE = b.get (DPS r) DPS_V.CODE then b
  else
    let b := b.faultIf (!(b.dpsVmax r).2) (322 + r) 7
    if (b.dpsVmax r).1 < b.get (DPS r) DPS_V.CODE then
      (b.set (DPS r) DPS_V.CODE (old.get (DPS r) DPS_V.CODE)).fault (322 + r) 0
    else b

/-- The enable sequence of a supply (R286, R281): EN 1 clears DISCH and starts the wait, EN 0 cancels it or starts the ramp to
code 0, which clearing times without moving the output (R90). A generator that runs then stops as by RUN, with CAUSE 1: R95 names no
cause of its own (DESIGN CHOICE, log entry 160). -/
def dpsEnable (old b : Block) (r : Nat) : Block :=
  let e0 := old.flag (DPS r) DPS_CTRL.EN
  let e1 := b.flag (DPS r) DPS_CTRL.EN
  if e1 && !e0 then
    let b := (b.setBoth (DPS r) DPS_CTRL.DISCH 0).setFlag (DPS r) DPS_STAT.SENSE_OPEN false
    (b.setFlag (DPS r) DPS_STAT.WAIT true).updDps r
      (fun d => { d with waitLeft := b.get (DPS r) DPS_TIME.UP_DLY, ending := false })
  else if e0 && !e1 then
    let b := b.setFlag (DPS r) DPS_STAT.WAIT false
    if b.flag (DPS r) DPS_STAT.OUT_SW then
      let b := (b.dpsGenStop r 1).updDps r (fun d => { d with ending := true })
      b.dpsMove r ((b.dps r).pos != 0)
    else b
  else b

/-- A connected supply ramps towards its target where the output differs (R278, R85); clearing and a running generator hold
it. -/
def dpsRamp (b : Block) (r : Nat) : Block :=
  if b.flag (DPS r) DPS_CTRL.EN && b.flag (DPS r) DPS_STAT.OUT_SW && !b.flag (DPS r) DPS_GEN_STAT.RUN_ACT then
    b.dpsMove r (!b.held && (b.dps r).pos != b.get (DPS r) DPS_V.CODE)
  else b

/-- New values have come into force for regulator `r` (R278, R284, R285, R286, R95, R101). -/
def dpsLatch (old b : Block) (r : Nat) : Block :=
  let b := if dpsCtrlChanged old b r && dpsRefused old b r then (dpsCtrlKeep old b r).fault (322 + r) 0 else b
  let b := dpsTargetJudge old b r
  if b.flag (DPS r) DPS_STAT.BOLTED then b else
  let b := if b.flag (DPS r) DPS_CTRL.EN && old.flag (DPS r) DPS_CTRL.EN &&
      old.get (DPS r) DPS_CTRL.IRANGE != b.get (DPS r) DPS_CTRL.IRANGE then
      b.updDps r (fun d => { d with rangeUntil := b.time.now + 100, oldClamp := old.dpsClamp r }) else b
  let b := if b.flag (DPS r) DPS_GEN_CTRL.RUN then b
    else (b.dpsGenStop r 1).updGen (272 + r) (fun g => { g with needOff := false })
  (wmLatch old ((dpsEnable old b r).dpsRamp r) (monDps r)).dpsSync r

end Block
end Sys2Proof.Machine
end

