-- ==== Sys2Proof/Machine/Slices.lean ====
section
/-!
DEFINITION. The commands of the channel slices (ch. 3): PMU conversions, clamps, driver limits, the safe-value path, the bolt
switch, and slice substitution.
-/
namespace Sys2Proof.Machine
namespace Block

/-- The instant of a tick-anchored sampling offset, in sub-ticks (R68, R287): B(n) + min(OFS, K − 50). -/
def sampleAt (b : Block) (ofs : Nat) : Nat := b.time.lastB + min ofs (b.k - 50)

/-- A substitution is in progress on slice `s` (R76). -/
def inSubst (b : Block) (s : Nat) : Bool :=
  let x := b.subst (s / 17)
  x.phase != 0 && (x.worn == s || s % 17 == 16)

/-- The conversion of slice `s` at its sampling instant is not settled (R69): the force DAC ramps, or the settling time of the range and
FILT in force has not elapsed since its last ramp ended. -/
def notSettled (b : Block) (s : Nat) : Bool :=
  b.get (SLC s) SLC_STAT.PATH == 0 &&
  (b.flag (SLC s) FORCE_ACT.RAMP || (b.slc s).rampEnd.any (fun t =>
    decide (b.sampleAt (b.get (SLC s) PMU_CFG.OFS) < t + settleSub (b.get (SLC s) PMU_CFG.IRANGE) (b.get (SLC s) PMU_CFG.FILT))))

/-- The mode measures a current (R62). -/
def measCurrent (m : Nat) : Bool := m == 1 || m == 4

/-- OVR of a conversion with code `c` (R64, R66): a voltage outside −2.000 V to +7.000 V, or a current code at its limit. -/
def measOver (m c : Nat) : Bool :=
  let c := c % 2 ^ 18
  if measCurrent m then c == 131071 || c == 131072 else decide (c < 13108 ∨ 249036 < c)

/-- The PMU_MEAS word of a conversion with code `c` of the quantity measured (R66 to R69, R79). -/
def measWord (b : Block) (s c : Nat) (clI clV : Bool) : Nat :=
  let m := b.get (SLC s) PMU_CFG.MODE
  b.tick16 * 2 ^ 48 + b.get (SLC s) SLC_STAT.BLEED_ACT * 2 ^ 44 + 2 ^ 43 +
    b01 (b.get (SLC s) SLC_STAT.PATH != 0 || b.inSubst s) * 2 ^ 42 + b01 (b.notSettled s) * 2 ^ 41 +
    b01 (clI || b.flag (SLC s) SLC_STAT.CLAMP_I) * 2 ^ 40 + b01 (clV || b.flag (SLC s) SLC_STAT.CLAMP_V) * 2 ^ 39 +
    b01 (measOver m c) * 2 ^ 38 + b.get (SLC s) SLC_STAT.IRANGE_ACT * 2 ^ 35 + b01 (measCurrent m) * 2 ^ 34 + c % 2 ^ 18

/-- A connected PMU converts once per tick the quantity that its mode measures (R62, R68), of the node's voltage code `vc` and current code
`ic`; that of a retired slice is not connected (R76). -/
def pmuConversion (b : Block) (s vc ic : Nat) (clI clV : Bool) : Block :=
  if b.get (SLC s) PMU_CFG.MODE ≠ 0 ∧ b.slcRole s ≠ 3 ∧ (b.slc s).measNext = none then
    b.updSlc s (fun x => { x with measNext := some (b.measWord s (if measCurrent (b.get (SLC s) PMU_CFG.MODE) then ic else vc) clI clV) })
  else b

/-- The driver of slice `s` enters current limit (R80). -/
def limitEntry (b : Block) (s : Nat) : Block :=
  if b.flag (SLC s) SLC_STAT.DRV_OVL then b
  else
    let b := ((b.setFlag (SLC s) SLC_STAT.DRV_OVL true).count (SLC s) SLC_EVCNT.DRV_OVL 1).setLive s true
    (b.updSlc s (fun x => { x with limitAt := some b.time.now, limitRaised := false })).arrive s

/-- A driver limit that has lasted 1 µs raises its fault event once (R80). -/
def limitOverload (b : Block) (s : Nat) : Block :=
  match (b.slc s).limitAt with
  | some t =>
    if b.flag (SLC s) SLC_STAT.DRV_OVL && !(b.slc s).limitRaised && decide (t + 100 ≤ b.time.now) then
      (b.updSlc s (fun x => { x with limitRaised := true })).fault s 1
    else b
  | none => b

/-- The driver of slice `s` leaves current limit (R80). -/
def limitExit (b : Block) (s : Nat) : Block :=
  if b.flag (SLC s) SLC_STAT.DRV_OVL then
    ((b.setFlag (SLC s) SLC_STAT.DRV_OVL false).setLive s false).updSlc s (fun x => { x with limitAt := none, limitRaised := false })
  else b

/-- The clamp flag of SLC_STAT by kind (R67). -/
def clampFld (volt : Bool) : Fld := if volt then SLC_STAT.CLAMP_V else SLC_STAT.CLAMP_I

/-- A PMU clamp starts to act (R67). -/
def clampEnter (b : Block) (s : Nat) (volt : Bool) : Block :=
  if b.flag (SLC s) (clampFld volt) then b
  else
    ((b.setFlag (SLC s) (clampFld volt) true).count (SLC s) SLC_EVCNT.CLAMP 1).arriveIf (b.flag (SLC s) SLC_CTRL.CLAMP_IRQ) s

/-- A PMU clamp stops acting (R67). -/
def clampExit (b : Block) (s : Nat) (volt : Bool) : Block := b.setFlag (SLC s) (clampFld volt) false

/-- At the first tick boundary after the ramp down the range drops to ±2 µA (R71). -/
def rangeDrop (b : Block) (s : Nat) : Block :=
  if b.get (SLC s) SLC_STAT.PATH = 1 ∧ (b.slc s).downDone ∧ b.atBoundary ∧ !b.substHolds s then
    (((b.set (SLC s) SLC_STAT.PATH 2).set (SLC s) SLC_STAT.IRANGE_ACT 0).updSlc s
      (fun x => { x with dropped := true, changed := false })).slcSync s
  else b

/-- The mode to which a path leads: that in force, or OFF before a calibration task opens the series disconnect (R73, R417). -/
def pathMode (b : Block) (s : Nat) : Nat := if (b.slc s).cal = 1 then 0 else b.get (SLC s) PMU_CFG.MODE

/-- One sub-tick later the connect or mode switch changes over to the newest configuration; a change to OFF or FNMV ends the
path there (R71, R73), and then a calibration task opens the series disconnect (R417). -/
def changeover (b : Block) (s : Nat) : Block :=
  if b.get (SLC s) SLC_STAT.PATH = 2 ∧ (b.slc s).dropped ∧ (b.slc s).changed = false then
    let m := b.pathMode s
    let b := (b.updSlc s (fun x => { x with swMode := m, changed := true, dropped := false })).setFlag (SLC s)
      SLC_STAT.PMU_SW (m != 0)
    if forcing m then ((b.forceAt s (safeCode m)).forceHeld s).slcSync s
    else
      let b := ((b.set (SLC s) SLC_STAT.PATH 0).count (SLC s) SLC_EVCNT.PATHS 1).forceHeld s
      ((b.updSlc s (fun x => { x with cal := if x.cal = 1 then 2 else x.cal })).slcSync s).pathOver s
  else b

/-- At B(H+1) the new range comes into force and the ramp up begins (R71); a ramp of zero length ends at once. -/
def holdEnd (b : Block) (s : Nat) : Block :=
  if b.get (SLC s) SLC_STAT.PATH = 2 ∧ (b.slc s).changed ∧ b.atBoundary ∧ !b.substHolds s then
    (((b.set (SLC s) SLC_STAT.PATH 3).set (SLC s) SLC_STAT.IRANGE_ACT (b.get (SLC s) PMU_CFG.IRANGE)).slcSync s).pathRamp s
  else b

/-- At the first tick boundary after the bolt ramp the PMU switch opens and the force DAC takes CLR_FV (R74, R92). A bolt ramp is not
counted in SLC_EVCNT.PATHS: it replaces the path that it cut short (DESIGN CHOICE, log entry 159). -/
def boltOpen (b : Block) (s : Nat) : Block :=
  if b.get (SLC s) SLC_STAT.PATH = 4 ∧ (b.slc s).downDone ∧ b.atBoundary then
    let b := ((b.set (SLC s) SLC_STAT.PATH 0).set (SLC s) SLC_STAT.IRANGE_ACT 0).setFlag (SLC s) SLC_STAT.PMU_SW false
    let b := (b.updSlc s (fun x => { x with swMode := 0, downDone := false })).forceMove s false
    let ok := (b.fvClear s).2
    let b := (((b.forceAt s (b.fvClear s).1).forceHeld s).slcSync s).pathOver s
    (b.faultIf (!ok) s 4).endReaction
  else b

/-! ### Substitution through the hinge bus (R26, R76 to R78) -/

/-- The offsets of every instance of a register. -/
def instOffs : List (Nat × Nat) → List Nat
  | [] => [0]
  | (st, n) :: t => (List.range n).flatMap (fun i => (instOffs t).map (fun o => i * st + o))

/-- A field that holds a setting of its unit: RW or RWS. -/
def isSetting (F : Fld) : Bool := F.acc == .rw || F.acc == .rws

/-- One setting copied from block base `x` to block base `y`: in force, shadow and generation tag (R76). -/
def copyFld (x y : Nat) (b : Block) (F : Fld) : Block :=
  let b := (b.set y F (b.get x F)).setSh y F (b.getSh x F)
  { b with tags := Sparse.set 0 (fkey y F) (Sparse.get 0 (fkey x F) b.tags) (Sparse.set 0 (fkey x F) 0 b.tags) }

/-- Every setting of a unit's registers taken over by another unit (R76, R291). -/
def copyUnit (regs : List RegDef) (x y : Nat) (b : Block) : Block :=
  regs.foldl (fun b d => (instOffs d.dims).foldl (fun b o => (d.flds.filter isSetting).foldl (copyFld (x + o) (y + o)) b) b) b

/-- The repair manager takes hasp entry `i` from any owner (R26): OWNER 0x60, GEN moved on. It supplies no tag, so that TAG reads 0 after
a displacement (DESIGN CHOICE, log entry 155: R26 names none). -/
def haspTake (b : Block) (i : Nat) : Block :=
  (((b.set (8 * i) HASP_ENT.OWNER 0x60).set (8 * i) HASP_ENT.STATE 1).set (8 * i) HASP_ENT.TAG 0).bump (8 * i) HASP_ENT.GEN

/-- At B(U) the repair manager starts substituting the spare for worn slice `s` (R26, R76): the hinge bus and spare slice
hasps pass to it, the driver is held off and a forcing PMU ramps down. -/
def substStart (b : Block) (s : Nat) : Block :=
  let f := s / 17
  match b.slcChan s with
  | some c =>
    if b.flt.due.contains (0, s) ∧ b.slcRole s = 0 ∧ b.slcRole (17 * f + 16) = 1 ∧ !b.slcBolted s ∧
        !b.slcBolted (17 * f + 16) ∧ (b.subst f).phase = 0 ∧ b.idle f ∧ !b.boundaryBusy f ∧ b.atBoundary then
      let displaced := b.get (8 * (16 * f)) HASP_ENT.OWNER
      let b := (b.haspTake (16 * f)).haspTake (16 * f + 1)
      let b := { b with flt := { b.flt with due := b.flt.due.filter (fun e => e != (0, s)) } }
      let b := (b.workStart (some f) 1 s).setSubst f { worn := s, chan := c, phase := 1, displaced := displaced }
      let b := b.slcGenStop s 2
      let m := (b.slc s).swMode
      let b := b.updSlc s (fun x => { x with substHold := true })
      let b := b.updSlc s (fun x => { x with downDone := !forcing m || x.forcePos == safeCode m })
      let b := if forcing m then
          (b.set (SLC s) SLC_STAT.PATH 1).forceMove s (!(b.slc s).downDone) else b
      b.slcSync s
    else b
  | none => b

/-- At B(V) the worn slice disconnects and retires, and the spare takes over its settings and selects the calibration set of the channel's
hinge path (R76, R108, R243). A Degraded hold of the worn slice marks the channel's records no longer (R298). -/
def substRetire (b : Block) (f : Nat) : Block :=
  let x := b.subst f
  let p := 17 * f + 16
  let w := x.worn
  if x.phase = 1 ∧ ((b.slc w).downDone ∨ (b.slcBolted w ∧ b.get (SLC w) SLC_STAT.PATH = 0)) ∧ b.atBoundary then
    let b := if b.flt.degraded.any (fun d => d.1 == w) then b.mark 1 (32 + x.chan) else b
    let b := ((b.gateDrop w).copyUnit sliceRegs (SLC w) (SLC p)).calSelect f (x.chan % 16)
    let lost := if b.flag (FLD f) TIA_FCHAIN.EN then 0 else (b.tia w).fifo.length
    let b := if b.flag (FLD f) TIA_FCHAIN.EN then b
      else ((b.updTia w (fun t => { t with fifo := [] })).set (SLC w) TIA_STAT.LEVEL 0).count (SLC p) TIA_EVCNT.LOST lost
    let b := b.tiaOff w
    let b := (b.set (SLC w) SLC_ID.ROLE 3).set (SLC w) SLC_ID.CHAN 0x1FF
    let b := ((b.set (SLC w) SLC_STAT.PATH 0).set (SLC w) SLC_STAT.IRANGE_ACT 0).setFlag (SLC w) SLC_STAT.PMU_SW false
    let b := (b.forceMove w false).setBoth (SLC w) SLC_CTRL.BLEED 1
    let b := ((b.updSlc w (fun y => { y with swMode := 0, substHold := false })).forceHeld w).slcSync w
    let b := b.updSlc p (fun y => { y with substHold := true, swMode := 0, rampEnd := none })
    let b := ((((b.set (SLC p) SLC_STAT.IRANGE_ACT 0).forceTargetSync p).lvlRamp p).thTouch p).slcSync p
    let b := (b.set (SLC p) WM_STAT.RAW 0).set (SLC p) WM_STAT.VERDICT 0
    b.setSubst f { x with phase := 2 }
  else b

/-- 10 ns later the spare connects through the hinge path, the bus tie stays open (R13), and the channel map points to the spare
(R76). What belongs to the channel follows it: its last 64 ticks (R164), the driver state that the edges have left (R124) and the last
edge and strobe (R127). -/
def substConnect (b : Block) (f : Nat) : Block :=
  let x := b.subst f
  let p := 17 * f + 16
  if x.phase = 2 then
    let m := b.get (SLC p) PMU_CFG.MODE
    let b := (b.set (SLC p) SLC_ID.ROLE 2).set (SLC p) SLC_ID.CHAN x.chan
    let b := if forcing m then
        let b := (b.updSlc p (fun y => { y with swMode := m, changed := true, dropped := false })).setFlag (SLC p) SLC_STAT.PMU_SW true
        ((b.forceAt p (safeCode m)).forceHeld p).set (SLC p) SLC_STAT.PATH 2
      else b
    let o := b.slc x.worn
    let b := b.updSlc p (fun y => { y with
      meas := o.meas, drvOn := o.drvOn, drvHigh := o.drvHigh, lastData := o.lastData, lastEdge := o.lastEdge, lastStrobe := o.lastStrobe })
    let b := b.updWm p (fun y => { y with hist := (b.wm x.worn).hist })
    let b := (b.setFlag (8 * f) RM_CHMAP.SUB true).set (8 * f) RM_CHMAP.K (x.chan % 16)
    let b := (b.set 0 RM_STAT.SPARE_SLC (b.get 0 RM_STAT.SPARE_SLC - 1)).setFlag (FLD f) DDS_STAT.SKEW_OLD true
    let b := { b with buses := Sparse.set 0 f 0 b.buses }
    (b.slcSync p).setSubst f { x with phase := 3 }
  else b

/-- At B(V+1) the spare takes the range, EN, DOFF and bleed of its settings and ramps up; its monitor and TIA start afresh
(R76, R108, R243). A configuration that came into force at B(V + 1) and needs another switch state changes over first (R73, R77). The
substitution ends with the spare's path. -/
def substRestore (b : Block) (f : Nat) : Block :=
  let x := b.subst f
  let p := 17 * f + 16
  if x.phase = 3 ∧ b.atBoundary then
    let m := b.get (SLC p) PMU_CFG.MODE
    let b := b.updSlc p (fun y => { y with substHold := false })
    let b := if b.flag (SLC p) WM_CTRL.EN then (b.set (SLC p) WM_STAT.RAW 1).set (SLC p) WM_STAT.VERDICT 1 else b
    let b := (b.set (SLC p) TIA_STAT.MODE_ACT (b.get (SLC p) TIA_CTRL.MODE)).set (SLC p) TIA_STAT.SRC_ACT
      (b.get (SLC p) TIA_CTRL.SRC)
    let b := b.updTia p (fun t => { t with stamping := b.get (SLC p) TIA_CTRL.MODE != 0, stampFrom := none })
    let b := b.setSubst f { x with phase := 4 }
    if b.get (SLC p) SLC_STAT.PATH = 0 then
      (((b.updSlc p (fun y => { y with swMode := m })).setFlag (SLC p) SLC_STAT.PMU_SW (m != 0)).slcSync p).substComplete f
    else (b.slcSync p).holdEnd p
  else b

end Block

/-! ### The commands -/

/-- PMU_CONVERSION (R68). -/
def execPmuConversion (s : Fin 272) (vc ic : Nat) (clI clV : Bool) (st : State) : Host.Outcome State Fault Refusal :=
  .next (st.on (fun b => b.pmuConversion s vc ic clI clV))
/-- DRIVER_LIMIT_ENTRY (R80). -/
def execDriverLimitEntry (s : Fin 272) (st : State) : Host.Outcome State Fault Refusal := .next (st.on (fun b => b.limitEntry s))
/-- DRIVER_OVERLOAD (R80). -/
def execDriverOverload (s : Fin 272) (st : State) : Host.Outcome State Fault Refusal := .next (st.on (fun b => b.limitOverload s))
/-- DRIVER_LIMIT_EXIT (R80). -/
def execDriverLimitExit (s : Fin 272) (st : State) : Host.Outcome State Fault Refusal := .next (st.on (fun b => b.limitExit s))
/-- CLAMP_ENTRY (R67). -/
def execClampEntry (s : Fin 272) (volt : Bool) (st : State) : Host.Outcome State Fault Refusal :=
  .next (st.on (fun b => b.clampEnter s volt))
/-- CLAMP_EXIT (R67). -/
def execClampExit (s : Fin 272) (volt : Bool) (st : State) : Host.Outcome State Fault Refusal :=
  .next (st.on (fun b => b.clampExit s volt))
/-- PATH_RANGE_DROP (R71). -/
def execPathRangeDrop (s : Fin 272) (st : State) : Host.Outcome State Fault Refusal := .next (st.on (fun b => b.rangeDrop s))
/-- PATH_SWITCH_CHANGEOVER (R71). -/
def execPathSwitchChangeover (s : Fin 272) (st : State) : Host.Outcome State Fault Refusal :=
  .next (st.on (fun b => b.changeover s))
/-- PATH_HOLD_END (R71). -/
def execPathHoldEnd (s : Fin 272) (st : State) : Host.Outcome State Fault Refusal := .next (st.on (fun b => b.holdEnd s))
/-- BOLT_SWITCH_OPEN (R74). -/
def execBoltSwitchOpen (s : Fin 272) (st : State) : Host.Outcome State Fault Refusal := .next (st.on (fun b => b.boltOpen s))
/-- SLICE_SUBSTITUTION (R76). -/
def execSliceSubstitution (s : Fin 272) (st : State) : Host.Outcome State Fault Refusal := .next (st.on (fun b => b.substStart s))
/-- SUBST_WORN_RETIRE (R76). -/
def execSubstWornRetire (f : Fin 16) (st : State) : Host.Outcome State Fault Refusal := .next (st.on (fun b => b.substRetire f))
/-- SUBST_SPARE_CONNECT (R76). -/
def execSubstSpareConnect (f : Fin 16) (st : State) : Host.Outcome State Fault Refusal := .next (st.on (fun b => b.substConnect f))
/-- SUBST_SPARE_RESTORE (R76). -/
def execSubstSpareRestore (f : Fin 16) (st : State) : Host.Outcome State Fault Refusal := .next (st.on (fun b => b.substRestore f))

end Sys2Proof.Machine
end

