-- ==== Sys2Proof/Machine/Calib.lean ====
section
/-!
DEFINITION. The calibration engine (ch. 21): temperature sensors, tasks that become due, their start, deferral and end, and CAL_RUN.
What a task measures is an operand of its end.
-/
namespace Sys2Proof.Machine
namespace Block

/-- The offset of CAL_TASK[f][t] from that of CAL_TASK[0][0] (R427). -/
def calAt (f t : Nat) : Nat := 64 * f + 8 * t

/-- The state of task `t` of field `f` (R427). -/
def calState (b : Block) (f t : Nat) : Nat := b.get (calAt f t) CAL_TASK.STATE

/-- Task `t` of field `f` is due (R419): due, running, deferred or failed. -/
def calDue (b : Block) (f t : Nat) : Bool := [2, 3, 5, 6].contains (b.calState f t)

/-- All tasks: field and number. -/
def calTasks : List (Nat × Nat) := (List.range 112).map (fun i => (i / 7, i % 7))

/-- CAL_STAT.DUE brought up to the tasks (R427). -/
def calSync (b : Block) : Block := b.set 0 CAL_STAT.DUE (calTasks.filter (fun x => b.calDue x.1 x.2)).length

/-- A task becomes due (R419). -/
def calMakeDue (b : Block) (f t : Nat) : Block := if b.calDue f t then b else b.set (calAt f t) CAL_TASK.STATE 2

/-! ### Temperature (R419, R427) -/

/-- The register of a sensor: none for the core die, or a field (R427): offset of its instance, NOW, MAX, TICK. -/
def sensor (f : Option Nat) : Nat × Fld × Fld × Fld :=
  match f with
  | none => (0, CAL_CTEMP.NOW, CAL_CTEMP.MAX, CAL_CTEMP.TICK)
  | some f => (8 * f, CAL_FTEMP.NOW, CAL_FTEMP.MAX, CAL_FTEMP.TICK)

/-- A sample of a sensor, in 1/16 °C (R419, R427): the highest reading, the warning at a crossing of TWARN (R427), and the
over-temperature source of its die above +105 °C. -/
def tempSample (b : Block) (f : Option Nat) (t : Int) : Block :=
  let s := sensor f
  let b := (b.set s.1 s.2.1 (ofSigned 16 t)).set s.1 s.2.2.2 b.tick16
  let b := if toSigned 16 (b.get s.1 s.2.2.1) < t then b.set s.1 s.2.2.1 (ofSigned 16 t) else b
  let i := match f with | none => 0 | some f => 1 + f
  let die := match f with | none => 0 | some f => 1 + f / 4
  let hot : Bool := decide (16 * (b.get 0 CAL_CTRL.TWARN : Int) < t)
  let was := b.cal.warm.contains i
  let b := { b with cal := { b.cal with warm := if hot then (if was then b.cal.warm else b.cal.warm ++ [i]) else b.cal.warm.filter (· != i) } }
  let b := b.arriveIf (hot && !was) (551 + die)
  let hotDie : Bool := if die = 0 then decide (1680 < t)
    else (List.range 16).any (fun g => g / 4 == die - 1 && decide (1680 < toSigned 16 (b.get (8 * g) CAL_FTEMP.NOW)))
  (if 1680 < t then b.fault (414 + die) 0 else b).setLive (414 + die) hotDie

/-- The distance between the sensor of field `f` and TLAST of a task. -/
def calDist (b : Block) (f t : Nat) : Nat :=
  (toSigned 16 (b.get (8 * f) CAL_FTEMP.NOW) - toSigned 16 (b.get (calAt f t) CAL_TASK.TLAST)).natAbs

/-- What a tick boundary does to the tasks of field `f` (R42, R136, R419): due tasks age, tasks whose temperature has moved by more
than CAL_DT become due, and the edge calibration is overdue from then on. -/
def calTick (b : Block) (f : Nat) : Block :=
  if b.flag 0 HQ_STAT.READY then
    let moved := fun (b : Block) t => decide (b.get 0 CAL_CTRL.CAL_DT < b.calDist f t)
    let b := (List.range 7).foldl (fun b t =>
      if b.calDue f t then b.count (calAt f t) CAL_TASK.AGE 1
      else if b.calState f t = 1 ∧ moved b t then b.calMakeDue f t else b) b
    if b.calState f 4 ≠ 0 ∧ moved b 4 then b.setFlag (FLD f) TS_STAT.CAL_OVERDUE true else b
  else b

/-! ### A task's result (R424 to R426) -/

/-- The limit of R424 in the unit of the operand: 0.25 of the accuracy figure, 0.02 % of FS, 4 ps, 2 ps, 10 ps. -/
def calLimit (t : Nat) : Nat := if t ≤ 1 then 250 else if t = 2 then 20 else if t = 4 then 8 else if t = 5 then 4 else 20

/-- The largest of a saturating field. -/
def satTo (w v : Nat) : Nat := min v (2 ^ w - 1)

/-- The quality register of a slice after a run of task `t` (R428). -/
def calQuality (t : Nat) (fail : Bool) (b : Block) (m : CalSlice) : Block :=
  let o := SLC m.slice
  let b := b.set o CAL_Q.DRIFT (satTo 16 m.drift)
  if t = 4 then (b.set o CAL_Q.EDGE_RES (satTo 8 m.res)).setFlag o CAL_Q.FAIL_EDGE fail
  else if t = 5 then b.setFlag o CAL_Q.FAIL_TIA fail
  else ((b.set o CAL_Q.DC_RES (satTo 8 m.dc)).set o CAL_Q.TICK b.tick16).setFlag o CAL_Q.FAIL_DC fail

/-- The constants of a slice come into force with their complements (R426, R428). -/
def calPut (b : Block) (m : CalSlice) : Block :=
  let b := m.k.foldl (fun b x => if x.1 < 24 then
    (b.set (SLC m.slice + 8 * x.1) CAL_K.K x.2).set (SLC m.slice + 8 * x.1) CAL_K.NK (2 ^ 32 - 1 - x.2 % 2 ^ 32) else b) b
  m.clim.foldl (fun b x => if x.1 < 5 then
    (b.set (SLC m.slice + 8 * x.1) CAL_CLIM.LIM x.2).set (SLC m.slice + 8 * x.1) CAL_CLIM.NLIM (2 ^ 16 - 1 - x.2 % 2 ^ 16) else b) b

/-- Constant `x.2.1` of hinge path `x.1` of the spare slice of field `f` kept in the engine's store (R426). -/
def calKeep (f : Nat) (b : Block) (x : Nat × Nat × Nat) : Block :=
  let p := 16 * f + x.1 % 16
  let v := if x.2.1 < 24 then x.2.2 % 2 ^ 32 else x.2.2 % 2 ^ 16
  if x.2.1 < 29 then
    { b with cal := { b.cal with
      sets := Sparse.set 0 (p * 32 + x.2.1) v b.cal.sets, seen := if b.cal.seen.contains p then b.cal.seen else b.cal.seen ++ [p] } }
  else b

/-- What was measured on a slice comes into force; on the spare slice also the sets of its hinge paths, of which the one of the channel that
it serves is in force. PATHS shows that every set has been measured since power-up (R426). -/
def calConstants (b : Block) (m : CalSlice) : Block :=
  let b := b.calPut m
  if m.slice % 17 = 16 then
    let f := m.slice / 17
    let k := b.get (SLC m.slice) SLC_ID.CHAN % 16
    let own : List (Nat × Nat × Nat) := if b.slcRole m.slice = 2 then
        (m.k.filter (fun x => decide (x.1 < 24))).map (fun x => (k, x.1, x.2)) ++ (m.clim.filter (fun x => decide (x.1 < 5))).map (fun x => (k, 24 + x.1, x.2)) else []
    let b : Block := (own ++ m.sets).foldl (calKeep f) b
    let b : Block := if b.slcRole m.slice = 2 then b.calSelect f k else b
    b.setFlag (SLC m.slice) CAL_Q.PATHS ((List.range 16).all (fun i => b.cal.seen.contains (16 * f + i)))
  else b

/-- Unit `u` of RM_WEAR is reported for drift or a failed task (R406, R425). -/
def calReport (b : Block) (u : Nat) : Block :=
  if b.flag 0 RM_CTRL.DRIFT then (b.setFlag (8 * u) RM_WEAR.DRIFT true).judgeWorn u else b

/-- Slice measurements that belong to field `f`. -/
def calSlices (f : Nat) (m : CalMeas) : List CalSlice := m.slices.filter (fun x => decide (17 * f ≤ x.slice ∧ x.slice < 17 * f + 17))

/-- The regulators of task 3 of field `f`: 2f and 2f + 1, and spare 32 or 33 in fields 0 and 8 (R416). -/
def calRegNos (f : Nat) : List Nat := [2 * f, 2 * f + 1] ++ (if f = 0 then [32] else if f = 8 then [33] else [])

/-- Regulator measurements that belong to field `f`. -/
def calRegs (f : Nat) (m : CalMeas) : List CalDps := m.regs.filter (fun x => (calRegNos f).contains x.reg)

/-- The task has failed as a whole: a measurement did not complete, or VREF_IN or RREF is missing (R415, R424). -/
def calVoid (b : Block) (t : Nat) (m : CalMeas) : Bool := !m.complete || (decide (t ≤ 3) && b.flag 0 CAL_STAT.REF_MISSING)

/-- The slices and regulators whose residual exceeds R424. -/
def sliceOver (t : Nat) (x : CalSlice) : Bool := decide (calLimit t < x.res)
def regOver (x : CalDps) : Bool := decide (50 < x.vRes ∨ 20 < x.iRes)

/-- Task `t` of field `f` failed (R424). -/
def calFailed (b : Block) (f t : Nat) (m : CalMeas) : Bool :=
  b.calVoid t m || ((t == 0 || t == 6) && decide (calLimit t < m.res)) ||
    ([1, 2, 4, 5].contains t && (calSlices f m).any (sliceOver t)) || (t == 3 && (calRegs f m).any regOver)

/-- Quality registers, drift and wear after a run of task `t` of field `f` (R424, R425). -/
def calJudge (b : Block) (f t : Nat) (m : CalMeas) : Block :=
  let void := b.calVoid t m
  let lim := b.get 0 CAL_CTRL.DRIFT_LIM
  let b := if [1, 2, 4, 5].contains t then (calSlices f m).foldl (fun b x =>
      let fail := void || sliceOver t x
      let b := calQuality t fail b x
      let b := b.arriveIf (decide (lim < x.drift)) 549
      let b : Block := if fail || decide (lim < x.drift) then b.calReport x.slice else b
      if t = 5 ∧ fail then b.updTia x.slice (fun z => { z with dllDue := true }) else b) b
    else b
  if t = 3 then (calRegs f m).foldl (fun b x =>
      let o := 8 * x.reg
      let fail := void || regOver x
      let b := ((b.set o CAL_DPSQ.TICK b.tick16).set o CAL_DPSQ.V_RES (satTo 8 x.vRes)).set o CAL_DPSQ.I_RES (satTo 8 x.iRes)
      let b := (b.set o CAL_DPSQ.DRIFT (satTo 16 x.drift)).setFlag o CAL_DPSQ.FAIL fail
      let b := b.arriveIf (decide (lim < x.drift)) 549
      if fail || decide (lim < x.drift) then b.calReport (272 + x.reg) else b) b
  else b

/-- Every task of every field has run, failed or been skipped since power-up (R420). -/
def calStartup (b : Block) : Block :=
  if b.cal.ran.length = 112 ∧ !b.flag 0 CAL_STAT.STARTUP_DONE then (b.setFlag 0 CAL_STAT.STARTUP_DONE true).arrive 550 else b

/-- Task `t` of field `f` has run, failed or been skipped; it is no longer forced. -/
def calRan (b : Block) (f t : Nat) : Block :=
  let i := 8 * f + t
  { b with cal := { b.cal with
    ran := if b.cal.ran.contains i then b.cal.ran else b.cal.ran ++ [i]
    forced := b.cal.forced.filter (· != i), full := b.cal.full.filter (· != i) } }

/-- The result of a run of task `t` of field `f` that began at sensor reading `temp` (R419, R424, R426): constants in force, or the task
failed and due again. -/
def calResult (b : Block) (f t temp : Nat) (m : CalMeas) : Block :=
  let o := calAt f t
  let fail := b.calFailed f t m
  let b := ((b.calJudge f t m).set o CAL_TASK.DEFER 0).set o CAL_TASK.OWNER 0
  let b := if fail then (b.set o CAL_TASK.STATE 6).arrive 548
    else
      let b := if t = 1 ∨ t = 2 ∨ t = 4 ∨ t = 5 then (calSlices f m).foldl calConstants b else b
      let b := { b with cal := { b.cal with store := m.store.foldl (fun (s : List (Nat × Nat)) (x : Nat × Nat) => Sparse.put x.1 x.2 s) b.cal.store } }
      let b := ((b.set o CAL_TASK.STATE 1).set o CAL_TASK.TLAST temp).set o CAL_TASK.AGE 0
      let b := if t = 4 then (if b.flag (FLD f) TS_STAT.CAL_OVERDUE then b.mark 5 (1 + f) else b).setFlag (FLD f) TS_STAT.CAL_OVERDUE false
        else b
      (if t = 6 then b.setFlag (FLD f) DDS_STAT.SKEW_OLD false else b).arrive 546
  ((b.calRan f t).calSync).calStartup

/-! ### CAL_RUN (R423) -/

/-- Slot `k` holds a CAL_RUN that names task `t` of field `f` and has not ended. -/
def calNamed (b : Block) (k f t : Nat) : Bool :=
  let st := b.get (8 * k) OPSTAT.STATE
  b.get (8 * k) OPSTAT.OPC == 0x39 && (st == 1 || st == 2) && bit (b.slotWord k 1) f && bit (b.slotWord k 1) (16 + t)

/-- Every named task of field `f` has ended for slot `k`. -/
def calFieldOver (b : Block) (k f : Nat) : Bool :=
  let w := b.get (128 * k + 8 * f) OPRES.VALUE
  (List.range 7).all (fun t => !bit (b.slotWord k 1) (16 + t) || bit w t || bit w (8 + t) || bit w (16 + t))

/-- Named fields whose tasks have all ended. -/
def calFieldsOver (b : Block) (k : Nat) : Nat :=
  ((List.range 16).filter (fun f => bit (b.slotWord k 1) f && b.calFieldOver k f)).length

/-- The outcome of task `t` of field `f`, 0 ran, 8 failed, 16 deferred, is recorded with every CAL_RUN that names it (R423). -/
def calTell (b : Block) (f t outcome : Nat) : Block :=
  (List.range 256).foldl (fun b k =>
    if b.calNamed k f t then
      let b := b.opres k f (setBit (b.get (128 * k + 8 * f) OPRES.VALUE) (outcome + t))
      b.npart k (b.calFieldsOver k)
    else b) b

/-- CAL_RUN is accepted: its tasks are due, marked full with FULL (R423). -/
def calRunCmd (b : Block) (q w : Nat) : Block :=
  match b.freeSlot with
  | none => b.takeSlot q []
  | some _ =>
    let b := b.takeSlot q []
    let named := calTasks.filter (fun x => bit w x.1 && bit w (16 + x.2))
    let b := named.foldl (fun (b : Block) x => b.calMakeDue x.1 x.2) b
    let ids := named.map (fun x => 8 * x.1 + x.2)
    ({ b with cal := { b.cal with
      forced := b.cal.forced ++ ids.filter (fun i => !b.cal.forced.contains i)
      full := if bit w 63 then b.cal.full ++ ids.filter (fun i => !b.cal.full.contains i) else b.cal.full } }).calSync

/-- Every named task has run, failed or been deferred: the operation ends (R423). -/
def calRunDone (b : Block) (k : Nat) : Block :=
  if b.slotRuns k 0x39 && (List.range 16).all (fun f => !bit (b.slotWord k 1) f || b.calFieldOver k f) then
    (b.npart k (b.calFieldsOver k)).slotEnd k (if b.flag 0 CAL_STAT.REF_MISSING then 0x02 else 0)
  else b

/-! ### The engine (R416, R421, R422) -/

/-- The hasps of task `t` of field `f` (R416, R418): in a substituted field the hinge bus is used under the repair manager's hasp. -/
def calHasps (b : Block) (f t : Nat) : List Nat :=
  let js := if t = 0 ∨ t = 3 then [3] else if t = 2 ∨ t = 4 then [0, 3] else if t = 5 then [0] else if t = 6 then [0, 2] else []
  (js.filter (fun j => !(j == 0 && b.flag (8 * f) RM_CHMAP.SUB))).map (fun j => 16 * f + j)

/-- Why task `t` of field `f` cannot start (R422): 0 nothing, 1 a hasp with its owner, 2 a cold reference, 3 a regulator enabled. -/
def calNeed (b : Block) (f t : Nat) : Nat × Nat :=
  match (b.calHasps f t).find? (fun i => b.haspOwner i != 0) with
  | some i => (1, b.haspOwner i)
  | none =>
    if 4 ≤ t ∧ b.cold then (2, 0)
    else if t = 3 ∧ (calRegNos f).any (fun r => b.flag (DPS r) DPS_CTRL.EN) then (3, 0)
    else (0, 0)

/-- The tasks that the engine considers (R419, R421, R422): due, of a field at an idle boundary, started by temperature only while AUTO is
1. -/
def calCandidates (b : Block) : List (Nat × Nat) :=
  calTasks.filter (fun x => [2, 5, 6].contains (b.calState x.1 x.2) && b.idle x.1 && !b.boundaryBusy x.1 &&
    (b.flag 0 CAL_CTRL.AUTO || b.cal.forced.contains (8 * x.1 + x.2)))

/-- Task 6 of a substituted field is skipped (R418). -/
def calSkips (b : Block) (x : Nat × Nat) : Bool := x.2 == 6 && b.flag (8 * x.1) RM_CHMAP.SUB

/-- What CAL_LAST shows of a task that ends or is deferred (R427). -/
def calLast (b : Block) (f t result dur : Nat) : Block :=
  let b := ((b.set 0 CAL_LAST.TASK t).set 0 CAL_LAST.FIELD f).set 0 CAL_LAST.RESULT result
  (b.set 0 CAL_LAST.DUR dur).set 0 CAL_LAST.TICK b.tick16

/-- Task 6 is skipped: it counts as run and is no longer due (R418). -/
def calSkip (b : Block) (x : Nat × Nat) : Block :=
  let o := calAt x.1 x.2
  let b := ((b.set o CAL_TASK.STATE (if b.get o CAL_TASK.TLAST = 0 then 0 else 1)).set o CAL_TASK.AGE 0).set o CAL_TASK.DEFER 0
  let b := (b.set o CAL_TASK.OWNER 0).setFlag (FLD x.1) DDS_STAT.SKEW_OLD true
  (((b.calLast x.1 x.2 3 0).calRan x.1 x.2).calTell x.1 x.2 0).calStartup

/-- A considered task whose needs are not met is deferred; one whose needs have come is due again (R422). -/
def calDefer (b : Block) (x : Nat × Nat) : Block :=
  let o := calAt x.1 x.2
  let n := b.calNeed x.1 x.2
  if n.1 = 0 then
    if b.calState x.1 x.2 = 5 then ((b.set o CAL_TASK.STATE 2).set o CAL_TASK.DEFER 0).set o CAL_TASK.OWNER 0 else b
  else
    let new := b.calState x.1 x.2 != 5
    let b := ((b.set o CAL_TASK.STATE 5).set o CAL_TASK.DEFER n.1).set o CAL_TASK.OWNER n.2
    let b := if new then (b.calLast x.1 x.2 2 0).arrive 547 else b
    b.calTell x.1 x.2 16

/-- The task that starts: the largest AGE, then the lower field, then the lower number (R421). -/
def calPick (b : Block) (l : List (Nat × Nat)) : Option (Nat × Nat) :=
  l.foldl (fun best x =>
    match best with
    | none => some x
    | some y => if b.get (calAt y.1 y.2) CAL_TASK.AGE < b.get (calAt x.1 x.2) CAL_TASK.AGE then some x else best) none

/-! ### Series disconnects (R134, R416, R417) -/

/-- The slices whose series disconnect a task of field `f` opens: those that serve a channel and are not bolted (R52, R416, R418). The task
measures them together (DESIGN CHOICE, log entry 82). -/
def calLands (b : Block) (f : Nat) : List Nat :=
  ((List.range 17).map (fun j => 17 * f + j)).filter (fun s => (b.slcRole s == 0 || b.slcRole s == 2) && !b.slcBolted s)

/-- Slice `s` must go through R71: its EN is 1 in force, or its PMU is in a forcing mode (R417). -/
def calPaths (b : Block) (s : Nat) : Bool := b.flag (SLC s) SLC_CTRL.EN || forcing (b.get (SLC s) PMU_CFG.MODE)

/-- Slice `s` is taken off its pad for a task (R417): at once, or at the end of its path to OFF. -/
def calOpen (b : Block) (s : Nat) : Block :=
  if b.calPaths s then ((b.updSlc s (fun x => { x with cal := 1 })).pathStart s).slcSync s
  else (b.updSlc s (fun x => { x with cal := 2 })).slcSync s

/-- Slice `s` returns to its pad (R417): its series disconnect closes, and a path leads from OFF to the configuration in force. -/
def calClose (b : Block) (s : Nat) : Block :=
  if (b.slc s).cal = 2 then
    if b.calPaths s then (((b.updSlc s (fun x => { x with cal := 3 })).pathStart s).slcSync s).rangeDrop s
    else
      let m := b.get (SLC s) PMU_CFG.MODE
      ((b.updSlc s (fun x => { x with cal := 0, swMode := m })).setFlag (SLC s) SLC_STAT.PMU_SW (m != 0)).slcSync s
  else b

/-- Some slice of field `f` stands at step `c` of R417. -/
def calAny (b : Block) (f c : Nat) : Bool := (List.range 17).any (fun j => (b.slc (17 * f + j)).cal == c)

/-- Task `t` of field `f` takes the slices off their pads (R416); a task that uses the hinge bus finds the pad switch of the channel and the
bus tie open (R134). -/
def calDetach (b : Block) (f t : Nat) : Block :=
  if t = 1 ∨ t = 2 ∨ t = 4 then
    let b : Block := if t = 1 then b else { b with buses := Sparse.set 0 f 0 b.buses }
    (b.calLands f).foldl calOpen b
  else b

/-- Task `t` of field `f` starts (R421, R422): its hasps are claimed as owner 0x61, the field is busy; a DIG run measures the references
first (R415). Task 6 claims the DDS output route, 16f + 2, as R416 and R422 say; R19 does not list the engine among the claimants of that
kind (DESIGN CHOICE, log entry 162: the claim is granted). -/
def calBegin (b : Block) (refOk : Bool) (f t : Nat) : Block :=
  let b := (b.calHasps f t).foldl (fun b i => (b.haspClaim 0x61 i 0).1) b
  let b := if t = 0 then b.setFlag 0 CAL_STAT.REF_MISSING (!refOk) else b
  let b := b.calDetach f t
  let run : CalRun := { field := f, task := t, full := b.cal.full.contains (8 * f + t), temp := b.get (8 * f) CAL_FTEMP.NOW, since := b.time.now }
  let b := ({ b with cal := { b.cal with run := some run } }).workStart (some f) 9 (8 * f + t)
  let b := ((b.set 0 CAL_STAT.TASK t).set 0 CAL_STAT.FIELD f).setFlag 0 CAL_STAT.BUSY true
  ((b.set (calAt f t) CAL_TASK.STATE 3).set (calAt f t) CAL_TASK.DEFER 0).set (calAt f t) CAL_TASK.OWNER 0

/-- CAL_TASK_START (R421, R422): at a tick boundary, with the engine free, tasks that must be skipped or deferred are, and the next one
starts. -/
def calStart (b : Block) (refOk : Bool) : Block :=
  if b.flag 0 HQ_STAT.READY && b.atBoundary && b.cal.run.isNone then
    let l := b.calCandidates
    let b := (l.filter b.calSkips).foldl calSkip b
    let l := l.filter (fun x => !b.calSkips x)
    let b := l.foldl calDefer b
    match b.calPick (l.filter (fun x => b.calState x.1 x.2 != 5)) with
    | none => b.calSync
    | some x => (b.calBegin refOk x.1 x.2).calSync
  else b

/-- The constants come into force and the task ends (R421): the hasps are released and a log record goes to flash (R431). -/
def calFinish (b : Block) (r : CalRun) (m : CalMeas) : Block :=
  let fail := b.calFailed r.field r.task m
  let b := { b with cal := { b.cal with run := none } }
  let b := if r.task ≤ 4 then b.updRb r.field (fun x => { x with used := b.time.now }) else b
  let b := (b.workEnd 9 (8 * r.field + r.task)).setFlag 0 CAL_STAT.BUSY false
  let b := [0, 2, 3].foldl (fun b j => if b.haspOwner (16 * r.field + j) = 0x61 then b.haspFree (16 * r.field + j) else b) b
  let b := b.calLast r.field r.task (b01 fail) ((b.time.now - r.since) / 100)
  let b := b.calResult r.field r.task r.temp m
  (b.calTell r.field r.task (if fail then 8 else 0)).flashAsk 6 0

/-- CAL_TASK_END (R417, R421): at the first boundary after the measurement. The slices off their pads return first, and both paths count
towards the task: while one still runs, the task goes on, and a later CAL_TASK_END ends it (DESIGN CHOICE, log entry 82). -/
def calEnd (b : Block) (m : CalMeas) : Block :=
  match b.cal.run with
  | some r =>
    if b.atBoundary ∧ r.since < b.time.now ∧ !b.calAny r.field 1 then
      let b := ((List.range 17).map (fun j => 17 * r.field + j)).foldl calClose b
      if b.calAny r.field 3 then b else b.calFinish r m
    else b
  | none => b

end Block

/-! ### The commands -/

/-- TEMP_SAMPLE (R419). -/
def execTempSample (f : Option (Fin 16)) (t : Int) (st : State) : Host.Outcome State Fault Refusal :=
  .next (st.on (fun b => b.tempSample (f.map (fun x => x.val)) t))
/-- CAL_TASK_START (R421). -/
def execCalTaskStart (refOk : Bool) (st : State) : Host.Outcome State Fault Refusal := .next (st.on (fun b => b.calStart refOk))
/-- CAL_TASK_END (R421). -/
def execCalTaskEnd (m : CalMeas) (st : State) : Host.Outcome State Fault Refusal := .next (st.on (fun b => b.calEnd m))
/-- CAL_RUN (R423). -/
def execCalRun (q : Fin 64) (st : State) : Host.Outcome State Fault Refusal :=
  .next (st.on (fun b => match b.cmdOf q 0x39 with
    | some ws => b.calRunCmd q (ws.getD 1 0)
    | none => b))
/-- CAL_RUN_DONE (R423). -/
def execCalRunDone (k : Fin 256) (st : State) : Host.Outcome State Fault Refusal := .next (st.on (fun b => b.calRunDone k))

end Sys2Proof.Machine
end

