-- ==== Sys2Proof/Machine/Lines.lean ====
section
/-!
DEFINITION. The trigger lines (ch. 15, R316, R317) and what a Sower or DDS marker does at the lines, the capture engine and
the DDS source of its field (R223, R254, R268, R252). LEVEL and pulses are those of the commanded instants; the edges at the output
lands follow 20 ns and DLY later (R310).
-/
namespace Sys2Proof.Machine
namespace Block

/-- TRIG_OUT_n driven: 1 low, 2 high, 3 a pulse from the absolute time `t`, in 0.5 ps units. During a pulse the command waits
for its end (R316). A bolted module keeps its lines low (R399). -/
def trgDrive (b : Block) (n act t : Nat) : Block :=
  if b.flt.bolts.any (fun r => r.scope == 3) then b
  else if b.sync.pulses.any (fun p => p.1 == n) then { b with sync := { b.sync with waits := b.sync.waits ++ [(n, act)] } }
  else if act = 1 then (b.set (8 * n) TRG_OUT_CFG.LEVEL 0).outEdge (1 + n) t false
  else if act = 2 then (b.set (8 * n) TRG_OUT_CFG.LEVEL 1).outEdge (1 + n) t true
  else if act = 3 then
    let e := t + b.get (8 * n) TRG_OUT_CFG.WIDTH * 20000
    let b := { b with sync := { b.sync with pulses := b.sync.pulses ++ [(n, e)] } }
    ((b.set (8 * n) TRG_OUT_CFG.LEVEL 1).outEdge (1 + n) t true).outEdge (1 + n) e false
  else b

/-- A command for TRIG_OUT_n; it is ignored while the line follows a marker (R316). -/
def trgCommand (b : Block) (n act : Nat) : Block :=
  if b.get (8 * n) TRG_OUT_CFG.SRC = 0 then b.trgDrive n act (b.time.now * 20000) else b

/-- Marker `m` of field `f`, of the Sower (`kind` 1) or the DDS source (`kind` 2), at time `t`: a pulse on every line that
follows it (R316). -/
def trgMarker (b : Block) (kind f m t : Nat) : Block :=
  (List.range 8).foldl (fun b n =>
    if b.get (8 * n) TRG_OUT_CFG.SRC = kind ∧ b.get (8 * n) TRG_OUT_CFG.FIELD = f ∧ b.get (8 * n) TRG_OUT_CFG.MBIT = m then
      b.trgDrive n 3 t else b) b

/-- A marker pulse of field `f` as the trigger of its capture engine (R268). -/
def capMarker (b : Block) (tsrc f m t : Nat) : Block :=
  if b.get (FLD f) CAP_TRG.TSRC = tsrc ∧ b.get (FLD f) CAP_TRG.SEL = m then b.capTrig f t false else b

/-- Sower marker `m` of a vector of field `f` that starts at time `t` (R223, R252): counted, signalled, and carried to the
capture engine, the lines, and the DDS source, whose step applies 48 ns later. -/
def sowerMarker (b : Block) (f m t : Nat) : Block :=
  let F := if m = 0 then SOW_MKCNT.MK0 else if m = 1 then SOW_MKCNT.MK1 else if m = 2 then SOW_MKCNT.MK2 else SOW_MKCNT.MK3
  let b := b.count (FLD f) F 1
  let b := (b.capMarker 1 f m t).trgMarker 1 f m t
  let b := if b.get (FLD f) DDS_CTRL.STEP_SRC = 1 ∧ b.get (FLD f) DDS_CTRL.MKSEL = m ∧ b.get (FLD f) DDS_STAT.STATE ≠ 0 then
      b.updDds f (fun d => { d with steps := d.steps ++ [(t + 96000 + 19999) / 20000] }) else b
  b.arriveIf (bit (b.get (FLD f) SOW_CTRL.MK_SIG) m) (272 + 8 * f)

/-- DDS marker `m` of field `f` at time `t` (R254, R268, R316): a pulse of MKW samples of 1 ns. -/
def ddsMarker (b : Block) (f m t : Nat) : Block :=
  let b := b.updDds f (fun d => { d with
    marks := Sparse.set 0 m (Sparse.get 0 m d.marks + 1) d.marks, markEnd := Sparse.set 0 m (t + d.mkw * 2000) d.markEnd })
  (b.capMarker 2 f m t).trgMarker 2 f m t

/-- The host may write TRG_OUT_CFG[n] (R316). -/
def trgFree (b : Block) (n : Nat) : Bool := !b.seqHeld (256 + n)

/-- A host command for TRIG_OUT_n (R316): it waits for the first tick boundary at least 1 µs later. -/
def trgHost (b : Block) (n c : Nat) : Block :=
  if c = 0 then b else { b with sync := { b.sync with cmds := b.sync.cmds ++ [(n, c, b.time.now)] } }

/-- At a tick boundary the host commands act whose microsecond has passed (R316). -/
def trgTick (b : Block) : Block :=
  let due := b.sync.cmds.filter (fun c => b.ripe c.2.2)
  let b := { b with sync := { b.sync with cmds := b.sync.cmds.filter (fun c => !b.ripe c.2.2) } }
  due.foldl (fun b c => b.trgCommand c.1 c.2.1) b

/-- The pulse on TRIG_OUT_n ends (R316): the line goes low, and the commands that waited act until one of them starts a
pulse. -/
def trgPulseEnd (b : Block) (n : Nat) : Block :=
  if b.sync.pulses.any (fun p => p.1 == n && decide (p.2 < (b.time.now + 1) * 20000)) then
    let mine := b.sync.waits.filter (fun w => w.1 == n)
    let b := { b with sync := { b.sync with
      pulses := b.sync.pulses.filter (fun p => p.1 != n)
      waits := b.sync.waits.filter (fun w => w.1 != n) } }
    mine.foldl (fun b w => b.trgDrive n w.2 (b.time.now * 20000)) (b.set (8 * n) TRG_OUT_CFG.LEVEL 0)
  else b

/-- An edge that reached the land of TRIG_IN_n at the absolute time `a`, sent once its compensated instant a + DLY has come (R310): the
level follows it; an edge of the set polarity that is not too short counts, raises its source, and is at that instant a trigger of the
engines that watch the line (R317, R268). -/
def trgInEdge (b : Block) (n : Nat) (rising wide : Bool) (a : Nat) : Block :=
  let t := a + b.get (8 * (1 + n)) LINE_CAL.DLY
  if !wide ∨ (b.time.now + 1) * 20000 ≤ t then b
  else
    let b := b.setFlag (8 * n) TRG_IN_CFG.LEVEL rising
    if rising = b.flag (8 * n) TRG_IN_CFG.POL then b
    else
      let b := b.count (8 * n) TRG_IN_CFG.EDGES 1
      let b := (List.range 16).foldl (fun b f => b.capMarker 3 f n t) b
      b.arrive (562 + n)

end Block

/-- TRG_OUT_CMD (R316). -/
def execTrgOutCmd (n : Fin 8) (c : Fin 4) (st : State) : Host.Outcome State Fault Refusal :=
  .next (st.on (fun b => if b.trgFree n then b.trgHost n c else b.fault 404 0))
/-- TRIG_OUT_PULSE_END (R316). -/
def execTrigOutPulseEnd (n : Fin 8) (st : State) : Host.Outcome State Fault Refusal := .next (st.on (fun b => b.trgPulseEnd n))
/-- TRIG_IN_EDGE (R317). -/
def execTrigInEdge (n : Fin 8) (rising : Bool) (x : LineEdge) (st : State) : Host.Outcome State Fault Refusal :=
  .next (st.on (fun b => b.trgInEdge n rising x.wide x.at_))

end Sys2Proof.Machine
end

