-- ==== Sys2Proof/Machine/Pages.lean ====
section
/-!
DEFINITION. Logical pages, chains and the segment directory as shared operations (ch. 9, R211 to R218): what a page is, its
words, the states of a chain, and the requests that its users place at the ports of the HBM controller (R340).
-/
namespace Sys2Proof.Machine

/-- Word `w` of logical page `p` (R202). -/
def pageWord (m : List Host.Cell) (p w : Nat) : Nat := Memory.word m .pages (p * 4096 + w)

/-- A memory with word `w` of page `p` set. -/
def setPageWord (m : List Host.Cell) (p w v : Nat) : List Host.Cell := Memory.setWord m .pages (p * 4096 + w) v

/-- The bytes from `a` up to `e` of a memory zeroed (R217). -/
def zeroBytes (m : List Host.Cell) (a e : Nat) : List Host.Cell := m.filter (fun c => !(decide (a ≤ c.1) && decide (c.1 < e)))

/-- Page `p` zero-filled (R217). -/
def zeroPage (m : List Host.Cell) (p : Nat) : List Host.Cell := zeroBytes m (p * 32768) ((p + 1) * 32768)

namespace Block

/-- The state of page `p` (R211). -/
def pgState (b : Block) (p : Nat) : Nat := b.get (16 * p) DIR_ENT0.STATE
/-- The owner kind of page `p` (R224). -/
def pgOwner (b : Block) (p : Nat) : Nat := b.get (16 * p) DIR_ENT0.OWNER
/-- Page `p` is the first of its chain. -/
def pgHead (b : Block) (p : Nat) : Bool := b.flag (16 * p) DIR_ENT0.HEAD
/-- Page `p` is the last of its chain. -/
def pgLast (b : Block) (p : Nat) : Bool := b.flag (16 * p) DIR_ENT0.LAST
/-- Page `p` is protected (R217). -/
def pgProt (b : Block) (p : Nat) : Bool := b.flag (16 * p) DIR_ENT0.PROT
/-- The page after `p` in its chain. -/
def pgNext (b : Block) (p : Nat) : Nat := b.get (16 * p) DIR_ENT0.NEXT
/-- The field that owns the chain of `p`. -/
def pgUnit (b : Block) (p : Nat) : Nat := b.get (16 * p) DIR_ENT1.UNIT
/-- The pseudo-channel behind page `p` (R213). -/
def pgPc (b : Block) (p : Nat) : Nat := b.get (16 * p) DIR_ENT0.PC

/-- Page `p` set to a state. -/
def pgSet (b : Block) (st p : Nat) : Block := b.set (16 * p) DIR_ENT0.STATE st

/-- At most `n` pages of a chain from page `p`, in chain order. -/
def chainN (b : Block) : Nat → Nat → List Nat
  | 0, _ => []
  | n + 1, p => if b.pgLast p then [p] else p :: b.chainN n (b.pgNext p)

/-- The pages of the chain headed by `p`, in chain order (R202: at most 65,536). -/
def chain (b : Block) (p : Nat) : List Nat := b.chainN 65536 p

/-- Every page of the chain headed by `p` set to a state; a page with no frame behind it stays RETIRED (R211, R335). -/
def chainSet (b : Block) (st p : Nat) : Block := (b.chain p).foldl (fun b x => if b.pgState x = 4 then b else b.pgSet st x) b

/-- A directory read of page `p` with `err` replays, persistent at 4 (R218): the block after it, and whether the entry was
read. A persistent error marks the row until it is repaired. -/
def dirRead (b : Block) (p err : Nat) : Block × Bool :=
  if b.hbm.badRows.contains (p / 16) then (b, false)
  else if err = 4 then
    let b := b.count 0 DIR_STAT.REPLAYS 3
    (({ b with hbm := { b.hbm with badRows := b.hbm.badRows ++ [p / 16] } }).fault 394 0, false)
  else (b.count 0 DIR_STAT.REPLAYS err, true)

/-- The directory row of page `p` cannot be read (R218). -/
def rowBad (b : Block) (p : Nat) : Bool := b.hbm.badRows.contains (p / 16)

/-- Every directory row of the chain headed by `p` can be read. -/
def chainReadable (b : Block) (p : Nat) : Bool := (b.chain p).all (fun x => !b.hbm.badRows.contains (x / 16))

/-- DIR_LAST records an operation (R214, R216). -/
def dirLast (b : Block) (page requester code : Nat) : Block :=
  let b := (b.set 0 DIR_LAST.PAGE page).set 0 DIR_LAST.REQUESTER requester
  (b.set 0 DIR_LAST.CODE code).set 0 DIR_LAST.TICK b.tick16

/-- Head page of a playable pattern segment: READY or ACTIVE (R169). -/
def playable (b : Block) (p : Nat) : Bool :=
  decide (p < 1048576) && b.pgHead p && b.pgOwner p == 1 && (b.pgState p == 2 || b.pgState p == 3)

/-- A play of the segment headed by `p` is issued: PLAYS rises, and every page of the chain is ACTIVE (R211, R212). -/
def playIssue (b : Block) (p : Nat) : Block :=
  (b.chainSet 3 p).set (16 * p) DIR_ENT1.PLAYS (b.get (16 * p) DIR_ENT1.PLAYS + 1)

/-- A play of the segment headed by `p` is finished: when PLAYS returns to 0 the chain returns to READY (R212). -/
def playFinish (b : Block) (p : Nat) : Block :=
  let n := b.get (16 * p) DIR_ENT1.PLAYS - 1
  let b := b.set (16 * p) DIR_ENT1.PLAYS n
  if n = 0 then b.chainSet 2 p else b

/-- Some field holds a chain attached as its stamp or spill target whose head is `p` (R214, R233, R271). -/
def attached (b : Block) (p : Nat) : Bool :=
  (List.range 16).any (fun f =>
    (b.flag (FLD f) TIA_FCHAIN.EN && b.get (FLD f) TIA_FCHAIN.HEAD == p) ||
    (b.flag (FLD f) CAP_SPILL.EN && b.get (FLD f) CAP_SPILL.HEAD == p))

/-- The memory takes requests: it is trained and neither in Quiet nor in training (R14, R346, R350). -/
def hbmTakes (b : Block) : Bool := b.get 0 HBM_STAT.STATE == 1

/-- A request that finds the memory in Quiet starts the exit (R350). -/
def hbmKnock (b : Block) : Block :=
  if b.get 0 HBM_STAT.STATE = 4 then (b.set 0 HBM_STAT.STATE 5).set 0 HBM_STAT.TICK b.tick16 else b

/-- A request placed at a port of the HBM controller (R340); in Quiet it starts the exit (R350). -/
def hbmReq (b : Block) (port page unit : Nat) : Block :=
  let b : Block := { b with hbm := { b.hbm with reqs := b.hbm.reqs ++ [{ port := port, page := page, unit := unit, at_ := b.time.now }] } }
  b.hbmKnock

/-- A request of that port, page and field still waits. -/
def hbmWaits (b : Block) (port page unit : Nat) : Bool :=
  b.hbm.reqs.any (fun r => r.port == port && r.page == page && r.unit == unit)

/-- Page `p` may be read by a sequencer (R140): a page of a pattern segment that is READY or ACTIVE. -/
def pageReadable (b : Block) (p : Nat) : Bool :=
  decide (p < 1048576) && b.pgOwner p == 1 && (b.pgState p == 2 || b.pgState p == 3)

/-- The content of page `p` is awaited: damaged and not yet refetched, or being copied to a new frame (R337 to R339). -/
def pageHeld (b : Block) (p : Nat) : Bool := b.hbm.refetch.contains p || b.hbm.copying.any (fun c => c.1 == p)

/-! ### Segment operations (R214) -/

/-- The first `n` FREE pages found in `fuel` pages from page `p`, wrapping past the last page. -/
def freePages (b : Block) : Nat → Nat → Nat → List Nat
  | 0, _, _ => []
  | _, 0, _ => []
  | fuel + 1, n + 1, p =>
    if b.pgState p = 0 ∧ !b.hbm.badRows.contains (p / 16) then p :: b.freePages fuel n ((p + 1) % 1048576)
    else b.freePages fuel (n + 1) ((p + 1) % 1048576)

/-- One page of a new chain: its links, kind and unit. -/
def pgAlloc (head kind unit : Nat) (b : Block) : Nat × Option Nat → Block
  | (p, nxt) =>
    let b := ((b.pgSet 1 p).set (16 * p) DIR_ENT0.OWNER kind).setFlag (16 * p) DIR_ENT0.HEAD (p == head)
    let b := (b.setFlag (16 * p) DIR_ENT0.LAST nxt.isNone).set (16 * p) DIR_ENT0.NEXT (nxt.getD 0)
    let b := (b.set (16 * p) DIR_ENT1.UNIT unit).set (16 * p) DIR_ENT1.HEADPG head
    (b.set (16 * p) DIR_ENT1.PLAYS 0).setFlag (16 * p) DIR_ENT0.PROT false

/-- The FREE pages `ps` linked into a chain of a kind for a field; the unit is kept for capture, stamp and spill chains
(R224). -/
def chainAlloc (b : Block) (kind field : Nat) (ps : List Nat) : Block :=
  let unit := if kind = 2 ∨ kind = 3 ∨ kind = 4 then field else 0
  let links := ps.zip ((ps.drop 1).map some ++ [none])
  (links.foldl (fun b x => pgAlloc (ps.headD 0) kind unit b x) b).set 0 DIR_STAT.FREE (b.get 0 DIR_STAT.FREE - ps.length)

/-- One page of a chain becomes FREE. -/
def pgFree (b : Block) (p : Nat) : Block :=
  let b := ((b.pgSet 0 p).set (16 * p) DIR_ENT0.OWNER 0).setFlag (16 * p) DIR_ENT0.HEAD false
  let b := (b.setFlag (16 * p) DIR_ENT0.LAST false).set (16 * p) DIR_ENT0.NEXT 0
  let b := ((b.set (16 * p) DIR_ENT1.UNIT 0).set (16 * p) DIR_ENT1.HEADPG 0).set (16 * p) DIR_ENT1.PLAYS 0
  b.setFlag (16 * p) DIR_ENT0.PROT false

/-- The chain headed by `p` freed: its pages are FREE and counted, and no damage or refetch of theirs is remembered. -/
def chainFree (b : Block) (p : Nat) : Block :=
  let ps := b.chain p
  let live := ps.filter (fun x => b.pgState x != 4)
  let b := live.foldl pgFree b
  let b := { b with hbm := { b.hbm with
    damaged := b.hbm.damaged.filter (fun x => !ps.contains x)
    refetch := b.hbm.refetch.filter (fun x => !ps.contains x)
    refq := b.hbm.refq.filter (fun x => !ps.contains x)
    refWait := b.hbm.refWait.filter (fun x => !ps.contains x) } }
  b.set 0 DIR_STAT.FREE (b.get 0 DIR_STAT.FREE + live.length)

end Block

/-- The header of a pattern segment holds together (R202): FORMAT, HWORDS, the zero words and bits, and VECTORS equal to the
sum of the counts. -/
def headerOk (m : List Host.Cell) (p : Nat) : Bool :=
  let w := pageWord m p
  let counts := (List.range 65).map (fun i => w (8 + i))
  bits (w 0) 48 16 == 0x5EED && bits (w 0) 32 16 == 80 && decide (1 ≤ w 0 % 2 ^ 32 ∧ w 0 % 2 ^ 32 ≤ 65536) &&
  bits (w 1) 48 16 == 0 && bits (w 2) 32 32 == 0 && [3, 4, 5, 6, 7, 73, 74, 75, 76, 77, 78, 79].all (fun i => w i == 0) &&
  counts.all (fun c => bits c 48 16 == 0) && counts.foldl (· + ·) 0 == w 1 % 2 ^ 48

/-- PAGES of the header of the segment headed by `p` (R202). -/
def headerPages (m : List Host.Cell) (p : Nat) : Nat := pageWord m p 0 % 2 ^ 32

end Sys2Proof.Machine
end

