-- ==== Sys2Proof/Machine/Capture.lean ====
section
/-!
DEFINITION. The capture engines (ch. 12): arming, entries, averages, triggers, records, mask tests, the spill chain and the
fail log. Times are absolute, in 0.5 ps units.
-/
namespace Sys2Proof.Machine

/-- A code as R265 sums it: voltage and digitiser codes from mid-scale, current codes signed. -/
def capValue (current : Bool) (code : Nat) : Int := if current then toSigned 18 code else Int.ofNat (code % 2 ^ 18) - 131072

/-- A value held within 32 bits of two's complement, and whether it had to be (R265). -/
def satSum (v : Int) : Int × Bool :=
  if 2 ^ 31 ≤ v then (2 ^ 31 - 1, true) else if v < -2 ^ 31 then (-2 ^ 31, true) else (v, false)

/-- `c` crosses `level` upwards, or downwards with SLOPE 1, seen from the previous value `p` (R268). -/
def crosses (falling : Bool) (p c level : Int) : Bool :=
  if falling then decide (level < p ∧ c ≤ level) else decide (p < level ∧ level ≤ c)

namespace Block

/-- TICKNO of the tick that holds absolute time `t` (R39). -/
def tickAt (b : Block) (t : Nat) : Nat :=
  let s := t / 20000
  if b.time.lastB ≤ s then b.tick + (s - b.time.lastB) / b.k else b.tick - ceilDiv (b.time.lastB - s) b.k

/-! ### Arming (R266) -/

/-- The result of an ARM by owner code `o`: 0 OK, 1 LENGTH, 2 BUSY. With TSRC 3 the claimant must hold the line's hasp too
(R268). -/
def capArmResult (b : Block) (f o : Nat) : Nat :=
  let st := b.get (FLD f) CAP_STAT.STATE
  let pre := b.get (FLD f) CAP_LEN.PRE
  let post := b.get (FLD f) CAP_LEN.POST
  let line := 264 + b.get (FLD f) CAP_TRG.SEL
  if (st ≠ 0 ∧ st ≠ 5) ∨ (b.get (FLD f) CAP_TRG.TSRC = 3 ∧ (o = 0 ∨ 272 ≤ line ∨ b.haspOwner line ≠ o)) then 2
  else if b.flag (FLD f) CAP_CFG.STREAM then (if 65536 < pre ∨ !b.flag (FLD f) CAP_SPILL.EN then 1 else 0)
  else if post = 0 ∨ 131072 < pre + post + 1 then 1 else 0

/-- The page of the spill chain that a streaming record begins in: the first one still FILLING (DESIGN CHOICE, log entry
10). -/
def spillStart (b : Block) (f : Nat) : Option Nat :=
  if b.flag (FLD f) CAP_SPILL.EN then (b.chain (b.get (FLD f) CAP_SPILL.HEAD)).find? (fun p => b.pgState p == 1) else none

/-- An ARM at its boundary (R266): ARMRES, and where it is accepted a fresh record in PRE; an empty pre-trigger part is full at
once. -/
def capArm (b : Block) (f o : Nat) : Block :=
  let r := b.capArmResult f o
  let b := b.set (FLD f) CAP_STAT.ARMRES r
  if r ≠ 0 then b
  else
    let empty := b.get (FLD f) CAP_LEN.PRE == 0
    let b := ((b.set (FLD f) CAP_STAT.KEPT 0).set (FLD f) CAP_STAT.CAUSE 0).set (FLD f) CAP_STAT.SLOT 0
    let at_ := b.time.lastB * 20000
    (b.set (FLD f) CAP_STAT.STATE (if empty then 2 else 1)).updCap f (fun c => { c with
      entry := 0, recStart := 0, seq := 0, slot := 0, trigEntry := 0, trigTick := 0, forced := false, viol := false, first := true
      trigs := c.trigs.filter (fun t => decide (at_ ≤ t.1)), fullTick := if empty then some b.time.ticks else none
      avg := [], prev := [], feed := [], waiting := [], page := b.spillStart f, word := 0, epoch := none, syncs := (b.chainSt f).syncs, owner := o
      armAt := at_, ending := 0 })

/-! ### Entries -/

/-- An entry is offered to the engine of field `f`: those from the arm instant on wait to be taken (R264). -/
def capOffer (b : Block) (f word time fails : Nat) : Block :=
  if b.capActive f ∧ (b.cap f).ending = 0 ∧ (b.cap f).armAt ≤ time then
    b.updCap f (fun c => { c with feed := c.feed ++ [(word, time, fails)] })
  else b

/-- The pre-trigger words of the ring in time order (R271). -/
def ringWords (b : Block) (f : Nat) : List Nat :=
  let pre := b.get (FLD f) CAP_LEN.PRE
  let c := b.cap f
  (List.range pre).map (fun i => Sparse.get 0 ((c.entry - pre + i) % pre) c.sram)

/-- The triggers that name the next entry, at time `time`, are decided (R268 to R270): accepted into POST, or ignored as early
or during re-arm; `hit` says that the entry itself is a trigger. -/
def capDecide (b : Block) (f time : Nat) (hit : Bool) : Block :=
  let c := b.cap f
  let due := c.trigs.filter (fun t => decide (t.1 ≤ time))
  if due.isEmpty && !hit then b
  else
    let b := b.updCap f (fun c => { c with trigs := c.trigs.filter (fun t => !decide (t.1 ≤ time)) })
    let st := b.get (FLD f) CAP_STAT.STATE
    if (st = 1 ∨ st = 2) ∧ b.get (FLD f) CAP_LEN.PRE ≤ c.entry - c.recStart then
      let tk := b.tickAt time
      let ring := if b.flag (FLD f) CAP_CFG.STREAM then b.ringWords f else []
      let b := (b.set (FLD f) CAP_STAT.STATE 3).updCap f (fun c => { c with
        trigEntry := c.entry, trigTick := tk, forced := !hit && due.all (fun t => t.2), fullTick := none
        waiting := c.waiting ++ ring })
      ((b.set (FLD f) CAP_LAST.ENTRY c.entry).set (FLD f) CAP_LAST.TICK (tk % 65536)).arrive (272 + 8 * f + 4)
    else if st = 1 then b.count (FLD f) CAP_EVCNT.EARLY_TRIG 1
    else if st = 4 then b.count (FLD f) CAP_EVCNT.REARM_MISS 1
    else b

/-- A streaming record is over (R271, R272): the page in progress becomes READY, the engine enters DONE, and a complete,
truncated or late record raises the capture-done source. -/
def streamEnd (b : Block) (f cause : Nat) : Block :=
  let c := b.cap f
  let b := match c.page with
    | some p => if c.word = 0 then b else b.pgSet 2 p
    | none => b
  let b := (b.set (FLD f) CAP_STAT.CAUSE cause).set (FLD f) CAP_STAT.STATE 5
  let b := b.updCap f (fun c => { c with trigs := [], ending := 0, page := none, word := 0 })
  let b := if cause = 1 then b.count (FLD f) CAP_EVCNT.RECORDS 1 else b
  b.arriveIf (cause == 1 || cause == 3 || cause == 4) (272 + 8 * f + 3)

/-- The record of field `f` ends for `cause` (1 complete, 5 violation; R267, R270, R274): in buffer mode its header is written
and the engine re-arms or is done; in streaming mode its words are written first. -/
def capRecordEnd (b : Block) (f cause : Nat) : Block :=
  if b.flag (FLD f) CAP_CFG.STREAM then
    if (b.cap f).waiting.isEmpty then b.streamEnd f cause else b.updCap f (fun c => { c with ending := cause })
  else
    let b := b.capHeader f (cause != 1)
    let b := b.set (FLD f) CAP_STAT.CAUSE cause
    let b := if cause = 1 then
        ((b.count (FLD f) CAP_EVCNT.RECORDS 1).set (FLD f) CAP_STAT.SLOT (b.cap f).slot).arrive (272 + 8 * f + 3)
      else b
    if cause ≠ 1 ∨ b.get (FLD f) CAP_CFG.MODE = 0 then
      (b.set (FLD f) CAP_STAT.STATE 5).updCap f (fun c => { c with trigs := [] })
    else
      let empty := b.get (FLD f) CAP_LEN.PRE == 0
      (b.set (FLD f) CAP_STAT.STATE (if empty then 2 else 4)).updCap f (fun c => { c with
        recStart := c.entry, slot := (c.slot + 1) % (131072 / b.slotLen f), seq := c.seq + 1, first := false, viol := false
        forced := false, trigTick := 0, fullTick := if empty then some b.time.ticks else none })

/-- The word of the entry at hand goes to its place (R267, R271): the pre-trigger ring, the post words, or the words that wait
for the spill chain; where these would overwrite words not yet written, capture stops with SPILL_LATE (R272). -/
def capStore (b : Block) (f word : Nat) : Block :=
  let c := b.cap f
  let pre := b.get (FLD f) CAP_LEN.PRE
  let stream := b.flag (FLD f) CAP_CFG.STREAM
  if b.get (FLD f) CAP_STAT.STATE = 3 then
    if stream then
      if 131072 ≤ c.waiting.length then b.updCap f (fun c => { c with ending := 4 })
      else b.updCap f (fun c => { c with waiting := c.waiting ++ [word] })
    else
      let off := c.entry - c.trigEntry
      (b.sramSet f (c.slot * b.slotLen f + 1 + pre + off) word).set (FLD f) CAP_STAT.KEPT (pre + off + 1)
  else if pre = 0 then b
  else if stream then b.sramSet f (c.entry % pre) word
  else
    (b.sramSet f (c.slot * b.slotLen f + 1 + c.entry % pre) word).set (FLD f) CAP_STAT.KEPT (min pre (c.entry - c.recStart + 1))

/-- The lowest valid mask segment that a post-trigger entry breaks (R274). -/
def maskBroken (b : Block) (f off k code : Nat) (current : Bool) : Option Nat :=
  (List.range 64).find? (fun i =>
    let A := FLD f + 16 * i
    b.flag A CAP_MSKA.VALID && decide (b.get A CAP_MSKA.START ≤ off ∧ off ≤ b.get A CAP_MSKA.END) &&
    (b.get (FLD f) CAP_CFG.SRC == 1 || bit (b.get A CAP_MSKB.CHMASK) k) &&
    decide (capValue current code < capValue current (b.get A CAP_MSKB.LO) ∨
      capValue current (b.get A CAP_MSKB.HI) < capValue current code))

/-- The mask test of the entry at hand (R274): the first violation of a record is marked, recorded and raised. -/
def capMask (b : Block) (f word : Nat) : Block :=
  let c := b.cap f
  if !b.flag (FLD f) CAP_CFG.MASK_EN ∨ b.get (FLD f) CAP_STAT.STATE ≠ 3 ∨ c.viol then b
  else
    let pmu := b.get (FLD f) CAP_CFG.SRC == 2
    let k := if pmu then bits word 18 4 else 0
    let off := c.entry - c.trigEntry
    match b.maskBroken f off k (bits word 0 18) (pmu && bit word 34) with
    | none => b
    | some i =>
      let b := ((b.set (FLD f) CAP_VIOL.OFS off).set (FLD f) CAP_VIOL.SEG i).set (FLD f) CAP_VIOL.K k
      ((b.set (FLD f) CAP_VIOL.CODE (bits word 0 18)).updCap f (fun c => { c with viol := true })).arrive (272 + 8 * f + 5)

/-- An entry is written (R264, R267 to R270, R274): its triggers decided, its word stored and tested, and the record moved on. -/
def capPush (b : Block) (f word time : Nat) (hit : Bool) : Block :=
  let b := b.capDecide f time hit
  let was := (b.cap f).viol
  let b := (b.capStore f word).capMask f word
  if (b.cap f).ending = 4 then (if (b.cap f).waiting.isEmpty then b.streamEnd f 4 else b)
  else
    let off := (b.cap f).entry - (b.cap f).trigEntry
    let b := b.updCap f (fun c => { c with entry := c.entry + 1 })
    let st := b.get (FLD f) CAP_STAT.STATE
    if st = 3 then
      let post := b.get (FLD f) CAP_LEN.POST
      if !was && (b.cap f).viol && b.flag (FLD f) CAP_CFG.STOPV then b.capRecordEnd f 5
      else if post ≠ 0 ∧ off + 1 = post then b.capRecordEnd f 1
      else b
    else if st ≠ 2 ∧ b.get (FLD f) CAP_LEN.PRE ≤ (b.cap f).entry - (b.cap f).recStart then
      (b.set (FLD f) CAP_STAT.STATE 2).updCap f (fun c => { c with fullTick := some b.time.ticks })
    else b

/-- The averaged word of an accumulator (R265). -/
def avgWord (k : Nat) (a : AvgSt) : Nat :=
  a.tick % 65536 * 2 ^ 48 + b01 a.sat * 2 ^ 47 + b01 a.flag * 2 ^ 46 + k * 2 ^ 42 + ofSigned 32 a.sum

/-- An entry summed into the accumulator of channel `k` (R265); the averaged word counts as the entry, with the time of the first
one summed. -/
def capAverage (b : Block) (f k word time : Nat) (v : Int) (flagged hit : Bool) : Block :=
  let a := Sparse.get {} k (b.cap f).avg
  let s := satSum (a.sum + v)
  let a' : AvgSt := { n := a.n + 1, sum := s.1, sat := a.sat || s.2, flag := a.flag || flagged
                      tick := if a.n = 0 then bits word 48 16 else a.tick, time := if a.n = 0 then time else a.time
                      hit := a.hit || hit }
  if b.get (FLD f) CAP_CFG.AVG < a'.n then
    (b.updCap f (fun c => { c with avg := Sparse.set {} k {} c.avg })).capPush f (avgWord k a') a'.time a'.hit
  else b.updCap f (fun c => { c with avg := Sparse.set {} k a' c.avg })

/-- An entry of the selected source, as it comes (R264, R265, R268). -/
def capRaw (b : Block) (f word time fails : Nat) : Block :=
  let src := b.get (FLD f) CAP_CFG.SRC
  let tsrc := b.get (FLD f) CAP_TRG.TSRC
  if src = 1 ∨ src = 2 then
    let k := if src = 2 then bits word 18 4 else 0
    let current := src == 2 && bit word 34
    let v := capValue current (bits word 0 18)
    let prev := Sparse.get 0 k (b.cap f).prev
    let hit := tsrc == 6 && (src == 1 || k == b.get (FLD f) CAP_TRG.SEL) && prev != 0 &&
      crosses (b.flag (FLD f) CAP_TRG.SLOPE) (capValue current (prev - 1)) v (capValue current (b.get (FLD f) CAP_TRG.LEVEL))
    let b := b.updCap f (fun c => { c with prev := Sparse.set 0 k (bits word 0 18 + 1) c.prev })
    if b.get (FLD f) CAP_CFG.AVG = 0 then b.capPush f word time hit
    else
      let flagged := if src = 1 then bit word 18 else bits word 38 5 != 0 || bit word 44
      b.capAverage f k word time v flagged hit
  else b.capPush f word time (tsrc == 5 && src == 0 && fails != 0)

/-- A digitiser interval that the end of an acquisition leaves short is written with the entries it holds (R265). -/
def capFlushAvg (b : Block) (f : Nat) : Block :=
  let a := Sparse.get {} 0 (b.cap f).avg
  if b.get (FLD f) CAP_CFG.SRC = 1 ∧ b.capActive f ∧ a.n ≠ 0 then
    (b.updCap f (fun c => { c with avg := Sparse.set {} 0 {} c.avg })).capPush f (avgWord 0 a) a.time a.hit
  else b

/-! ### Digitiser samples as entries -/

/-- A digitiser code with its range-limit flag, in the mode set (R258). -/
def digCode (b : Block) (f code : Nat) : Nat × Bool :=
  if b.flag (FLD f) DIG_CFG.MODE then
    let c := code % 2 ^ 18 / 16 * 16
    (c, c == 0 || c == 2 ^ 18 - 16)
  else (code % 2 ^ 18, code % 2 ^ 18 == 0 || code % 2 ^ 18 == 2 ^ 18 - 1)

/-- The next sample of the acquisition from the arm instant on, and its instant, if it has been taken (R259, R264). -/
def digNext (b : Block) (f : Nat) : Option (Nat × Nat) :=
  match (b.dig f).t0 with
  | some t0 =>
    let T := b.digPeriod f
    let i := max (b.dig f).taken (ceilDiv ((b.cap f).armAt - t0 * 20000) T)
    let t := t0 * 20000 + i * T
    if b.get (FLD f) DIG_STAT.STATE = 2 ∧ i < (b.dig f).nsamp ∧ t < (b.time.now + 1) * 20000 then some (i, t) else none
  | none => none

/-- The next entry of the engine of field `f` is taken (R264): a digitiser sample with its code, else the oldest one offered. -/
def capTake (b : Block) (f code : Nat) : Block :=
  if !b.capActive f ∨ (b.cap f).ending ≠ 0 then b
  else if b.get (FLD f) CAP_CFG.SRC = 1 then
    match b.digNext f with
    | some (i, t) =>
      let c := b.digCode f code
      (b.updDig f (fun d => { d with taken := i + 1, seen := Sparse.set 0 i (c.1 + 1) d.seen })).capRaw f
        (b.tickAt t % 65536 * 2 ^ 48 + b01 c.2 * 2 ^ 18 + c.1) t 0
    | none => b
  else
    match (b.cap f).feed with
    | [] => b
    | e :: rest => (b.updCap f (fun c => { c with feed := rest })).capRaw f e.1 e.2.1 e.2.2

/-- Time and channel of the datum that comes next, where it is known. -/
def capNextRaw (b : Block) (f : Nat) : Option (Nat × Nat) :=
  if b.get (FLD f) CAP_CFG.SRC = 1 then (b.digNext f).map (fun x => (x.2, 0))
  else ((b.cap f).feed.head?).map (fun e => (e.2.1, if b.get (FLD f) CAP_CFG.SRC = 2 then bits e.1 18 4 else 0))

/-- The time of the entry that comes next, where it is known (R264); of averaged data the entry is the word that the next datum
completes, with the time of the first one summed (R265). -/
def capNextTime (b : Block) (f : Nat) : Option Nat :=
  match b.capNextRaw f with
  | none => none
  | some (t, k) =>
    let avg := b.get (FLD f) CAP_CFG.AVG
    if avg = 0 ∨ (b.get (FLD f) CAP_CFG.SRC ≠ 1 ∧ b.get (FLD f) CAP_CFG.SRC ≠ 2) then some t
    else
      let a : AvgSt := Sparse.get {} k (b.cap f).avg
      if a.n = avg then some a.time else none

/-! ### Requests (R266, R268, R273) -/

/-- The requests of code `code` whose boundary is this one: program requests for B(n) in order, then host requests (R268). Their
owner codes are listed. -/
def capDue (b : Block) (f code : Nat) : List Nat :=
  if b.atBoundary then
    (((b.cap f).prog.filter (fun r => r.1 == code && decide (r.2.1 ≤ b.time.ticks))).map (fun r => r.2.2)) ++
    (((b.cap f).reqs.filter (fun r => r.1 == code && b.ripe r.2.1)).map (fun r => r.2.2))
  else []

/-- Those requests are removed. -/
def capDone (b : Block) (f code : Nat) : Block :=
  b.updCap f (fun c => { c with
    prog := c.prog.filter (fun r => !(r.1 == code && decide (r.2.1 ≤ b.time.ticks)))
    reqs := c.reqs.filter (fun r => !(r.1 == code && b.ripe r.2.1)) })

/-- At a tick boundary the trigger commands act (R268), and the conversions of the tick that ended are offered to an engine that
captures them, in ascending channel order (R264). `words` answers the conversion of a slice. -/
def capTick (b : Block) (f : Nat) (words : Nat → Option Nat) : Block :=
  let trigs := b.capDue f 2
  let b := trigs.foldl (fun b _ => b.capTrig f (b.time.lastB * 20000) false) (b.capDone f 2)
  if b.get (FLD f) CAP_CFG.SRC = 2 ∧ b.capActive f then
    (List.range 16).foldl (fun b k =>
      if bit (b.get (FLD f) CAP_CFG.CHMASK) k then
        let s := b.chSlice f k
        match words s with
        | some w => b.capOffer f (w + k * 2 ^ 18) ((b.time.lastB - b.k + min (b.get (SLC s) PMU_CFG.OFS) (b.k - 50)) * 20000) 0
        | none => b
      else b) b
  else b

/-- A host write of CAP_CMD.ARM, TRIG or STOP (R276): refused while a sequencer holds the capture SRAM, and an ARM of a streaming record
while one holds the spill page chain that it needs (R19, R271). -/
def capHost (b : Block) (f code : Nat) : Block :=
  if b.seqHeld (16 * f + 4) || (code == 1 && b.flag (FLD f) CAP_CFG.STREAM && b.seqHeld (16 * f + 6)) then b.fault (272 + f) 0
  else b.updCap f (fun c => { c with reqs := c.reqs ++ [(code, b.time.now, b.haspOwner (16 * f + 4))] })

/-- The fail log cleared (R275). -/
def failClear (b : Block) (f : Nat) : Block :=
  let b := (List.range 16).foldl (fun b k => b.set (FLD f + 8 * k) CAP_FCNT.COUNT 0) b
  (b.set (FLD f) CAP_FF.FAIL 0).set (FLD f) CAP_FF.VNUM (2 ^ 48 - 1)

/-- Vector `num` of the step of field `f` is judged with the fails `fails` that the log counts (R275). -/
def failLog (b : Block) (f num fails : Nat) : Block :=
  if fails = 0 then b
  else
    let b := (List.range 16).foldl (fun b k => if bit fails k then b.count (FLD f + 8 * k) CAP_FCNT.COUNT 1 else b) b
    if b.get (FLD f) CAP_FF.VNUM = 2 ^ 48 - 1 then (b.set (FLD f) CAP_FF.FAIL fails).set (FLD f) CAP_FF.VNUM num else b

/-- ARM at its boundary (R266). -/
def capArmApply (b : Block) (f : Nat) : Block :=
  match b.capDue f 1 with
  | [] => b
  | os => os.foldl (fun b o => b.capArm f o) (b.capDone f 1)

/-- A stop at its boundary (R273). -/
def capStopApply (b : Block) (f : Nat) : Block :=
  match b.capDue f 3 with
  | [] => b
  | _ => (b.capDone f 3).capEnd f 2

/-- In auto mode a trigger is forced TOUT ticks after the pre-trigger part became full (R270). -/
def capTimeout (b : Block) (f : Nat) : Block :=
  match (b.cap f).fullTick with
  | some p =>
    if b.get (FLD f) CAP_CFG.MODE = 2 ∧ b.get (FLD f) CAP_STAT.STATE = 2 ∧ b.atBoundary ∧
        p + b.get (FLD f) CAP_TRG.TOUT ≤ b.time.ticks then
      ((b.updCap f (fun c => { c with fullTick := none })).capTrig f (b.time.lastB * 20000) true).count (FLD f) CAP_EVCNT.FORCED 1
    else b
  | none => b

/-- The oldest trigger whose entry comes next is decided before that entry is written (R268, R269). -/
def capTriggerNow (b : Block) (f : Nat) : Block :=
  match b.capNextTime f with
  | some t => if b.capActive f then b.capDecide f t false else b
  | none => b

/-- A write of CAP_SPILL (R271, R276): the rules of R233 with a spill chain and the spill page-chain hasp. -/
def spillAttach (b : Block) (f v : Nat) : Block :=
  let head := v % 2 ^ 20
  if !b.idle f || !b.hostHeld (16 * f + 6) then b.fault (272 + f) 0
  else if bit v 20 then
    if b.pgHead head ∧ b.pgOwner head = 4 ∧ b.pgUnit head = f ∧ b.pgState head = 1 then
      ((b.set (FLD f) CAP_SPILL.HEAD head).setFlag (FLD f) CAP_SPILL.EN true).updCap f (fun c => { c with spillOff := false })
    else b.fault (272 + f) 0
  else
    let b := b.set (FLD f) CAP_SPILL.HEAD head
    if !b.flag (FLD f) CAP_SPILL.EN then b
    else if (b.cap f).waiting.isEmpty && (b.cap f).tail.isEmpty then b.setFlag (FLD f) CAP_SPILL.EN false
    else b.updCap f (fun c => { c with spillOff := true })

/-- A read of CAP_MD (R276): the word as it stands, and ADDR moved on. -/
def capMdRead (b : Block) (f : Nat) : Block :=
  let a := b.get (FLD f) CAP_MA.ADDR
  let b := b.set (FLD f) CAP_MA.ADDR ((a + 1) % 131072)
  { b with host := { b.host with lastRead := [Sparse.get 0 a (b.cap f).sram] } }

/-- What follows a spill write (R271, R272): the full page is READY and the next follows; the last one stops capture; a record
that waited for its words is over; a detach that waited is done. -/
def spillNext (b : Block) (f : Nat) : Block :=
  let c := b.cap f
  let b : Block := match c.page with
    | some p =>
      if c.word = 4096 then
        (b.pgSet 2 p).updCap f (fun c => { c with page := if b.pgLast p then none else some (b.pgNext p), word := 0 })
      else b
    | none => b
  let c := b.cap f
  let b : Block := if c.waiting.isEmpty ∧ c.ending ≠ 0 then b.streamEnd f c.ending
    else if c.page.isNone ∧ (b.get (FLD f) CAP_STAT.STATE = 3 ∨ !c.waiting.isEmpty) then
      let b := b.updCap f (fun c => { c with waiting := [] })
      if b.get (FLD f) CAP_STAT.STATE = 3 then b.streamEnd f 3 else b
    else b
  if (b.cap f).spillOff ∧ (b.cap f).waiting.isEmpty ∧ (b.cap f).tail.isEmpty then
    (b.setFlag (FLD f) CAP_SPILL.EN false).updCap f (fun c => { c with spillOff := false })
  else b

end Block

/-- Words written at their places. -/
def placeWords (m : List Host.Cell) : List (Nat × Nat) → List Host.Cell
  | [] => m
  | x :: xs => placeWords (Memory.setWord m .pages x.1 x.2) xs

/-- Words that wait for the spill chain of field `f` are written (R271): first those of a record that was stopped, then those of the
present one, up to the end of the page in progress. While the memory takes no requests they wait (R14). -/
def spillWrite (st : State) (f : Nat) : State :=
  let b := st.blk
  if !b.hbmTakes then (if (b.cap f).waiting.isEmpty && (b.cap f).tail.isEmpty then st else st.on Block.hbmKnock)
  else if !(b.cap f).tail.isEmpty then
    let ws := (b.cap f).tail
    let b := (ws.map (fun x => x.1 / 4096)).eraseDups.foldl (fun b p => b.hbmReq 1 p f) b
    { st with blk := (b.updCap f (fun c => { c with tail := [] })).spillNext f, mem := placeWords st.mem ws }
  else if !b.flag (FLD f) CAP_CFG.STREAM then st
  else
    let c := b.cap f
    match c.page with
    | some p =>
      let ws := c.waiting.take (4096 - c.word)
      let mem := Memory.setWords st.mem .pages (p * 4096 + c.word) ws
      let b := if ws.isEmpty then b else (b.hbmReq 1 p f).set (FLD f) CAP_STAT.KEPT (b.get (FLD f) CAP_STAT.KEPT + ws.length)
      let b := b.updCap f (fun c => { c with waiting := c.waiting.drop ws.length, word := c.word + ws.length })
      { st with blk := b.spillNext f, mem := mem }
    | none => st.on (fun b => b.spillNext f)

/-! ### The commands -/

/-- CAP_CMD_ARM (R266). -/
def execCapCmdArm (f : Fin 16) (st : State) : Host.Outcome State Fault Refusal := .next (st.on (fun b => b.capHost f 1))
/-- CAP_CMD_TRIG (R268). -/
def execCapCmdTrig (f : Fin 16) (st : State) : Host.Outcome State Fault Refusal := .next (st.on (fun b => b.capHost f 2))
/-- CAP_CMD_STOP (R273). -/
def execCapCmdStop (f : Fin 16) (st : State) : Host.Outcome State Fault Refusal := .next (st.on (fun b => b.capHost f 3))
/-- CAP_CMD_FLCLR (R275): it applies at once. -/
def execCapCmdFlclr (f : Fin 16) (st : State) : Host.Outcome State Fault Refusal := .next (st.on (fun b => b.failClear f))
/-- CAPTURE_ARM_APPLY (R266). -/
def execCaptureArmApply (f : Fin 16) (st : State) : Host.Outcome State Fault Refusal := .next (st.on (fun b => b.capArmApply f))
/-- CAPTURE_ENTRY (R264). -/
def execCaptureEntry (f : Fin 16) (code : Nat) (st : State) : Host.Outcome State Fault Refusal :=
  .next (st.on (fun b => b.capTake f code))
/-- CAPTURE_TRIGGER (R269). -/
def execCaptureTrigger (f : Fin 16) (st : State) : Host.Outcome State Fault Refusal := .next (st.on (fun b => b.capTriggerNow f))
/-- CAPTURE_AUTO_TIMEOUT (R270). -/
def execCaptureAutoTimeout (f : Fin 16) (st : State) : Host.Outcome State Fault Refusal := .next (st.on (fun b => b.capTimeout f))
/-- CAPTURE_STOP_APPLY (R273). -/
def execCaptureStopApply (f : Fin 16) (st : State) : Host.Outcome State Fault Refusal := .next (st.on (fun b => b.capStopApply f))
/-- SPILL_WRITE (R271). -/
def execSpillWrite (f : Fin 16) (st : State) : Host.Outcome State Fault Refusal := .next (spillWrite st f)
/-- CAP_MD_READ (R276). -/
def execCapMdRead (f : Fin 16) (st : State) : Host.Outcome State Fault Refusal := .next (st.on (fun b => b.capMdRead f))

end Sys2Proof.Machine
end

