-- ==== Sys2Proof/Machine/Ptp.lean ====
section
/-!
DEFINITION. Network time (ch. 16): the two Ethernet ports, the transparent clock, the ordinary clock, and the anchor of tick 0.
The comparison of masters is that of IEEE 1588-2019's data sets (PRESUMED); the clock's servo is left open by the spec, so the rate
it sets is a free value within ±200 ppm.
-/
namespace Sys2Proof.Machine
namespace Block

/-! ### Ports and forwarding (R325, R326, R328) -/

/-- The direction that begins at port `p`. -/
def eth (b : Block) (p : Nat) : EthSt := Sparse.get {} p b.ptp.eth
/-- Direction `p` changed by `g`. -/
def updEth (b : Block) (p : Nat) (g : EthSt → EthSt) : Block :=
  { b with ptp := { b.ptp with eth := Sparse.set {} p (g (b.eth p)) b.ptp.eth } }
/-- Port `p` is up. -/
def ethUp (b : Block) (p : Nat) : Bool := b.flag (8 * p) ETH_STAT.UP
/-- The transparent clock corrects (PTP_CTRL.TC_EN). -/
def tcOn (b : Block) : Bool := b.flag 0 PTP_CTRL.TC_EN
/-- A frame leaves through port `p`. -/
def ethSend (b : Block) (p : Nat) (fr : EthFrame) : Block := { b with ptp := { b.ptp with out := b.ptp.out ++ [(p, fr)] } }

/-- Bytes that wait in direction `p` (R326). -/
def ethQueued (b : Block) (p : Nat) : Nat := (b.eth p).queue.foldl (fun n x => n + x.1.len) 0

/-- What a frame is to the PTP unit (R327): a PTP message has Ethertype 0x88F7, destination 01-1B-19-00-00-00 and at most one IEEE 802.1Q
tag; every other frame is none. -/
def ethKindOf (fr : EthFrame) : EthKind :=
  if fr.etype = 0x88F7 ∧ fr.dst = 0x011B19000000 ∧ fr.tags.length ≤ 1 then fr.kind else .other

/-- A two-step Sync has arrived: what is remembered of an earlier one with its identity, whose Follow_Up was lost, is not for it (R328). -/
def ethForget (d : EthSt) (fr : EthFrame) : EthSt :=
  if ethKindOf fr = .sync true then { d with left := d.left.filter (fun x => x.1 != fr.ident) } else d

/-- A frame arrives on port `p` (R325, R326): a bad or over-long one is discarded, and so is one that finds the 64 KiB full. -/
def ethRx (b : Block) (p : Nat) (fr : EthFrame) : Block :=
  if !b.ethUp p then b
  else if fr.bad.val = 1 then b.count (8 * p) ETH_STAT.BAD_FCS 1
  else if fr.bad.val = 2 then (b.count (8 * p) ETH_STAT.FEC_UNCORR 1).arrive 586
  else if 9216 < fr.len then b
  else if 65536 < b.ethQueued p + fr.len then (b.count (8 * p) ETH_STAT.DROPS 1).arrive 587
  else b.updEth p (fun d => { ethForget d fr with queue := d.queue ++ [(fr, b.time.now)] })

/-- A PTP event message goes ahead of queued frames (R326). -/
def ethEvent (k : EthKind) : Bool :=
  match k with
  | .sync _ => true
  | .delayReq => true
  | .pdelay => true
  | _ => false

/-- The frame may leave now: a Follow_Up is held until its Sync has left (R328). -/
def ethReady (b : Block) (p : Nat) (fr : EthFrame) : Bool :=
  !b.tcOn || ethKindOf fr != .followUp || (b.eth p).left.any (fun x => x.1 == fr.ident)

/-- The frame of direction `p` that leaves next: event messages first, then the oldest that is not held (R326, R328). -/
def ethNext (b : Block) (p : Nat) : Option (EthFrame × Nat) :=
  match (b.eth p).queue.find? (fun x => ethEvent (ethKindOf x.1)) with
  | some x => some x
  | none => (b.eth p).queue.find? (fun x => b.ethReady p x.1)

/-- The frame as it leaves after `res` × 2^-16 ns, and what direction `p` then remembers of two-step Syncs (R328). -/
def ethCorrect (b : Block) (p : Nat) (fr : EthFrame) (res : Nat) : Block × EthFrame :=
  if !b.tcOn then (b, fr)
  else match ethKindOf fr with
    | .sync false => (b, { fr with corr := fr.corr + res })
    | .delayReq => (b, { fr with corr := fr.corr + res })
    | .sync true => (b.updEth p (fun d => { d with left := d.left ++ [(fr.ident, res)] }), fr)
    | .followUp =>
      match (b.eth p).left.find? (fun x => x.1 == fr.ident) with
      | some x => (b.updEth p (fun d => { d with left := d.left.erase x }), { fr with corr := fr.corr + x.2 })
      | none => (b, fr)
    | _ => (b, fr)

/-- The next frame of direction `p` leaves on the other port (R326). -/
def ethForward (b : Block) (p res : Nat) : Block :=
  if !b.ethUp (1 - p) then b
  else match b.ethNext p with
    | some x =>
      let r := (b.updEth p (fun d => { d with queue := d.queue.erase x })).ethCorrect p x.1 res
      r.1.ethSend (1 - p) r.2
    | none => b

/-- A Follow_Up that has waited 1 s for its Sync leaves unchanged and is counted (R328). -/
def followUpTimeout (b : Block) (p : Nat) : Block :=
  if !b.ethUp (1 - p) then b
  else match (b.eth p).queue.find? (fun x =>
    ethKindOf x.1 == .followUp && !b.ethReady p x.1 && decide (x.2 + 100000000 ≤ b.time.now)) with
  | some x => ((b.updEth p (fun d => { d with queue := d.queue.erase x })).ethSend (1 - p) x.1).count 0 PTP_EVCNT.FU_UNMATCHED 1
  | none => b

/-! ### The clock (R329, R330) -/

/-- PTP_RATE as a number. -/
def ptpRate (b : Block) : Int := toSigned 32 (b.get 0 PTP_RATE.RATE)

/-- The clock's value now, in 2^-32 ns (R329): 10 ns a sub-tick, adjusted by RATE × 2^-32. -/
def ptpClock (b : Block) : Int := b.ptp.base + Int.ofNat (b.time.now - b.ptp.at_) * 10 * (2 ^ 32 + b.ptpRate)

/-- The same in 2^-16 ns. -/
def ptpNow16 (b : Block) : Int := b.ptpClock / 2 ^ 16

/-- The clock set to a value in 2^-32 ns. -/
def ptpSet (b : Block) (v : Int) : Block := { b with ptp := { b.ptp with base := v, at_ := b.time.now } }

/-- The clock's rate set from now on (R330): within ±200 ppm. -/
def ptpSetRate (b : Block) (r : Int) : Block := (b.ptpSet b.ptpClock).set 0 PTP_RATE.RATE (ofSigned 32 (max (-858993) (min 858993 r)))

/-- HOLDOVER is entered from LOCKED (R330). -/
def ptpHold (b : Block) : Block :=
  if b.get 0 PTP_STAT.STATE = 2 then ((b.set 0 PTP_STAT.STATE 3).count 0 PTP_EVCNT.HOLDOVERS 1).arrive 579 else b

/-- The clock listens or runs: OC_EN is 1, and the message is of its domain (R329). -/
def ptpHears (b : Block) (p domain : Nat) : Bool := b.get 0 PTP_STAT.STATE != 0 && b.get 0 PTP_CTRL.DOMAIN == domain && b.ethUp p

/-- A write of PTP_CTRL.OC_EN takes effect (R330). -/
def ptpEnable (b : Block) : Block :=
  if b.flag 0 PTP_CTRL.OC_EN then (if b.get 0 PTP_STAT.STATE = 0 then b.set 0 PTP_STAT.STATE 1 else b)
  else ({ b with ptp := { b.ptp with heard := [], master := none, exchs := [], step := none, crossed := false } }).set 0 PTP_STAT.STATE 0

/-- A link goes up or down (R330, R333): with both ports down a LOCKED clock enters HOLDOVER. -/
def ethLink (b : Block) (p : Nat) (up : Bool) : Block :=
  if b.ethUp p = up then b
  else
    let b := (b.setFlag (8 * p) ETH_STAT.UP up).setFlag 0 (if p = 0 then PTP_STAT.LINK_A else PTP_STAT.LINK_B) up
    let b := b.arrive (584 + p)
    if !b.ethUp 0 && !b.ethUp 1 then b.ptpHold else b

end Block

/-- The first list comes before the second, number by number. -/
def lexLt : List Nat → List Nat → Bool
  | x :: xs, y :: ys => decide (x < y) || (x == y && lexLt xs ys)
  | _, _ => false

/-- The order of the data-set comparison: priority1, class, accuracy, variance, priority2, grandmaster, steps removed, sender. -/
def masterKey (m : PtpMaster) : List Nat := [m.prio1, m.cls, m.acc, m.var, m.prio2, m.gm, m.steps, m.sender]

namespace Block

/-- The best master heard, used through ETH_A where it is heard on both ports (R329). -/
def bestMaster (b : Block) : Option (PtpMaster × Nat) :=
  let best := b.ptp.heard.foldl (fun (m : Option PtpMaster) x => match m with
    | none => some x.2.1
    | some y => if lexLt (masterKey x.2.1) (masterKey y) then some x.2.1 else some y) none
  best.map (fun m => (m, if b.ptp.heard.any (fun x => x.2.1.sender == m.sender && x.1 == 0) then 0 else 1))

/-- The best master comes into use (R329, R330): a change from an earlier one is counted and raises source 581. -/
def masterUse (b : Block) : Block :=
  match b.bestMaster with
  | none => b
  | some (m, p) =>
    let change := b.ptp.master.any (fun o => o.1.sender != m.sender)
    let moved := b.ptp.master.all (fun o => o.1.sender != m.sender || o.2 != p)
    let b := { b with ptp := { b.ptp with master := some (m, p), exchs := if moved then [] else b.ptp.exchs } }
    let b := (b.set 0 PTP_MASTER.CLOCKID m.sender).set 0 PTP_STAT.PORT p
    if change then ((b.setFlag 0 PTP_STAT.MASTER_CHG true).count 0 PTP_EVCNT.MASTER_CHGS 1).arrive 581 else b

/-- An Announce arrives on port `p` (R329): masters not heard for three of their intervals drop out of the comparison. -/
def ptpAnnounce (b : Block) (p : Nat) (m : PtpMaster) : Block :=
  if b.ptpHears p m.domain then
    let rest := b.ptp.heard.filter (fun x => !(x.1 == p && x.2.1.sender == m.sender) && decide (b.time.now < x.2.2 + 3 * x.2.1.interval))
    let n := if b.ptp.master.isNone then b.time.now else b.ptp.lastSync
    ({ b with ptp := { b.ptp with heard := rest ++ [(p, m, b.time.now)], lastSync := n } }).masterUse
  else b

/-- The message comes from the master in use, on its port. -/
def fromMaster (b : Block) (p sender domain : Nat) : Bool :=
  b.ptpHears p domain && b.ptp.master.any (fun o => o.1.sender == sender && o.2 == p)

/-- Numbers in 2^-16 ns as whole ns held in `w` bits of two's complement. -/
def satNs (w : Nat) (v : Int) : Nat := ofSigned w (max (-(2 ^ (w - 1))) (min (2 ^ (w - 1) - 1) (v / 2 ^ 16)))

/-- A complete exchange (R330): path delay and offset, the state's change, the rate, and the offset threshold. -/
def exchDone (b : Block) (t1 corr t2 t3 t4 : Int) : Block :=
  let ms := t2 - t1 - corr
  let sm := t4 - t3
  let mpd := (ms + sm) / 2
  let ofs := ms - mpd
  let b := (b.set 0 PTP_OFS.MPD (min (2 ^ 32 - 1) (mpd / 2 ^ 16).toNat)).set 0 PTP_OFS.OFS (satNs 32 ofs)
  let st := b.get 0 PTP_STAT.STATE
  let b : Block := if st = 1 then { b.set 0 PTP_STAT.STATE 2 with ptp := { b.ptp with step := some (ofs, b.time.now) } }
    else (b.ptpSetRate (Int.ofNat (b.free % 1717987) - 858993)).freed
  let b := if st = 3 then (b.set 0 PTP_STAT.STATE 2).arrive 580 else b
  let big := decide (b.get 0 PTP_CTRL.OFS_THR < (ofs / 2 ^ 16).natAbs)
  (b.arriveIf (big && !b.ptp.crossed) 582 |> fun b => { b with ptp := { b.ptp with crossed := big } })

/-- The exchanges under way become `before ++ [x] ++ after`, oldest first; `x` is done once all four messages have come, and leaves with those
before it (R330). -/
def exchSet (b : Block) (before : List PtpExch) (x : PtpExch) (after : List PtpExch) : Block :=
  match x.t1, x.t4 with
  | some t1, some t4 => { b with ptp := { b.ptp with exchs := after } }.exchDone t1 x.corr x.t2 x.t3 t4
  | _, _ => { b with ptp := { b.ptp with exchs := before ++ x :: after } }

/-- The first exchange under way that `p` names is changed by `g` (R330). -/
def exchUpd (b : Block) (p : PtpExch → Bool) (g : PtpExch → PtpExch) : Block :=
  match b.ptp.exchs.dropWhile (fun x => !p x) with
  | x :: rest => b.exchSet (b.ptp.exchs.takeWhile (fun x => !p x)) (g x) rest
  | [] => b

/-- A Sync of the master arrives (R329): a Delay_Req goes out, and an exchange begins with it, unless the last one is less than 62.5 ms
old. -/
def ptpSync (b : Block) (p : Nat) (m : PtpSync) : Block :=
  if b.fromMaster p m.sender m.domain then
    let t2 := b.ptpNow16 + m.fine
    let req := b.ptp.lastReq.all (fun t => decide (t + 6250000 ≤ b.time.now))
    let n := b.ptp.reqSeq
    let b := { b with ptp := { b.ptp with lastSync := b.time.now, syncIntv := m.interval } }
    if req then
      let b := ({ b with ptp := { b.ptp with lastReq := some b.time.now, reqSeq := (n + 1) % 65536 } }).ethSend p
        { len := 64, bad := 0, dst := 0x011B19000000, tags := [], etype := 0x88F7, kind := .delayReq, ident := n, corr := 0 }
      b.exchSet b.ptp.exchs { seq := m.seq, t1 := if m.twoStep then none else some m.t1, corr := m.corr, t2 := t2,
                              reqSeq := some n, t3 := b.ptpNow16 } []
    else b
  else b

/-- A Follow_Up of the master arrives (R330). -/
def ptpFollowUp (b : Block) (p : Nat) (m : PtpFollowUp) : Block :=
  if b.fromMaster p m.sender m.domain then
    b.exchUpd (fun x => x.seq == m.seq && x.t1.isNone) (fun x => { x with t1 := some m.t1, corr := x.corr + m.corr })
  else b

/-- A Delay_Resp of the master arrives (R330). -/
def ptpDelayResp (b : Block) (p : Nat) (m : PtpDelayResp) : Block :=
  if b.fromMaster p m.sender m.domain then
    b.exchUpd (fun x => x.reqSeq == some m.seq) (fun x => { x with t4 := some (m.t4 - m.corr) })
  else b

/-! ### Step and anchor (R330, R331) -/

/-- T0 latched with the value `v`, in 2^-32 ns (R331). -/
def anchorLatch (b : Block) (v : Int) : Block :=
  let ns := (v / 2 ^ 32).toNat
  let b := { b with ptp := { b.ptp with t0Due := false, relocked := false } }
  (((b.set 0 PTP_T0_S.SEC (ns / 10 ^ 9)).set 0 PTP_T0_NS.NS (ns % 10 ^ 9)).setFlag 0 PTP_T0_S.VALID true).arrive 583

/-- The step due takes effect at a tick boundary (R330), and latches an anchor that waits, as the clock's value less the reference time
since B(0) (R331). -/
def ptpStep (b : Block) : Block :=
  match b.ptp.step with
  | some (ofs, at_) =>
    if b.atBoundary && decide (at_ < b.time.lastB) then
      let b := { b with ptp := { b.ptp with step := none } }
      let b := ((b.ptpSet (b.ptpClock - ofs * 2 ^ 16)).count 0 PTP_EVCNT.STEPS 1).arrive 578
      if b.ptp.t0Due || (b.ptp.relocked && b.flag 0 PTP_T0_S.VALID) then
        b.anchorLatch (b.ptpClock - Int.ofNat (b.time.now - b.time.zero) * 10 * 2 ^ 32)
      else { b with ptp := { b.ptp with relocked := false } }
    else b
  | none => b

/-- B(0) of an accepted sync pulse (R331): VALID is 0 until T0 is latched, here where the clock is LOCKED or in HOLDOVER. -/
def ptpPulse (b : Block) : Block :=
  let b := b.setFlag 0 PTP_T0_S.VALID false
  if 2 ≤ b.get 0 PTP_STAT.STATE then b.anchorLatch b.ptpClock else { b with ptp := { b.ptp with t0Due := true } }

/-- HOLDOVER for want of Announce or Sync messages, or of both ports (R330). -/
def ptpHoldover (b : Block) : Block :=
  match b.ptp.master with
  | some (m, _) =>
    let ann := (b.ptp.heard.filter (fun x => x.2.1.sender == m.sender)).foldl (fun n x => max n x.2.2) 0
    if decide (ann + 3 * m.interval ≤ b.time.now) || decide (b.ptp.lastSync + 4 * b.ptp.syncIntv ≤ b.time.now) ||
        (!b.ethUp 0 && !b.ethUp 1) then b.ptpHold else b
  | none => b

/-- RELOCK (R330): the clock listens anew and its next exchange makes a step. -/
def ptpRelock (b : Block) : Block :=
  if b.get 0 PTP_STAT.STATE = 0 then b
  else ({ b with ptp := { b.ptp with step := none, exchs := [], relocked := true, crossed := false } }).set 0 PTP_STAT.STATE 1

/-- A read of PTP_NOW_S (R333): seconds now, and the nanoseconds latched with them. -/
def ptpNowRead (b : Block) : Block :=
  let ns := (b.ptpClock / 2 ^ 32).toNat
  let b := (b.set 0 PTP_NOW_S.SEC (ns / 10 ^ 9)).set 0 PTP_NOW_NS.NS (ns % 10 ^ 9)
  { b with host := { b.host with lastRead := [b.get 0 PTP_NOW_S.SEC] } }

end Block

/-! ### The commands -/

/-- ETH_FRAME_RX (R326). -/
def execEthFrameRx (p : Fin 2) (fr : EthFrame) (st : State) : Host.Outcome State Fault Refusal := .next (st.on (fun b => b.ethRx p fr))
/-- ETH_FRAME_FORWARD (R326). -/
def execEthFrameForward (p : Fin 2) (res : Nat) (st : State) : Host.Outcome State Fault Refusal :=
  .next (st.on (fun b => b.ethForward p res))
/-- FOLLOW_UP_TIMEOUT (R328). -/
def execFollowUpTimeout (p : Fin 2) (st : State) : Host.Outcome State Fault Refusal := .next (st.on (fun b => b.followUpTimeout p))
/-- ETH_LINK_CHANGE (R333). -/
def execEthLinkChange (p : Fin 2) (up : Bool) (st : State) : Host.Outcome State Fault Refusal := .next (st.on (fun b => b.ethLink p up))
/-- PTP_ANNOUNCE_RX (R329). -/
def execPtpAnnounceRx (p : Fin 2) (m : PtpMaster) (st : State) : Host.Outcome State Fault Refusal :=
  .next (st.on (fun b => b.ptpAnnounce p m))
/-- PTP_SYNC_RX (R329). -/
def execPtpSyncRx (p : Fin 2) (m : PtpSync) (st : State) : Host.Outcome State Fault Refusal := .next (st.on (fun b => b.ptpSync p m))
/-- PTP_FOLLOW_UP_RX (R330). -/
def execPtpFollowUpRx (p : Fin 2) (m : PtpFollowUp) (st : State) : Host.Outcome State Fault Refusal :=
  .next (st.on (fun b => b.ptpFollowUp p m))
/-- PTP_DELAY_RESP_RX (R330). -/
def execPtpDelayRespRx (p : Fin 2) (m : PtpDelayResp) (st : State) : Host.Outcome State Fault Refusal :=
  .next (st.on (fun b => b.ptpDelayResp p m))
/-- PTP_STEP (R330). -/
def execPtpStep (st : State) : Host.Outcome State Fault Refusal := .next (st.on Block.ptpStep)
/-- PTP_HOLDOVER (R330). -/
def execPtpHoldover (st : State) : Host.Outcome State Fault Refusal := .next (st.on Block.ptpHoldover)
/-- PTP_RELOCK (R330). -/
def execPtpRelock (st : State) : Host.Outcome State Fault Refusal := .next (st.on Block.ptpRelock)
/-- PTP_NOW_READ (R333). -/
def execPtpNowRead (st : State) : Host.Outcome State Fault Refusal := .next (st.on Block.ptpNowRead)

end Sys2Proof.Machine
end

