-- ==== Sys2Proof/Machine/RegMap.lean ====
section
/-!
DEFINITION. The register map as a function of the address (R5 to R8, R356): which register instance, and which field, stands at an
offset of BAR0.
-/
namespace Sys2Proof.Machine

/-- The registers of the module blocks, by block (R356). -/
def moduleRegs (a : Nat) : List RegDef :=
  if a < 0x1000 then identRegs
  else if a < 0x10000 then hostqRegs
  else if a < 0x20000 then icRegs
  else if a < 0x30000 then fcRegs
  else if a < 0x40000 then tbRegs
  else if a < 0x50000 then syncRegs
  else if a < 0x60000 then ptpRegs
  else if a < 0x70000 then calRegs
  else if a < 0x80000 then krRegs
  else if a < 0x90000 then bootRegs
  else if a < 0xA0000 then hbmRegs
  else if a < 0xB0000 then rmRegs
  else if a < 0xC0000 then resRegs
  else haspRegs

/-- The registers among which offset `a` is looked up, and the base of its block (R356). -/
def regsOf (a : Nat) : Nat × List RegDef :=
  if a < 0x100000 then (0, moduleRegs a)
  else if a < 0x200000 then (a / 0x10000 * 0x10000, fieldRegs)
  else if a < 0x310000 then (a / 0x1000 * 0x1000, sliceRegs)
  else if 0x400000 ≤ a ∧ a < 0x422000 then (a / 0x1000 * 0x1000, dpsRegs)
  else if 0x1000000 ≤ a ∧ a < 0x2000000 then (0, dirRegs)
  else (0, [])

/-- `o` is the offset of an instance in an array with these strides and counts. -/
def offMatch : Nat → List (Nat × Nat) → Bool
  | o, [] => o == 0
  | o, (st, n) :: t => decide (o / st < n) && offMatch (o % st) t

/-- The register instance at offset `a`: its base, from which field offsets count, and its definition. -/
def regAt (a : Nat) : Option (Nat × RegDef) :=
  let r := regsOf a
  (r.2.find? (fun d => decide (r.1 + d.off ≤ a) && offMatch (a - r.1 - d.off) d.dims)).map (fun d => (a - d.off, d))

/-- The field with key `k`: the base of its register instance, and the field. -/
def fldAt (k : Nat) : Option (Nat × Fld) :=
  match regAt (k / 64) with
  | some (base, d) => (d.flds.find? (fun F => F.lo == k % 64)).map (fun F => (base, F))
  | none => none

/-- Offset `a` lies in a block of BAR0 (R356). -/
def inBlock (a : Nat) : Bool :=
  decide (a < 0xD0000) || (decide (0x100000 ≤ a) && decide (a < 0x310000)) || (decide (0x400000 ≤ a) && decide (a < 0x422000)) ||
    (decide (0x1000000 ≤ a) && decide (a < 0x2000000))

/-- The end of the block in which offset `a` lies (R356): the offset after its highest register. None where no block lies. -/
def blockEnd (a : Nat) : Option Nat :=
  let span := fun (base : Nat) (regs : List RegDef) => regs.foldl (fun m d =>
    max m (base + d.off + d.dims.foldl (fun n x => n + x.1 * (x.2 - 1)) 0 + 8)) 0
  let r := regsOf a
  let e := span r.1 r.2
  if a < e then some e else none

end Sys2Proof.Machine
end

