-- ==== Sys2Proof/Machine/Interrupts.lean ====
section
/-!
DEFINITION. The commands of the event and interrupt controller (ch. 19): software events, clears, enables, routes, host-idle
bits, MSI-X moderation and masks.
-/
namespace Sys2Proof.Machine
namespace Block

/-- A write of IC_RAISE (R380): an arrival on a software-event source, else a configuration error. -/
def icRaise (b : Block) (v : Nat) : Block :=
  let n := v % 1024
  if 658 ≤ n then b.arrive n else b.fault 401 0

/-- A write of IC_PEND[i]: each bit written as 1 clears its pending bit (R379). -/
def icPendClear (b : Block) (i v : Nat) : Block :=
  b.set (8 * i) IC_PEND.BITS ((List.range 64).foldl (fun w k => if bit v k then clrBit w k else w) (b.get (8 * i) IC_PEND.BITS))

/-- The enable bits of word `i` become `w`; each pending source newly enabled counts as an arrival at its vector (R383), and
sleeping sequencers are looked at (R384). -/
def icEnSetTo (b : Block) (i w : Nat) : Block :=
  let old := b.get (8 * i) IC_EN.BITS
  let b := b.set (8 * i) IC_EN.BITS w
  let b := (List.range 64).foldl (fun b k =>
    let n := 64 * i + k
    if bit w k && !bit old k && b.icPend n && decide (18 ≤ b.icRoute n) then b.icArr (b.icRoute n - 18) else b) b
  b.wakeAll

/-- A write of IC_EN_SET[i] (R389). -/
def icEnSet (b : Block) (i v : Nat) : Block :=
  b.icEnSetTo i ((List.range 64).foldl (fun w k => if bit v k then Sys2Proof.setBit w k else w) (b.get (8 * i) IC_EN.BITS))

/-- A write of IC_EN_CLR[i] (R389). -/
def icEnClr (b : Block) (i v : Nat) : Block :=
  b.set (8 * i) IC_EN.BITS ((List.range 64).foldl (fun w k => if bit v k then clrBit w k else w) (b.get (8 * i) IC_EN.BITS))

/-- Sequencer `p` has been retired by a takeover (R159, R381). -/
def seqRetired (b : Block) (p : Nat) : Bool := b.flag 0 RM_SEQMAP.SUB && b.get 0 RM_SEQMAP.FIELD == p && p != 16

/-- The route of source `n` becomes `t`; a pending, enabled source brought to a vector counts as an arrival there (R381,
R383). -/
def icSetRoute (b : Block) (n t : Nat) : Block :=
  let old := b.icRoute n
  let b := b.set (8 * n) IC_ROUTE.TARGET t
  let b := if t ≠ old ∧ 18 ≤ t ∧ b.icPend n ∧ b.icEn n then b.icArr (t - 18) else b
  b.wakeAll

/-- A write of IC_ROUTE[n] (R381): reserved targets are refused (R8), retired sequencers become T16. -/
def icRouteWrite (b : Block) (n v : Nat) : Block :=
  let t := v % 128
  if 82 ≤ t then b.fault 401 0 else b.icSetRoute n (if t < 17 ∧ b.seqRetired t then 16 else t)

/-- A write of IC_HOSTIDLE_SET (R386). -/
def hostIdleSet (b : Block) (v : Nat) : Block :=
  b.set 0 IC_HOSTIDLE.BITS ((List.range 64).foldl (fun w k => if bit v k then Sys2Proof.setBit w k else w) (b.get 0 IC_HOSTIDLE.BITS))

/-- A write of IC_HOSTIDLE_CLR (R386). -/
def hostIdleClr (b : Block) (v : Nat) : Block :=
  b.set 0 IC_HOSTIDLE.BITS ((List.range 64).foldl (fun w k => if bit v k then clrBit w k else w) (b.get 0 IC_HOSTIDLE.BITS))

/-- Moderation is bypassed for vector `v` (R386, R387). -/
def bypassed (b : Block) (v : Nat) : Bool :=
  b.host.l1 || bit (b.get 0 IC_HOSTIDLE.BITS) v || b.host.d3Entering || !b.flag 0 TB_STAT.TICK_RUN || b.host.bypass.contains v

/-- Vector `v` is masked (R387). -/
def masked (b : Block) (v : Nat) : Bool := b.host.fnMask || !b.host.unmasked.contains v

/-- Vector `v` sends its message (R385, R386): ARR and HELD cleared, the holdoff reloaded, its host-idle bit cleared; the link
leaves L1 for it. -/
def msixFire (b : Block) (v : Nat) : Block :=
  let cls := b.get (8 * v) IC_VEC.CLASS
  let b := (b.set (8 * v) IC_VEC.ARR 0).setFlag (8 * v) IC_VEC.HELD false
  let b := b.set (8 * v) IC_VEC.HC (b.get (8 * cls) IC_MOD.HOLDOFF)
  let b := b.set 0 IC_HOSTIDLE.BITS (clrBit (b.get 0 IC_HOSTIDLE.BITS) v)
  { b with host := { b.host with
    msgs := b.host.msgs ++ [v], l1 := false, pba := b.host.pba.filter (· != v), bypass := b.host.bypass.filter (· != v) } }

/-- Vector `v` would send its message (R385 to R387): a source is pending for it, and an arrival has come that moderation does not hold, or
that found the vector masked; or it is its first evaluation after a return to D0. -/
def msixReady (b : Block) (v : Nat) : Bool :=
  let arr := b.get (8 * v) IC_VEC.ARR
  (b.icNext (18 + v)).isSome && (b.host.bypass.contains v || (decide (1 ≤ arr) &&
    (b.get (8 * v) IC_VEC.HC == 0 || decide (b.get (8 * b.get (8 * v) IC_VEC.CLASS) IC_MOD.COUNT ≤ arr) || b.bypassed v ||
      b.host.pba.contains v)))

/-- The evaluation of vector `v` at a moderation step (R385, R387). While arrivals are counted and it does not fire, HELD is 1; in D3hot it
signals PME, once, and while masked it sets its pending-array bit; while the link is down the message waits (R354). -/
def msixEval (b : Block) (v : Nat) : Block :=
  if b.get (8 * v) IC_VEC.ARR = 0 ∧ !b.host.pba.contains v ∧ !b.host.bypass.contains v then b
  else if (b.icNext (18 + v)).isNone then
    let b := (b.set (8 * v) IC_VEC.ARR 0).setFlag (8 * v) IC_VEC.HELD false
    { b with host := { b.host with pba := b.host.pba.filter (· != v), bypass := b.host.bypass.filter (· != v) } }
  else
    let held := if b.get (8 * v) IC_VEC.ARR = 0 then b else b.setFlag (8 * v) IC_VEC.HELD true
    if !b.msixReady v then held
    else if b.host.d3 then
      if b.host.bypass.contains v then held
      else { held with host := { held.host with pme := b.host.pme + 1, bypass := b.host.bypass ++ [v] } }
    else if !b.host.linkUp then held
    else if b.masked v then
      { held with host := { held.host with
        pba := if b.host.pba.contains v then b.host.pba else b.host.pba ++ [v], bypass := b.host.bypass.filter (· != v) } }
    else b.msixFire v

/-- One sub-tick: the clock moves on and every vector is evaluated (R382, R385). -/
def moderationStep (b : Block) : Block :=
  (List.range 64).foldl msixEval { b with time := { b.time with now := b.time.now + 1 } }

/-- A write of a mask bit: of vector `v`, or with none of the function mask (R387). -/
def msixMask (b : Block) (v : Option Nat) (m : Bool) : Block :=
  match v with
  | none => { b with host := { b.host with fnMask := m } }
  | some v =>
    { b with host := { b.host with
      unmasked := if m then b.host.unmasked.filter (· != v)
        else if b.host.unmasked.contains v then b.host.unmasked else b.host.unmasked ++ [v] } }

/-- Holdoff counters move down at a tick boundary (R385). -/
def holdoffTick (b : Block) : Block :=
  (List.range 64).foldl (fun b v => b.set (8 * v) IC_VEC.HC (b.get (8 * v) IC_VEC.HC - 1)) b

end Block

/-! ### The commands -/

/-- IC_RAISE (R380). -/
def execIcRaise (v : Word) (st : State) : Host.Outcome State Fault Refusal := .next (st.on (fun b => b.icRaise v.toNat))
/-- IC_PEND_CLEAR (R379). -/
def execIcPendClear (i : Fin 16) (v : Word) (st : State) : Host.Outcome State Fault Refusal :=
  .next (st.on (fun b => b.icPendClear i v.toNat))
/-- IC_EN_SET (R389). -/
def execIcEnSet (i : Fin 16) (v : Word) (st : State) : Host.Outcome State Fault Refusal := .next (st.on (fun b => b.icEnSet i v.toNat))
/-- IC_EN_CLR (R389). -/
def execIcEnClr (i : Fin 16) (v : Word) (st : State) : Host.Outcome State Fault Refusal := .next (st.on (fun b => b.icEnClr i v.toNat))
/-- IC_ROUTE_WRITE (R381). -/
def execIcRouteWrite (n : Fin 1024) (v : Word) (st : State) : Host.Outcome State Fault Refusal :=
  .next (st.on (fun b => b.icRouteWrite n v.toNat))
/-- IC_HOSTIDLE_SET (R386). -/
def execIcHostidleSet (v : Word) (st : State) : Host.Outcome State Fault Refusal := .next (st.on (fun b => b.hostIdleSet v.toNat))
/-- IC_HOSTIDLE_CLR (R386). -/
def execIcHostidleClr (v : Word) (st : State) : Host.Outcome State Fault Refusal := .next (st.on (fun b => b.hostIdleClr v.toNat))
/-- MSIX_MASK_WRITE (R387). -/
def execMsixMaskWrite (v : Option (Fin 64)) (mask : Bool) (st : State) : Host.Outcome State Fault Refusal :=
  .next (st.on (fun b => b.msixMask (v.map (fun x => x.val)) mask))

end Sys2Proof.Machine
end

