-- ==== Sys2Proof/Machine/Levels.lean ====
section
/-!
DEFINITION. The commands of the DACs (ch. 4): slew-limiter steps, CLR_N clearing and its release, generators, and read-back
supervision.
-/
namespace Sys2Proof.Machine
namespace Block

/-! ### Slew limiter (R84, R85, R90) -/

/-- Level DAC `i` of slice `s` takes one step towards its target (R84). -/
def lvlStep (b : Block) (s i : Nat) : Block :=
  let ramp := b.get (SLC s) LVL_ACT1.RAMP
  if bit ramp i && onGrid b 0 (b.get (SLC s) LVL_SLEW.INTV) then
    let v := slewTo (b.get (SLC s) LVL_SLEW.STEP) (b.get (SLC s) (lvlAct i)) (b.get (SLC s) (lvlTarget i))
    let b := (b.set (SLC s) (lvlAct i) v).touch s i
    if v = b.get (SLC s) (lvlTarget i) then b.set (SLC s) LVL_ACT1.RAMP (clrBit ramp i) else b
  else b

/-- Where the ramp of the force DAC leads (R71, R74): the safe value of the mode that the switch presents while ramping down or
bolting, the target otherwise. -/
def forceDest (b : Block) (s : Nat) : Nat :=
  let ph := b.get (SLC s) SLC_STAT.PATH
  if ph = 1 ∨ ph = 4 then safeCode (b.slc s).swMode else b.get (SLC s) PMU_FORCE.CODE

/-- The force DAC of slice `s` moves one sub-tick towards its clear code, 4,096 codes (R89); settling runs from the end of that ramp too
(DEDUCED, log entry 20). -/
def forceClrStep (b : Block) (s : Nat) : Block :=
  let c := (b.forceClear s (b.slc s).swMode).1
  let v := slewTo 4096 (b.get (SLC s) FORCE_ACT.OUT) c
  let b := b.forceOut s v
  if v = c then (b.updSlc s (fun x => { x with clrRamp := false, rampEnd := some b.time.now })).forceRampSync s else b

/-- The slew limiter of the force DAC takes one step; at the end of a ramp down the range drop is due, at the end of a ramp up the
path, or the substitution, ends (R71, R76, R84). -/
def forceSlew (b : Block) (s : Nat) : Block :=
  let ph := b.get (SLC s) SLC_STAT.PATH
  if (b.slc s).moving && onGrid b (if ph = 4 then (b.slc s).rampFrom else 0) (b.get (SLC s) FORCE_SLEW.INTV) then
    let dest := b.forceDest s
    let v := slewTo (b.get (SLC s) FORCE_SLEW.STEP) (b.slc s).forcePos dest
    let b := b.forceAt s v
    if v = dest then
      if ph = 1 ∨ ph = 4 then
        ((b.forceMove s false).updSlc s (fun x => { x with downDone := true })).endReaction
      else b.rampUpEnd s
    else b
  else b

/-- The force DAC of slice `s` takes the step that falls now: to its clear code while clearing ramps it there, and of its slew limiter
(R84, R89, R90). -/
def forceStep (b : Block) (s : Nat) : Block :=
  (if (b.slc s).clrRamp then b.forceClrStep s else b).forceSlew s

/-- The DPS DAC of regulator `r` moves one sub-tick towards its clear code, 64 codes (R290). -/
def dpsClrStep (b : Block) (r : Nat) : Block :=
  let c := (b.dpsClear r).1
  let v := slewTo 64 (b.dps r).out c
  let b := b.dpsOut r v
  if v = c then (b.updDps r (fun d => { d with clrRamp := false })).dpsRampSync r else b

/-- The slew limiter of the DPS DAC takes one step: towards code 0 while the regulator is bolted or being disabled, else towards its target
(R84, R286, R289). -/
def dpsSlew (b : Block) (r : Nat) : Block :=
  let d := b.dps r
  if d.moving && onGrid b (if d.bolt = 2 then d.rampFrom else 0) (b.get (DPS r) DPS_SLEW.INTV) then
    let dest := if d.bolt = 2 ∨ d.ending then 0 else b.get (DPS r) DPS_V.CODE
    let v := slewTo (b.get (DPS r) DPS_SLEW.STEP) d.pos dest
    let b := b.dpsAt r v
    if v = dest then (b.dpsMove r false).endReaction else b
  else b

/-- The DPS DAC of regulator `r` takes the step that falls now (R84, R290). -/
def dpsStep (b : Block) (r : Nat) : Block := (if (b.dps r).clrRamp then b.dpsClrStep r else b).dpsSlew r

/-- One step of a DAC (R84). -/
def slewStep (b : Block) : DacId → Block
  | .level s i => b.lvlStep s i
  | .force s => b.forceStep s
  | .dps r => b.dpsStep r

/-! ### CLR_N (R89 to R92, R290) -/

/-- The force DAC of slice `s` begins to ramp to its clear code (R89); a path keeps its timing (R90). -/
def forceClrStart (b : Block) (s : Nat) : Block :=
  let c := (b.forceClear s (b.slc s).swMode).1
  (b.updSlc s (fun x => { x with
    moving := x.moving && b.get (SLC s) SLC_STAT.PATH != 0, clrRamp := b.get (SLC s) FORCE_ACT.OUT != c })).forceRampSync s

/-- Clearing forces the level and threshold DACs of slice `s` to their clear codes in one step, its generator stops, and the force DAC
begins to ramp to its clear code (R89). -/
def slcClear (b : Block) (s : Nat) : Block :=
  (((b.lvlToClear s).slcGenStop s 4).forceClrStart s).setFlag (SLC s) WM_STAT.CLR_HELD true |>.thTouch s

/-- The DAC of a connected regulator begins to ramp to its clear code (R290); a ramp to code 0 that precedes the opening of its switch
keeps its timing (R90; DEDUCED, log entry 20). -/
def dpsClrStart (b : Block) (r : Nat) : Block :=
  if b.flag (DPS r) DPS_STAT.OUT_SW then
    (b.updDps r (fun d => { d with
      moving := d.moving && (d.ending || d.bolt == 2), clrRamp := d.out != (b.dpsClear r).1 })).dpsRampSync r
  else b

/-- Clearing stops the generator of regulator `r`, and its DACs go to their clear codes (R89, R290). -/
def dpsClearing (b : Block) (r : Nat) : Block :=
  (((b.dpsGenStop r 4).setFlag (DPS r) DPS_WM_STAT.CLR_HELD true).dpsThTouch r).dpsClrStart r

/-- CLR_N asserts clearing on the whole module (R89): every DAC at its clear code, generators and DDS sources stopped; a
release not yet applied is cancelled (R91); clear codes that fail their complement are reported (R88). -/
def clrAssert (b : Block) : Block :=
  if b.flag 0 CLR_STAT.CLR_IN then b
  else
    let badS := (List.range 272).filter (fun s => !b.slcClearOk s)
    let badR := (List.range 34).filter (fun r => !((b.dpsClear r).2 && (b.dpsThClear r).2.2))
    let b := if b.flt.relPend then b.setFlag 0 CLR_STAT.REL_REFUSED true else b
    let b := { b with flt := { b.flt with relPend := false } }
    let b := ((b.setFlag 0 CLR_STAT.CLR_IN true).setFlag 0 CLR_STAT.HELD true).count 0 CLR_STAT.ASSERTS 1
    let b := (List.range 272).foldl slcClear b
    let b := (List.range 34).foldl dpsClearing b
    let b := (List.range 16).foldl ddsStop b
    let b := badS.foldl (fun b s => b.fault s 4) b
    badR.foldl (fun b r => b.fault (322 + r) 7) b

/-- CLR_N returns high (R91). -/
def clrDeassert (b : Block) : Block := b.setFlag 0 CLR_STAT.CLR_IN false

/-- A write of CLR_REL.REL (R91): refused while CLR_N is low, else the release waits for the next tick boundary. With CLR_N high and HELD
0 there is nothing to release: the write does nothing and leaves REL_REFUSED (DESIGN CHOICE, log entry 160). -/
def clrRelease (b : Block) : Block :=
  if b.flag 0 CLR_STAT.CLR_IN then b.setFlag 0 CLR_STAT.REL_REFUSED true
  else if b.held then
    { b.setFlag 0 CLR_STAT.REL_REFUSED false with flt := { b.flt with relPend := true } }
  else b

/-- The DACs of slice `s` ramp from their clear codes to their targets (R91); a bolted slice stays at its own clear codes. -/
def slcUnclear (b : Block) (s : Nat) : Block :=
  let b := (b.setFlag (SLC s) WM_STAT.CLR_HELD (b.slcBolted s)).updSlc s
    (fun x => { x with forcePos := b.get (SLC s) FORCE_ACT.OUT, clrRamp := false })
  let b := ((b.thTouch s).lvlRamp s).forceRampSync s
  if b.get (SLC s) SLC_STAT.PATH = 0 then b.forceRamp s
  else if b.get (SLC s) SLC_STAT.PATH = 2 then b
  else if b.get (SLC s) SLC_STAT.PATH = 3 then b.pathRamp s
  else
    let done := (b.slc s).forcePos == b.forceDest s
    (b.updSlc s (fun x => { x with downDone := done })).forceMove s (!done)

/-- The DAC of regulator `r` ramps from its clear code to its target, or to code 0 where its switch is to open (R91, R286, R289). -/
def dpsUnclear (b : Block) (r : Nat) : Block :=
  let b := (b.setFlag (DPS r) DPS_WM_STAT.CLR_HELD (b.flag (DPS r) DPS_STAT.BOLTED)).dpsThTouch r
  let b := b.updDps r (fun d => { d with pos := d.out, clrRamp := false })
  let b := if (b.dps r).ending || (b.dps r).bolt == 2 then b.dpsMove r ((b.dps r).pos != 0) else b.dpsRampSync r
  if (b.dps r).bolt = 0 then b.dpsRamp r else b

/-- At the next tick boundary clearing ends (R91). -/
def clrApply (b : Block) : Block :=
  if b.flt.relPend && b.held && b.atBoundary then
    let b := { b.setFlag 0 CLR_STAT.HELD false with flt := { b.flt with relPend := false } }
    let b := (List.range 272).foldl slcUnclear b
    let b := (List.range 34).foldl dpsUnclear b
    b.mark 3 0
  else b

/-! ### Generators (R93 to R96) -/

/-- The registers of a generator and the base of its block. -/
structure GenRegs where
  base : Nat
  unit : Nat
  run : Fld
  wave : Fld
  gintv : Fld
  gstep : Fld
  ampl : Fld
  seed : Fld
  out : Fld
  clips : Fld
  act : Fld
  target : Fld

/-- The generator of a slice or a regulator (R112, R292). -/
def genRegs : Unit2 → GenRegs
  | .slice s => ⟨SLC s, s, GEN_CTRL.RUN, GEN_CTRL.WAVE, GEN_CFG.GINTV, GEN_CFG.GSTEP, GEN_CFG.AMPL, GEN_SEED.SEED, GEN_STAT.OUT,
      GEN_STAT.CLIPS, GEN_STAT.RUN_ACT, PMU_FORCE.CODE⟩
  | .dps r => ⟨DPS r, 272 + r, DPS_GEN_CTRL.RUN, DPS_GEN_CTRL.WAVE, DPS_GEN_CFG.GINTV, DPS_GEN_CFG.GSTEP, DPS_GEN_CFG.AMPL,
      DPS_GEN_SEED.SEED, DPS_GEN_STAT.OUT, DPS_GEN_STAT.CLIPS, DPS_GEN_STAT.RUN_ACT, DPS_V.CODE⟩

/-- Conditions on the unit under which its generator may start (R93): a forcing mode, or a connected supply, with no path, ramp
or bolt. A regulator has no PMU mode: EN 1 in force with the output switch closed is read as its forcing mode (DESIGN CHOICE, log entry
160). -/
def genQuiet (b : Block) : Unit2 → Bool
  | .slice s => forcing (b.get (SLC s) PMU_CFG.MODE) && b.get (SLC s) SLC_STAT.PATH == 0 && !b.flag (SLC s) FORCE_ACT.RAMP &&
      !b.slcBolted s
  | .dps r => b.flag (DPS r) DPS_CTRL.EN && b.flag (DPS r) DPS_STAT.OUT_SW && !b.flag (DPS r) DPS_STAT.RAMP &&
      !b.flag (DPS r) DPS_STAT.BOLTED

/-- The valid codes of the output (R94): of R81 for the mode in force, or 0 to VMAX. -/
def genRange (b : Block) : Unit2 → Nat × Nat
  | .slice s => if forcesV (b.get (SLC s) PMU_CFG.MODE) then (13108, 249036) else (0, 262143)
  | .dps r => (0, (b.dpsVmax r).1)

/-- A generator starts (R93): the noise register is loaded and the waveform begins at the base. -/
def genStart (b : Block) (u : Unit2) : Block :=
  let r := genRegs u
  if b.flag r.base r.run && !b.flag r.base r.act && b.genQuiet u && !b.held && !(b.gen r.unit).needOff && b.atBoundary then
    let b := b.updGen r.unit (fun g => { g with lfsr := b.get r.base r.seed, leg := 0, pos := 0, offs := 0 })
    (b.setFlag r.base r.act true).set r.base r.out (b.get r.base r.target)
  else b

end Block

/-- The noise register advanced one state (R93): x^23 + x^18 + 1, the new bit entering at bit 0. -/
def lfsrNext (n : Nat) : Nat := (n * 2 + b01 (bit n 22 != bit n 17)) % 2 ^ 23

/-- The next point of a waveform with amplitude `A` and step `G` (R93): leg, position in the leg, noise register and offset from
the base. -/
def genNext (wave A G : Nat) (g : GenSt) : GenSt :=
  if wave = 2 then
    let n := lfsrNext g.lfsr
    { g with lfsr := n, offs := Int.ofNat (n % 65536 * (2 * A + 1) / 65536) - A }
  else if wave = 1 then
    if g.leg = 0 then
      let p := g.pos + 1
      if A ≤ p * G then { g with leg := 1, pos := 0, offs := A } else { g with pos := p, offs := Int.ofNat (p * G) }
    else if g.leg = 1 then { g with leg := 2, pos := 0, offs := -Int.ofNat A }
    else
      let p := g.pos + 1
      if 2 * A ≤ p * G then { g with leg := 1, pos := 0, offs := A } else { g with pos := p, offs := Int.ofNat (p * G) - A }
  else
    let p := g.pos + 1
    let m := min (p * G) A
    let v : Int := if g.leg = 0 then m else if g.leg = 1 then Int.ofNat A - m else if g.leg = 2 then -Int.ofNat m
      else Int.ofNat m - A
    if A ≤ p * G then { g with leg := (g.leg + 1) % 4, pos := 0, offs := v } else { g with pos := p, offs := v }

namespace Block

/-- VMAX, which bounds the generator of a regulator, agrees with its complement (R290); a slice has none. -/
def genLimitOk (b : Block) : Unit2 → Bool
  | .slice _ => true
  | .dps r => (b.dpsVmax r).2

/-- The base of a slice's generator is the present output code without its offset (R94, R112). -/
def genBase (b : Block) : Unit2 → Block
  | .slice s => b.set (SLC s) FORCE_ACT.OUT (b.get (SLC s) PMU_FORCE.CODE)
  | .dps r => b.updDps r (fun d => { d with out := b.get (DPS r) DPS_V.CODE, pos := b.get (DPS r) DPS_V.CODE })

/-- The fault source of a unit (R391). -/
def unitSource : Unit2 → Nat
  | .slice s => s
  | .dps r => 322 + r

/-- At each generator interval the output takes the next point about the present target, replaced by the nearest valid code where it is
none (R93, R94). A VMAX that fails its complement at this use is Severe, and the bolt stops the generator (R290). -/
def genStep (b : Block) (u : Unit2) : Block :=
  let r := genRegs u
  if b.flag r.base r.act && onGrid b 0 (b.get r.base r.gintv) then
    if !b.genLimitOk u then b.fault (unitSource u) 7 else
    let b := b.genBase u
    let g := genNext (b.get r.base r.wave) (b.get r.base r.ampl) (b.get r.base r.gstep) (b.gen r.unit)
    let b := b.updGen r.unit (fun _ => g)
    let v : Int := Int.ofNat (b.get r.base r.target) + g.offs
    let lim := b.genRange u
    if v < Int.ofNat lim.1 then (b.set r.base r.out lim.1).count r.base r.clips 1
    else if Int.ofNat lim.2 < v then (b.set r.base r.out lim.2).count r.base r.clips 1
    else b.set r.base r.out v.toNat
  else b

/-! ### Read-back supervision (R97 to R100) -/

/-- Entries of the supervision list of field `f` (R97). -/
def rbLen (f : Nat) : Nat := if f = 0 ∨ f = 8 then 179 else 176

/-- Unit (slice, or 272 + regulator) and DAC index of entry `n` of the list of field `f` (R97). -/
def rbEntry (f n : Nat) : Nat × Nat :=
  if n < 170 then (17 * f + n / 10, n % 10)
  else
    let j := (n - 170) / 3
    (272 + (if j < 2 then 2 * f + j else if f = 0 then 32 else 33), 16 + (n - 170) % 3)

/-- Settling time of a DAC in sub-ticks (R83). -/
def rbSettle (i : Nat) : Nat := if i < 7 then 150 else if i = 7 then 200 else if i = 16 then 0 else 100

/-- A DAC that ramps, or whose generator runs, or of a retired slice (R97, R98). -/
def rbBusy (b : Block) (u i : Nat) : Bool :=
  if u < 272 then
    b.slcRole u == 3 || (i < 7 && bit (b.get (SLC u) LVL_ACT1.RAMP) i) ||
    (i == 7 && (b.flag (SLC u) FORCE_ACT.RAMP || b.flag (SLC u) GEN_STAT.RUN_ACT))
  else i == 16 && (b.flag (DPS (u - 272)) DPS_STAT.RAMP || b.flag (DPS (u - 272)) DPS_GEN_STAT.RUN_ACT)

/-- The sub-tick at which a DAC last changed its code. -/
def rbTouched (b : Block) (u i : Nat) : Nat := Sparse.get 0 (u * 32 + i) b.touched

/-- The entry is skipped by a slot that starts at `t` (R97, R98): it is busy, or its code changed less than its settling time before. -/
def rbSkip (b : Block) (t u i : Nat) : Bool :=
  let c := b.rbTouched u i
  b.rbBusy u i || (c != 0 && decide (c ≤ t ∧ t < c + rbSettle i))

/-- The code of the entry has changed, or begun to, during the slot that started at `t` and ends now (R98). -/
def rbChanged (b : Block) (t u i : Nat) : Bool := b.rbBusy u i || decide (t < b.rbTouched u i)

/-- The next entry of the list that a slot starting at `t` does not skip, from position `n`, looking at no more than `fuel` of them. -/
def rbNext (b : Block) (f t : Nat) : Nat → Nat → Option Nat
  | 0, _ => none
  | fuel + 1, n =>
    let e := rbEntry f (n % rbLen f)
    if b.rbSkip t e.1 e.2 then b.rbNext f t fuel (n + 1) else some n

/-- The thresholds that a monitor judges with: the clear codes while clearing or bolting holds them (R106). A clear code written meanwhile
is judged with at once, though the level and force DACs stay at the code that they took (DESIGN CHOICE, log entry 160: R89 and R90 name
the codes, and do not say that a later write moves a DAC). -/
def wmThresholds (b : Block) (m : MonRegs) : Nat × Nat :=
  if b.flag m.base m.clrHeld then
    if m.unit < 272 then ((b.thClear m.unit).1, (b.thClear m.unit).2.1)
    else ((b.dpsThClear (m.unit - 272)).1, (b.dpsThClear (m.unit - 272)).2.1)
  else (b.get m.base m.hi, b.get m.base m.lo)

/-- The code that DAC `i` of unit `u` should present, the steps of its scale and its zero in µV (R65, R81, R98, R278). -/
def rbNominal (b : Block) (u i : Nat) : Nat × Nat × Int :=
  if u < 272 then
    if i < 7 then (b.get (SLC u) (lvlAct i), 65536, -2500000)
    else if i = 7 then (b.get (SLC u) FORCE_ACT.OUT, 262144, -2500000)
    else
      let t := b.wmThresholds (monSlice u)
      (if i = 8 then t.1 else t.2, 4096, -2500000)
  else if i = 16 then ((b.dps (u - 272)).out, 65536, 0)
  else
    let t := b.wmThresholds (monDps (u - 272))
    (if i = 17 then t.1 else t.2, 4096, -500000)

/-- The tolerance of a DAC's class, in units of 0.1 mV (R99, R115). -/
def rbTol (b : Block) (f i : Nat) : Nat :=
  if i < 7 then b.get (FLD f) RB_TOL.LVL else if i = 7 then b.get (FLD f) RB_TOL.FORCE
  else if i = 16 then b.get (FLD f) RB_TOL.DPS else b.get (FLD f) RB_TOL.THR

/-- The measured voltage `uv`, in µV, lies within the tolerance of the nominal value (R99). -/
def rbWithin (b : Block) (f u i : Nat) (uv : Int) : Bool :=
  let n := b.rbNominal u i
  let diff : Int := (uv - n.2.2) * n.2.1 - Int.ofNat (n.1 * 10000000)
  decide (diff.natAbs ≤ b.rbTol f i * 100 * n.2.1)

/-- The calibration engine works with the digitiser of field `f` (R100, R416). -/
def calDig (b : Block) (f : Nat) : Bool := b.cal.run.any (fun r => r.field == f && decide (r.task ≤ 4))

/-- A slot that starts at `t` fits (R100, R261): neither an acquisition nor the calibration engine has the converter, and it ends before
the next acquisition scheduled, 1 µs before one in HS mode. An acquisition whose t0 is not known yet bars none. -/
def rbFits (b : Block) (f t : Nat) : Bool :=
  let st := b.get (FLD f) DIG_STAT.STATE
  !b.calDig f && (st == 0 || (st == 1 && match (b.dig f).t0 with
    | some t0 => decide (t + 240 + (if b.flag (FLD f) DIG_CFG.MODE then 100 else 0) ≤ t0)
    | none => true))

/-- The slot that started at `t` and ends now was not discarded (R261): the converter has not been taken meanwhile. -/
def rbWhole (b : Block) (f t : Nat) : Bool := b.rbFits f t && decide ((b.rb f).used ≤ t)

/-- A cycle of the list is complete (R88): it is counted, and the clear codes of every unit of the list are checked. -/
def rbCycle (b : Block) (f : Nat) : Block :=
  let badS := ((List.range 17).map (fun j => 17 * f + j)).filter (fun s => b.slcRole s != 3 && !b.slcClearOk s)
  let badR := ([2 * f, 2 * f + 1] ++ (if f = 0 then [32] else if f = 8 then [33] else [])).filter
    (fun r => !((b.dpsClear r).2 && (b.dpsThClear r).2.2))
  let b := b.count (FLD f) RB_STAT.CYCLES 1
  let b := badS.foldl (fun b s => b.fault s 4) b
  badR.foldl (fun b r => b.fault (322 + r) 7) b

/-- The entry at position `n` has been checked: the list moves on; after the last entry a cycle is complete (R97, R98). -/
def rbAdvance (b : Block) (f n : Nat) : Block :=
  let wrap := n + 1 == rbLen f
  let b := b.updRb f (fun r => { r with
    pos := if wrap then 0 else n + 1, miss := 0, checked := Sparse.set 0 n b.time.ticks r.checked })
  if wrap then b.rbCycle f else b

/-- A mismatch on entry `n` (R99): counted and recorded; the second in a row raises the read-back fault source and the list
moves on, the first takes the entry again. -/
def rbMismatch (b : Block) (f n u i : Nat) : Block :=
  let b := b.count (FLD f) RB_MISS.COUNT 1
  let b := (b.set (FLD f) RB_MISS.UNIT (if u < 272 then u else u - 272)).set (FLD f) RB_MISS.DAC i
  let b := if u < 272 then (b.count (SLC u) RB_SLC.MISS 1).set (SLC u) RB_SLC.LAST_DAC i else b
  if (b.rb f).miss = 0 then b.updRb f (fun r => { r with pos := n % rbLen f, miss := 1 })
  else
    let b := if u < 272 then b.fault u 2 else b.fault (322 + (u - 272)) 6
    b.rbAdvance f n

/-- The entry that the slot starting at `t` and ending now checks: the one chosen at its start, or, where the list stood still then, the
first that is not skipped. -/
def rbEntryNow (b : Block) (f t : Nat) : Option Nat :=
  let r := b.rb f
  if r.selAt = t then r.sel else b.rbNext f t (rbLen f) r.pos

/-- The next slot starts now with the first entry that it does not skip. -/
def rbChoose (b : Block) (f : Nat) : Block :=
  b.updRb f (fun r => { r with sel := b.rbNext f b.time.now (rbLen f) r.pos, selAt := b.time.now })

/-- The slot that started at `t` has measured entry `n` of the list, below its length: it is judged, or taken again where its code changed
meanwhile (R98, R99). -/
def rbJudge (b : Block) (f t n : Nat) (uv : Int) : Block :=
  let e := rbEntry f n
  let b := if n = (b.rb f).pos then b else b.updRb f (fun r => { r with pos := n, miss := 0 })
  if b.rbChanged t e.1 e.2 then b
  else if b.rbWithin f e.1 e.2 uv then b.rbAdvance f n
  else b.rbMismatch f n e.1 e.2

/-- A read-back slot of 2.4 µs ends with the measured voltage `uv` in µV (R98, R99). Passing over the end of the list by skipping completes
a cycle too. -/
def rbSlot (b : Block) (f : Nat) (uv : Int) : Block :=
  let t := b.time.now - 240
  if b.flag (FLD f) RB_CTRL.EN && b.rbWhole f t then
    match b.rbEntryNow f t with
    | none => b.rbChoose f
    | some n => (((if n < rbLen f then b else b.rbCycle f).rbJudge f t (n % rbLen f) uv)).rbChoose f
  else b

/-- RB_STAT.AGE: ticks since the oldest entry of the list was last checked (R100). -/
def rbAge (b : Block) (f : Nat) : Nat :=
  let oldest := (List.range (rbLen f)).foldl (fun m n =>
    if n < 170 && b.slcRole (17 * f + n / 10) == 3 then m else min m (Sparse.get 0 n (b.rb f).checked)) b.time.ticks
  min (b.time.ticks - oldest) 0xFFFFFF

/-- RB_STAT.STATE (R100, R115): 1 while the slot in progress, or one that started now, fits, else PAUSED. -/
def rbState (b : Block) (f : Nat) : Nat :=
  let at_ := (b.rb f).selAt
  if !b.flag (FLD f) RB_CTRL.EN then 0
  else if b.rbFits f (if b.time.now < at_ + 240 then at_ else b.time.now) then 1 else 2

/-- AGE crosses MAXAGE: the read-back-overdue source of the field is raised once per crossing (R100). -/
def rbOverdue (b : Block) (f : Nat) : Block :=
  if b.get (FLD f) RB_CTRL.MAXAGE < b.rbAge f then
    if (b.rb f).overdue then b else (b.updRb f (fun r => { r with overdue := true })).fault (272 + f) 1
  else b.updRb f (fun r => { r with overdue := false })

end Block

/-! ### The commands -/

/-- SLEW_STEP (R84). -/
def execSlewStep (d : DacId) (st : State) : Host.Outcome State Fault Refusal := .next (st.on (fun b => b.slewStep d))
/-- CLR_N_ASSERT (R89). -/
def execClrNAssert (st : State) : Host.Outcome State Fault Refusal := .next (st.on Block.clrAssert)
/-- CLR_N_DEASSERT (R91). -/
def execClrNDeassert (st : State) : Host.Outcome State Fault Refusal := .next (st.on Block.clrDeassert)
/-- CLR_REL (R91). -/
def execClrRel (st : State) : Host.Outcome State Fault Refusal := .next (st.on Block.clrRelease)
/-- CLEAR_RELEASE_APPLY (R91). -/
def execClearReleaseApply (st : State) : Host.Outcome State Fault Refusal := .next (st.on Block.clrApply)
/-- GENERATOR_START (R93). -/
def execGeneratorStart (g : Unit2) (st : State) : Host.Outcome State Fault Refusal := .next (st.on (fun b => b.genStart g))
/-- GENERATOR_STEP (R93). -/
def execGeneratorStep (g : Unit2) (st : State) : Host.Outcome State Fault Refusal := .next (st.on (fun b => b.genStep g))
/-- READBACK_SLOT (R98). -/
def execReadbackSlot (f : Fin 16) (uv : Int) (st : State) : Host.Outcome State Fault Refusal := .next (st.on (fun b => b.rbSlot f uv))
/-- READBACK_OVERDUE (R100). -/
def execReadbackOverdue (f : Fin 16) (st : State) : Host.Outcome State Fault Refusal := .next (st.on (fun b => b.rbOverdue f))

end Sys2Proof.Machine
end

