-- ==== Sys2Proof/Machine/Monitors.lean ====
section
/-!
DEFINITION. The commands of the window monitors (ch. 4, R101 to R111) and the supply guard (R288).
-/
namespace Sys2Proof.Machine

/-- The node voltage `uv`, in µV, lies above threshold code `c` of a DAC whose zero is `z` µV (R81). -/
def aboveTh (uv z : Int) (c : Int) : Bool := decide (c * 10000000 < (uv - z) * 4096)

/-- The node voltage lies below a threshold code (R81). -/
def belowTh (uv z : Int) (c : Int) : Bool := decide ((uv - z) * 4096 < c * 10000000)

/-- RAW of a sample from the previous RAW, the voltage and the hysteresis (R103): 2 INSIDE, 3 ABOVE, 4 BELOW. -/
def rawOf (prev : Nat) (uv z : Int) (hi lo h : Nat) : Nat :=
  if prev = 3 then
    if aboveTh uv z (Int.ofNat hi - h) then 3 else if belowTh uv z lo then 4 else 2
  else if prev = 4 then
    if belowTh uv z (Int.ofNat lo + h) then 4 else if aboveTh uv z hi then 3 else 2
  else
    if aboveTh uv z hi then 3 else if belowTh uv z lo then 4 else 2

/-- RAW of a channel's sample at `uv` µV (R103): above +7.000 V it is ABOVE and below −2.000 V BELOW, whatever the hysteresis (R487). -/
def rawChan (prev : Nat) (uv : Int) (hi lo h : Nat) : Nat :=
  if 7000000 < uv then 3 else if uv < -2000000 then 4 else rawOf prev uv (-2500000) hi lo h

/-- VERDICT after a sample (R105): it follows RAW, or with LATCH holds the first ABOVE or BELOW. -/
def verdictOf (latch : Bool) (verdict raw : Nat) : Nat := if latch && (verdict == 3 || verdict == 4) then verdict else raw

namespace Block

/-- VERDICT becomes `v`; a change into ABOVE, BELOW or INVALID raises the unit's source while IRQ is 1 (R106). -/
def setVerdict (b : Block) (m : MonRegs) (v : Nat) : Block :=
  let old := b.get m.base m.verd
  let b := b.set m.base m.verd v
  b.arriveIf (v != old && (v == 3 || v == 4 || v == 5) && b.flag m.base m.irq) m.source

/-- The sample of this tick is not taken: the thresholds changed at its boundary and its power-up falls less than 1 µs after it
(R101). -/
def wmSkips (b : Block) (m : MonRegs) : Bool :=
  (b.wm m.unit).thAt == some b.time.lastB && decide (min (b.get m.base m.ofs) (b.k - 5) < 100)

/-- One sample with RAW `raw` taken into RAW, VERDICT, the SEEN bits and the counts (R105). -/
def wmTake (b : Block) (m : MonRegs) (raw : Nat) : Block :=
  let prev := b.get m.base m.raw
  let b := (b.set m.base m.raw raw).set m.base m.tick b.tick
  let b := if raw = 3 then b.setFlag m.base m.seenA true else if raw = 4 then b.setFlag m.base m.seenB true else b
  let b := if raw = 3 ∧ prev ≠ 3 then b.count m.base m.above 1 else if raw = 4 ∧ prev ≠ 4 then b.count m.base m.below 1 else b
  b.setVerdict m (verdictOf (b.flag m.base m.latch) (b.get m.base m.verd) raw)

/-- A monitor enabled in force takes a sample (R101 to R106), `raw` telling RAW from the previous RAW, the thresholds and the
hysteresis. -/
def wmSample (b : Block) (m : MonRegs) (raw : Nat → Nat → Nat → Nat → Nat) : Block :=
  if !b.flag m.base m.en then b
  else if b.wmSkips m then b.count m.base m.skips 1
  else
    let t := b.wmThresholds m
    if t.1 ≤ t.2 then b.wmTake m 5
    else b.wmTake m (raw (b.get m.base m.raw) t.1 t.2 (b.get m.base m.hys))

/-- With GUARD a verdict of ABOVE bolts the regulator as Severe (R288). -/
def dpsGuard (b : Block) (r : Nat) : Block :=
  if b.flag (DPS r) DPS_CTRL.GUARD && b.get (DPS r) DPS_WM_STAT.VERDICT == 3 && !b.flag (DPS r) DPS_STAT.BOLTED then
    (b.count (DPS r) DPS_EVCNT.GUARD 1).fault (322 + r) 4
  else b

/-- One step of a self-check with the comparator pair observed (R109 to R111): 0b11 expected for swap, 0b10 for tie-high, 0b01
for tie-low. -/
def chkStep (b : Block) (r : Nat) (pair : Nat) : Block :=
  let ph := (b.wm (272 + r)).chk
  let judge := fun (b : Block) (raw res : Fld) (want : Nat) =>
    let b := b.set (DPS r) raw pair
    if pair = want then b.set (DPS r) res 1 else (b.set (DPS r) res 2).fault (322 + r) 5
  let next := fun (b : Block) (n : Nat) => b.updWm (272 + r) (fun w => { w with chk := n })
  if ph = 1 then
    if b.get (DPS r) DPS_WM_STAT.RAW = 2 then next (judge b DPS_WM_CHK.RAW_SWAP DPS_WM_CHK.SWAP 3) 2
    else next ((b.set (DPS r) DPS_WM_CHK.RAW_SWAP pair).set (DPS r) DPS_WM_CHK.SWAP 3) 2
  else if ph = 2 then next (judge b DPS_WM_CHK.RAW_TIEH DPS_WM_CHK.TIEH 2) 3
  else next (judge b DPS_WM_CHK.RAW_TIEL DPS_WM_CHK.TIEL 1) 0

/-- The sample of a DPS monitor: a self-check step while a check runs, else a judged sample and the guard (R109, R288). -/
def dpsSample (b : Block) (r : Nat) (uv : Int) (hi lo : Bool) : Block :=
  if (b.wm (272 + r)).chk ≠ 0 then b.chkStep r (b01 hi * 2 + b01 lo)
  else (b.wmSample (monDps r) (fun p hi lo h => rawOf p uv (-500000) hi lo h)).dpsGuard r

/-- A window monitor samples its node: `uv` in µV, and the comparator pair that a self-check observes (R101, R109). -/
def sampleUnit (b : Block) (u : Unit2) (uv : Int) (hi lo : Bool) : Block :=
  match u with
  | .slice s => b.wmSample (monSlice s) (fun p hi lo h => rawChan p uv hi lo h)
  | .dps r => b.dpsSample r uv hi lo

/-- A write of WM_STAT.CLEAR: VERDICT takes the present RAW (R105). -/
def wmClear (b : Block) (u : Unit2) : Block :=
  match u with
  | .slice s => b.setVerdict (monSlice s) (b.get (SLC s) WM_STAT.RAW)
  | .dps r => (b.setVerdict (monDps r) (b.get (DPS r) DPS_WM_STAT.RAW)).dpsGuard r

/-- A write of DPS_WM_CHK.START: a check starts at the next tick, unless one is running (R109). -/
def chkRequest (b : Block) (r : Nat) : Block :=
  if (b.wm (272 + r)).chk = 0 then b.updWm (272 + r) (fun w => { w with chkReq := true }) else b

/-- A self-check of regulator `r` starts at this tick (R109). -/
def chkStart (b : Block) (r : Nat) : Block :=
  (b.updWm (272 + r) (fun w => { w with chk := 1, chkReq := false })).set (DPS r) DPS_WM_CHK.TICK b.tick

/-- A requested check starts at the tick boundary (R109). -/
def chkBoundary (b : Block) (r : Nat) : Block :=
  if (b.wm (272 + r)).chkReq && (b.wm (272 + r)).chk == 0 then b.chkStart r else b

/-- At a tick at which TICKNO mod INTV is 0 a check starts (R109). -/
def chkAuto (b : Block) (r : Nat) : Block :=
  let n := b.get (DPS r) DPS_WM_CHK.INTV
  if n ≠ 0 ∧ b.tick % n = 0 ∧ (b.wm (272 + r)).chk = 0 ∧ b.atBoundary then b.chkStart r else b

end Block

/-! ### The commands -/

/-- WM_SAMPLE (R101). -/
def execWmSample (m : Unit2) (uv : Int) (hi lo : Bool) (st : State) : Host.Outcome State Fault Refusal :=
  .next (st.on (fun b => b.sampleUnit m uv hi lo))
/-- WM_CLEAR (R105). -/
def execWmClear (m : Unit2) (st : State) : Host.Outcome State Fault Refusal := .next (st.on (fun b => b.wmClear m))
/-- DPS_WM_CHK_START (R109). -/
def execDpsWmChkStart (r : Fin 34) (st : State) : Host.Outcome State Fault Refusal := .next (st.on (fun b => b.chkRequest r))
/-- DPS_SELFCHECK_AUTO_START (R109). -/
def execDpsSelfcheckAutoStart (r : Fin 34) (st : State) : Host.Outcome State Fault Refusal := .next (st.on (fun b => b.chkAuto r))

end Sys2Proof.Machine
end

