-- ==== Sys2Proof/Machine/Supplies.lean ====
section
/-!
DEFINITION. The commands of the device power supplies (ch. 13).
-/
namespace Sys2Proof.Machine
namespace Block

/-- At B(L + UP_DLY) the output switch closes and the DAC ramps from code 0 to the target (R286), or to its clear code while clearing holds
it (R90, R290); in booster mode the gate land is driven (R283). -/
def dpsConnect (b : Block) (r : Nat) : Block :=
  if b.flag (DPS r) DPS_STAT.WAIT && (b.dps r).waitLeft == 0 && b.atBoundary then
    let b := (b.setFlag (DPS r) DPS_STAT.WAIT false).setFlag (DPS r) DPS_STAT.OUT_SW true
    let b := b.updDps r (fun d => { d with gateHeld := !b.flag (DPS r) DPS_CTRL.BOOST })
    (if b.held then b.dpsClrStart r else b.dpsRamp r).dpsSync r
  else b

/-- At the first tick boundary after the ramp to code 0 the switch opens and the discharge closes (R286); a bolted regulator
opens its switch, closes its discharge and takes its gate land to 0 V (R289). The DAC then is at code 0, and the gate land of a disabled
regulator is held at 0 V too, as from power-up (R286; DEDUCED, log entry 161). -/
def dpsDisconnect (b : Block) (r : Nat) : Block :=
  let d := b.dps r
  if (d.ending || d.bolt == 2) && d.pos == 0 && b.atBoundary then
    let b := b.setFlag (DPS r) DPS_STAT.OUT_SW false
    let b := b.updDps r (fun d => { d with
      ending := false, bolt := if d.bolt = 2 then 0 else d.bolt, clrRamp := false, gateHeld := true })
    let b := (if (b.dps r).out = 0 then b else b.dpsOut r 0).dpsMove r false
    ((b.setFlag (DPS r) DPS_STAT.GATE_LIM false).dpsSync r).endReaction
  else b

/-- OVR of a conversion (R66, R292): the voltage code or the current code is at its limit. -/
def dpsOver (vc ic : Nat) : Bool :=
  [0, 262143].contains (vc % 2 ^ 18) || [131071, 131072].contains (ic % 2 ^ 18)

/-- A connected regulator converts its sense voltage and its current once per tick (R287); `clamp`: its current clamp acted meanwhile. -/
def dpsConversion (b : Block) (r vc ic : Nat) (clamp : Bool) : Block :=
  if b.flag (DPS r) DPS_STAT.OUT_SW ∧ (b.dps r).measNext = none then
    let ramp := b.flag (DPS r) DPS_STAT.RAMP ||
      decide (b.sampleAt (b.get (DPS r) DPS_TIME.OFS) < (b.dps r).rangeUntil)
    let w := b.tick16 * 2 ^ 48 + 2 ^ 47 + b01 (clamp || b.flag (DPS r) DPS_STAT.CLAMP) * 2 ^ 46 + b01 ramp * 2 ^ 45 + b01 (dpsOver vc ic) * 2 ^ 44 +
      b.get (DPS r) DPS_CTRL.IRANGE * 2 ^ 42 + vc % 2 ^ 18 * 2 ^ 18 + ic % 2 ^ 18
    b.updDps r (fun d => { d with measNext := some w })
  else b

/-- Force and sense have differed by more than 500 mV for 10 µs while EN is 1: local sense, counted, reported (R281). -/
def senseOpen (b : Block) (r : Nat) : Block :=
  if b.flag (DPS r) DPS_CTRL.EN && !b.flag (DPS r) DPS_STAT.SENSE_OPEN then
    let b := (b.setFlag (DPS r) DPS_STAT.SENSE_OPEN true).count (DPS r) DPS_EVCNT.SENSE_OPEN 1
    ((b.dpsSync r).setLive (322 + r) true).fault (322 + r) 1
  else b

/-- The load would draw `load`, in 0.5 nA and without its sign: the regulator enters its current clamp where that reaches the clamp in force
(R279, R282, R285). -/
def dpsClampEnter (b : Block) (r load : Nat) : Block :=
  if b.flag (DPS r) DPS_STAT.CLAMP ∨ load < b.dpsClamp r then b
  else
    let b := (b.setFlag (DPS r) DPS_STAT.CLAMP true).count (DPS r) DPS_EVCNT.CLAMP 1
    let b := b.updDps r (fun d => { d with clampAt := some b.time.now, clampRaised := false })
    b.arriveIf (b.flag (DPS r) DPS_CTRL.CLAMP_IRQ) (400 + r)

/-- The regulator leaves its clamp (R282). -/
def dpsClampLeave (b : Block) (r : Nat) : Block :=
  (b.setFlag (DPS r) DPS_STAT.CLAMP false).updDps r (fun d => { d with clampAt := none, clampRaised := false })

/-- A clamp that has acted for longer than 10 ms without a break raises the overload source once (R282). -/
def dpsOverload (b : Block) (r : Nat) : Block :=
  match (b.dps r).clampAt with
  | some t =>
    if b.flag (DPS r) DPS_STAT.CLAMP && !(b.dps r).clampRaised && decide (t + 1000000 < b.time.now) then
      (b.updDps r (fun d => { d with clampRaised := true })).fault (322 + r) 2
    else b
  | none => b

/-- The booster gate has sat at a limit for longer than 100 µs (R283): each such stay sets GATE_LIM and raises the source. -/
def gateLimit (b : Block) (r : Nat) : Block :=
  if b.flag (DPS r) DPS_CTRL.BOOST && b.flag (DPS r) DPS_STAT.OUT_SW then
    (b.setFlag (DPS r) DPS_STAT.GATE_LIM true).fault (322 + r) 3
  else b

/-- The groups of a bolt: once every regulator of the higher groups has ended its bolt ramp, the next group starts (R289). -/
def boltGroups (b : Block) : Block :=
  if b.atBoundary then
    ((List.range 34).foldl (fun b r =>
      let id := (b.dps r).boltId
      if (b.dps r).bolt = 1 ∧ (List.range 34).all (fun q => !((b.dps q).boltId == id && (b.dps q).bolt == 2 && (b.dps q).pos != 0))
      then b.groupStart id else b) b).endReaction
  else b

/-- At an idle boundary of the worn regulator's field a spare takes it over, or, with EN 1 in force or a ramp in progress, the
substitution is deferred and source 611 raised (R291, R407, R408). The land's last 64 ticks follow it (R164). -/
def dpsSubst (b : Block) (r : Nat) : Block :=
  match b.dpsLand r with
  | some l =>
    let sp := if l < 16 then 32 else 33
    if b.flt.due.contains (1, r) ∧ b.idle (l / 2) ∧ !b.boundaryBusy (l / 2) ∧ b.atBoundary ∧ b.get (DPS sp) DPS_ID.ROLE = 1 ∧
        !b.flag (DPS sp) DPS_STAT.BOLTED then
      if b.flag (DPS r) DPS_CTRL.EN || b.flag (DPS r) DPS_STAT.RAMP || b.flag (DPS r) DPS_STAT.OUT_SW then
        (b.rmRecord 1 1 0 r sp).arrive 611
      else
        let displaced := b.get (8 * (272 + (sp - 32))) HASP_ENT.OWNER
        let b := (b.haspTake (272 + (sp - 32))).copyUnit dpsRegs (DPS r) (DPS sp)
        let b := (b.set (DPS r) DPS_ID.ROLE 3).set (DPS r) DPS_ID.LAND 0x3F
        let b := (b.set (DPS sp) DPS_ID.ROLE 2).set (DPS sp) DPS_ID.LAND l
        let b := if sp = 32 then (b.setFlag 0 RM_DPSMAP.SUB32 true).set 0 RM_DPSMAP.LAND32 l
          else (b.setFlag 0 RM_DPSMAP.SUB33 true).set 0 RM_DPSMAP.LAND33 l
        let b := b.set 0 RM_STAT.SPARE_DPS (b.get 0 RM_STAT.SPARE_DPS - 1)
        let b := b.updDps sp (fun d => { d with calSet := l, meas := (b.dps r).meas })
        let b := b.updWm (272 + sp) (fun w => { w with hist := (b.wm (272 + r)).hist })
        let b := if b.flt.degraded.any (fun d => d.1 == 322 + r) then b.mark 1 (300 + l / 2) else b
        let b := { b with flt := { b.flt with due := b.flt.due.filter (fun e => e != (1, r)) } }
        (((b.dpsSync r).dpsSync sp).rmRecord 1 0 displaced r sp).mapChanged.arrive 610
    else b
  | none => b

end Block

/-! ### The commands -/

/-- DPS_CONNECT (R286). -/
def execDpsConnect (r : Fin 34) (st : State) : Host.Outcome State Fault Refusal := .next (st.on (fun b => b.dpsConnect r))
/-- DPS_DISCONNECT (R286). -/
def execDpsDisconnect (r : Fin 34) (st : State) : Host.Outcome State Fault Refusal := .next (st.on (fun b => b.dpsDisconnect r))
/-- DPS_CONVERSION (R287). -/
def execDpsConversion (r : Fin 34) (vc ic : Nat) (clamp : Bool) (st : State) : Host.Outcome State Fault Refusal :=
  .next (st.on (fun b => b.dpsConversion r vc ic clamp))
/-- DPS_SENSE_OPEN (R281). -/
def execDpsSenseOpen (r : Fin 34) (st : State) : Host.Outcome State Fault Refusal := .next (st.on (fun b => b.senseOpen r))
/-- DPS_CLAMP_ENTRY (R282). -/
def execDpsClampEntry (x : DpsLoad) (st : State) : Host.Outcome State Fault Refusal :=
  .next (st.on (fun b => b.dpsClampEnter x.r x.load))
/-- DPS_CLAMP_EXIT (R282). -/
def execDpsClampExit (r : Fin 34) (st : State) : Host.Outcome State Fault Refusal := .next (st.on (fun b => b.dpsClampLeave r))
/-- DPS_OVERLOAD (R282). -/
def execDpsOverload (r : Fin 34) (st : State) : Host.Outcome State Fault Refusal := .next (st.on (fun b => b.dpsOverload r))
/-- DPS_GATE_LIMIT (R283). -/
def execDpsGateLimit (r : Fin 34) (st : State) : Host.Outcome State Fault Refusal := .next (st.on (fun b => b.gateLimit r))
/-- DPS_BOLT_GROUP (R289). -/
def execDpsBoltGroup (st : State) : Host.Outcome State Fault Refusal := .next (st.on Block.boltGroups)
/-- DPS_SUBSTITUTION (R291). -/
def execDpsSubstitution (r : Fin 34) (st : State) : Host.Outcome State Fault Refusal := .next (st.on (fun b => b.dpsSubst r))

end Sys2Proof.Machine
end

