-- ==== Sys2Proof/Machine/Repair.lean ====
section
/-!
DEFINITION. The commands of fault collection, the repair manager and the ALIVE output (ch. 20).
-/
namespace Sys2Proof.Machine
namespace Block

/-- FC_WIN of source `s` as its drain counter uses it: the one in force, or the reset value of R396 where its complement fails (R397). -/
def drainWin (b : Block) (s : Nat) : Nat := if b.fcCfgOk s then b.get (8 * s) FC_CFG.WIN else fcWin s

/-- The drain counter of source `s` has reached FC_WIN: it returns to 0 and the bucket loses one event (R394). The use of FC_WIN checks its
complement, and a mismatch raises source 419 (R397). -/
def bucketDrain (b : Block) (s : Nat) : Block :=
  if b.get (8 * s) FC_STATE.BUCKET ≠ 0 ∧ b.drainWin s ≤ Sparse.get 0 s b.flt.drain then
    let b := b.faultIf (!b.fcCfgOk s) 419 0
    ({ b with flt := { b.flt with drain := Sparse.set 0 s 0 b.flt.drain } }).set (8 * s) FC_STATE.BUCKET
      (b.get (8 * s) FC_STATE.BUCKET - 1)
  else b

/-- The drain counters of filled buckets advance at a tick boundary (R394). -/
def drainTick (b : Block) : Block :=
  { b with flt := { b.flt with
    drain := (List.range 640).foldl (fun d s =>
      if b.get (8 * s) FC_STATE.BUCKET = 0 then d else Sparse.set 0 s (Sparse.get 0 s d + 1) d) b.flt.drain } }

/-- A write of FC_CFG[s] (R397, R8): refused with source 402 unless the upper half is the exact complement of the lower half as
written; ignored for sources 419 to 422 (R396); reserved encodings keep their field. -/
def fcCfgWrite (b : Block) (s v : Nat) : Block :=
  let low := v % 2 ^ 32
  if low + v / 2 ^ 32 % 2 ^ 32 ≠ 2 ^ 32 - 1 then b.fault 402 0
  else if 419 ≤ s ∧ s ≤ 422 then b
  else
    let bad := bits low 4 2 == 3 || bits low 16 16 == 0
    let b := ((b.set (8 * s) FC_CFG.BASE (bits low 0 2)).set (8 * s) FC_CFG.PROMO (bits low 2 2)).set (8 * s) FC_CFG.N (bits low 8 8)
    let b := if bits low 4 2 = 3 then b else b.set (8 * s) FC_CFG.SCOPE (bits low 4 2)
    let b := if bits low 16 16 = 0 then b else b.set (8 * s) FC_CFG.WIN (bits low 16 16)
    let stored := b.get (8 * s) FC_CFG.BASE + 4 * b.get (8 * s) FC_CFG.PROMO + 16 * b.get (8 * s) FC_CFG.SCOPE +
      256 * b.get (8 * s) FC_CFG.N + 65536 * b.get (8 * s) FC_CFG.WIN
    let b := b.set (8 * s) FC_CFG.NCFG (2 ^ 32 - 1 - stored)
    b.faultIf bad 402 0

/-- The flag DEGRADED ends for what unit `sc` marks (R298): 0 every record, 1 + f records of field f, 32 + c sites of channel
c, 300 + f sites that hold a channel of field f. -/
def degradedEnd (b : Block) (sc : Nat × Nat) : Block :=
  match sc.1 with
  | 0 => match b.slcChan sc.2 with
    | some c => b.mark 1 (32 + c)
    | none => b
  | 1 => match b.dpsLand sc.2 with
    | some l => b.mark 1 (300 + l / 2)
    | none => b
  | 2 => b.mark 1 (1 + sc.2)
  | _ => b.mark 1 0

/-- The sticky bit of source `s` is written with one: a Degraded hold ends while the live bit is 0 (R393, R398). -/
def stickyClear (b : Block) (s : Nat) : Block :=
  let b := b.set (8 * (s / 64)) FC_STICKY.BITS (clrBit (b.get (8 * (s / 64)) FC_STICKY.BITS) (s % 64))
  match b.flt.degraded.find? (fun x => x.1 == s) with
  | some x =>
    if b.flag (8 * s) FC_STATE.LIVE then b
    else
      let b := { b with flt := { b.flt with degraded := b.flt.degraded.filter (fun y => y.1 != s) } }
      let b := if b.get (8 * s) FC_STATE.HELD = 1 then b.set (8 * s) FC_STATE.HELD 0 else b
      b.degradedEnd (b.faultUnit x.1)
  | none => b

/-- A write of FC_STICKY[i] (R393). -/
def stickyWrite (b : Block) (i v : Nat) : Block :=
  (List.range 64).foldl (fun b k => if bit v k then b.stickyClear (64 * i + k) else b) b

/-! ### Recovery (R403) -/

/-- A write of FC_RECOVER (R403): scope and unit are stored, and GO requests recovery at the next tick boundary. -/
def recoverWrite (b : Block) (v : Nat) : Block :=
  let b := (b.set 0 FC_RECOVER.SCOPE (bits v 48 2)).set 0 FC_RECOVER.UNIT (bits v 32 9)
  if bit v 63 then { b with flt := { b.flt with recover := true } } else b

/-- The scope is at its idle boundary (R17, R403). -/
def scopeIdle (b : Block) (sc : Nat × Nat) : Bool :=
  match sc.1 with
  | 0 => b.idle (sc.2 / 17)
  | 1 => match b.dpsLand sc.2 with
    | some l => b.idle (l / 2)
    | none => true
  | 2 => if sc.2 < 16 then b.idle sc.2 else true
  | _ => b.moduleIdle

/-- Every register instance `d` of slice `s` holds a value with its complement of `w` bits (R405). -/
def pairOk (b : Block) (s w : Nat) (d : RegDef) (c n : Fld) : Bool :=
  (instOffs d.dims).all (fun o => b.get (SLC s + o) c + b.get (SLC s + o) n == 2 ^ w - 1)

/-- The complement-checked values of a slice: clear codes, clamp limits, calibration constants, and the site-map entry of the
channel it serves (R405). -/
def slcValuesOk (b : Block) (s : Nat) : Bool :=
  b.slcClearOk s && b.pairOk s 32 CAL_K.reg CAL_K.K CAL_K.NK && b.pairOk s 16 CAL_CLIM.reg CAL_CLIM.LIM CAL_CLIM.NLIM &&
  match b.slcChan s with
  | some c => b.get (8 * c) SITE_CH.SITE + 256 * b.get (8 * c) SITE_CH.VALID + b.get (8 * c) SITE_CH.NSITE == 511
  | none => true

/-- Every complement-checked value of a scope passes (R403, R405); the fault thresholds are the module's. -/
def scopeValuesOk (b : Block) (sc : Nat × Nat) : Bool :=
  (b.scopeSlices sc).all b.slcValuesOk && (b.scopeRegs sc).all b.dpsClearOk &&
  (sc.1 != 3 || (List.range 640).all b.fcCfgOk)

/-- The bolt that a recovery request names. -/
def recoverTarget (b : Block) : Option BoltRec :=
  b.flt.bolts.find? (fun r => r.scope == b.get 0 FC_RECOVER.SCOPE && r.unit == (if r.scope = 3 then r.unit else b.get 0 FC_RECOVER.UNIT))

/-- The result code of a recovery (R403): the first reason that applies, in the order given, or 1. -/
def recoverResult (b : Block) : Nat :=
  if b.flt.grave then 6
  else match b.recoverTarget with
  | none => 5
  | some r =>
    if !b.scopeIdle (r.scope, r.unit) then 2
    else if r.srcs.any (fun s => b.flag (8 * s) FC_STATE.LIVE) then 3
    else if !b.scopeValuesOk (r.scope, r.unit) then 4 else 1

/-- Shadow storage of a unit's RWS registers returns to the values in force, untagged (R403, R488). -/
def shadowToForce (regs : List RegDef) (base : Nat) (b : Block) : Block :=
  regs.foldl (fun b d => (instOffs d.dims).foldl (fun b o => (d.flds.filter (fun F => F.acc == .rws)).foldl (fun b F =>
    let b := b.setSh (base + o) F (b.get (base + o) F)
    { b with tags := Sparse.set 0 (fkey (base + o) F) 0 b.tags }) b) b) b

/-- A slice that no bolt covers any more is no longer bolted; its series disconnect closes where a local bolt had opened it (R52), and its DLL is to lock (R236, R403). -/
def slcRecover (b : Block) (s : Nat) : Block :=
  if b.slcBolted s && !b.flt.bolts.any (fun r => covers (r.scope, r.unit) (0, s)) then
    let b := (b.setFlag (SLC s) SLC_STAT.BOLTED false).setFlag (SLC s) WM_STAT.CLR_HELD b.held
    let b := (b.updSlc s (fun x => { x with localOpen := false })).slcSync s
    (shadowToForce sliceRegs (SLC s) b).updTia s (fun t => { t with dllDue := true })
  else b

/-- The field of the land that regulator `r` serves, as a bolt scope covers it. -/
def dpsCovered (b : Block) (r : Nat) : Bool :=
  b.flt.bolts.any (fun x => x.scope == 3 || (x.scope == 1 && x.unit == r) ||
    (x.scope == 2 && (b.dpsLand r).map (fun l => l / 2) == some x.unit))

/-- A regulator that no bolt covers any more is no longer bolted (R403). -/
def dpsRecover (b : Block) (r : Nat) : Block :=
  if b.flag (DPS r) DPS_STAT.BOLTED && !b.dpsCovered r then
    let b := (b.setFlag (DPS r) DPS_STAT.BOLTED false).setFlag (DPS r) DPS_WM_STAT.CLR_HELD b.held
    (shadowToForce dpsRegs (DPS r) b).dpsSync r
  else b

/-- At the next tick boundary a requested recovery succeeds or fails (R403). -/
def recoveryApply (b : Block) : Block :=
  if b.flt.recover && b.atBoundary then
    let b := { b with flt := { b.flt with recover := false } }
    let res := b.recoverResult
    let b := b.set 0 FC_RECOVER.RESULT res
    match b.recoverTarget with
    | some r =>
      if res = 1 then
        let b := { b with flt := { b.flt with bolts := b.flt.bolts.filter (fun x => x != r) } }
        let b := (b.scopeSlices (r.scope, r.unit)).foldl slcRecover b
        let b := (b.scopeRegs (r.scope, r.unit)).foldl dpsRecover b
        let b := r.srcs.foldl (fun b s => b.set (8 * s) FC_STATE.HELD 0) b
        b.aliveSync.arrive 633
      else b
    | none => b
  else b

/-! ### ALIVE (R404) -/

/-- Every 500 µs ALIVE toggles while no stop holds (R404). -/
def aliveToggle (b : Block) : Block :=
  if b.get 0 FC_ALIVE.STATE = 0 then b.setFlag 0 FC_ALIVE.LEVEL (!b.flag 0 FC_ALIVE.LEVEL) else b

/-- No heartbeat for 2 ms (R404). -/
def heartbeatLoss (b : Block) : Block :=
  if b.flag 0 FC_ALIVE.HB && decide (b.flt.heartbeat + 200000 ≤ b.time.now) then
    ((b.setFlag 0 FC_ALIVE.HB false).aliveSync).fault 423 0
  else b

/-- The Keeper receives the tick heartbeat (R42, R404). -/
def heartbeat (b : Block) : Block :=
  ({ b with flt := { b.flt with heartbeat := b.time.now } }.setFlag 0 FC_ALIVE.HB true).aliveSync

/-! ### Repair manager (R406 to R409) -/

/-- A write of RM_CMD (R407): GO asks for the substitution of a unit at its next opportunity; KIND 3 is reserved with or without GO
(R8). -/
def rmCmd (b : Block) (v : Nat) : Block :=
  if bits v 48 2 = 3 then b.fault 410 0
  else if !bit v 63 then b
  else
    let u := bits v 32 9
    match bits v 48 2 with
    | 0 => if u < 272 then b.substDue u else b
    | 1 => if u < 34 then b.substDue (272 + u) else b
    | _ => if u < 17 then b.substDue (306 + u) else b

/-- The lane of die `d` with the most errors since the last repair (R408). -/
def worstLane (b : Block) (d : Nat) : Nat :=
  (List.range 68).foldl (fun w l => if Sparse.get 0 (d * 68 + w) b.flt.laneErr < Sparse.get 0 (d * 68 + l) b.flt.laneErr then l else w) 0

/-- The spare-lane count of a direction (R413): towards the PE die, or towards the core die. -/
def spareLanes (out : Bool) : Fld := if out then RM_D2D.SP_OUT else RM_D2D.SP_IN

/-- At a module idle boundary the worst lane starts being replaced by a spare lane of its direction; with no spare left the
source stays Degraded, which RM_LAST records (R408, R413). -/
def laneRepair (b : Block) (d : Nat) (out : Bool) : Block :=
  if b.flt.laneDue.contains d && b.moduleIdle && b.bwork.isEmpty && b.atBoundary then
    let b := { b with flt := { b.flt with laneDue := b.flt.laneDue.filter (· != d) } }
    if b.get (8 * d) (spareLanes out) < 4 then
      ({ b with flt := { b.flt with laneBusy := b.flt.laneBusy ++ [(d, out)] } }).workStart none 5 d
    else b.rmRecord 5 2 0 (b.worstLane d) 0
  else b

/-- The smallest lane eye of the link of PE die `d`, as its training or lane repair measures it (R11, R413): an analogue fact that
start-up and the end of a lane repair bring. -/
def laneEye (b : Block) (d eye : Nat) : Block := b.set (8 * d) RM_D2D.EYE (min 255 eye)

/-- The lane replacement ends after 20 µs (R408); `eye` is the smallest lane eye of the link as it then stands. -/
def laneDone (b : Block) (d eye : Nat) : Block :=
  let b := if b.flt.laneBusy.any (fun x => x.1 == d) then b.laneEye d eye else b
  match b.flt.laneBusy.find? (fun x => x.1 == d) with
  | some x =>
    let lane := b.worstLane d
    let b := { b with flt := { b.flt with
      laneBusy := b.flt.laneBusy.filter (fun y => y.1 != d)
      laneErr := b.flt.laneErr.filter (fun y => y.1 / 68 != d) } }
    let b := (b.bump (8 * d) (spareLanes x.2)).set (8 * d) RM_D2D.TICK b.tick
    (((b.rmRecord 5 0 0 lane (b.get (8 * d) (spareLanes x.2))).mapChanged).workEnd 5 d).arrive 616
  | none => b

/-- A die-to-die word with a parity error has been replayed up to three times (R11): each faulty transfer is a lane error, counted on
its lane and in ERR; each replay, and an error that persists, is an event of the link's source (R391: "parity replays and lane
errors"; DEDUCED, log entry 33). A word that comes clean after `n` replays had `n` faulty transfers; one that never does had four. -/
def d2dParity (b : Block) (d lane replays : Nat) (persistent : Bool) : Block :=
  let errs := if persistent then 4 else replays
  let key := d * 68 + lane % 68
  let b := { b with flt := { b.flt with laneErr := Sparse.set 0 key (Sparse.get 0 key b.flt.laneErr + errs) b.flt.laneErr } }
  let b := b.count (8 * d) RM_D2D.ERR errs
  let b := b.set (8 * d) RM_D2D.WORST (b.worstLane d)
  (List.range errs).foldl (fun b _ => b.fault (388 + d) 0) b

/-- A change of the repair map starts a background save into the older slot, a flash job (R432), and is mirrored in the Keeper (R409). -/
def mapSave (b : Block) : Block :=
  if b.flt.mapDirty && !b.flag 0 RM_STAT.SAVE_PEND then
    let b := { b with flt := { b.flt with mapDirty := false }, keeper := { b.keeper with mirror := b.keeper.mirror + 1 } }
    ((b.setFlag 0 RM_STAT.SAVE_PEND true).bump 0 RM_STAT.MAPSEQ).flashAsk 0 0
  else b

/-- The save completes or fails (R409), once its flash job has ended; `ok` is the comparison of the slot read back. -/
def mapSaveDone (b : Block) (good : Bool) : Block :=
  match b.flashOutcome 0 0 with
  | none => b
  | some wrote =>
    let ok := wrote && good
    let b := b.flashForget 0 0
    let b := (b.setFlag 0 RM_STAT.SAVE_PEND false).setFlag 0 RM_STAT.SAVE_FAIL (!ok)
    let b := { b with flt := { b.flt with saves := if ok then b.get 0 RM_STAT.MAPSEQ else b.flt.saves } }
    b.arrive (if ok then 614 else 615)

/-- A waiting notification enters the result queue as entries come free, oldest first (R303). -/
def notifEnqueue (b : Block) : Block :=
  match b.res.waiting with
  | [] => b
  | n :: rest =>
    let go := fun r => (({ b with res := { b.res with waiting := rest } }).enqueueNotif n r).endReaction
    if b.queueUsed < 4032 then go false else if b.reservedUsed < 64 then go true else b

end Block

/-! ### The commands -/

/-- BUCKET_DRAIN (R394). -/
def execBucketDrain (n : Fin 640) (st : State) : Host.Outcome State Fault Refusal := .next (st.on (fun b => b.bucketDrain n))
/-- FC_CFG_WRITE (R397). -/
def execFcCfgWrite (n : Fin 640) (v : Word) (st : State) : Host.Outcome State Fault Refusal :=
  .next (st.on (fun b => b.fcCfgWrite n v.toNat))
/-- FC_STICKY_CLEAR (R393). -/
def execFcStickyClear (i : Fin 10) (v : Word) (st : State) : Host.Outcome State Fault Refusal :=
  .next (st.on (fun b => b.stickyWrite i v.toNat))
/-- FC_RECOVER (R403). -/
def execFcRecover (v : Word) (st : State) : Host.Outcome State Fault Refusal := .next (st.on (fun b => b.recoverWrite v.toNat))
/-- RECOVERY_APPLY (R403). -/
def execRecoveryApply (st : State) : Host.Outcome State Fault Refusal := .next (st.on Block.recoveryApply)
/-- ALIVE_TOGGLE (R404). -/
def execAliveToggle (st : State) : Host.Outcome State Fault Refusal := .next (st.on Block.aliveToggle)
/-- HEARTBEAT_LOSS (R404). -/
def execHeartbeatLoss (st : State) : Host.Outcome State Fault Refusal := .next (st.on Block.heartbeatLoss)
/-- RM_CMD (R407). -/
def execRmCmd (v : Word) (st : State) : Host.Outcome State Fault Refusal := .next (st.on (fun b => b.rmCmd v.toNat))
/-- LANE_REPAIR (R408). -/
def execLaneRepair (d : Fin 4) (out : Bool) (st : State) : Host.Outcome State Fault Refusal := .next (st.on (fun b => b.laneRepair d out))
/-- LANE_REPAIR_DONE (R408). -/
def execLaneRepairDone (x : LaneEye) (st : State) : Host.Outcome State Fault Refusal :=
  .next (st.on (fun b => b.laneDone x.d x.eye))
/-- D2D_PARITY_ERROR (R11). -/
def execD2dParityError (d : Fin 4) (lane : Nat) (replays : Fin 4) (persistent : Bool) (st : State) :
    Host.Outcome State Fault Refusal := .next (st.on (fun b => b.d2dParity d lane replays persistent))
/-- REPAIR_MAP_SAVE (R409). -/
def execRepairMapSave (st : State) : Host.Outcome State Fault Refusal := .next (st.on Block.mapSave)
/-- REPAIR_MAP_SAVE_DONE (R409). -/
def execRepairMapSaveDone (ok : Bool) (st : State) : Host.Outcome State Fault Refusal := .next (st.on (fun b => b.mapSaveDone ok))
/-- NOTIFICATION_ENQUEUE (R303). -/
def execNotificationEnqueue (st : State) : Host.Outcome State Fault Refusal := .next (st.on Block.notifEnqueue)

end Sys2Proof.Machine
end

