-- ==== Sys2Proof/Machine/Operands.lean ====
section
/-!
DEFINITION. The operand forms of the Halyr instruction set (R141 to R142, R163 to R164, ch. 7): what a 64-bit instruction word
says, its decoder with the two causes of R142, and the encoder written from the same tables.
-/
namespace Sys2Proof.Machine

/-- A general register, G0 to G31, or a register field that names something else. -/
abbrev Reg := Fin 32

/-- The immediate of 41 bits (R141). -/
abbrev Imm := Fin (2 ^ 41)

/-- The three-operand instructions of arithmetic and logic (R167). -/
inductive AluOp where
  | add | sub | mul | and | or | xor
  deriving DecidableEq, Repr

/-- The shifts (R167). -/
inductive ShiftOp where
  | shl | shr | sar
  deriving DecidableEq, Repr

/-- The settings class (R171). -/
inductive SetOp where
  | lvl | pmu | slc | slew | gen | wm | dps
  deriving DecidableEq, Repr

/-- An operand that an instruction takes from its immediate or from a general register. -/
inductive Src (n : Nat) where
  | imm (v : Fin n)
  | reg (a : Reg)
  deriving DecidableEq, Repr

/-- A tick selector (R164): an offset from the frame under construction, two's complement, or an absolute tick in a register. -/
inductive TickSel where
  | rel (ofs : Fin 65536)
  | abs (a : Reg)
  deriving DecidableEq, Repr

/-- An instruction of ch. 7 with its operands. -/
inductive Halyr where
  | nop | endI
  | jmp (c : Fin 14) (t : Fin 32768)
  | callI (c : Fin 14) (t : Fin 32768)
  | ret
  | rete (abandon : Bool)
  | loopI (l : Fin 8) (t : Fin 32768)
  | ldl (l : Fin 8) (v : Fin (2 ^ 32))
  | waitev (d a : Reg)
  | syncf
  | waitt (k : Src 65536)
  | alu (op : AluOp) (d a b : Reg)
  | addi (d a : Reg) (i : Imm)
  | shift (op : ShiftOp) (d a : Reg) (n : Src 64)
  | cmp (a b : Reg)
  | cmpi (a : Reg) (i : Imm)
  | mov (d a : Reg)
  | movi (d : Reg) (i : Imm)
  | movhi (d : Reg) (i : Fin (2 ^ 23))
  | ext (d a : Reg) (lsb msb : Fin 64) (signed : Bool)
  | mfs (d sr : Reg)
  | mts (sr a : Reg)
  | ldd (d a : Reg) (i : Imm)
  | std (a b : Reg) (i : Imm)
  | ldh (d a : Reg) (w : Fin 4096)
  | tseli (t : Fin 64)
  | tselr (a : Reg)
  | play (a : Reg)
  | fallow (n : Src (2 ^ 32))
  | sjmp (a : Reg)
  | syncs
  | setting (op : SetOp) (sel : Fin 32) (mask : Src 65536) (value : Src (2 ^ 18))
  | meas (d : Reg) (m : TickSel) (ch : Fin 16)
  | verd (d : Reg) (m : TickSel) (ch : Fin 16)
  | verdall (d : Reg) (m : TickSel)
  | limit (d a : Reg) (t : Fin 1024)
  | fmask (d : Reg) (clear : Bool)
  | tiastamp (sel : Fin 32) (mask : Src 65536) (value : Src (2 ^ 18))
  | freq (ch : Fin 16) (gate : Fin (2 ^ 24))
  | freqrd (d : Reg) (ch : Fin 16)
  | carm (d : Reg)
  | ctrig | cstop
  | trgout (line : Fin 8) (act : Fin 3)
  | ddsrun (entry : Fin 4096)
  | ddsstep | ddsstop
  | digacq (d : Reg)
  | hconn (k : Fin 17)
  | result (a : Reg) (site : Fin 256) (test : Fin 65536) (k : Fin 16) (kind : Fin 5)
  | binI (site : Fin 256) (bin : Fin 64)
  | signalI (anchor : Bool) (src : Src 1024)
  | evackSrc (d : Fin 1024)
  | evackLine (l : Fin 64)
  | hclaim (d : Reg) (i : Fin 512) (tag : Fin 65536)
  | hrel (d : Reg) (i : Fin 512)
  | sweep (d a b : Reg) (mask : Fin 65536) (sel : Fin 10) (count : Fin 1024) (dwell : Fin 16) (mch : Fin 16)
  | searchI (d a b : Reg) (k : Fin 16) (sel : Fin 10) (judge : Fin 4) (dwell : Fin 8) (taddr : Fin 1024)
  | measall (d b : Reg) (mask ofs : Fin 65536) (lim : Bool)
  | bmove (d a b : Reg) (count : Fin 2048) (dir : Bool)
  deriving DecidableEq, Repr

/-- The fields of an instruction word (R141). -/
structure HWord where
  op : Nat
  d : Nat
  a : Nat
  b : Nat
  i : Nat
  deriving DecidableEq, Repr

/-- The fields of word `w` (R141). -/
def HWord.split (w : Nat) : HWord := ⟨bits w 56 8, bits w 51 5, bits w 46 5, bits w 41 5, bits w 0 41⟩

/-- The word with the given fields (R141). -/
def HWord.join (h : HWord) : Nat := h.op * 2 ^ 56 + h.d * 2 ^ 51 + h.a * 2 ^ 46 + h.b * 2 ^ 41 + h.i

/-! ### Decoder -/

/-- Program-fault causes of R142 and R160 that a word alone can show. -/
def causeIllegal : Nat := 1
/-- OPERAND (R142, R160). -/
def causeOperand : Nat := 2

/-- An instruction whose unused fields and reserved encodings are as required, else OPERAND (R142). -/
def need (c : Bool) (h : Halyr) : Except Nat Halyr := if c then .ok h else .error causeOperand

namespace HWord

/-- D as a register. -/
def rd (h : HWord) : Reg := Fin.ofNat 32 h.d
/-- A as a register. -/
def ra (h : HWord) : Reg := Fin.ofNat 32 h.a
/-- B as a register. -/
def rb (h : HWord) : Reg := Fin.ofNat 32 h.b
/-- Bits of the immediate as a number below `n`. -/
def fld (h : HWord) (n lo w : Nat) [NeZero n] : Fin n := Fin.ofNat n (bits h.i lo w)

/-- D is not used. -/
def noD (h : HWord) : Bool := h.d == 0
/-- A is not used. -/
def noA (h : HWord) : Bool := h.a == 0
/-- B is not used. -/
def noB (h : HWord) : Bool := h.b == 0
/-- None of D, A and B is used. -/
def noRegs (h : HWord) : Bool := h.d == 0 && h.a == 0 && h.b == 0
/-- Bits of the immediate that must be zero. -/
def z (h : HWord) (lo w : Nat) : Bool := bits h.i lo w == 0

/-- The tick selector of a measurement instruction (R164). -/
def sel (h : HWord) : TickSel := if bit h.i 40 then .abs h.ra else .rel (h.fld 65536 24 16)
/-- A tick selector without stray fields: with ABS, IMM[39:24] is zero; without it A is not used. -/
def selOk (h : HWord) : Bool := if bit h.i 40 then h.z 24 16 else h.noA
/-- The mask of the setting format (R163). -/
def mask (h : HWord) : Src 65536 := if bit h.i 23 then .reg h.ra else .imm (h.fld 65536 25 16)
/-- The value of the setting format (R163). -/
def value (h : HWord) : Src (2 ^ 18) := if bit h.i 24 then .reg h.rb else .imm (h.fld (2 ^ 18) 0 18)
/-- A setting format without stray fields (R163). -/
def setOk (h : HWord) : Bool :=
  h.noD && (if bit h.i 23 then h.z 25 16 else h.noA) && (if bit h.i 24 then h.z 0 18 else h.noB)

/-- Opcodes 0x00 to 0x0A (R165). -/
def decodeFlow (h : HWord) : Except Nat Halyr :=
  match h.op with
  | 0x00 => need (h.noRegs && h.z 0 41) .nop
  | 0x01 => need (h.noRegs && h.z 0 41) .endI
  | 0x02 => need (h.noRegs && h.z 15 21 && decide (bits h.i 36 5 < 14)) (.jmp (h.fld 14 36 5) (h.fld 32768 0 15))
  | 0x03 => need (h.noRegs && h.z 15 21 && decide (bits h.i 36 5 < 14)) (.callI (h.fld 14 36 5) (h.fld 32768 0 15))
  | 0x04 => need (h.noRegs && h.z 0 41) .ret
  | 0x05 => need (h.noRegs && h.z 1 40) (.rete (bit h.i 0))
  | 0x06 => need (decide (h.d < 8) && h.noA && h.noB && h.z 15 26) (.loopI (Fin.ofNat 8 h.d) (h.fld 32768 0 15))
  | 0x07 => need (decide (h.d < 8) && h.noA && h.noB && h.z 32 9) (.ldl (Fin.ofNat 8 h.d) (h.fld (2 ^ 32) 0 32))
  | 0x08 => need (h.noB && h.z 0 41) (.waitev h.rd h.ra)
  | 0x09 => need (h.noRegs && h.z 0 41) .syncf
  | 0x0A =>
    if bit h.i 16 then need (h.noD && h.noB && h.z 17 24 && h.z 0 16) (.waitt (.reg h.ra))
    else need (h.noRegs && h.z 17 24) (.waitt (.imm (h.fld 65536 0 16)))
  | _ => .error causeIllegal

/-- A shift (R167). -/
def decodeShift (h : HWord) (op : ShiftOp) : Except Nat Halyr :=
  if bit h.i 6 then need (h.noB && h.z 7 34) (.shift op h.rd h.ra (.imm (h.fld 64 0 6)))
  else need (h.z 0 6 && h.z 7 34) (.shift op h.rd h.ra (.reg h.rb))

/-- Opcodes 0x20 to 0x34 (R167). -/
def decodeArith (h : HWord) : Except Nat Halyr :=
  match h.op with
  | 0x20 => need (h.z 0 41) (.alu .add h.rd h.ra h.rb)
  | 0x21 => need (h.z 0 41) (.alu .sub h.rd h.ra h.rb)
  | 0x22 => need h.noB (.addi h.rd h.ra (h.fld (2 ^ 41) 0 41))
  | 0x23 => need (h.z 0 41) (.alu .mul h.rd h.ra h.rb)
  | 0x24 => need (h.z 0 41) (.alu .and h.rd h.ra h.rb)
  | 0x25 => need (h.z 0 41) (.alu .or h.rd h.ra h.rb)
  | 0x26 => need (h.z 0 41) (.alu .xor h.rd h.ra h.rb)
  | 0x27 => h.decodeShift .shl
  | 0x28 => h.decodeShift .shr
  | 0x29 => h.decodeShift .sar
  | 0x2A => need (h.noD && h.z 0 41) (.cmp h.ra h.rb)
  | 0x2B => need (h.noD && h.noB) (.cmpi h.ra (h.fld (2 ^ 41) 0 41))
  | 0x2C => need (h.noB && h.z 0 41) (.mov h.rd h.ra)
  | 0x2D => need (h.noA && h.noB) (.movi h.rd (h.fld (2 ^ 41) 0 41))
  | 0x2E => need (h.noA && h.noB && h.z 23 18) (.movhi h.rd (h.fld (2 ^ 23) 0 23))
  | 0x2F =>
    need (h.noB && h.z 13 28 && decide (bits h.i 0 6 ≤ bits h.i 6 6)) (.ext h.rd h.ra (h.fld 64 0 6) (h.fld 64 6 6) (bit h.i 12))
  | 0x30 => need (h.noB && h.z 0 41) (.mfs h.rd h.ra)
  | 0x31 => need (h.noB && h.z 0 41) (.mts h.rd h.ra)
  | 0x32 => need h.noB (.ldd h.rd h.ra (h.fld (2 ^ 41) 0 41))
  | 0x33 => need h.noD (.std h.ra h.rb (h.fld (2 ^ 41) 0 41))
  | 0x34 => need (h.noB && h.z 12 29) (.ldh h.rd h.ra (h.fld 4096 0 12))
  | _ => .error causeIllegal

/-- Opcodes 0x40 to 0x45 (R168). -/
def decodeStream (h : HWord) : Except Nat Halyr :=
  match h.op with
  | 0x40 => need (h.noRegs && h.z 6 35) (.tseli (h.fld 64 0 6))
  | 0x41 => need (h.noD && h.noB && h.z 0 41) (.tselr h.ra)
  | 0x42 => need (h.noD && h.noB && h.z 0 41) (.play h.ra)
  | 0x43 =>
    if bit h.i 32 then need (h.noD && h.noB && h.z 33 8 && h.z 0 32) (.fallow (.reg h.ra))
    else need (h.noRegs && h.z 33 8) (.fallow (.imm (h.fld (2 ^ 32) 0 32)))
  | 0x44 => need (h.noD && h.noB && h.z 0 41) (.sjmp h.ra)
  | 0x45 => need (h.noRegs && h.z 0 41) .syncs
  | _ => .error causeIllegal

/-- Opcodes 0x60 to 0x66 (R171). -/
def decodeSet (h : HWord) : Except Nat Halyr :=
  match h.op with
  | 0x60 => need h.setOk (.setting .lvl (h.fld 32 18 5) h.mask h.value)
  | 0x61 => need h.setOk (.setting .pmu (h.fld 32 18 5) h.mask h.value)
  | 0x62 => need h.setOk (.setting .slc (h.fld 32 18 5) h.mask h.value)
  | 0x63 => need h.setOk (.setting .slew (h.fld 32 18 5) h.mask h.value)
  | 0x64 => need h.setOk (.setting .gen (h.fld 32 18 5) h.mask h.value)
  | 0x65 => need h.setOk (.setting .wm (h.fld 32 18 5) h.mask h.value)
  | 0x66 => need h.setOk (.setting .dps (h.fld 32 18 5) h.mask h.value)
  | _ => .error causeIllegal

/-- Opcodes 0x80 to 0x87 (R174). -/
def decodeMeas (h : HWord) : Except Nat Halyr :=
  match h.op with
  | 0x80 => need (h.noB && h.selOk && h.z 4 20) (.meas h.rd h.sel (h.fld 16 0 4))
  | 0x81 => need (h.noB && h.selOk && h.z 4 20) (.verd h.rd h.sel (h.fld 16 0 4))
  | 0x82 => need (h.noB && h.selOk && h.z 0 24) (.verdall h.rd h.sel)
  | 0x83 => need (h.noB && h.z 10 31) (.limit h.rd h.ra (h.fld 1024 0 10))
  | 0x84 => need (h.noA && h.noB && h.z 1 40) (.fmask h.rd (bit h.i 0))
  | 0x85 => need h.setOk (.tiastamp (h.fld 32 18 5) h.mask h.value)
  | 0x86 => need (h.noRegs && h.z 4 4 && h.z 32 9) (.freq (h.fld 16 0 4) (h.fld (2 ^ 24) 8 24))
  | 0x87 => need (h.noA && h.noB && h.z 4 37) (.freqrd h.rd (h.fld 16 0 4))
  | _ => .error causeIllegal

/-- Opcodes 0xA0 to 0xA3 and 0xB0 to 0xB4 (R176). -/
def decodeUnits (h : HWord) : Except Nat Halyr :=
  match h.op with
  | 0xA0 => need (h.noA && h.noB && h.z 0 41) (.carm h.rd)
  | 0xA1 => need (h.noRegs && h.z 0 41) .ctrig
  | 0xA2 => need (h.noRegs && h.z 0 41) .cstop
  | 0xA3 =>
    need (h.noRegs && h.z 3 1 && h.z 6 35 && decide (bits h.i 4 2 < 3)) (.trgout (h.fld 8 0 3) (h.fld 3 4 2))
  | 0xB0 => need (h.noRegs && h.z 12 29) (.ddsrun (h.fld 4096 0 12))
  | 0xB1 => need (h.noRegs && h.z 0 41) .ddsstep
  | 0xB2 => need (h.noRegs && h.z 0 41) .ddsstop
  | 0xB3 => need (h.noA && h.noB && h.z 0 41) (.digacq h.rd)
  | 0xB4 => need (h.noRegs && h.z 5 36 && decide (bits h.i 0 5 < 17)) (.hconn (h.fld 17 0 5))
  | _ => .error causeIllegal

/-- The kinds of RESULT that read Ga: PARAM and USER (R178). -/
def resultUsesA (kind : Nat) : Bool := kind == 1 || kind == 4

/-- Opcodes 0xC0, 0xC1 (R177) and 0xD0 to 0xD3 (R179). -/
def decodeResults (h : HWord) : Except Nat Halyr :=
  match h.op with
  | 0xC0 =>
    need (h.noD && h.noB && h.z 5 8 && decide (bits h.i 0 5 < 5) && (resultUsesA (bits h.i 0 5) || h.noA))
      (.result h.ra (h.fld 256 33 8) (h.fld 65536 17 16) (h.fld 16 13 4) (h.fld 5 0 5))
  | 0xC1 => need (h.noRegs && h.z 6 27) (.binI (h.fld 256 33 8) (h.fld 64 0 6))
  | 0xD0 =>
    if bit h.i 11 then need (h.noD && h.noB && h.z 12 29 && h.z 0 10) (.signalI (bit h.i 10) (.reg h.ra))
    else need (h.noRegs && h.z 12 29) (.signalI (bit h.i 10) (.imm (h.fld 1024 0 10)))
  | 0xD1 =>
    if bit h.i 11 then need (h.noRegs && h.z 12 29 && h.z 6 5) (.evackLine (h.fld 64 0 6))
    else need (h.noRegs && h.z 12 29 && h.z 10 1) (.evackSrc (h.fld 1024 0 10))
  | 0xD2 => need (h.noA && h.noB && h.z 25 16) (.hclaim h.rd (h.fld 512 0 9) (h.fld 65536 9 16))
  | 0xD3 => need (h.noA && h.noB && h.z 9 32) (.hrel h.rd (h.fld 512 0 9))
  | _ => .error causeIllegal

/-- Opcodes 0xE0 to 0xE3 (R181). -/
def decodeLong (h : HWord) : Except Nat Halyr :=
  match h.op with
  | 0xE0 =>
    need (h.z 23 2 && decide (bits h.i 18 5 < 10) && !h.z 8 10 && !h.z 4 4)
      (.sweep h.rd h.ra h.rb (h.fld 65536 25 16) (h.fld 10 18 5) (h.fld 1024 8 10) (h.fld 16 4 4) (h.fld 16 0 4))
  | 0xE1 =>
    need (h.z 0 16 && decide (bits h.i 32 5 < 10) && decide (bits h.i 29 3 < 4) && !h.z 26 3 &&
      (decide (2 ≤ bits h.i 29 3) || h.z 16 10))
      (.searchI h.rd h.ra h.rb (h.fld 16 37 4) (h.fld 10 32 5) (h.fld 4 29 3) (h.fld 8 26 3) (h.fld 1024 16 10))
  | 0xE2 => need (h.noA && h.z 1 8 && (bit h.i 0 || h.noB)) (.measall h.rd h.rb (h.fld 65536 25 16) (h.fld 65536 9 16) (bit h.i 0))
  | 0xE3 =>
    need (h.z 13 28 && h.z 11 1 && decide (1 ≤ bits h.i 0 11 ∧ bits h.i 0 11 ≤ 1024) && (!bit h.i 12 || h.noB))
      (.bmove h.rd h.ra h.rb (h.fld 2048 0 11) (bit h.i 12))
  | _ => .error causeIllegal

end HWord

/-- What an instruction word says, or the cause of its program fault (R142): ILLEGAL for an opcode that is not assigned, OPERAND
for an unused field that is not zero or a reserved encoding. -/
def decodeWord (w : Nat) : Except Nat Halyr :=
  let h := HWord.split w
  if h.op < 0x20 then h.decodeFlow
  else if h.op < 0x40 then h.decodeArith
  else if h.op < 0x60 then h.decodeStream
  else if h.op < 0x80 then h.decodeSet
  else if h.op < 0xA0 then h.decodeMeas
  else if h.op < 0xC0 then h.decodeUnits
  else if h.op < 0xE0 then h.decodeResults
  else h.decodeLong

/-! ### Encoder -/

/-- The opcode of an arithmetic or logic instruction (R167). -/
def AluOp.code : AluOp → Nat
  | .add => 0x20 | .sub => 0x21 | .mul => 0x23 | .and => 0x24 | .or => 0x25 | .xor => 0x26
/-- The opcode of a shift (R167). -/
def ShiftOp.code : ShiftOp → Nat
  | .shl => 0x27 | .shr => 0x28 | .sar => 0x29
/-- The opcode of a setting (R171). -/
def SetOp.code : SetOp → Nat
  | .lvl => 0x60 | .pmu => 0x61 | .slc => 0x62 | .slew => 0x63 | .gen => 0x64 | .wm => 0x65 | .dps => 0x66

/-- The fields of a setting format (R163). -/
def encodeSetting (op sel : Nat) (mask : Src 65536) (value : Src (2 ^ 18)) : HWord :=
  let m := match mask with
    | .imm v => (0, v.val * 2 ^ 25)
    | .reg a => (a.val, 2 ^ 23)
  let v := match value with
    | .imm v => (0, v.val)
    | .reg b => (b.val, 2 ^ 24)
  ⟨op, 0, m.1, v.1, m.2 + sel * 2 ^ 18 + v.2⟩

/-- The fields of a measurement with tick selector `m` and low bits `c` (R164). -/
def encodeTick (op d : Nat) (m : TickSel) (c : Nat) : HWord :=
  match m with
  | .rel o => ⟨op, d, 0, 0, o.val * 2 ^ 24 + c⟩
  | .abs a => ⟨op, d, a.val, 0, 2 ^ 40 + c⟩

/-- The fields of an instruction's word (R141, ch. 7). -/
def Halyr.fields : Halyr → HWord
  | .nop => ⟨0x00, 0, 0, 0, 0⟩
  | .endI => ⟨0x01, 0, 0, 0, 0⟩
  | .jmp c t => ⟨0x02, 0, 0, 0, c.val * 2 ^ 36 + t.val⟩
  | .callI c t => ⟨0x03, 0, 0, 0, c.val * 2 ^ 36 + t.val⟩
  | .ret => ⟨0x04, 0, 0, 0, 0⟩
  | .rete e => ⟨0x05, 0, 0, 0, b01 e⟩
  | .loopI l t => ⟨0x06, l.val, 0, 0, t.val⟩
  | .ldl l v => ⟨0x07, l.val, 0, 0, v.val⟩
  | .waitev d a => ⟨0x08, d.val, a.val, 0, 0⟩
  | .syncf => ⟨0x09, 0, 0, 0, 0⟩
  | .waitt (.imm k) => ⟨0x0A, 0, 0, 0, k.val⟩
  | .waitt (.reg a) => ⟨0x0A, 0, a.val, 0, 2 ^ 16⟩
  | .alu op d a b => ⟨op.code, d.val, a.val, b.val, 0⟩
  | .addi d a i => ⟨0x22, d.val, a.val, 0, i.val⟩
  | .shift op d a (.imm n) => ⟨op.code, d.val, a.val, 0, 2 ^ 6 + n.val⟩
  | .shift op d a (.reg b) => ⟨op.code, d.val, a.val, b.val, 0⟩
  | .cmp a b => ⟨0x2A, 0, a.val, b.val, 0⟩
  | .cmpi a i => ⟨0x2B, 0, a.val, 0, i.val⟩
  | .mov d a => ⟨0x2C, d.val, a.val, 0, 0⟩
  | .movi d i => ⟨0x2D, d.val, 0, 0, i.val⟩
  | .movhi d i => ⟨0x2E, d.val, 0, 0, i.val⟩
  | .ext d a lsb msb s => ⟨0x2F, d.val, a.val, 0, b01 s * 2 ^ 12 + msb.val * 2 ^ 6 + lsb.val⟩
  | .mfs d sr => ⟨0x30, d.val, sr.val, 0, 0⟩
  | .mts sr a => ⟨0x31, sr.val, a.val, 0, 0⟩
  | .ldd d a i => ⟨0x32, d.val, a.val, 0, i.val⟩
  | .std a b i => ⟨0x33, 0, a.val, b.val, i.val⟩
  | .ldh d a w => ⟨0x34, d.val, a.val, 0, w.val⟩
  | .tseli t => ⟨0x40, 0, 0, 0, t.val⟩
  | .tselr a => ⟨0x41, 0, a.val, 0, 0⟩
  | .play a => ⟨0x42, 0, a.val, 0, 0⟩
  | .fallow (.imm n) => ⟨0x43, 0, 0, 0, n.val⟩
  | .fallow (.reg a) => ⟨0x43, 0, a.val, 0, 2 ^ 32⟩
  | .sjmp a => ⟨0x44, 0, a.val, 0, 0⟩
  | .syncs => ⟨0x45, 0, 0, 0, 0⟩
  | .setting op sel mask value => encodeSetting op.code sel.val mask value
  | .meas d m c => encodeTick 0x80 d.val m c.val
  | .verd d m c => encodeTick 0x81 d.val m c.val
  | .verdall d m => encodeTick 0x82 d.val m 0
  | .limit d a t => ⟨0x83, d.val, a.val, 0, t.val⟩
  | .fmask d c => ⟨0x84, d.val, 0, 0, b01 c⟩
  | .tiastamp sel mask value => encodeSetting 0x85 sel.val mask value
  | .freq c g => ⟨0x86, 0, 0, 0, g.val * 2 ^ 8 + c.val⟩
  | .freqrd d c => ⟨0x87, d.val, 0, 0, c.val⟩
  | .carm d => ⟨0xA0, d.val, 0, 0, 0⟩
  | .ctrig => ⟨0xA1, 0, 0, 0, 0⟩
  | .cstop => ⟨0xA2, 0, 0, 0, 0⟩
  | .trgout l a => ⟨0xA3, 0, 0, 0, a.val * 2 ^ 4 + l.val⟩
  | .ddsrun e => ⟨0xB0, 0, 0, 0, e.val⟩
  | .ddsstep => ⟨0xB1, 0, 0, 0, 0⟩
  | .ddsstop => ⟨0xB2, 0, 0, 0, 0⟩
  | .digacq d => ⟨0xB3, d.val, 0, 0, 0⟩
  | .hconn k => ⟨0xB4, 0, 0, 0, k.val⟩
  | .result a s t k kind => ⟨0xC0, 0, a.val, 0, s.val * 2 ^ 33 + t.val * 2 ^ 17 + k.val * 2 ^ 13 + kind.val⟩
  | .binI s n => ⟨0xC1, 0, 0, 0, s.val * 2 ^ 33 + n.val⟩
  | .signalI an (.imm n) => ⟨0xD0, 0, 0, 0, b01 an * 2 ^ 10 + n.val⟩
  | .signalI an (.reg a) => ⟨0xD0, 0, a.val, 0, 2 ^ 11 + b01 an * 2 ^ 10⟩
  | .evackSrc n => ⟨0xD1, 0, 0, 0, n.val⟩
  | .evackLine l => ⟨0xD1, 0, 0, 0, 2 ^ 11 + l.val⟩
  | .hclaim d i t => ⟨0xD2, d.val, 0, 0, t.val * 2 ^ 9 + i.val⟩
  | .hrel d i => ⟨0xD3, d.val, 0, 0, i.val⟩
  | .sweep d a b m s n w c => ⟨0xE0, d.val, a.val, b.val, m.val * 2 ^ 25 + s.val * 2 ^ 18 + n.val * 2 ^ 8 + w.val * 2 ^ 4 + c.val⟩
  | .searchI d a b k s j w t => ⟨0xE1, d.val, a.val, b.val, k.val * 2 ^ 37 + s.val * 2 ^ 32 + j.val * 2 ^ 29 + w.val * 2 ^ 26 + t.val * 2 ^ 16⟩
  | .measall d b m o l => ⟨0xE2, d.val, 0, b.val, m.val * 2 ^ 25 + o.val * 2 ^ 9 + b01 l⟩
  | .bmove d a b n dir => ⟨0xE3, d.val, a.val, b.val, b01 dir * 2 ^ 12 + n.val⟩

/-- The word of an instruction. -/
def Halyr.encode (h : Halyr) : Nat := h.fields.join

/-- The operand rules that the tables give beyond the widths of the fields (R141, R167, R181, R183): EXT needs msb at or above lsb,
counts and dwells start at 1, and fields that a form does not use are zero: B in MEASALL without LIM and in BMOVE with DIR 1, TADDR in a
SEARCH that judges by the monitor, and A in RESULT of kinds other than PARAM and USER. -/
def Halyr.wf : Halyr → Bool
  | .ext _ _ lsb msb _ => decide (lsb ≤ msb)
  | .sweep _ _ _ _ _ n w _ => n.val != 0 && w.val != 0
  | .searchI _ _ _ _ _ j w t => w.val != 0 && (decide (2 ≤ j.val) || t.val == 0)
  | .result a _ _ _ kind => HWord.resultUsesA kind || a.val == 0
  | .measall _ b _ _ lim => lim || b.val == 0
  | .bmove _ _ b n dir => decide (1 ≤ n.val ∧ n.val ≤ 1024) && (!dir || b.val == 0)
  | _ => true

end Sys2Proof.Machine
end

