-- ==== Sys2Proof/Machine/Flags.lean ====
section
/-!
DEFINITION. FLAGS (R139), the conditions of branches (R148), and the results with their flags of every arithmetic, logic, shift
and compare instruction (R167).
-/
namespace Sys2Proof.Machine

/-- A number cut to 64 bits. -/
def u64 (n : Nat) : Nat := n % 2 ^ 64

/-- A 41-bit immediate sign-extended to 64 bits (R141). -/
def sext41 (i : Nat) : Nat := if i < 2 ^ 40 then i else i + (2 ^ 64 - 2 ^ 41)

/-- FLAGS with Z, N and C of a result and P, F, O and S as they were (R139). -/
def znc (fl r : Nat) (c : Bool) : Nat := fl / 8 * 8 + b01 (r == 0) + 2 * b01 (bit r 63) + 4 * b01 c

/-- FLAGS with Z and N of a result and C as it was. -/
def zn (fl r : Nat) : Nat := znc fl r (bit fl 2)

/-- FLAGS with Z set as given. -/
def putZ (fl : Nat) (z : Bool) : Nat := fl / 2 * 2 + b01 z

/-- FLAGS with P set as given. -/
def putP (fl : Nat) (p : Bool) : Nat := if p then setBit fl 4 else clrBit fl 4

/-- FLAGS after a program write (R139): Z, N, C and P as written; F, O and S can only be cleared. -/
def flagsWrite (fl v : Nat) : Nat :=
  v % 8 + 8 * b01 (bit fl 3 && bit v 3) + 16 * b01 (bit v 4) + 32 * b01 (bit fl 5 && bit v 5) + 64 * b01 (bit fl 6 && bit v 6)

/-- FLAGS after RETE (R153): Z, N, C and P as at entry; F, O and S the OR of entry and now. -/
def flagsRestore (fl saved : Nat) : Nat :=
  saved % 8 + 8 * b01 (bit fl 3 || bit saved 3) + 16 * b01 (bit saved 4) + 32 * b01 (bit fl 5 || bit saved 5) +
    64 * b01 (bit fl 6 || bit saved 6)

/-- The condition of a branch (R148). -/
def condHolds (fl c : Nat) : Bool :=
  match c with
  | 0 => true
  | 1 => bit fl 0
  | 2 => !bit fl 0
  | 3 => bit fl 1
  | 4 => !bit fl 1
  | 5 => bit fl 2
  | 6 => !bit fl 2
  | 7 => bit fl 3
  | 8 => !bit fl 3
  | 9 => bit fl 4
  | 10 => !bit fl 4
  | 11 => bit fl 5
  | 12 => bit fl 6
  | _ => bit fl 3 || bit fl 5 || bit fl 6

/-- Result and carry of an addition (R167). -/
def addC (a b : Nat) : Nat × Bool := (u64 (a + b), decide (2 ^ 64 ≤ a + b))

/-- Result and borrow of a subtraction (R167). -/
def subC (a b : Nat) : Nat × Bool := (u64 (a + 2 ^ 64 - b), decide (a < b))

/-- Result and C of a three-operand instruction (R167). -/
def aluRun (op : AluOp) (a b : Nat) : Nat × Bool :=
  match op with
  | .add => addC a b
  | .sub => subC a b
  | .mul => (u64 (a * b), decide (2 ^ 64 ≤ a * b))
  | .and => (a &&& b, false)
  | .or => (a ||| b, false)
  | .xor => (a ^^^ b, false)

/-- Result and C of a shift by `n` below 64 (R167): C is the last bit shifted out, 0 for a shift of 0. -/
def shiftRun (op : ShiftOp) (a n : Nat) : Nat × Bool :=
  match op with
  | .shl => (u64 (a * 2 ^ n), n != 0 && bit a (64 - n))
  | .shr => (a / 2 ^ n, n != 0 && bit a (n - 1))
  | .sar => (a / 2 ^ n + (if bit a 63 then 2 ^ 64 - 2 ^ (64 - n) else 0), n != 0 && bit a (n - 1))

/-- EXT (R167): bits [msb:lsb], zero-extended or sign-extended. -/
def extRun (a lsb msb : Nat) (signed : Bool) : Nat :=
  let w := msb - lsb + 1
  let v := bits a lsb w
  if signed ∧ bit v (w - 1) then v + (2 ^ 64 - 2 ^ w) else v

/-- LIMIT (R174): 0 inside, 1 below, 2 above, signed. -/
def limitRun (v lo hi : Nat) : Nat :=
  if toSigned 64 v < toSigned 64 lo then 1 else if toSigned 64 hi < toSigned 64 v then 2 else 0

/-- A signed value of `w` bits as a 64-bit word. -/
def sextW (w v : Nat) : Nat := if bit v (w - 1) then v % 2 ^ w + (2 ^ 64 - 2 ^ w) else v % 2 ^ w

end Sys2Proof.Machine
end

