-- ==== Sys2Proof/Machine/Segments.lean ====
section
/-!
DEFINITION. The segment commands, the host's window onto the pages, and the dictionary (ch. 9).
-/
namespace Sys2Proof.Machine
namespace Block

/-- A segment command of queue pair `q` on page `p` ends with a code, which DIR_LAST records (R214). -/
def segDone (b : Block) (q p result code : Nat) : Block := (b.dirLast p (queueOwner q) code).complete q result code

/-- SEG_ALLOC: kind, field, n and hint (R214, R364). -/
def segAlloc (b : Block) (q kind field n hint err : Nat) : Block :=
  let r := b.dirRead hint err
  if !r.2 then r.1.segDone q hint 0 0x36
  else
    let b := r.1
    let ps := b.freePages 1048576 n hint
    if ps.length < n then b.segDone q hint 0 0x30
    else (b.chainAlloc kind field ps).segDone q (ps.headD 0) (ps.headD 0) 0

/-- An import of a seed stream into the chain headed by `p` waits or runs (R444). -/
def importing (b : Block) (p : Nat) : Bool :=
  (List.range 256).any (fun k => b.get (8 * k) OPSTAT.OPC == 0x45 && (b.get (8 * k) OPSTAT.STATE == 1 || b.get (8 * k) OPSTAT.STATE == 2) &&
    b.slotWord k 1 % 2 ^ 20 == p)

/-- The checks that every command on a chain makes first (R214, R218, R444): the code of a refusal, if any. -/
def chainRefuse (b : Block) (p : Nat) : Option Nat :=
  if !b.chainReadable p then some 0x36 else if !b.pgHead p then some 0x31 else if b.importing p then some 0x32 else none

end Block

/-- SEG_SEAL of the chain headed by `p` (R214): its code, 0 where it is done. -/
def sealCode (m : List Host.Cell) (b : Block) (p : Nat) : Nat :=
  match b.chainRefuse p with
  | some c => c
  | none =>
    if b.pgOwner p ≠ 1 then 0x35
    else if b.pgState p ≠ 1 then 0x32
    else if !headerOk m p then 0x33
    else if headerPages m p ≠ (b.chain p).length then 0x34
    else 0

namespace Block

/-- SEG_SEAL: all pages become READY (R214). -/
def segSeal (b : Block) (m : List Host.Cell) (q p err : Nat) : Block :=
  let r := b.dirRead p err
  if !r.2 then r.1.segDone q p 0 0x36
  else
    let c := sealCode m r.1 p
    (if c = 0 then r.1.chainSet 2 p else r.1).segDone q p 0 c

/-- SEG_UNSEAL: READY to FILLING (R214). -/
def segUnseal (b : Block) (q p err : Nat) : Block :=
  let r := b.dirRead p err
  if !r.2 then r.1.segDone q p 0 0x36
  else
    let b := r.1
    match b.chainRefuse p with
    | some c => b.segDone q p 0 c
    | none =>
      if b.pgOwner p ≠ 1 then b.segDone q p 0 0x35
      else if b.pgState p ≠ 2 then b.segDone q p 0 0x32
      else (b.chainSet 1 p).segDone q p 0 0

/-- The code with which SEG_FREE is refused, if it is (R214). -/
def freeCode (b : Block) (p : Nat) : Nat :=
  match b.chainRefuse p with
  | some c => c
  | none => if (b.pgState p = 1 ∨ b.pgState p = 2) ∧ !b.attached p then 0 else 0x32

/-- SEG_FREE: READY or FILLING to FREE; a protected chain is freed by a long operation (R214, R217, R364). -/
def segFree (b : Block) (q p err : Nat) : Block :=
  let r := b.dirRead p err
  if !r.2 then r.1.segDone q p 0 0x36
  else
    let b := r.1
    let c := b.freeCode p
    if c ≠ 0 then b.segDone q p 0 c
    else if b.pgProt p then (b.dirLast p (queueOwner q) (if b.freeSlot.isNone then 0x03 else 0)).takeSlot q []
    else (b.chainFree p).segDone q p 0 0

end Block

/-- The zero-fill of a protected chain ends: every page is zero before it becomes FREE (R217). A chain that has begun to play
meanwhile is not freed: the operation fails with its code, which DIR_LAST records (R214). -/
def segFreeDone (st : State) (k : Nat) : State :=
  let b := st.blk
  if b.slotRuns k 0x23 then
    let p := b.slotWord k 1 % 2 ^ 20
    if b.freeCode p = 0 then
      { st with blk := (b.chainFree p).slotEnd k 0, mem := (b.chain p).foldl zeroPage st.mem }
    else { st with blk := (b.dirLast p (Block.queueOwner (b.slot k).queue) (b.freeCode p)).slotEnd k (b.freeCode p) }
  else st

/-! ### BAR2 (R216, R217, R355) -/

/-- Page `p` takes BAR2 writes (R216). -/
def bar2Writable (b : Block) (p : Nat) : Bool := b.pgOwner p == 1 && b.pgState p == 1 && !b.pgProt p

/-- The pages that an access of `n` bytes from `a` touches. -/
def pagesOf (a n : Nat) : List Nat := if n = 0 then [] else (List.range ((a + n - 1) / 32768 - a / 32768 + 1)).map (a / 32768 + ·)

/-- BAR2 reaches the pages: start-up is over and the memory is trained (R14, R353). -/
def bar2Open (b : Block) : Bool := b.flag 0 HQ_STAT.READY && b.get 0 HBM_STAT.STATE != 0

/-- A BAR2 write: the bytes that fall on writable pages are stored, every other page counts a refusal (R216). In Quiet it starts the exit,
and waits for it (R350): nothing reads the pages before its end, so the bytes stand here at once. Before the end of start-up no byte
reaches a page (R14; DEDUCED, log entry 157). -/
def bar2Write (st : State) (a : Nat) (data : List Byte) : State :=
  if !bar2Open st.blk then st
  else
  let b := st.blk.hbmKnock
  let bad := (pagesOf a data.length).filter (fun p => !bar2Writable b p)
  let b := bad.foldl (fun b p => (b.count 0 DIR_STAT.WR_REFUSED 1).dirLast p 0x70 0x32) b
  { st with
    blk := b
    mem := data.zipIdx.foldl (fun m x => if bar2Writable b ((a + x.2) / 32768) then Memory.setByte m (a + x.2) x.1 else m) st.mem }

/-- The byte that a BAR2 read of address `a` returns: all ones on a protected page (R217), and a free value on a page with no
frame behind it, for which the spec states none. -/
def bar2Byte (b : Block) (m : List Host.Cell) (a i : Nat) : Nat :=
  let p := (a + i) / 32768
  if b.pgProt p then 255
  else if b.pgState p = 4 then Config.freeValue (b.time.freeCount + i) % 256
  else (Memory.byte m (a + i)).toNat

/-- A BAR2 read returns the present content (R216). Before the end of start-up it reaches no page, and the spec states no value (log entry
157): every byte is free. -/
def bar2Read (st : State) (a n : Nat) : State :=
  let b := if bar2Open st.blk then st.blk.hbmKnock else st.blk
  let got := (List.range n).map (fun i =>
    if bar2Open st.blk then bar2Byte b st.mem a i else Config.freeValue (b.time.freeCount + i) % 256)
  { st with blk := { b with
    host := { b.host with lastRead := got }
    time := { b.time with freeCount := b.time.freeCount + n } } }

/-! ### Dictionary (R208) -/

/-- Entry `i` of the dictionary of field `f`: memory that nothing has written holds X symbols (R208). -/
def dictWord (m : List Host.Cell) (f i : Nat) : Nat := Memory.word m (.dict f) i ^^^ 0x6666666666666666

/-- The memory with dictionary entry `i` of field `f` set. -/
def setDictWord (m : List Host.Cell) (f i v : Nat) : List Host.Cell := Memory.setWord m (.dict f) i (v ^^^ 0x6666666666666666)

/-- An address register that wraps at its width moves on (R208, R160, R263). -/
def bumpAddr (b : Block) (base : Nat) (F : Fld) (size : Nat) : Block := b.set base F ((b.get base F + 1) % size)

/-- A value read by the host. -/
def returned (b : Block) (v : Nat) : Block := { b with host := { b.host with lastRead := [v] } }

/-- A read or write of SOW_DCD (R208, R226). -/
def dictAccess (st : State) (f : Nat) (w : Option Nat) : State :=
  let b := st.blk
  let i := b.get (FLD f) SOW_DCA.ADDR
  match w with
  | none => { st with blk := bumpAddr (returned b (dictWord st.mem f i)) (FLD f) SOW_DCA.ADDR 4096 }
  | some v =>
    if !b.idle f ∨ !symbolsOk v then { st with blk := b.fault (272 + f) 0 }
    else { st with blk := bumpAddr b (FLD f) SOW_DCA.ADDR 4096, mem := setDictWord st.mem f i v }

/-! ### The commands -/

/-- SEG_ALLOC (R214). -/
def execSegAlloc (q : Fin 64) (dirErr : Fin 5) (st : State) : Host.Outcome State Fault Refusal :=
  .next (st.on (fun b => match b.cmdOf q 0x20 with
    | some ws => b.segAlloc q (bits (ws.getD 1 0) 0 4) (bits (ws.getD 1 0) 4 4) (bits (ws.getD 1 0) 24 17) (bits (ws.getD 2 0) 0 20) dirErr
    | none => b))
/-- SEG_SEAL (R214). -/
def execSegSeal (q : Fin 64) (dirErr : Fin 5) (st : State) : Host.Outcome State Fault Refusal :=
  .next (st.on (fun b => match b.cmdOf q 0x21 with
    | some ws => b.segSeal st.mem q (bits (ws.getD 1 0) 0 20) dirErr
    | none => b))
/-- SEG_UNSEAL (R214). -/
def execSegUnseal (q : Fin 64) (dirErr : Fin 5) (st : State) : Host.Outcome State Fault Refusal :=
  .next (st.on (fun b => match b.cmdOf q 0x22 with
    | some ws => b.segUnseal q (bits (ws.getD 1 0) 0 20) dirErr
    | none => b))
/-- SEG_FREE (R214). -/
def execSegFree (q : Fin 64) (dirErr : Fin 5) (st : State) : Host.Outcome State Fault Refusal :=
  .next (st.on (fun b => match b.cmdOf q 0x23 with
    | some ws => b.segFree q (bits (ws.getD 1 0) 0 20) dirErr
    | none => b))
/-- SEG_FREE_DONE (R217). -/
def execSegFreeDone (k : Fin 256) (st : State) : Host.Outcome State Fault Refusal := .next (segFreeDone st k)
/-- BAR2_WRITE (R216). An access past the 32 GiB window reaches no address that exists (R355). -/
def execBar2Write (a : Nat) (data : List Byte) (st : State) : Host.Outcome State Fault Refusal :=
  if 2 ^ 35 < a + data.length then .fault .outsideWindow else .next (bar2Write st a data)
/-- BAR2_READ (R216). -/
def execBar2Read (a len : Nat) (st : State) : Host.Outcome State Fault Refusal :=
  if 2 ^ 35 < a + len then .fault .outsideWindow else .next (bar2Read st a len)
/-- SOW_DCD_ACCESS (R208). -/
def execSowDcdAccess (f : Fin 16) (w : Option Word) (st : State) : Host.Outcome State Fault Refusal :=
  .next (dictAccess st f (w.map (fun x => x.toNat)))

end Sys2Proof.Machine
end

