-- ==== Sys2Proof/Machine/Sha.lean ====
section
/-!
DEFINITION. SHA-256 (FIPS 180-4) over a list of bytes, by which the record digest (R305) and the login response (R438) are formed.
-/
namespace Sys2Proof.Machine

/-- A 256-bit number as eight words, the most significant first. -/
def shaWords (x : Nat) : List Nat := (List.range 8).map (fun i => bits x (32 * (7 - i)) 32)

/-- The first hash value: fractional bits of the square roots of the first eight primes. -/
def shaInit : List Nat := shaWords 0x6a09e667bb67ae853c6ef372a54ff53a510e527f9b05688c1f83d9ab5be0cd19

/-- The round constants, eight to a row: fractional bits of the cube roots of the first sixty-four primes. -/
def shaK : List Nat := List.flatMap shaWords [
  0x428a2f9871374491b5c0fbcfe9b5dba53956c25b59f111f1923f82a4ab1c5ed5,
  0xd807aa9812835b01243185be550c7dc372be5d7480deb1fe9bdc06a7c19bf174,
  0xe49b69c1efbe47860fc19dc6240ca1cc2de92c6f4a7484aa5cb0a9dc76f988da,
  0x983e5152a831c66db00327c8bf597fc7c6e00bf3d5a7914706ca635114292967,
  0x27b70a852e1b21384d2c6dfc53380d13650a7354766a0abb81c2c92e92722c85,
  0xa2bfe8a1a81a664bc24b8b70c76c51a3d192e819d6990624f40e3585106aa070,
  0x19a4c1161e376c082748774c34b0bcb5391c0cb34ed8aa4a5b9cca4f682e6ff3,
  0x748f82ee78a5636f84c878148cc7020890befffaa4506cebbef9a3f7c67178f2]

/-- Rotation of a 32-bit number to the right. -/
def rotr (x n : Nat) : Nat := (x / 2 ^ n + x * 2 ^ (32 - n)) % 2 ^ 32

/-- The two functions of the message schedule. -/
def shaS0 (x : Nat) : Nat := rotr x 7 ^^^ rotr x 18 ^^^ x / 8
def shaS1 (x : Nat) : Nat := rotr x 17 ^^^ rotr x 19 ^^^ x / 1024

/-- `n` further words of the message schedule, newest first. -/
def shaMore : Nat → List Nat → List Nat
  | 0, w => w
  | n + 1, w => shaMore n ((shaS1 (w.getD 1 0) + w.getD 6 0 + shaS0 (w.getD 14 0) + w.getD 15 0) % 2 ^ 32 :: w)

/-- One round with constant plus word `kw`. -/
def shaRound (s : List Nat) (kw : Nat) : List Nat :=
  let a := s.getD 0 0
  let e := s.getD 4 0
  let ch := (e &&& s.getD 5 0) ^^^ ((2 ^ 32 - 1 - e) &&& s.getD 6 0)
  let t1 := s.getD 7 0 + (rotr e 6 ^^^ rotr e 11 ^^^ rotr e 25) + ch + kw
  let maj := (a &&& s.getD 1 0) ^^^ (a &&& s.getD 2 0) ^^^ (s.getD 1 0 &&& s.getD 2 0)
  let t2 := (rotr a 2 ^^^ rotr a 13 ^^^ rotr a 22) + maj
  [(t1 + t2) % 2 ^ 32, a, s.getD 1 0, s.getD 2 0, (s.getD 3 0 + t1) % 2 ^ 32, e, s.getD 5 0, s.getD 6 0]

/-- One block of sixteen words. -/
def shaBlock (h w : List Nat) : List Nat :=
  let ws := (shaMore 48 w.reverse).reverse
  ((shaK.zip ws).foldl (fun s x => shaRound s (x.1 + x.2)) h).zipWith (fun a b => (a + b) % 2 ^ 32) h

/-- A number from bytes, most significant first. -/
def ofBytes (l : List Nat) : Nat := l.foldl (fun n x => n * 256 + x % 256) 0

/-- The `n` low bytes of a number, most significant first. -/
def bytesBE (x : Nat) (n : Nat) : List Nat := (List.range n).map (fun i => bits x (8 * (n - 1 - i)) 8)

/-- The `n` low bytes of a number, least significant first. -/
def bytesLE (x : Nat) (n : Nat) : List Nat := (List.range n).map (fun i => bits x (8 * i) 8)

/-- The message padded to whole blocks. -/
def shaPad (l : List Nat) : List Nat :=
  l ++ [0x80] ++ List.replicate ((119 - l.length % 64) % 64) 0 ++ bytesBE (8 * l.length) 8

/-- SHA-256 of a list of bytes, as a number whose most significant byte is the first byte of the digest. -/
def sha256 (l : List Nat) : Nat :=
  let m := shaPad l
  let blocks := (List.range (m.length / 64)).map (fun i =>
    (List.range 16).map (fun j => ofBytes ((m.drop (64 * i + 4 * j)).take 4)))
  (blocks.foldl shaBlock shaInit).foldl (fun n x => n * 2 ^ 32 + x) 0

end Sys2Proof.Machine
end

