-- ==== Sys2Proof/Machine/Results.lean ====
section
/-!
DEFINITION. Sites, records, the result ring and wafers (ch. 14).
-/
namespace Sys2Proof.Machine
namespace Block

/-! ### The site map (R293 to R295) -/

/-- The SITE_CH entry of channel `c` in force agrees with its complement (R293). -/
def siteOk (b : Block) (c : Nat) : Bool :=
  b.get (8 * c) SITE_CH.VALID * 256 + b.get (8 * c) SITE_CH.SITE + b.get (8 * c) SITE_CH.NSITE == 511

/-- The site of channel `c`, if it belongs to one (R293, R295). -/
def siteOf (b : Block) (c : Nat) : Option Nat :=
  if b.flag (8 * c) SITE_CH.VALID && b.siteOk c then some (b.get (8 * c) SITE_CH.SITE) else none

/-- Channel `c` is used as the site map has it: a mismatch raises the source of the slice that serves it (R295). -/
def siteUse (b : Block) (c : Nat) : Block := b.faultIf (!b.siteOk c) (b.chSlice (c / 16) (c % 16)) 5

/-- The entries of field `f`'s channels are used: each is checked against its complement (R295). -/
def siteScan (b : Block) (f : Nat) : Block := (List.range 16).foldl (fun b k => b.siteUse (16 * f + k)) b

/-- The channels of site `s`. -/
def siteChans (b : Block) (s : Nat) : List Nat := (List.range 256).filter (fun c => b.siteOf c == some s)

/-- Some channel of field `f` belongs to site `s`. -/
def siteHere (b : Block) (f s : Nat) : Bool := (List.range 16).any (fun k => b.siteOf (16 * f + k) == some s)

/-! ### Accounts of a step (R295) -/

/-- The fail count of site `s` in field `f`. -/
def siteFails (b : Block) (f s : Nat) : Nat := Sparse.get 0 (f * 256 + s) b.res.fails
/-- The first failing vector of site `s` in field `f`, all ones when none (R297). -/
def siteFirst (b : Block) (f s : Nat) : Nat :=
  let v := Sparse.get 0 (f * 256 + s) b.res.first
  if v = 0 then 2 ^ 64 - 1 else v - 1

/-- Vector `num` of field `f` failed in the channels of the mask: every site with a failing channel counts it once. -/
def siteVector (b : Block) (f num fails : Nat) : Block :=
  if fails = 0 then b
  else
    let cs := (List.range 16).filter (bit fails)
    let b := cs.foldl (fun b k => b.siteUse (16 * f + k)) b
    let sites := (cs.filterMap (fun k => b.siteOf (16 * f + k))).eraseDups
    sites.foldl (fun b s =>
      let key := f * 256 + s
      let first := if Sparse.get 0 key b.res.first = 0 then Sparse.set 0 key (num + 1) b.res.first else b.res.first
      { b with res := { b.res with fails := Sparse.set 0 key (Sparse.get 0 key b.res.fails + 1) b.res.fails, first := first } }) b

/-! ### Record flags (R298) -/

/-- The stamp at which the record interval of the next record of site `s` by field `f` begins. -/
def recSince (b : Block) (f s : Nat) : Nat := max (Sparse.get 0 f b.res.started) (Sparse.get 0 (f * 256 + s) b.res.issued)

/-- A mark of flag `fl` under selector `sel` falls after stamp `since`. -/
def marked (b : Block) (fl sel since : Nat) : Bool := decide (since < Sparse.get 0 (fl * 1024 + sel) b.res.marks)

/-- Something that concerns a record of site `s` by field `f` is held Degraded now: by the unit of its source, however far its reaction's
scope reached (R298, R391). -/
def degradedNow (b : Block) (f s : Nat) : Bool :=
  let cs := b.siteChans s
  b.flt.degraded.any (fun x =>
    let u := b.faultUnit x.1
    match u.1 with
    | 0 => match b.slcChan u.2 with
      | some c => cs.contains c
      | none => false
    | 1 => match b.dpsLand u.2 with
      | some l => cs.any (fun c => c / 16 == l / 2)
      | none => false
    | 2 => u.2 == f
    | _ => true)

/-- Field `g` has had an underrun or a format error in a running step that it shares with field `f` (R298). -/
def stalledFor (b : Block) (f g : Nat) : Bool :=
  Sparse.get 0 g b.res.stalled != 0 && (f == g || b.steps.any (fun s => bit s.mask f && bit s.mask g))

/-- FLAGS of a record of site `s` by field `f` whose interval began at stamp `since` (R298). -/
def recFlags (b : Block) (f s since : Nat) (partialRec : Bool) : Nat :=
  let cs := b.siteChans s
  let sels := [0, 1 + f] ++ cs.map (fun c => 32 + c) ++ cs.map (fun c => 300 + c / 16)
  let seen := fun fl => sels.any (fun sel => b.marked fl sel since)
  b01 (cs.any (fun c => b.stalledFor f (c / 16))) + 2 * b01 (b.degradedNow f s || seen 1) +
    4 * b01 (b.cold || seen 2) + 8 * b01 (b.held || seen 3) + 16 * b01 (seen 4) +
    32 * b01 (b.flag (FLD f) TS_STAT.CAL_OVERDUE || seen 5) + 64 * b01 partialRec + 128 * b01 (Sparse.get 0 (16 + f) b.res.partials != 0)

/-! ### Issue (R177, R178, R296, R297) -/

/-- A RESULT or BIN finds room: an entry that is not reserved, and no notification that waits in fault collection (R302,
R303). -/
def recRoom (b : Block) : Bool := decide (b.queueUsed < 4032) && b.res.waiting.isEmpty

/-- Word 0 of a record without PHASE (R296). -/
def recWord0 (rtype field site test k kind p bin seq : Nat) : Nat :=
  rtype * 2 ^ 60 + field * 2 ^ 56 + site * 2 ^ 48 + test * 2 ^ 32 + k * 2 ^ 28 + kind * 2 ^ 23 + p * 2 ^ 22 + bin * 2 ^ 16 + seq

/-- VALUE and P of a FCOUNT (kind 2) or FIRSTFAIL record (R297). -/
def failValue (b : Block) (f s kind : Nat) : Nat × Nat :=
  if kind = 2 then (b.siteFails f s, b01 (b.siteFails f s == 0))
  else (b.siteFirst f s, b01 (b.siteFirst f s == 2 ^ 64 - 1))

/-- The FCOUNT and FIRSTFAIL records of field `f` whose vectors are all judged take their value and flags (R178, R298). -/
def resolveRecs (b : Block) (f judged : Nat) : Block :=
  let upd := fun r : QRec =>
    if r.field = f ∧ !r.notif ∧ r.upTo.any (fun v => decide (v ≤ judged)) then
      let s := bits r.w0 48 8
      let v := b.failValue f s (bits r.w0 23 5)
      { r with w0 := r.w0 + v.2 * 2 ^ 22, w1 := v.1, upTo := none,
               w3 := r.w3 / 2 ^ 16 * 2 ^ 16 + b.recFlags f s r.since (bit r.w3 6) }
    else r
  { b with res := { b.res with queue := b.res.queue.map upd } }

/-- A record issued by field `f` (R296 to R298, R300): SEQ, TICK, FGEN and FLAGS as they are now; a FCOUNT or FIRSTFAIL record
waits for the judgement of the `upTo` vectors issued before it. The entries of the field's channels are checked (R295). -/
def issueRec (b : Block) (f rtype site test k kind p bin value : Nat) (upTo : Option Nat) : Block :=
  let b := b.siteScan f
  let seq := b.nextSeq f
  let since := b.recSince f site
  let part := Sparse.get 0 f b.res.partials != 0
  let fl := b.recFlags f site since part
  let n := b.res.stamp + 1
  let b := { b with res := { b.res with
    seq := Sparse.set 0 f (seq + 1) b.res.seq, stamp := n, issued := Sparse.set 0 (f * 256 + site) n b.res.issued
    partials := Sparse.set 0 f 0 b.res.partials } }
  let b := b.enqueue { w0 := recWord0 rtype f site test k kind p bin seq, w1 := value, w2 := b.tick
                       w3 := b.get 0 RES_FGEN.FGEN * 2 ^ 48 + fl, field := f, notif := false, upTo := upTo, since := since
                       reserved := false }
  b.resolveRecs f (b.seq f).judged

/-- START_STEP clears the accounts of its named field (R295, R296, R298). -/
def resStart (b : Block) (f : Nat) : Block :=
  let n := b.res.stamp + 1
  let drop := fun l : List (Nat × Nat) => l.filter (fun x => !(x.1 / 256 == f))
  { b with res := { b.res with
    stamp := n, started := Sparse.set 0 f n b.res.started, seq := Sparse.set 0 f 0 b.res.seq
    fails := drop b.res.fails, first := drop b.res.first, stalled := Sparse.set 0 f 0 b.res.stalled
    partials := Sparse.set 0 f 0 (Sparse.set 0 (16 + f) 0 b.res.partials) } }

/-! ### The ring (R301 to R305) -/

/-- Records in the ring (R301). -/
def ringSize (b : Block) : Nat := 2 ^ b.get 0 RES_RING_SIZE.LOG2

/-- The record of the queue that may be written next: its vectors are judged, no record of its field and no notification
precedes it, and a notification has nothing before it (R178, R302, G4, G7). -/
def ringNext : List QRec → List QRec → Option (QRec × List QRec)
  | _, [] => none
  | seen, r :: rest =>
    let free := if r.notif then seen.isEmpty else r.upTo.isNone && !seen.any (fun x => x.notif || x.field == r.field)
    if free then some (r, seen ++ rest) else ringNext (seen ++ [r]) rest

/-- The account of a site moved on by a record while a wafer is open (R305). -/
def siteAccount (b : Block) (r : QRec) : Block :=
  let rtype := bits r.w0 60 3
  let s := bits r.w0 48 8
  let kind := bits r.w0 23 5
  if rtype = 3 then b
  else
    let b := (b.count (16 * s) SITE_ACC0.RECORDS 1).set (16 * s) SITE_ACC0.FLAGS
      (b.get (16 * s) SITE_ACC0.FLAGS ||| bits r.w3 0 8)
    if rtype = 2 then (b.setFlag (16 * s) SITE_ACC0.BINNED true).set (16 * s) SITE_ACC0.BIN (bits r.w0 16 6)
    else if (kind = 0 ∨ kind = 1) ∧ !bit r.w0 22 then b.count (16 * s) SITE_ACC1.PFAIL 1
    else if kind = 2 then b.count (16 * s) SITE_ACC1.VFAIL r.w1
    else b

/-- The digest as four words, its first byte in the first word's top (R306). -/
def digestWords (d : Nat) : List Nat := (List.range 4).map (fun i => bits d (192 - 64 * i) 64)

/-- A record written to the ring (R301, R305): words 1 to 3 before word 0, PHASE by the pass, RES_PROD moved on; with a wafer
open the digest and the site's account. -/
def ringPut (b : Block) (r : QRec) : Block :=
  let n := b.get 0 RES_PROD.COUNT
  let a := b.get 0 RES_RING_BASE.ADDR * 32 + n % b.ringSize * 32
  let w0 := (1 - n / b.ringSize % 2) * 2 ^ 63 + r.w0
  let b := (b.hostWrite (a + 8) [r.w1, r.w2, r.w3]).hostWrite a [w0]
  let b := b.set 0 RES_PROD.COUNT (n + 1)
  if b.flag 0 RES_STAT.WAFER then
    ({ b with res := { b.res with
      digest := digestWords (sha256 (b.res.digest.flatMap (bytesBE · 8) ++ [w0, r.w1, r.w2, r.w3].flatMap (bytesLE · 8)))
      digested := b.res.digested + 1 } }).siteAccount r
  else b

/-- The next record goes to the ring where it is enabled and a slot is free (R301, R302). -/
def ringWrite (b : Block) : Block :=
  if b.flag 0 RES_CTRL.EN ∧ b.get 0 RES_PROD.COUNT - b.get 0 RES_CONS.COUNT < b.ringSize then
    match ringNext [] b.res.queue with
    | some (r, rest) =>
      let b := ({ b with res := { b.res with queue := rest } }).set 0 RES_STAT.QLEVEL rest.length
      (b.ringPut r).endReaction
    | none => b
  else b

/-- A write of RES_CONS (R304). -/
def consWrite (b : Block) (v : Nat) : Block :=
  if b.flag 0 RES_CTRL.EN ∧ b.get 0 RES_PROD.COUNT < v then b.fault 411 0 else b.set 0 RES_CONS.COUNT v

/-- A write of RES_CTRL (R304): setting EN resets the counts; EN may be cleared only with the queue empty. -/
def resCtrl (b : Block) (v : Nat) : Block :=
  if bit v 0 then
    if b.flag 0 RES_CTRL.EN then b else ((b.set 0 RES_CTRL.EN 1).set 0 RES_PROD.COUNT 0).set 0 RES_CONS.COUNT 0
  else if b.flag 0 RES_CTRL.EN ∧ !b.res.queue.isEmpty then b.fault 411 0
  else b.set 0 RES_CTRL.EN 0

/-- SITE_ACC0[s].MAPPED as it reads (R307). -/
def siteMapped (b : Block) (s : Nat) : Bool := !(b.siteChans s).isEmpty

/-! ### Wafers (R305, R306) -/

/-- WAFER_OPEN (R305). -/
def waferOpen (b : Block) (q id : Nat) : Block :=
  if !b.moduleIdle ∨ !b.res.queue.isEmpty then b.complete q 0 0x04
  else
    let b := (List.range 256).foldl (fun b s =>
      let b := (b.set (16 * s) SITE_ACC0.BINNED 0).set (16 * s) SITE_ACC0.BIN 0
      let b := (b.set (16 * s) SITE_ACC0.FLAGS 0).set (16 * s) SITE_ACC0.RECORDS 0
      (b.set (16 * s) SITE_ACC1.PFAIL 0).set (16 * s) SITE_ACC1.VFAIL 0) b
    let b := { b with res := { b.res with waferId := id, waferTick := b.tick, digested := 0, digest := [0, 0, 0, 0] } }
    ((b.set 0 RES_WAFER.ID id).set 0 RES_STAT.WAFER 1).complete q 0 0

/-- The 64-bit word of a version register with a hash (R376, R200). -/
def verWord (b : Block) : List Nat :=
  [b.get 0 FW_VER.MAJOR * 2 ^ 48 + b.get 0 FW_VER.MINOR * 2 ^ 32 + b.get 0 FW_VER.HASH,
   b.get 0 UCODE_VER.ROM * 2 ^ 56 + b.get 0 UCODE_VER.PATCH * 2 ^ 32 + b.get 0 UCODE_VER.HASH]

/-- The body of the signed summary as it stands (R306). -/
def waferBody (b : Block) : List Nat :=
  let valid := b.flag 0 PTP_T0_S.VALID
  let t0 := if valid then [b.get 0 PTP_T0_S.SEC, b.get 0 PTP_T0_NS.NS] else [0, 0]
  [0x5A1E * 2 ^ 48 + 1 * 2 ^ 32 + 256, Config.serno % 2 ^ 64, b.res.waferId, b.res.waferTick, b.tick] ++ t0 ++ [b.res.digested] ++
  b.res.digest ++ b.verWord ++ [b.get 0 RES_FGEN.FGEN, 0] ++
  (List.range 256).flatMap (fun s =>
    [b01 (b.siteMapped s) * 2 ^ 63 + b.get (16 * s) SITE_ACC0.BINNED * 2 ^ 62 + b.get (16 * s) SITE_ACC0.BIN * 2 ^ 56 +
       b.get (16 * s) SITE_ACC0.FLAGS * 2 ^ 32 + b.get (16 * s) SITE_ACC0.RECORDS,
     b.get (16 * s) SITE_ACC1.PFAIL * 2 ^ 32 + b.get (16 * s) SITE_ACC1.VFAIL])

/-- WAFER_SIGN (R305, R306, R439, R445): the User role and an attestation key; with no wafer open NO_WAFER; else it takes a slot with the snapshot and closes the wafer. -/
def waferSign (b : Block) (q : Nat) : Block :=
  if b.krRefuse q 0x31 1 ≠ 0 then b.complete q 0 (b.krRefuse q 0x31 1)
  else if b.kr.att.isNone then b.complete q 0 0x63
  else if !b.flag 0 RES_STAT.WAFER then b.complete q 0 0x0D
  else if !b.moduleIdle ∨ !b.res.queue.isEmpty then b.complete q 0 0x04
  else
    let full := b.freeSlot.isNone
    let b := b.takeSlot q b.waferBody
    if full then b else b.set 0 RES_STAT.WAFER 0

/-- The signature is done (R306, R368): body and signature to the host buffer. -/
def waferSignDone (b : Block) (k : Nat) : Block :=
  if !b.slotRuns k 0x31 then b
  else
    let body := (b.slot k).aux
    let b := b.hostWrite (b.slotWord k 2) (body ++ (List.range 2136).map (Config.signature body))
    ((b.opres k 0 (body.getD 7 0)).npart k 1).slotEnd k 0

end Block

/-! ### The commands -/

/-- RING_WRITE (R301). -/
def execRingWrite (st : State) : Host.Outcome State Fault Refusal := .next (st.on (fun b => b.ringWrite))
/-- RES_CONS_WRITE (R304). -/
def execResConsWrite (v : Word) (st : State) : Host.Outcome State Fault Refusal := .next (st.on (fun b => b.consWrite v.toNat))
/-- RES_CTRL_WRITE (R304). -/
def execResCtrlWrite (v : Word) (st : State) : Host.Outcome State Fault Refusal := .next (st.on (fun b => b.resCtrl v.toNat))
/-- WAFER_OPEN (R305). -/
def execWaferOpen (q : Fin 64) (st : State) : Host.Outcome State Fault Refusal :=
  .next (st.on (fun b => match b.cmdOf q 0x30 with
    | some ws => b.waferOpen q (ws.getD 1 0)
    | none => b))
/-- WAFER_SIGN (R306). -/
def execWaferSign (q : Fin 64) (st : State) : Host.Outcome State Fault Refusal :=
  .next (st.on (fun b => match b.cmdOf q 0x31 with
    | some _ => b.waferSign q
    | none => b))

/-- WAFER_SIGN_DONE (R306). -/
def execWaferSignDone (k : Fin 256) (st : State) : Host.Outcome State Fault Refusal := .next (st.on (fun b => b.waferSignDone k))

end Sys2Proof.Machine
end

