-- ==== Sys2Proof/Machine/Timing.lean ====
section
/-!
DEFINITION. Ticks as absolute indices, the stream's periods, the rules of a timing set (ch. 5, R117 to R131), and the host's
table check. Stream times are absolute, in 0.5 ps units.
-/
namespace Sys2Proof.Machine
namespace Block

/-! ### Boundaries -/

/-- The sub-tick of the boundary that opens the tick with index `i`, the tick length being the one in force. -/
def bSub (b : Block) (i : Nat) : Nat :=
  if b.time.ticks ≤ i then b.time.lastB + (i - b.time.ticks) * b.k else b.time.lastB - (b.time.ticks - i) * b.k

/-- That boundary in 0.5 ps units. -/
def bHalf (b : Block) (i : Nat) : Nat := b.bSub i * 20000

/-- TICKNO of the tick with index `i` (R38). -/
def tickNoOf (b : Block) (i : Nat) : Nat :=
  if b.time.ticks ≤ i then b.tick + (i - b.time.ticks) else b.tick - (b.time.ticks - i)

/-- The index of the tick with number `n`, from the present tick on (R38). -/
def tickIdx (b : Block) (n : Nat) : Nat := b.time.ticks + (n - b.tick)

/-! ### Units of a field -/

/-- The Sower and stream of field `f`. -/
def sow (b : Block) (f : Nat) : SowSt := Sparse.get {} f b.sows
/-- Sower `f` changed by `g`. -/
def updSow (b : Block) (f : Nat) (g : SowSt → SowSt) : Block := { b with sows := Sparse.set {} f (g (b.sow f)) b.sows }
/-- The table check of field `f`. -/
def ts (b : Block) (f : Nat) : TsSt := Sparse.get {} f b.tss
/-- The table check of field `f` set. -/
def setTs (b : Block) (f : Nat) (v : TsSt) : Block := { b with tss := Sparse.set {} f v b.tss }

/-! ### Periods (R118, R119) -/

/-- The period of timing set `t` in force. -/
def period (b : Block) (f t : Nat) : Nat := b.get (FLD f + 8 * t) TS_PER.PERIOD
/-- The timing set of headland and fallow vectors in force (R119, R146). -/
def headSet (b : Block) (f : Nat) : Nat := b.get (FLD f) TS_CTRL.HEAD_SET
/-- Its period. -/
def headPer (b : Block) (f : Nat) : Nat := b.period f (b.headSet f)

/-! ### The rules of a set (R126) -/

/-- The register block of channel `k` in set `t`. -/
def tsBase (f t k : Nat) : Nat := FLD f + 0x200 * t + 0x20 * k

/-- The lowest-numbered rule of R126 that channel `k` breaks in set `t`, 0 for none, with register values read by `v`. -/
def tsRule (v : Nat → Fld → Nat) (f t k : Nat) : Nat :=
  let p := v (FLD f + 8 * t) TS_PER.PERIOD
  let a := tsBase f t k
  let on := v a TS_DRV0.D_ON
  let data := v a TS_DRV0.D_DATA
  let ret := v a TS_DRV1.D_RET
  let off := v a TS_DRV1.D_OFF
  let so := v a TS_STB.S_OPEN
  let sc := v a TS_STB.S_CLOSE
  let fmt := v a TS_FMT.DFMT
  if p ≤ on ∨ p ≤ data ∨ p ≤ ret ∨ p ≤ off ∨ p ≤ so ∨ p ≤ sc then 1
  else if (fmt = 1 ∨ fmt = 2 ∨ fmt = 3) ∧ ret < data + 500 then 2
  else if fmt = 3 ∧ data < on + 500 then 3
  else if fmt = 4 ∧ off < on + 500 then 4
  else if v a TS_FMT.CMODE = 1 ∧ sc < so + 500 then 5
  else 0

/-- The first offending set and channel of a table, with the rule (R130). -/
def tsFirst (v : Nat → Fld → Nat) (f : Nat) : Option (Nat × Nat × Nat) :=
  ((List.range 1024).map (fun i => (i / 16, i % 16, tsRule v f (i / 16) (i % 16)))).find? (fun x => x.2.2 != 0)

/-- The outcome of a check written to TS_CHK (R130): STATE, SET, CHAN, RULE and GEN together. -/
def tsReport (b : Block) (f gen : Nat) (r : Option (Nat × Nat × Nat)) : Block :=
  let x := r.getD (0, 0, 0)
  let b := (b.set (FLD f) TS_CHK.STATE (if r.isNone then 1 else 2)).set (FLD f) TS_CHK.SET x.1
  ((b.set (FLD f) TS_CHK.CHAN x.2.1).set (FLD f) TS_CHK.RULE x.2.2).set (FLD f) TS_CHK.GEN gen

/-- A write of TS_CHK.RUN (R131): the shadow table as it stands is checked; a request during a host check is ignored. -/
def tsRun (b : Block) (f : Nat) : Block :=
  if (b.ts f).running then b
  else
    let r := (tsFirst b.getSh f).getD (0, 0, 0)
    (b.set (FLD f) TS_CHK.STATE 3).setTs f
      { running := true, set := r.1, chan := r.2.1, rule := r.2.2, gen := b.get 0 MODE_GEN.GEN + 1 }

/-- The host check ends (R131). -/
def tsDone (b : Block) (f : Nat) : Block :=
  let t := b.ts f
  if t.running then (b.tsReport f t.gen (if t.rule = 0 then none else some (t.set, t.chan, t.rule))).setTs f {}
  else b

/-! ### Drive edges (R121 to R124, R127, R128) -/

/-- A moved edge of channel `k` counted (R128), and marked for the records of its site (R298). -/
def clash (b : Block) (f k : Nat) (F : Fld) : Block :=
  ((b.count (FLD f) F 1).set (FLD f) TS_STAT.LAST_K k).mark 4 (32 + 16 * f + k)

/-- A transition of the driver of channel `k` at time `t`: off, or on at a level (R127). An edge that leaves state and level
unchanged is none; one less than 250 ps after the previous transition is placed 250 ps after it. Answers whether it moved. -/
def drvTrans (b : Block) (f k t : Nat) (lvl : Option Bool) : Block × Bool :=
  let s := b.chSlice f k
  let x := b.slc s
  let same := match lvl with
    | none => !x.drvOn
    | some h => x.drvOn && x.drvHigh == h
  if same then (b, false)
  else
    let t' := match x.lastEdge with
      | some l => max t (l + 500)
      | none => t
    let b := b.updSlc s (fun x => { x with drvOn := lvl.isSome, drvHigh := lvl.getD x.drvHigh, lastEdge := some t' })
    if t' = t then (b, false) else (b.clash f k TS_STAT.CLASH_DRV, true)

/-- What a drive edge does: turn on where off, at the level that the format calls for; take a level; off. -/
inductive DrvAct where
  | on | lvl (h : Bool) | onLvl (h : Bool) | off
  deriving DecidableEq

/-- An edge put among edges in time order, before those at its own time. -/
def edgeInsert (e : Nat × DrvAct) : List (Nat × DrvAct) → List (Nat × DrvAct)
  | [] => [e]
  | x :: rest => if e.1 ≤ x.1 then e :: x :: rest else x :: edgeInsert e rest

/-- One timed edge of a driving vector, the level that the format calls for being `cur` (R121, R122). -/
def drvEdge (f k : Nat) (r : Block × Bool × Bool) (e : Nat × DrvAct) : Block × Bool × Bool :=
  let b := r.1
  let cur := r.2.1
  let on := (b.slc (b.chSlice f k)).drvOn
  match e.2 with
  | .on => if on then r else let y := b.drvTrans f k e.1 (some cur); (y.1, cur, r.2.2 || y.2)
  | .lvl h => if on then let y := b.drvTrans f k e.1 (some h); (y.1, h, r.2.2 || y.2) else (b, h, r.2.2)
  | .onLvl h => let y := b.drvTrans f k e.1 (some h); (y.1, h, r.2.2 || y.2)
  | .off => let y := b.drvTrans f k e.1 none; (y.1, cur, r.2.2 || y.2)

/-- The edges of a driving vector with data `d` under format `fmt`, each with its time from the vector's start; edges at one
time stand in the order in which they act, D_ON last (R121, R122). -/
def drvEdges (b : Block) (f t k fmt : Nat) (d : Bool) : List (Nat × DrvAct) :=
  let a := tsBase f t k
  let on := b.get a TS_DRV0.D_ON
  let data := b.get a TS_DRV0.D_DATA
  let ret := b.get a TS_DRV1.D_RET
  let off := b.get a TS_DRV1.D_OFF
  if fmt = 4 then [(on, .onLvl d), (off, .off)]
  else if fmt = 3 then [(on, .onLvl (!d)), (data, .lvl d), (ret, .lvl (!d))]
  else if fmt = 0 then [(data, .lvl d), (on, .on)]
  else [(data, .lvl d), (ret, .lvl (fmt == 2)), (on, .on)]

/-- The drive part of a vector of channel `k` that starts at `t0` under set `t` (R121 to R123). Answers whether an edge
moved. -/
def driveVec (b : Block) (f t k t0 code : Nat) : Block × Bool :=
  let s := b.chSlice f k
  if code < 2 then
    let d := code == 1
    let fmt := b.get (tsBase f t k) TS_FMT.DFMT
    let pre := if fmt = 0 then (b.slc s).lastData else fmt == 2
    let es := (b.drvEdges f t k fmt d).foldr edgeInsert []
    let r := es.foldl (fun r e => drvEdge f k r (t0 + e.1, e.2)) (b, pre, false)
    (r.1.updSlc s (fun x => { x with lastData := d }), r.2.2)
  else if code ≠ 6 then b.drvTrans f k (t0 + b.get (tsBase f t k) TS_DRV1.D_OFF) none
  else (b, false)

end Block

/-- A symbol that expects a level (R201): 0 low, 1 high, 2 mid, and whether its fail is for the capture engine alone. -/
def expects (code : Nat) : Option (Nat × Bool) :=
  if 3 ≤ code ∧ code ≤ 5 then some (code - 3, false) else if 8 ≤ code ∧ code ≤ 10 then some (code - 8, true) else none

/-- The voltages, in µV, that the node of a slice takes during a vector, as far as its comparators follow them (R60, R125, R487): in order,
those up to S_OPEN, the last one holding at that instant, those after it up to S_CLOSE, and those after that. -/
structure NodeTrace where
  upTo : List Int := []
  within : List Int := []
  after : List Int := []
  deriving DecidableEq, Repr

/-- The traces of the channels, in their order. -/
def nodeTraces (upTo within after : List (List Int)) : List NodeTrace :=
  (List.range 16).map (fun k => ⟨upTo.getD k [], within.getD k [], after.getD k []⟩)

namespace Block

/-- The strobe of an expect vector of channel `k` (R125, R127): when it is over, and whether it moved. -/
def strobeVec (b : Block) (f t k t0 : Nat) : Block × Nat × Bool :=
  let s := b.chSlice f k
  let a := tsBase f t k
  let o := t0 + b.get a TS_STB.S_OPEN
  let o' := match (b.slc s).lastStrobe with
    | some l => max o (l + 500)
    | none => o
  let last := if b.get a TS_FMT.CMODE = 1 then
      let c := t0 + b.get a TS_STB.S_CLOSE
      if c < o' + 500 then c + (o' - o) else c
    else o'
  let b := b.updSlc s (fun x => { x with lastStrobe := some last })
  if o' = o then (b, last, false) else (b.clash f k TS_STAT.CLASH_STB, last, true)

/-- The comparators of a slice through a vector (R60, R125): their outputs at S_OPEN, and those that they show from then to S_CLOSE.
DESIGN CHOICE (log 170): the thresholds are those at the start of the vector. -/
def cmpVec (b : Block) (s : Nat) (n : NodeTrace) : (Bool × Bool) × List (Bool × Bool) :=
  let c := n.upTo.foldl (b.cmpStep s) (b.slc s).cmp
  (c, (n.within.foldl (fun r uv => let d := b.cmpStep s r.1 uv; (d, r.2 ++ [d])) (c, [])).2)

/-- What the channels of a vector have shown so far: last strobe, fails, record-only fails, moved edge, comparator pairs. -/
structure VecAcc where
  b : Block
  last : Option Nat
  fails : Nat
  soft : Nat
  moved : Bool
  pairs : Nat

/-- The comparators of channel `k` of a vector (R60, R264): they follow its node, and the capture word takes their pair at S_OPEN, at S_CLOSE
under window strobe, zero where STB_OFF is 1. They go on to the end of the vector. -/
def vecPair (f t : Nat) (nodes : List NodeTrace) (x : VecAcc) (k : Nat) : VecAcc :=
  let s := x.b.chSlice f k
  let c := x.b.cmpVec s (nodes.getD k {})
  let fin := c.2.getLast?.getD c.1
  let pair := if x.b.get (tsBase f t k) TS_FMT.CMODE = 1 then fin else c.1
  { x with
    b := x.b.updSlc s (fun y => { y with cmp := (nodes.getD k {}).after.foldl (x.b.cmpStep s) fin })
    pairs := if x.b.flag (tsBase f t k) TS_FMT.STB_OFF then x.pairs else x.pairs + (2 * b01 pair.1 + b01 pair.2) * 2 ^ (2 * k) }

/-- The expectation of channel `k` under set `t` is not met (R59, R125): at S_OPEN, or in window mode at any time to S_CLOSE. -/
def expectFails (b : Block) (f t k lvl : Nat) (n : NodeTrace) : Bool :=
  let c := b.cmpVec (b.chSlice f k) n
  !cmpMeets lvl c.1 || (b.get (tsBase f t k) TS_FMT.CMODE == 1 && !c.2.all (cmpMeets lvl))

/-- Channel `k` of a vector with symbols `sym` under set `t` that starts at `t0` (R121 to R128). -/
def vecChan (f t t0 sym : Nat) (nodes : List NodeTrace) (x : VecAcc) (k : Nat) : VecAcc :=
  let code := bits sym (4 * k) 4
  let stb := !x.b.flag (tsBase f t k) TS_FMT.STB_OFF
  let r := x.b.driveVec f t k t0 code
  let x := match expects code with
    | some (lvl, soft) =>
      if stb then
        let y := r.1.strobeVec f t k t0
        let bad := r.1.expectFails f t k lvl (nodes.getD k {})
        { x with
          b := y.1, last := some (max y.2.1 (x.last.getD 0))
          fails := if bad ∧ !soft then setBit x.fails k else x.fails
          soft := if bad ∧ soft then setBit x.soft k else x.soft, moved := x.moved || r.2 || y.2.2 }
      else { x with b := r.1, moved := x.moved || r.2 }
    | none => { x with b := r.1, moved := x.moved || r.2 }
  vecPair f t nodes x k

/-- A vector of field `f` starts (R117, R121 to R128, R223): its edges and strobes are placed under the table in force, its
markers pulse, and a played vector waits for its judgement (R166). The operand is what the node of each channel does meanwhile. -/
def vectorStart (b : Block) (f : Nat) (nodes : List NodeTrace) : Block :=
  match (b.sow f).out with
  | [] => b
  | r :: rest =>
    if (b.time.now + 1) * 20000 ≤ r.start then b
    else
      let out := if r.count ≤ 1 then rest else { r with start := r.start + r.per, count := r.count - 1, mks := 0 } :: rest
      let num := (b.sow f).vnum
      let x := (List.range 16).foldl (vecChan f r.set r.start r.sym nodes) ⟨b, none, 0, 0, false, 0⟩
      let j : JudgeVec := {
        num := num, start := r.start, fails := x.fails, soft := x.soft
        due := match x.last with
          | some l => l + 800000
          | none => r.start + 1
        word := (x.fails ||| x.soft) * 2 ^ 48 + x.pairs * 2 ^ 16 + r.set * 2 ^ 10 + r.mks * 2 ^ 6 + b01 x.moved }
      let b := x.b.updSow f (fun s => { s with
        out := out
        vnum := if r.kind = 0 then num + 1 else num
        judge := if r.kind = 0 then s.judge ++ [j] else s.judge })
      (List.range 4).foldl (fun b m => if bit r.mks m then b.sowerMarker f m r.start else b) b

end Block

/-! ### The commands -/

/-- VECTOR_START (R117). -/
def execVectorStart (f : Fin 16) (upTo within after : List (List Int)) (st : State) : Host.Outcome State Fault Refusal :=
  .next (st.on (fun b => b.vectorStart f (nodeTraces upTo within after)))
/-- TS_CHK_RUN (R131). -/
def execTsChkRun (f : Fin 16) (st : State) : Host.Outcome State Fault Refusal := .next (st.on (fun b => b.tsRun f))
/-- TS_CHK_DONE (R131). -/
def execTsChkDone (f : Fin 16) (st : State) : Host.Outcome State Fault Refusal := .next (st.on (fun b => b.tsDone f))

end Sys2Proof.Machine
end

