-- ==== Sys2Proof/Machine/Stream.lean ====
section
/-!
DEFINITION. The vector stream of a field and its work frames (ch. 2, R43 to R50; ch. 6, R143 to R147; ch. 9, R209 to R212,
R219): issued content, the stream position, prefetch, opening and closing frames, lookahead, and headland ticks.
-/
namespace Sys2Proof.Machine

/-- A run appended to an outbound buffer; it joins an equal last run. -/
def appendRun (r : OutRun) : List OutRun → List OutRun
  | [] => [r]
  | [x] =>
    if x.id = r.id ∧ x.sym = r.sym ∧ x.set = r.set ∧ x.per = r.per ∧ x.kind = r.kind ∧ r.mks = 0 ∧
        x.start + x.count * x.per = r.start then [{ x with count := x.count + r.count }]
    else [x, r]
  | x :: y :: rest => x :: appendRun r (y :: rest)

/-- Fallow and X vectors carry symbol X on every channel (R146). -/
def symX : Nat := 0x6666666666666666

/-- Vectors of a segment by set (R202): key t for set t, 64 for C_SEL; sets with none are left out. -/
def segCounts (m : List Host.Cell) (head : Nat) : List (Nat × Nat) :=
  ((List.range 65).map (fun i => (i, pageWord m head (8 + i) % 2 ^ 48))).filter (fun c => c.2 != 0)

/-- The vectors of such counts. -/
def countSum (cs : List (Nat × Nat)) : Nat := cs.foldl (fun n c => n + c.2) 0

/-- The runs of an outbound buffer that start before time `t`, and those that start at or after it; a run that straddles it is
cut between two vectors (R129). -/
def splitOut (t : Nat) : List OutRun → List OutRun × List OutRun
  | [] => ([], [])
  | r :: rest =>
    if t ≤ r.start then ([], r :: rest)
    else
      let n := ceilDiv (t - r.start) r.per
      if r.count ≤ n then
        let p := splitOut t rest
        (r :: p.1, p.2)
      else ([{ r with count := n }], { r with start := r.start + n * r.per, count := r.count - n, mks := 0 } :: rest)

/-- The serial number of an item. -/
def SowItem.num : SowItem → Nat
  | .seg i _ _ _ => i
  | .fallow i _ => i
  | .head i _ => i

/-- The head page of a play among the items. -/
def SowItem.headPage? : SowItem → Option Nat
  | .seg _ h _ _ => some h
  | _ => none

/-- The vectors of a play among the items. -/
def SowItem.vecs : SowItem → Nat
  | .seg _ _ _ cs => countSum cs
  | _ => 0

namespace Block

/-! ### Durations and the stream position (R209, R143) -/

/-- The duration of counts played with `tsel` where no set is selected, at the periods in force (R209). -/
def countDur (b : Block) (f tsel : Nat) (cs : List (Nat × Nat)) : Nat :=
  cs.foldl (fun n c => n + c.2 * b.period f (if c.1 = 64 then tsel else c.1)) 0

/-- The duration of an item. -/
def itemDur (b : Block) (f : Nat) : SowItem → Nat
  | .seg _ _ tsel cs => b.countDur f tsel cs
  | .fallow _ n => n * b.headPer f
  | .head _ n => n * b.headPer f

/-- What the play in expansion has still to run. -/
def curDur (b : Block) (f : Nat) : Nat :=
  match (b.sow f).cur with
  | some c => b.countDur f c.tsel c.left
  | none => 0

/-- The end of everything issued. -/
def issuedEnd (b : Block) (f : Nat) : Nat :=
  (b.sow f).queue.foldl (fun n i => n + b.itemDur f i) ((b.sow f).epos + b.curDur f)

/-- The stream position brought up to the issued content. -/
def rePos (b : Block) (f : Nat) : Block := b.updSeq f (fun q => { q with pos := b.issuedEnd f })

/-- Unfinished plays of field `f` (R212): waiting or in expansion. One whose content an SJMP has discarded is finished. -/
def playCount (b : Block) (f : Nat) : Nat :=
  ((b.sow f).queue.filter (fun i => i.headPage?.isSome)).length + (if (b.sow f).cur.isSome then 1 else 0)

/-- The resident pages of field `f`: those in its buffer whose directory row can be read (R218, R219). -/
def residentPages (b : Block) (f : Nat) : Nat := ((b.sow f).res.filter (fun p => !b.rowBad p)).length

/-- QUEUE, RESIDENT and PAGE of SOW_STAT brought up to the Sower (R226). -/
def sowSync (b : Block) (f : Nat) : Block :=
  let b := (b.set (FLD f) SOW_STAT.QUEUE (b.playCount f)).set (FLD f) SOW_STAT.RESIDENT (b.residentPages f)
  match (b.sow f).cur with
  | some c => b.set (FLD f) SOW_STAT.PAGE c.page
  | none => b

/-! ### Prefetch (R219) -/

/-- The pages that expansion will enter next, that being expanded first, as many as the buffer can hold. -/
def upcoming (b : Block) (f : Nat) : List Nat :=
  let first := match (b.sow f).cur with
    | some c => b.chainN 9 c.page
    | none => []
  first ++ (b.sow f).queue.flatMap (fun i => match i with
    | .seg _ h _ _ => b.chainN 9 h
    | _ => [])

/-- The Sower starts fetching the next page in stream order while its buffer has room (R219). -/
def prefetch (b : Block) (f : Nat) : Block :=
  let s := b.sow f
  let behind := match s.cur with
    | some c => c.bi
    | none => 0
  if s.fetch.isSome ∨ 8 ≤ s.res.length then b
  else
    match (b.upcoming f)[s.res.length - behind]? with
    | some p => (b.updSow f (fun s => { s with fetch := some p })).hbmReq 0 p f
    | none => b

/-! ### Issue (R143, R146, R168, R169) -/

/-- An item appended to the issued stream. -/
def pushItem (b : Block) (f : Nat) (i : Nat → SowItem) : Block :=
  let n := (b.sow f).nextId
  ((b.updSow f (fun s => { s with queue := s.queue ++ [i n], nextId := n + 1 })).rePos f).sowSync f

/-- `n` fallow vectors appended (R146, R168). -/
def pushFallow (b : Block) (f n : Nat) : Block := if n = 0 then b else b.pushItem f (fun i => .fallow i n)

/-- The stream filled with fallow vectors up to the first vector end at or after time `t` (R146, R147). -/
def fillTo (b : Block) (f t : Nat) : Block := b.pushFallow f (ceilDiv (t - (b.seq f).pos) (b.headPer f))

/-- A play of the segment headed by `head` appended, with the counts of its header (R169, R209, R211, R212). -/
def pushPlay (b : Block) (f head tsel : Nat) (cs : List (Nat × Nat)) : Block :=
  let b := (b.playIssue head).pushItem f (fun i => .seg i head tsel cs)
  (b.updSeq f (fun q => { q with issued := q.issued + countSum cs })).prefetch f

/-- Played vectors of field `f` up to those in the outbound buffer. -/
def emitted (b : Block) (f : Nat) : Nat :=
  (b.sow f).vnum + ((b.sow f).out.filter (fun r => r.kind == 0)).foldl (fun k r => k + r.count) 0

/-- Targets of waits and records that count vectors, changed by `g` (R166, R178); records whose vectors are all judged now take their
value. -/
def recount (b : Block) (f : Nat) (g : Nat → Nat) : Block :=
  let w := fun (x : Option Wait) => match x with
    | some (.judged v) => some (.judged (g v))
    | o => o
  let b := b.updSeq f (fun q => { q with
    issued := g q.issued, wait := w q.wait, stack := q.stack.map (fun e => { e with wait := w e.wait }) })
  let b : Block := { b with res := { b.res with queue := b.res.queue.map (fun (r : QRec) =>
    if r.field = f then { r with upTo := r.upTo.map g } else r) } }
  b.resolveRecs f (b.seq f).judged

/-- The plays of field `f` that have not finished end with their content discarded (R46, R212). -/
def endPlays (b : Block) (f : Nat) : Block :=
  let hs := (match (b.sow f).cur with
    | some c => [c.head]
    | none => []) ++ (b.sow f).queue.filterMap SowItem.headPage?
  let b := hs.foldl playFinish b
  (b.updSow f (fun s => { s with queue := [], cur := none, res := [], fetch := none, waiting := false })).sowSync f

/-! ### Frames (R44, R45, R145) -/

/-- SEQ_STAT.STATE of a live sequencer brought up to its frame and its wait (R160). -/
def seqSync (b : Block) (f : Nat) : Block :=
  if b.seqLive f then
    b.set (FLD f) SEQ_STAT.STATE (if !(b.seq f).opened then 2 else match (b.seq f).wait with
      | none => 1
      | some (.ev _ _) => 3
      | some (.woken _) => 1
      | some (.data _) => 7
      | some _ => 4)
  else b

/-- F(n) opens now, or at the close of F(n - 1) where that is later (R44); a frame that starts after B(n - 2) is shortened
(R45). -/
def frameOpen (b : Block) (f n : Nat) (accepted : Bool) : Block :=
  let start := max (20 * b.time.now) (b.seq f).closeCyc
  let b := b.updSeq f (fun q => { q with frame := n, opened := true, cycles := 96, startCyc := start
                                         accepted := if accepted then some n else q.accepted })
  if !accepted ∧ 20 * b.bSub (n - 2) < start then b.count (FLD f) SEQ_CATCHUP.COUNT 1 else b

/-- The open frame's cycles recorded as it closes (R161, SEQ_CYC of R160); the sequencer's part completes when they end (R44). -/
def frameShut (b : Block) (f : Nat) : Block :=
  let q := b.seq f
  let n := min q.cycles 0xFFFFFF
  let b := (b.set (FLD f) SEQ_CYC.LAST n).set (FLD f) SEQ_CYC.MAX (max n (b.get (FLD f) SEQ_CYC.MAX))
  b.updSeq f (fun q => { q with
    opened := false, closeCyc := q.startCyc + q.cycles
    closes := q.closes ++ [(q.frame, max (q.startCyc + q.cycles) (20 * b.time.now))] })

/-- F(n) closes once the stream position is at or after B(n + 1), and the next frame opens where it may; a frame that is covered
when it opens closes at once (R145). No more than `fuel` frames close. -/
def settleN : Nat → Block → Nat → Block
  | 0, b, _ => b
  | fuel + 1, b, f =>
    let q := b.seq f
    if b.seqLive f ∧ q.opened ∧ b.bHalf (q.frame + 1) ≤ q.pos then
      let b := b.frameShut f
      if q.frame + 1 ≤ b.time.ticks + 2 then settleN fuel (b.frameOpen f (q.frame + 1) false) f
      else b.updSeq f (fun x => { x with frame := q.frame + 1 })
    else b

/-- The frames that the stream covers close (R145): at most the open one and those that may follow it. -/
def settle (b : Block) (f : Nat) : Block := (settleN 8 b f).seqSync f

/-- A wait that fills frames (R146). -/
def tickWait (w : Option Wait) : Bool :=
  match w with
  | none => false
  | some (.data _) => false
  | some _ => true

/-- `k` vectors go to the outbound buffer, the first with markers `mks`. -/
def sowPut (b : Block) (f id k sym set per mks kind : Nat) : Block :=
  b.updSow f (fun s =>
    let one : OutRun := { id := id, start := s.epos, count := 1, sym := sym, set := set, per := per, mks := mks, kind := kind }
    let out := if mks = 0 then appendRun { one with count := k } s.out
      else if k = 1 then s.out ++ [one]
      else s.out ++ [one, { one with start := s.epos + per, count := k - 1, mks := 0 }]
    { s with out := out, epos := s.epos + k * per, putAt := b.time.now })

/-- The filling of a tick wait (R146): with nothing left to expand the Sower emits the fallow vectors at once, so that the frame is not
late for it (DEDUCED from the worked example of ch. 6, log entry 133). -/
def fillNow (b : Block) (f t : Nat) : Block :=
  let s := b.sow f
  let n := ceilDiv (t - (b.seq f).pos) (b.headPer f)
  if n = 0 ∨ !s.queue.isEmpty ∨ s.cur.isSome then b.fillTo f t
  else
    let b := (b.sowPut f s.nextId n symX (b.headSet f) (b.headPer f) 0 1).updSow f (fun s => { s with nextId := s.nextId + 1 })
    (if (b.seq f).headland then b else b.set (FLD f) SOW_STAT.STATE 4).rePos f

/-- In a tick wait the open frame is filled, closed, and the next opened, once B(n - 1) has come (R146). -/
def fillWaitN : Nat → Block → Nat → Block
  | 0, b, _ => b
  | fuel + 1, b, f =>
    let q := b.seq f
    if b.seqLive f ∧ tickWait q.wait ∧ q.opened ∧ q.frame ≤ b.time.ticks + 1 then
      fillWaitN fuel ((b.fillNow f (b.bHalf (q.frame + 1))).settle f) f
    else b

/-- The filling of a tick wait at this instant (R146). -/
def fillWait (b : Block) (f : Nat) : Block := fillWaitN 8 b f

/-- The frame that may open at this boundary opens, and closes at once where the stream covers it (R44, R145). -/
def frameTick (b : Block) (f : Nat) : Block :=
  let q := b.seq f
  if b.seqLive f ∧ !q.opened ∧ q.frame ≤ b.time.ticks + 2 then (b.frameOpen f q.frame false).settle f else b

/-! ### Completion and lookahead (R44 to R47, R50) -/

/-- The core cycle at which the sequencer's part of the frame of tick `n` completes, for a frame that has closed (R44). -/
def closeOf (b : Block) (f n : Nat) : Option Nat := ((b.seq f).closes.find? (fun c => c.1 == n)).map Prod.snd

/-- The sequencer's part of the tick with index `n` is done: its frame has closed and its cycles have ended (R44). -/
def seqPart (b : Block) (f n : Nat) : Bool :=
  match b.closeOf f n with
  | some c => decide (c ≤ 20 * b.time.now)
  | none => (b.seq f).ended || decide (n < (b.seq f).frame)

/-- The Sower's part of the tick with index `n` is done: every issued vector that starts in it is expanded. -/
def sowPart (b : Block) (f n : Nat) : Bool := decide (min (b.seq f).pos (b.bHalf (n + 1)) ≤ (b.sow f).epos)

/-- The field still has content in or after the tick with index `n`, or a program that may issue some. -/
def frameOwed (b : Block) (f n : Nat) : Bool := !(b.seq f).ended || decide (b.bHalf n < (b.seq f).pos)

/-- LA_NOW and LA_MIN brought up to the frame under construction (R50, R156): 0 while headland vectors play for a frame that is not
complete, which a delayed frame's index is one tick ahead of (R46). -/
def laSync (b : Block) (f : Nat) : Block :=
  let q := b.seq f
  let now := if !b.inStep f ∨ !b.frameOwed f q.compl ∨ q.accepted = some q.compl then 2
    else if q.headland ∧ q.compl ≤ b.time.ticks + 1 then 0 else min 2 (q.compl - b.time.ticks)
  (b.set (FLD f) LA_STAT.LA_NOW now).set (FLD f) LA_STAT.LA_MIN (min now (b.get (FLD f) LA_STAT.LA_MIN))

/-- F(n), the first frame not yet complete, is complete (R44): its slack is measured against its own boundary. -/
def frameDone (b : Block) (f : Nat) : Bool :=
  let n := (b.seq f).compl
  b.inStep f && !(b.seq f).done && b.frameOwed f n && b.seqPart f n && b.sowPart f n && decide (n ≤ b.time.ticks + 2)

/-- The frames that are complete are passed, at most `fuel` of them (R44, R50). -/
def completeN : Nat → Block → Nat → Block
  | 0, b, _ => b
  | fuel + 1, b, f =>
    if b.frameDone f then
      let q := b.seq f
      let t := max ((b.closeOf f q.compl).getD 0) (20 * (b.sow f).putAt)
      let b := b.set (FLD f) LA_STAT.SLACK_MIN (min (b.get (FLD f) LA_STAT.SLACK_MIN) (20 * b.bSub q.compl - t))
      completeN fuel (b.updSeq f (fun x => { x with
        compl := q.compl + 1, closes := x.closes.filter (fun c => c.1 != q.compl) })) f
    else b

/-- Complete frames passed now. -/
def frameComplete (b : Block) (f : Nat) : Block := (completeN 8 b f).laSync f

/-! ### Underrun (R46, R47, R119) -/

/-- A tick index at or after `m` moves on by one with a delayed frame. -/
def later (m n : Nat) : Nat := if m ≤ n then n + 1 else n

/-- A wait moves with the frames from `m` on: for a frame, and for the point of a long instruction that is awaited (R46,
R144). -/
def waitLater (m : Nat) (long : Option LongSt) : Option Wait → Option Wait
  | some (.frame n) => some (.frame (later m n))
  | some (.meas t) => some (.meas (if long.any (fun l => l.issued && decide (m ≤ l.idx)) then t + 1 else t))
  | w => w

/-- A long instruction's awaited point moves with its frame. -/
def longLater (m : Nat) (l : LongSt) : LongSt := if l.issued then { l with idx := later m l.idx } else l

/-- Everything of the field that belongs to the frame of tick `m` or a later one is delayed by one tick (R46, R144). -/
def delayFrames (b : Block) (f m : Nat) : Block :=
  let b := b.updSeq f (fun q => { q with
    frame := later m q.frame, compl := later m q.compl, accepted := q.accepted.map (later m)
    closes := q.closes.map (fun c => (later m c.1, c.2))
    acts := q.acts.map (fun a => (later m a.1, a.2))
    wait := waitLater m q.long q.wait, long := q.long.map (longLater m)
    stack := q.stack.map (fun e => { e with wait := waitLater m e.long e.wait, long := e.long.map (longLater m) }) })
  let b := b.updCap f (fun c => { c with prog := c.prog.map (fun r => (r.1, later m r.2.1, r.2.2)) })
  let b := b.updDds f (fun d => { d with prog := d.prog.map (fun r => (r.1, r.2.1, later m r.2.2)) })
  b.updDig f (fun d => { d with prog := d.prog.map (later m) })

/-- Headland vectors for tick `m` (R119): they follow the last vector in flight at B(m), up to the first end at or after
B(m + 1). With `cut` the content after them is dropped, else it moves behind them. -/
def headRun (b : Block) (f m : Nat) (cut : Bool) : Block :=
  let s := b.sow f
  let p := splitOut (b.bHalf m) s.out
  let cs := match p.2 with
    | r :: _ => r.start
    | [] => max (b.bHalf m) s.epos
  let per := b.headPer f
  let n := ceilDiv (b.bHalf (m + 1) - cs) per
  let run : List OutRun := if n = 0 then [] else
    [{ start := cs, count := n, sym := b.get (FLD f) SOW_HEAD.SYM, set := b.headSet f, per := per, kind := 2 }]
  let rest := if cut then [] else p.2.map (fun r => { r with start := r.start + n * per })
  let e := if cut ∨ p.2.isEmpty then cs + n * per else s.epos + n * per
  let b := (b.updSow f (fun s => { s with out := p.1 ++ run ++ rest, epos := e })).rePos f
  if s.waiting && !cut then b else b.set (FLD f) SOW_STAT.STATE 3

/-- The field underruns at B(m), m being the present tick (R46): not in WAITEV, not before its start tick, not once its content
has ended. Answers whether the sequencer's part, and whether the Sower's part, is not done. -/
def underrunNow (b : Block) (f : Nat) : Bool × Bool :=
  let m := b.time.ticks
  let due := b.inStep f && !(b.seq f).done && b.steps.all (fun st => !bit st.mask f || decide (st.start ≤ m)) &&
    !(match (b.seq f).wait with
      | some (.ev _ _) => true
      | some (.woken _) => true
      | _ => false) && b.frameOwed f m
  (due && !b.seqPart f m, due && !b.sowPart f m)

/-- The stop of a program that leaves its open frame (R157): its cycles are recorded. -/
def stopProgram (b : Block) (f state : Nat) : Block :=
  if b.seqLive f then (if (b.seq f).opened then b.frameShut f else b).seqEnd f state else b

/-- SOW_STAT.STATE after the last headland tick (R220, R226): what the Sower is at. -/
def sowResume (b : Block) (f : Nat) : Block :=
  let s := b.sow f
  b.set (FLD f) SOW_STAT.STATE (if s.waiting then 2 else if s.cur.isSome then 1 else match s.queue with
    | .fallow _ _ :: _ => 4
    | .head _ _ :: _ => 3
    | _ => 0)

/-- What the judgement `u` of the sequencer's and the Sower's part at B(m) brings (R46, R47): flags, the source of each cause once in an
underrun, then a headland tick under HOLD, or the end of the step under ABORT; or the end of the headland. Under ABORT the tick of
headland vectors is not counted in SEQ_UNDERRUN, and the step ends in this field only: its other fields run to their own end (DESIGN
CHOICE, log entry 151). -/
def underrun (u : Bool × Bool) (b : Block) (f : Nat) : Block :=
  if u.1 || u.2 then
    let m := b.time.ticks
    let stall := u.2 && (b.sow f).waiting
    let ovr := u.1 || (u.2 && !(b.sow f).waiting)
    let q := b.seq f
    let b := ((b.set (FLD f) LA_STAT.SLACK_MIN 0).set (FLD f) LA_STAT.LA_NOW 0).set (FLD f) LA_STAT.LA_MIN 0
    let fl := b.get (FLD f) SEQ_FLAGS.FLAGS
    let fl := if ovr then setBit fl 5 else fl
    let b := b.set (FLD f) SEQ_FLAGS.FLAGS (if stall then setBit fl 6 else fl)
    let b := { b with res := { b.res with stalled := Sparse.set 0 f 1 b.res.stalled } }
    let b := b.updStep f (fun st => { st with underran := setBit st.underran f })
    let b := b.updSeq f (fun x => { x with
      headland := true, ovrRaised := q.ovrRaised || ovr, stlRaised := q.stlRaised || stall })
    let b := (b.arriveIf (ovr && !q.ovrRaised) (272 + 8 * f + 1)).arriveIf (stall && !q.stlRaised) (272 + 8 * f + 2)
    if b.flag (FLD f) SOW_CTRL.POLICY then
      let b := ((b.stopProgram f 6).endPlays f).headRun f m true
      let last := b.emitted f
      let b := b.recount f (fun v => min v last)
      b.updStep f (fun st => { st with stalled := setBit st.stalled f })
    else ((b.headRun f m false).delayFrames f m).count (FLD f) SEQ_UNDERRUN.COUNT 1
  else if (b.seq f).headland then
    (b.updSeq f (fun q => { q with headland := false, ovrRaised := false, stlRaised := false })).sowResume f
  else b

/-- Every field judged at B(m) as the block `old` stands (R46): before a generation or the programs' settings for B(m) apply. -/
def underruns (old b : Block) : Block := (List.range 16).foldl (fun b f => underrun (old.underrunNow f) b f) b

/-- Complete frames of every field passed (R44). -/
def framesPass (b : Block) : Block := (List.range 16).foldl (fun b f => completeN 8 b f) b

/-! ### New periods (R210) -/

/-- The vectors of a run laid out from time `t` with the periods in force. -/
def relay (b : Block) (f : Nat) : Nat → List OutRun → List OutRun
  | _, [] => []
  | t, r :: rest =>
    let s := if r.kind = 0 then r.set else b.headSet f
    { r with start := t, set := s, per := b.period f s } :: relay b f (t + r.count * b.period f s) rest

/-- The end of the last run. -/
def runEnd (rs : List OutRun) (d : Nat) : Nat := rs.foldl (fun _ r => r.start + r.count * r.per) d

/-- A generation that changes periods has come into force at this boundary: the stream is laid out anew from its first vector at
or after it, and filled where it now falls short of the frame under construction (R129, R210). Frames that it now covers close, unless
an instruction is under way (a wait for data): a frame closes at an instruction boundary (R145), and that one's end settles them. -/
def restream (b : Block) (f : Nat) : Block :=
  let s := b.sow f
  let p := splitOut (b.bHalf b.time.ticks) s.out
  let out := match p.2 with
    | [] => []
    | r :: _ => b.relay f r.start p.2
  let b := (b.updSow f (fun s => { s with out := p.1 ++ out, epos := runEnd out s.epos })).rePos f
  if b.seqLive f then
    let t := b.bHalf (b.seq f).frame
    let b := if (b.seq f).pos < t then b.fillTo f t else b
    match (b.seq f).wait with
    | some (.data _) => b
    | _ => b.settle f
  else b

end Block

/-! ### The commands -/

/-- FRAME_COMPLETE (R44). -/
def execFrameComplete (f : Fin 16) (st : State) : Host.Outcome State Fault Refusal := .next (st.on (fun b => b.frameComplete f))

/-- LA_REARM (R50). -/
def execLaRearm (f : Fin 16) (st : State) : Host.Outcome State Fault Refusal :=
  .next (st.on (fun b => (b.set (FLD f) LA_STAT.SLACK_MIN 0xFFFFFF).set (FLD f) LA_STAT.LA_MIN 2))

end Sys2Proof.Machine
end

