-- ==== Sys2Proof/Machine/Sower.lean ====
section
/-!
DEFINITION. The Sower (ch. 9, R201 to R212, R219 to R221): reading record words, emitting vectors, page entry, format errors,
and segment jumps. One SOWER_EXPAND is one core cycle: at most two words and four vectors (R207).
-/
namespace Sys2Proof.Machine

/-- The Sower within one core cycle: the block, and the words and vectors that it may still read and emit. -/
structure Exp where
  b : Block
  words : Nat
  vecs : Nat

namespace Block

/-- Page `p` cannot be expanded: it is protected and damaged (R338). -/
def sowDamaged (b : Block) (p : Nat) : Bool := b.hbm.damaged.contains p && b.pgProt p

/-- A format error in the play in expansion, at word `w` of its page (R206): it is recorded and raised, the play ends, its
fetched pages leave, headland vectors are to run to the end that the header promises, and the vectors not played are waited for no
more. -/
def sowError (b : Block) (f code w : Nat) : Block :=
  match (b.sow f).cur with
  | none => b
  | some c =>
    let n := ceilDiv (b.countDur f c.tsel c.left) (b.headPer f)
    let gone := countSum c.left
    let first := b.emitted f
    let below := (b.chain c.page).length - 1
    let b := (((b.set (FLD f) SOW_ERR.PAGE c.page).set (FLD f) SOW_ERR.WORD w).set (FLD f) SOW_ERR.TICK b.tick16).set (FLD f)
      SOW_ERR.CODE code
    let b := (b.count (FLD f) SOW_EVCNT.FMT_ERR 1).playFinish c.head
    let b := b.updSow f (fun s => { s with
      cur := none
      queue := if n = 0 then s.queue else .head c.id n :: s.queue
      res := s.res.drop (c.bi + 1 + below)
      fetch := if s.res.length - c.bi ≤ below then none else s.fetch
      waiting := false })
    let b := b.recount f (fun v => if first + gone ≤ v then v - gone else v)
    let b := { b with res := { b.res with stalled := Sparse.set 0 f 1 b.res.stalled } }
    let b := ((b.rePos f).sowSync f).prefetch f
    (b.settle f).fault (272 + f) 0

/-- Vectors that may start before time `lim`, with period `per`. -/
def sowRoom (b : Block) (f lim per : Nat) : Nat := ceilDiv (lim - (b.sow f).epos) per

/-- The Sower waits for a page (R220): counted once. -/
def sowWait (b : Block) (f : Nat) : Block :=
  if (b.sow f).waiting then b
  else ((b.updSow f (fun s => { s with waiting := true })).set (FLD f) SOW_STAT.STATE 2).count (FLD f) SOW_EVCNT.WAITS 1

/-- Expansion enters the page after the present one (R219, R220): the pages that no repeat block needs any more leave. -/
def sowEnter (b : Block) (f : Nat) (c : Cur) : Block :=
  let p := b.pgNext c.page
  let reps := c.reps.map (fun r => { r with back := r.back + 1 })
  let keep := reps.foldl (fun n r => if 1 < r.passes then max n r.back else n) 0
  let b := b.updSow f (fun s => { s with
    res := s.res.drop (c.bi + 1 - keep), waiting := false
    cur := some { c with page := p, word := 0, reps := reps, bi := keep } })
  let b := ((b.set (FLD f) SOW_STAT.STATE 1).sowSync f).prefetch f
  if b.sowDamaged p then b.sowError f 9 0 else b

/-- The play in expansion has reached its END (R206, R212). -/
def sowEnd (b : Block) (f : Nat) (c : Cur) : Block :=
  if c.left ≠ [] then b.sowError f 7 (c.word - 1)
  else
    let b := (b.playFinish c.head).updSow f (fun s => { s with cur := none, res := s.res.drop (c.bi + 1) })
    (b.sowSync f).prefetch f

/-- Expansion of the play at the front begins on its head page (R219, R220). -/
def sowBegin (b : Block) (f id head tsel : Nat) (cs : List (Nat × Nat)) : Block :=
  let c : Cur := { id := id, head := head, tsel := tsel, page := head, left := cs }
  let b := b.updSow f (fun s => { s with queue := s.queue.drop 1, cur := some c, waiting := false })
  let b := ((b.set (FLD f) SOW_STAT.STATE 1).sowSync f).prefetch f
  if b.sowDamaged head then b.sowError f 9 80 else b

end Block

/-- The format error that a record word shows, 0 for none (R203, R206): a reserved type, bits that must be zero, a count or
length, nesting or body, in that order. `left` is what is left of the innermost body after this word, if one is open. -/
def recordError (w depth : Nat) (left : Option Nat) : Nat :=
  let ty := bits w 60 4
  let pay := bits w 0 49
  let plain := bits w 49 4 = 0 ∧ bits w 59 1 = 0 ∧ pay = 0
  let longer := fun n => left.any (fun l => decide (l < n))
  if 9 ≤ ty then 1
  else if ty = 0 ∨ ty = 8 then (if ¬ plain then 2 else if left.isSome then 4 else 0)
  else if ty ≤ 4 then (if pay / 2 ^ (12 * ty) ≠ 0 then 2 else 0)
  else if ty = 5 then (if 16 ≤ pay then 2 else if pay = 0 then 3 else if longer pay then 4 else 0)
  else if ty = 6 then (if bits w 32 4 ≠ 0 ∨ bits w 48 1 ≠ 0 then 2 else if bits w 0 32 = 0 then 3 else 0)
  else if bits w 46 3 ≠ 0 then 2
  else if bits w 0 32 = 0 ∨ bits w 32 14 = 0 ∨ 8192 < bits w 32 14 then 3
  else if 4 ≤ depth ∨ longer (bits w 32 14) then 4
  else 0

/-- One word read from the innermost body. -/
def bodyRead (n : Nat) : List RepSt → List RepSt
  | [] => []
  | r :: rest => { r with left := r.left - n } :: rest

/-- The vectors that a record gives at once: symbols and count (R203). -/
def recordVecs (m : List Host.Cell) (f w : Nat) : List (Nat × Nat) :=
  let ty := bits w 60 4
  if ty ≤ 4 then (List.range ty).map (fun i => (dictWord m f (bits w (12 * i) 12), 1))
  else [(dictWord m f (bits w 36 12), bits w 0 32)]

namespace Block

/-- A record word is taken (R203, R204, R205). -/
def sowRecord (b : Block) (m : List Host.Cell) (f : Nat) (c : Cur) (w : Nat) (dictErr : Bool) : Block :=
  let ty := bits w 60 4
  let at_ := c.word
  let reps := bodyRead 1 c.reps
  let err := recordError w reps.length (reps.head?.map (fun r => r.left))
  let put := fun (c : Cur) => b.updSow f (fun s => { s with cur := some c })
  let c := { c with word := c.word + 1, reps := reps }
  let c' := { c with
    ts := if bits w 59 1 = 1 then some (bits w 53 6) else c.ts
    mks := c.mks ||| bits w 49 4 }
  if err ≠ 0 then (put c).sowError f err at_
  else if ty = 0 then put { c with word := 4096 }
  else if ty = 8 then (put c).sowEnd f c
  else if ty = 5 then put { c' with lits := bits w 0 4 }
  else if ty = 7 then
    put { c' with reps := { page := c.page, word := c.word, len := bits w 32 14, left := bits w 32 14
                            passes := bits w 0 32, mks := bits w 49 4 } :: bodyRead (bits w 32 14) reps }
  else if dictErr then (put c).sowError f 8 at_
  else
    let vs := recordVecs m f w
    if vs.all (fun v => symbolsOk v.1) then put { c' with pend := vs } else (put c).sowError f 5 at_

/-- A literal word is taken (R203). -/
def sowLiteral (b : Block) (f : Nat) (c : Cur) (w : Nat) : Block :=
  let c' := { c with word := c.word + 1, reps := bodyRead 1 c.reps, lits := c.lits - 1, pend := [(w, 1)] }
  if symbolsOk w then b.updSow f (fun s => { s with cur := some c' }) else b.sowError f 5 c.word

/-- The next pass of the innermost repeat block begins on an earlier page whose directory row cannot be read: the page counts as not
resident (R218, R220). -/
def passBad (b : Block) (c : Cur) : Bool := c.reps.head?.any (fun r => decide (1 < r.passes ∧ r.page ≠ c.page) && b.rowBad r.page)

/-- A pass of the innermost repeat block has ended (R205): the next one, or the word after the body. -/
def sowPass (b : Block) (f : Nat) (c : Cur) : Block :=
  let c' := match c.reps with
    | [] => c
    | r :: rest =>
      if 1 < r.passes then
        { c with page := r.page, word := r.word, mks := c.mks ||| r.mks, bi := c.bi - r.back
                 reps := { r with left := r.len, passes := r.passes - 1, back := 0 } ::
                   rest.map (fun x => { x with back := x.back - r.back }) }
      else { c with reps := rest }
  (b.updSow f (fun s => { s with cur := some c' })).sowSync f

end Block

/-- Vectors of the pending symbols go out, as many as the cycle, the count and the tick allow (R44, R204, R206, R207); none:
the Sower can emit nothing more now. -/
def sowEmit (lim f : Nat) (x : Exp) (c : Cur) (sym cnt : Nat) (rest : List (Nat × Nat)) : Option Exp :=
  let key := c.ts.getD 64
  let set := c.ts.getD c.tsel
  let per := x.b.period f set
  let k := min x.vecs (min cnt (x.b.sowRoom f lim per))
  let left := Sparse.get 0 key c.left
  if k = 0 then none
  else if left = 0 then some { x with b := x.b.sowError f 7 (c.word - 1) }
  else
    let k := min k left
    let b := (x.b.sowPut f c.id k sym set per c.mks 0).updSow f (fun s => { s with
      cur := some { c with mks := 0, left := Sparse.set 0 key (left - k) c.left
                           pend := if cnt = k then rest else (sym, cnt - k) :: rest } })
    some { x with b := b.set (FLD f) SOW_STAT.STATE 1, vecs := x.vecs - k }

/-- Fallow or headland vectors of the item at the front go out. -/
def sowFill (lim f : Nat) (x : Exp) (id n kind : Nat) (back : Nat → SowItem) : Option Exp :=
  let set := x.b.headSet f
  let per := x.b.period f set
  let sym := if kind = 1 then symX else x.b.get (FLD f) SOW_HEAD.SYM
  let k := min x.vecs (min n (x.b.sowRoom f lim per))
  if n = 0 then some { x with b := x.b.updSow f (fun s => { s with queue := s.queue.drop 1 }) }
  else if k = 0 then none
  else
    let b := (x.b.sowPut f id k sym set per 0 kind).updSow f (fun s => { s with
      queue := if k = n then s.queue.drop 1 else back (n - k) :: s.queue.drop 1 })
    some { x with b := b.set (FLD f) SOW_STAT.STATE (if kind = 1 then 4 else 3), vecs := x.vecs - k }

/-- One action of the Sower of field `f` (R207): none when it can do nothing more in this cycle. Vectors that start at or after
`lim` are not emitted; with `free` pages need not be resident. -/
def sowStep (m : List Host.Cell) (f lim : Nat) (free dictErr : Bool) (x : Exp) : Option Exp :=
  let b := x.b
  let s := b.sow f
  match s.cur with
  | none =>
    match s.queue with
    | [] => none
    | .fallow i n :: _ => sowFill lim f x i n 1 (fun k => .fallow i k)
    | .head i n :: _ => sowFill lim f x i n 2 (fun k => .head i k)
    | .seg i h tsel cs :: _ =>
      if lim ≤ s.epos ∨ (!free ∧ (s.res.isEmpty ∨ b.rowBad h)) then none else some { x with b := b.sowBegin f i h tsel cs }
  | some c =>
    match c.pend with
    | (sym, cnt) :: rest => sowEmit lim f x c sym cnt rest
    | [] =>
      if c.lits = 0 ∧ c.reps.head?.any (fun r => r.left == 0) then
        if !free ∧ b.passBad c then none else some { x with b := b.sowPass f c }
      else if 4096 ≤ c.word then
        if b.pgLast c.page then some { x with b := b.sowError f 6 4095 }
        else if lim ≤ s.epos ∨ (!free ∧ (s.res.length ≤ c.bi + 1 ∨ b.rowBad (b.pgNext c.page))) then none
        else some { x with b := b.sowEnter f c }
      else if x.words = 0 then none
      else
        let w := pageWord m c.page c.word
        let b := if c.lits = 0 then b.sowRecord m f c w dictErr else b.sowLiteral f c w
        some { x with b := b, words := x.words - 1 }

/-- At most `fuel` actions. -/
def sowRun (m : List Host.Cell) (f lim : Nat) (free dictErr : Bool) : Nat → Exp → Exp
  | 0, x => x
  | fuel + 1, x =>
    match sowStep m f lim free dictErr x with
    | some y => sowRun m f lim free dictErr fuel y
    | none => x

namespace Block

/-- Expansion must enter a page that is not resident (R220). -/
def sowBlocked (b : Block) (f lim : Nat) : Bool :=
  let s := b.sow f
  decide (s.epos < lim) &&
  match s.cur with
  | none => (match s.queue with
    | .seg _ h _ _ :: _ => s.res.isEmpty || b.rowBad h
    | _ => false)
  | some c =>
    let gone := c.lits == 0 && c.reps.head?.any (fun r => r.left == 0)
    c.pend.isEmpty && (if gone then b.passBad c
      else decide (4096 ≤ c.word) && !b.pgLast c.page && (decide (s.res.length ≤ c.bi + 1) || b.rowBad (b.pgNext c.page)))

/-- One core cycle of the Sower of field `f` (R44, R207, R220): never a vector of a tick more than two ahead. STATE shows a headland
tick while one lasts (R226). -/
def sowCycle (b : Block) (m : List Host.Cell) (f : Nat) (dictErr : Bool) : Block :=
  let lim := b.bHalf (b.time.ticks + 3)
  let b := (sowRun m f lim false dictErr 64 { b := b, words := 2, vecs := 4 }).b
  if b.sowBlocked f lim then b.sowWait f
  else if (b.seq f).headland then b.set (FLD f) SOW_STAT.STATE 3
  else if (b.sow f).cur.isNone ∧ (b.sow f).queue.isEmpty then b.set (FLD f) SOW_STAT.STATE 0
  else b

/-- All words of the page being fetched have arrived (R219): it is resident, and the next fetch starts. A directory row that cannot
be read leaves it not resident (R218), and so does content that is awaited (R337 to R339). -/
def fetchDone (b : Block) (f err : Nat) : Block :=
  match (b.sow f).fetch with
  | none => b
  | some p =>
    if b.hbmWaits 0 p f ∨ b.pageHeld p then b
    else
      let r := b.dirRead p err
      if r.2 then
        let b := r.1.updSow f (fun s => { s with res := s.res ++ [p], fetch := none })
        (b.sowSync f).prefetch f
      else r.1

/-! ### Segment jumps (R170, R221) -/

/-- The pieces of the issued stream from the first vector at or after a time on: serial number, whether it is fallow, vectors
and duration. -/
def jumpPieces (b : Block) (f t : Nat) : List (Nat × Bool × Nat × Nat) :=
  let s := b.sow f
  let runs := ((splitOut t s.out).2.filter (fun r => r.id != 0)).map (fun r => (r.id, r.kind == 1, r.count, r.count * r.per))
  let cur := match s.cur with
    | some c => [(c.id, false, countSum c.left, b.curDur f)]
    | none => []
  let items := s.queue.map (fun i => match i with
    | .seg n _ _ cs => (n, false, countSum cs, b.itemDur f i)
    | .fallow n k => (n, true, k, b.itemDur f i)
    | .head n k => (n, false, k, b.itemDur f i))
  runs ++ cur ++ items

/-- Where those pieces begin. -/
def jumpStart (b : Block) (f t : Nat) : Nat :=
  match (splitOut t (b.sow f).out).2.filter (fun r => r.id != 0) with
  | r :: _ => r.start
  | [] => (b.sow f).epos

end Block

/-- The first boundary between pieces, not both fallow, that at least 48 vectors precede (R170): its time, and the serial number
of what follows it. -/
def jumpFind : Option (Nat × Bool) → Nat → Nat → List (Nat × Bool × Nat × Nat) → Option (Nat × Nat)
  | _, _, _, [] => none
  | prev, k, t, p :: rest =>
    if 48 ≤ k ∧ prev.any (fun q => q.1 != p.1 && !(q.2 && p.2.1)) then some (t, p.1)
    else jumpFind (some (p.1, p.2.1)) (k + p.2.2.1) (t + p.2.2.2) rest

namespace Block

/-- The jump point of an SJMP in F(n), if the issued stream has one (R170): its time and the first item after it. What is issued
and not yet expanded is looked at as it will expand. -/
def jumpPoint (b : Block) (m : List Host.Cell) (f n : Nat) : Option (Nat × Nat) :=
  let t := b.bHalf n
  let fuel := 2 ^ 60
  let c := (sowRun m f t true false fuel { b := b, words := 2 ^ 60, vecs := 2 ^ 60 }).b
  jumpFind none 0 (c.jumpStart f t) (c.jumpPieces f t)

/-- Everything issued to start at or after the jump point is discarded (R170, R221): expanded symbols, the play in expansion,
waiting items and fetched pages. Answers the head pages of the plays discarded. -/
def jumpCut (b : Block) (f time id : Nat) : Block × List Nat :=
  let s := b.sow f
  let cut := s.cur.any (fun c => decide (id ≤ c.id))
  let keep := s.queue.filter (fun i => decide (i.num < id))
  let drop := s.queue.filter (fun i => !decide (i.num < id))
  let goneOut := (s.out.filter (fun r => decide (id ≤ r.id) && r.kind == 0)).foldl (fun n r => n + r.count) 0
  let goneCur := match s.cur with
    | some c => if cut then countSum c.left else 0
    | none => 0
  let gone := goneOut + goneCur + drop.foldl (fun n i => n + i.vecs) 0
  let heads := (match s.cur with
    | some c => if cut then [c.head] else []
    | none => []) ++ drop.filterMap SowItem.headPage?
  let behind := match s.cur with
    | some c => c.bi
    | none => 0
  let pages := (match s.cur with
    | some c => if cut then 0 else (b.chain c.page).length
    | none => 0) + (keep.filterMap SowItem.headPage?).foldl (fun n h => n + (b.chain h).length) 0
  let b := b.updSow f (fun s => { s with
    out := s.out.filter (fun r => decide (r.id < id)), queue := keep, cur := if cut then none else s.cur
    epos := min s.epos time
    res := if cut then [] else s.res.take (behind + pages)
    fetch := if s.res.length - behind < pages then s.fetch else none })
  let now := (b.seq f).issued - gone
  (b.recount f (fun v => min v now), heads)

/-- The head pages of the plays that an SJMP in F(n) would discard; none where it has no jump point. -/
def jumpHeads (b : Block) (m : List Host.Cell) (f n : Nat) : List Nat := (b.jumpPoint m f n).toList.flatMap (fun j => (b.jumpCut f j.1 j.2).2)

/-- SJMP to the segment headed by `head` in F(n) (R170, R221): at its jump point the new segment follows; with none it is appended
as by PLAY. The discarded plays end at B(n) (DEDUCED, log entry 11). -/
def segJump (b : Block) (m : List Host.Cell) (f head tsel n : Nat) : Block :=
  match b.jumpPoint m f n with
  | none => b.pushPlay f head tsel (segCounts m head)
  | some (t, id) =>
    let r := b.jumpCut f t id
    let b := r.1.updSeq f (fun q => { q with acts := q.acts ++ [(n, r.1.time.now, .sjmp r.2)] })
    b.pushPlay f head tsel (segCounts m head)

/-- At B(n) the plays that an SJMP discarded end, and the jump counts (R212, R221). -/
def jumpApply (b : Block) (f : Nat) : Block :=
  let due := fun (a : Nat × Nat × Act) => decide (a.1 ≤ b.time.ticks) && (match a.2.2 with
    | .sjmp _ => true
    | _ => false)
  let jumps := (b.seq f).acts.filter due
  let b := b.updSeq f (fun q => { q with acts := q.acts.filter (fun a => !due a) })
  let b := jumps.foldl (fun b a => match a.2.2 with
    | .sjmp hs => (hs.foldl playFinish b).count (FLD f) SOW_EVCNT.JUMPS 1
    | _ => b) b
  b.sowSync f

end Block

/-! ### The commands -/

/-- SOWER_EXPAND (R207). -/
def execSowerExpand (f : Fin 16) (dictErr : Bool) (st : State) : Host.Outcome State Fault Refusal :=
  .next (st.on (fun b => b.sowCycle st.mem f dictErr))
/-- PAGE_FETCH_COMPLETE (R219). -/
def execPageFetchComplete (f : Fin 16) (dirErr : Fin 5) (st : State) : Host.Outcome State Fault Refusal :=
  .next (st.on (fun b => b.fetchDone f dirErr))
/-- SJMP_APPLY (R221). -/
def execSjmpApply (f : Fin 16) (st : State) : Host.Outcome State Fault Refusal := .next (st.on (fun b => b.jumpApply f))

end Sys2Proof.Machine
end

