-- ==== Sys2Proof/Machine/Tia.lean ====
section
/-!
DEFINITION. The time-interval analysers (ch. 10): stamps, FIFOs and the stamp writer, the interpolator's calibration and DLL,
and the frequency unit. Times are absolute, in units of 0.5 ps: one sub-tick is 20,000 of them.
-/
namespace Sys2Proof.Machine

/-- Half picoseconds in a sub-tick (10 ns). -/
def subHalf : Nat := 20000

/-- The channel within its field that slice `s` stands for (R231). -/
def Block.slcK (b : Block) (s : Nat) : Nat :=
  match b.slcChan s with
  | some c => c % 16
  | none => s % 17 % 16

namespace Block

/-- Stamps are taken without a valid calibration (R231, R236, R238). -/
def uncal (b : Block) (s : Nat) : Bool := !(b.flag (SLC s) TIA_STAT.CAL_OK && b.flag (SLC s) TIA_STAT.DLL_LOCK)

/-- The epoch key of a stamp taken now: sync pulses and TICKNO[63:24] (R234). -/
def epochKey (b : Block) : Nat := b.time.syncs * 2 ^ 40 + b.tick / 2 ^ 24

/-- A stamp word (R231). -/
def stampWord (b : Block) (s : Nat) (rising : Bool) (ofs : Nat) : Nat :=
  (if rising then 2 else 3) * 2 ^ 62 + b.slcK s * 2 ^ 58 + b01 (b.tia s).gap * 2 ^ 57 + b01 b.cold * 2 ^ 56 +
    b01 (b.uncal s) * 2 ^ 55 + b.tick % 2 ^ 24 * 2 ^ 31 + ofs % 2 ^ 31

/-- LEVEL brought up to the FIFO (R245). -/
def tiaLevel (b : Block) (s : Nat) : Block := b.set (SLC s) TIA_STAT.LEVEL (b.tia s).fifo.length

/-- A stamp at absolute time `t` for the fit of the open gate (R240). -/
def gateStamp (g : GateSt) (t : Nat) : GateSt :=
  if g.s1 = 0 then { g with t0 := t, e0 := g.edges, s1 := 1 }
  else
    let e := g.edges - g.e0
    let u := t - g.t0
    { g with s1 := g.s1 + 1, se := g.se + e, st := g.st + u, see := g.see + e * e, set := g.set + e * u, stt := g.stt + u * u }

/-- The open gate of slice `s` counts a rising edge (R240). -/
def gateEdge (b : Block) (s : Nat) (f : GateSt → GateSt) : Block :=
  b.updTia s (fun t => { t with gate := t.gate.map (fun g => if g.opened then f g else g) })

/-- A gate is open on slice `s` at the absolute time `t` and its interpolator has started (R239). -/
def gateLive (b : Block) (s t : Nat) : Bool :=
  (b.tia s).gate.any (fun g => g.opened && decide (g.opensAt * subHalf ≤ t ∧ t < g.endsAt * subHalf)) && !(b.tia s).lateGate

/-- Slice `s` stamps an edge of that polarity at the absolute time `t`: MODE selects it, and a delayed start has begun (R227, R230, R239). -/
def stampsEdge (b : Block) (s : Nat) (rising : Bool) (t : Nat) : Bool :=
  (b.tia s).stamping && bit (b.get (SLC s) TIA_STAT.MODE_ACT) (if rising then 0 else 1) &&
    ((b.tia s).stampFrom.all (fun u => decide (u * subHalf ≤ t)))

/-- A selected edge that found the FIFO full (R229, R245): lost, and signalled once after each read of TIA_EVCNT. -/
def stampLost (b : Block) (s : Nat) : Block :=
  let b := (b.count (SLC s) TIA_EVCNT.LOST 1).updTia s (fun t => { t with gap := true })
  if (b.tia s).lostSignalled then b
  else (b.updTia s (fun t => { t with lostSignalled := true })).arriveIf (b.flag (SLC s) TIA_CTRL.IRQ) s

/-- An edge of the selected comparator of slice `s`, `ofs` after the last tick boundary (R228, R229, R240). -/
def tiaEdge (b : Block) (s : Nat) (rising : Bool) (ofs : Nat) : Block :=
  let t := b.time.lastB * subHalf + ofs
  let sel := b.stampsEdge s rising t
  let live := rising && b.gateLive s t
  let b := if live then b.gateEdge s (fun g => { g with edges := g.edges + 1 }) else b
  if !sel && !live then b
  else if (b.tia s).lastStamp.any (fun l => decide (t < l + 800)) then
    if sel then (b.count (SLC s) TIA_EVCNT.MISSED 1).updTia s (fun x => { x with gap := true }) else b
  else
    let full := decide (64 ≤ (b.tia s).fifo.length)
    let b := if live then (b.gateEdge s (fun g => gateStamp g t)).updTia s (fun x => { x with lastStamp := some t }) else b
    if !sel then b
    else if full then b.stampLost s
    else
      (b.updTia s (fun x => { x with
        fifo := x.fifo ++ [(b.epochKey, t, b.stampWord s rising ofs)], gap := false, lastStamp := some t })).tiaLevel s

/-- The node of slice `s` comes to `uv` µV, `ofs` after the last tick boundary: a change of the comparator output that SRC in force selects
is an edge, of the other one none (R60, R227). -/
def tiaNode (b : Block) (s : Nat) (uv : Int) (ofs : Nat) : Block :=
  let old := (b.tia s).cmp
  let new := b.cmpStep s old uv
  let pick := fun (c : Bool × Bool) => if b.flag (SLC s) TIA_STAT.SRC_ACT then c.2 else c.1
  let b := b.updTia s (fun x => { x with cmp := new })
  if pick old = pick new then b else b.tiaEdge s (pick new) ofs

/-! ### The stamp writer (R232 to R235) -/

/-- The next slice of field `f` whose FIFO holds a stamp, after the one served last (R232). -/
def nextFifo (b : Block) (f : Nat) : Option Nat :=
  ((List.range 17).map (fun i => ((b.chainSt f).last + 1 + i) % 17)).find? (fun j => !(b.tia (17 * f + j)).fifo.isEmpty)

/-- The epoch word before a stamp with epoch key `key` (R231, R234): RESYNC where a sync pulse lies between it and the stamp served before
it, which had `syncs` pulses behind it. -/
def epochWord (syncs key : Nat) : Nat := 2 ^ 62 + b01 (decide (syncs < key / 2 ^ 40)) * 2 ^ 61 + key % 2 ^ 40

/-- The copy of a stamp that the capture engine of field `f` takes while it selects stamps (R264), with an epoch word before it
where one is due. -/
def capStamp (b : Block) (f k : Nat) (x : Nat × Nat × Nat) : Block :=
  if b.get (FLD f) CAP_CFG.SRC = 3 ∧ b.capActive f ∧ bit (b.get (FLD f) CAP_CFG.CHMASK) k then
    b.updCap f (fun c =>
      let ep := if c.epoch = some x.1 then [] else [(epochWord c.syncs x.1, x.2.1, 0)]
      { c with feed := c.feed ++ ep ++ [(x.2.2, x.2.1, 0)], epoch := some x.1, syncs := x.1 / 2 ^ 40 })
  else b

end Block

/-- A word appended to the stamp chain of field `f` (R234, R235): a full page becomes READY and the next one follows; after the
last one TRUNC is set and the writer stops. -/
def chainAppend (st : State) (f w : Nat) : State :=
  let b := st.blk
  let p := b.get (FLD f) TIA_FSTAT.PAGE
  let n := b.get (FLD f) TIA_FSTAT.WORDS
  let mem := setPageWord st.mem p (n % 4096) w
  let b := (b.set (FLD f) TIA_FSTAT.WORDS (n + 1)).hbmReq 2 p f
  if n % 4096 = 4095 then
    let b := b.pgSet 2 p
    if b.pgLast p then
      { st with
        blk := (b.setFlag (FLD f) TIA_FSTAT.TRUNC true).arriveIf (b.flag (FLD f) TIA_FCHAIN.FULL_SIG) (272 + 8 * f), mem := mem }
    else { st with blk := b.set (FLD f) TIA_FSTAT.PAGE (b.pgNext p), mem := mem }
  else { st with blk := b, mem := mem }

/-- The writer takes the oldest stamp of the next FIFO in rotation (R232, R234): an epoch word first where one is due. While the memory
takes no requests the stamps wait (R14). -/
def stampWrite (st : State) (f : Nat) : State :=
  let b := st.blk
  if !b.flag (FLD f) TIA_FCHAIN.EN ∨ b.flag (FLD f) TIA_FSTAT.TRUNC then st
  else if !b.hbmTakes then (if (b.nextFifo f).isNone then st else st.on Block.hbmKnock)
  else
    match b.nextFifo f with
    | none => st
    | some j =>
      match (b.tia (17 * f + j)).fifo with
      | [] => st
      | x :: rest =>
        let old := (b.chainSt f).epoch
        let due := old != some x.1
        let st := if due then
            (chainAppend st f (Block.epochWord (b.chainSt f).syncs x.1)).on (fun b =>
              b.updChain f (fun c => { c with epoch := some x.1, syncs := x.1 / 2 ^ 40 }))
          else st
        if st.blk.flag (FLD f) TIA_FSTAT.TRUNC then st
        else
          let k := st.blk.slcK (17 * f + j)
          let st := st.on (fun b => ((b.updTia (17 * f + j) (fun t => { t with fifo := rest })).tiaLevel (17 * f + j)).updChain f
            (fun c => { c with last := j }))
          (chainAppend st f x.2.2).on (fun b => b.capStamp f k x)

/-- `n` padding words appended (R234). -/
def chainPad (f : Nat) : Nat → State → State
  | 0, st => st
  | n + 1, st => chainPad f n (chainAppend st f 0)

/-- The writer flushes the page in progress once the FIFOs have drained, at the end of a step or for a detach (R233, R235). -/
def stampFlush (st : State) (f : Nat) : State :=
  let b := st.blk
  let n := b.get (FLD f) TIA_FSTAT.WORDS % 4096
  if b.flag (FLD f) TIA_FCHAIN.EN ∧ !b.flag (FLD f) TIA_FSTAT.TRUNC ∧ b.hbmTakes ∧ (b.nextFifo f).isNone ∧ n ≠ 0 ∧
      ((b.chainSt f).detach ∨ (b.seq f).done ∨ b.idle f) then chainPad f (4096 - n) st
  else st

namespace Block

/-- Every stamp of field `f` stands in a page that is READY (R235): the FIFOs have drained and the page in progress is flushed. It holds
where no chain is attached, and where the writer has stopped at the end of its chain. -/
def stampsOut (b : Block) (f : Nat) : Bool :=
  !b.flag (FLD f) TIA_FCHAIN.EN || b.flag (FLD f) TIA_FSTAT.TRUNC ||
    ((b.nextFifo f).isNone && b.get (FLD f) TIA_FSTAT.WORDS % 4096 == 0)

/-- A write of TIA_FCHAIN (R233): the host must hold the stamp page-chain hasp; a chain is attached only in an idle field, by the head of a
stamps chain of the field in FILLING; EN written as 0 in an idle field detaches after the flush; any other write is refused. -/
def fchainWrite (b : Block) (f v : Nat) : Block :=
  let head := v % 2 ^ 20
  if !b.idle f || !b.hostHeld (16 * f + 5) then b.fault (272 + f) 0
  else if bit v 20 then
    if b.pgHead head ∧ b.pgOwner head = 3 ∧ b.pgUnit head = f ∧ b.pgState head = 1 then
      let b := (b.set (FLD f) TIA_FCHAIN.HEAD head).setFlag (FLD f) TIA_FCHAIN.EN true
      let b := (b.setFlag (FLD f) TIA_FCHAIN.FULL_SIG (bit v 21)).setFlag (FLD f) TIA_FSTAT.TRUNC false
      ((b.set (FLD f) TIA_FSTAT.PAGE head).set (FLD f) TIA_FSTAT.WORDS 0).updChain f (fun c => { c with epoch := none, detach := false })
    else b.fault (272 + f) 0
  else
    let b := (b.setFlag (FLD f) TIA_FCHAIN.FULL_SIG (bit v 21)).set (FLD f) TIA_FCHAIN.HEAD head
    if b.flag (FLD f) TIA_FCHAIN.EN then b.updChain f (fun c => { c with detach := true }) else b

/-- The chain is detached after the writer has flushed it (R233). -/
def chainDetach (b : Block) (f : Nat) : Block :=
  if (b.chainSt f).detach ∧ (b.flag (FLD f) TIA_FSTAT.TRUNC ∨
      (b.get (FLD f) TIA_FSTAT.WORDS % 4096 = 0 ∧ (b.nextFifo f).isNone)) then
    (b.setFlag (FLD f) TIA_FCHAIN.EN false).updChain f (fun c => { c with detach := false })
  else b

/-- A read of TIA_POP (R233, R245): the oldest stamp, or a padding word. -/
def tiaPop (b : Block) (s : Nat) : Block :=
  match (b.tia s).fifo with
  | [] => { b with host := { b.host with lastRead := [0] } }
  | x :: rest =>
    if b.flag (FLD (s / 17)) TIA_FCHAIN.EN then { b with host := { b.host with lastRead := [0] } }
    else
      let b := (b.updTia s (fun t => { t with fifo := rest })).tiaLevel s
      { b with host := { b.host with lastRead := [x.2.2] } }

/-! ### Calibration and DLL (R236 to R239) -/

/-- The open or waiting gate of slice `s` loses its validity (R241). -/
def gateBad (b : Block) (s : Nat) : Block := b.updTia s (fun t => { t with gate := t.gate.map (fun g => { g with bad := true }) })

/-- The interpolator's measurement ends with the averages over one and two periods (R237 to R239). A start that waits for it
begins now. -/
def tiaCal (b : Block) (s one two : Nat) : Block :=
  let gain := two - one
  let ok := decide (896 ≤ gain ∧ gain ≤ 1152)
  let b := (b.set (SLC s) TIA_CAL.TICK b.tick16).set (SLC s) TIA_CAL.GAIN gain
  let b := (b.set (SLC s) TIA_CAL.OFS (ofSigned 16 (2 * Int.ofNat one - Int.ofNat two))).setFlag (SLC s) TIA_STAT.CAL_OK ok
  let late := (b.tia s).lateStamp || (b.tia s).lateGate
  let b := if (b.tia s).lateStamp then b.updTia s (fun t => { t with lateStamp := false, stamping := true, stampFrom := some b.time.now }) else b
  let b := if (b.tia s).lateGate then b.updTia s (fun t => { t with lateGate := false, gate := t.gate.map (fun g => { g with
      short := true, opensAt := max g.opensAt b.time.now }) }) else b
  let b := if late then b.count (SLC s) TIA_EVCNT.LATE 1 else b
  if ok then b else ((b.gateBad s).updTia s (fun t => { t with dllDue := true })).fault s 3

/-- The DLL of slice `s` starts locking (R236): at once where it is not locked, and as boundary work where a calibration has
failed. -/
def dllLock (b : Block) (s : Nat) : Block :=
  let f := s / 17
  if (b.tia s).dllAt.isSome then b
  else if !b.flag (SLC s) TIA_STAT.DLL_LOCK then b.updTia s (fun t => { t with dllAt := some b.time.now, dllDue := false })
  else if (b.tia s).dllDue ∧ b.idle f ∧ b.atBoundary then
    (((b.setFlag (SLC s) TIA_STAT.DLL_LOCK false).gateBad s).updTia s
      (fun t => { t with dllAt := some b.time.now, dllDue := false })).workStart (some f) 8 s
  else b

/-- After 200 µs the DLL is locked (R236). -/
def dllDone (b : Block) (s : Nat) : Block :=
  if (b.tia s).dllAt.isSome then
    ((b.setFlag (SLC s) TIA_STAT.DLL_LOCK true).updTia s (fun t => { t with dllAt := none })).workEnd 8 s
  else b

/-! ### Frequency unit (R240 to R242) -/

/-- A gate of `g` µs on slice `s` that opens at sub-tick `at_` (R240, R242): a gate still open closes without a result and is counted; one
that has ended keeps its result for its boundary. A request that came late waits for its calibration (R239). -/
def gateStart (b : Block) (s g at_ : Nat) (late : Bool) : Block :=
  if b.slcBolted s then b
  else
    let b := if (b.tia s).gate.any (fun g => g.opened) then b.count (SLC s) TIA_EVCNT.RESTARTS 1 else b
    (b.setFlag (SLC s) TIA_STAT.GATE false).updTia s (fun t => { t with
      gate := some { opensAt := at_, endsAt := at_ + 100 * g }, resultOwed := true, lateGate := late })

/-- The reference turns cold: every open gate will say so (R241). -/
def gatesCold (b : Block) : Block :=
  (List.range 272).foldl (fun b s =>
    if (b.tia s).gate.any (fun g => g.opened) then b.updTia s (fun t => { t with gate := t.gate.map (fun g => { g with cold := true }) })
    else b) b

/-- The gate opens at its boundary (R240). -/
def gateOpen (b : Block) (s : Nat) : Block :=
  if (b.tia s).gate.any (fun g => !g.opened && decide (g.opensAt ≤ b.time.now)) then
    (b.setFlag (SLC s) TIA_STAT.GATE true).updTia s (fun t => { t with
      gate := t.gate.map (fun g => { g with opened := true, cold := b.cold, bad := g.bad || b.uncal s }) })
  else b

/-- The nearest whole number to the root of `x / y`, held at 63 (R245). -/
def rootNear (x y : Nat) : Nat := (List.range 64).foldl (fun r i => if (2 * i - 1) * (2 * i - 1) * y ≤ 4 * x then i else r) 0

/-- TIA_FRES and TIA_FINFO of a finished gate (R240, R241). With fewer than two distinct stamps there is no line and the spec
states no frequency: that value is free. -/
def gateFit (b : Block) (g : GateSt) : Nat × Nat :=
  let n := g.s1 * g.set - g.se * g.st
  let d := g.s1 * g.see - g.se * g.se
  let fHz := if n = 0 ∨ d = 0 then b.free else (2 * (2 * 10 ^ 18 * d) + n) / (2 * n)
  let few := decide (g.s1 < 3)
  let valid := !few && !g.bad
  let x := (g.s1 * g.stt - g.st * g.st) * d - n * n
  let resid := if d = 0 then 0 else rootNear x (g.s1 * g.s1 * d)
  (b01 valid * 2 ^ 63 + b01 g.cold * 2 ^ 62 + b01 g.bad * 2 ^ 61 + b01 g.short * 2 ^ 60 + b01 few * 2 ^ 59 + fHz % 2 ^ 51,
   resid * 2 ^ 58 + min g.s1 (2 ^ 24 - 1) * 2 ^ 34 + g.edges % 2 ^ 34)

/-- The gate ends and its line is fitted (R240); the result waits for the first boundary 2 µs later (R241). -/
def gateEnd (b : Block) (s : Nat) : Block :=
  match (b.tia s).gate with
  | some g =>
    if g.opened ∧ g.endsAt ≤ b.time.now then
      let r := b.gateFit g
      ((b.setFlag (SLC s) TIA_STAT.GATE false).updTia s (fun t => { t with
        gate := none, lateGate := false, results := t.results ++ [(g.endsAt + 200, r.1, r.2)] })).freed
    else b
  | none => b

/-- The register fields of TIA_FRES and TIA_FINFO set from their words. -/
def setFres (b : Block) (s r i : Nat) : Block :=
  let b := (b.set (SLC s) TIA_FRES.VALID (bits r 63 1)).set (SLC s) TIA_FRES.COLD (bits r 62 1)
  let b := ((b.set (SLC s) TIA_FRES.UNCAL (bits r 61 1)).set (SLC s) TIA_FRES.SHORT (bits r 60 1)).set (SLC s) TIA_FRES.FEW (bits r 59 1)
  let b := (b.set (SLC s) TIA_FRES.F_UHZ (bits r 0 51)).set (SLC s) TIA_FINFO.RESID (bits i 58 6)
  (b.set (SLC s) TIA_FINFO.STAMPS (bits i 34 24)).set (SLC s) TIA_FINFO.EDGES (bits i 0 34)

/-- At its boundary the oldest result is written (R241); FREQRD has what it waits for once that of the latest gate is (R242). -/
def freqResult (b : Block) (s : Nat) : Block :=
  match (b.tia s).results with
  | (t, r, i) :: rest =>
    if t ≤ b.time.lastB then
      ((b.setFres s r i).updTia s (fun x => { x with
        results := rest, resultOwed := !rest.isEmpty || x.gate.isSome })).arriveIf (b.flag (SLC s) TIA_CTRL.IRQ) s
    else b
  | [] => b

/-- A write of TIA_FCTL.START (R242): in an idle field a gate opens at the next tick; a write less than 1 µs before it is late (R239). -/
def fctlStart (b : Block) (s : Nat) : Block :=
  let next := b.time.lastB + b.k
  if !b.idle (s / 17) then b.fault (272 + s / 17) 0
  else b.gateStart s (b.get (SLC s) TIA_FCTL.GATE) next (decide (next < b.time.now + 100))

end Block

/-! ### The commands -/

/-- TIA_EDGE (R229). -/
def execTiaEdge (s : Fin 272) (uv : Int) (ofs : Nat) (st : State) : Host.Outcome State Fault Refusal :=
  .next (st.on (fun b => b.tiaNode s uv ofs))
/-- STAMP_WRITE (R234). -/
def execStampWrite (f : Fin 16) (st : State) : Host.Outcome State Fault Refusal := .next (stampWrite st f)
/-- STAMP_FLUSH (R235). -/
def execStampFlush (f : Fin 16) (st : State) : Host.Outcome State Fault Refusal := .next (stampFlush st f)
/-- TIA_FCHAIN_WRITE (R233). -/
def execTiaFchainWrite (f : Fin 16) (v : Word) (st : State) : Host.Outcome State Fault Refusal :=
  .next (st.on (fun b => b.fchainWrite f v.toNat))
/-- STAMP_CHAIN_DETACH (R233). -/
def execStampChainDetach (f : Fin 16) (st : State) : Host.Outcome State Fault Refusal := .next (st.on (fun b => b.chainDetach f))
/-- TIA_POP (R233). -/
def execTiaPop (s : Fin 272) (st : State) : Host.Outcome State Fault Refusal := .next (st.on (fun b => b.tiaPop s))
/-- TIA_CALIBRATION (R237). -/
def execTiaCalibration (s : Fin 272) (one two : Nat) (st : State) : Host.Outcome State Fault Refusal :=
  .next (st.on (fun b => b.tiaCal s one two))
/-- DLL_LOCK (R236). -/
def execDllLock (s : Fin 272) (st : State) : Host.Outcome State Fault Refusal := .next (st.on (fun b => b.dllLock s))
/-- DLL_LOCK_DONE (R236). -/
def execDllLockDone (s : Fin 272) (st : State) : Host.Outcome State Fault Refusal := .next (st.on (fun b => b.dllDone s))
/-- FREQ_GATE_OPEN (R240). -/
def execFreqGateOpen (s : Fin 272) (st : State) : Host.Outcome State Fault Refusal := .next (st.on (fun b => b.gateOpen s))
/-- FREQ_GATE_END (R240). -/
def execFreqGateEnd (s : Fin 272) (st : State) : Host.Outcome State Fault Refusal := .next (st.on (fun b => b.gateEnd s))
/-- FREQ_RESULT (R241). -/
def execFreqResult (s : Fin 272) (st : State) : Host.Outcome State Fault Refusal := .next (st.on (fun b => b.freqResult s))
/-- TIA_FCTL_START (R242). -/
def execTiaFctlStart (s : Fin 272) (st : State) : Host.Outcome State Fault Refusal := .next (st.on (fun b => b.fctlStart s))

end Sys2Proof.Machine
end

