-- ==== Sys2Proof/Machine/Ucode.lean ====
section
/-!
DEFINITION. The microcode engine of a sequencer (ch. 8): the microword (R187), the next address and its guards (R188, R189), the trap
table (R191), the row map (R192), and parity with its one replay (R195). What the micro-operations inside a class do is internal to the
maker; what an instruction does stands with the instruction.
-/
namespace Sys2Proof.Machine

/-! ### The microword (R187) -/

/-- UOP. -/
def uOp (w : Nat) : Nat := bits w 26 6
/-- CLEN, in core cycles. -/
def uCycles (w : Nat) : Nat := 2 ^ bits w 24 2
/-- RP: the word is a restart point. -/
def uRestart (w : Nat) : Bool := bit w 23
/-- The branch class, which carries a target and has no LAST bit. -/
def uBranch (w : Nat) : Bool := decide (0x38 ≤ uOp w ∧ uOp w ≤ 0x3C)
/-- The target of the branch class. -/
def uTarget (w : Nat) : Nat := bits w 0 14
/-- LAST: the word ends the instruction. -/
def uLast (w : Nat) : Bool := !uBranch w && bit w 22

/-- The 33 bits of a location hold with its parity bit, taken as even parity (DESIGN CHOICE, log entry 164). -/
def uParity (w : BitVec 33) : Bool := ((List.range 33).filter (bit w.toNat)).length % 2 == 0

/-! ### The next address (R188, R189) -/

/-- A microaddress that is used: ROM and patch RAM. -/
def uUsed (ua : Nat) : Bool := decide (ua < 0x2800)

/-- Where the engine goes after a word. -/
inductive UNext where
  | go (e : UEng)
  | dispatch
  | check
  deriving DecidableEq, Repr

/-- The incrementer: a step beyond 0x1FFF or 0x27FF is a machine check. -/
def uInc (e : UEng) : UNext := if e.ua = 0x1FFF ∨ e.ua = 0x27FF then .check else .go { e with ua := e.ua + 1 }

/-- A jump to an address: one that is not used is a machine check. -/
def uJump (e : UEng) (ua : Nat) : UNext := if uUsed ua then .go { e with ua := ua } else .check

/-- The next address after word `w` at `e.ua`, where `taken` says whether its condition holds. -/
def uNext (e : UEng) (w : Nat) (taken : Bool) : UNext :=
  match uOp w with
  | 0x38 => uJump e (uTarget w)
  | 0x39 => if taken then uJump e (uTarget w) else uInc e
  | 0x3A => if 4 ≤ e.calls.length then .check else uJump { e with calls := (e.ua + 1) :: e.calls } (uTarget w)
  | 0x3B => match e.calls with
    | [] => .check
    | a :: rest => uJump { e with calls := rest } a
  | 0x3C => uJump e (uTarget w)
  | 0x3D => .dispatch
  | 0x3E => .check
  | 0x3F => .check
  | _ => if uLast w then .dispatch else uInc e

/-- What a fetch gives: clean replays, the microaddress or trap-table entry read, and the word, none where the replay fails too. -/
structure URead where
  replays : Nat
  ua : Nat
  word : Option Nat
  deriving DecidableEq, Repr

/-- What the words of a command show: where the engine stands, clean replays, cycles of the words executed, the machine check that they
lead to (microaddress or 0x4000 + entry, and whether it is a persistent parity error), and whether the stretch ends there. -/
structure UWalk where
  eng : UEng
  replays : Nat := 0
  cycles : Nat := 0
  check : Option (Nat × Bool) := none
  stop : Bool := false
  deriving DecidableEq, Repr

/-! ### The stores (R191, R192) -/

namespace Block

/-- The engine of sequencer `p`. -/
def engine (b : Block) (p : Nat) : UEng := b.uc.eng.getD p {}
/-- The engine of sequencer `p` set. -/
def setEngine (b : Block) (p : Nat) (e : UEng) : Block := { b with uc := { b.uc with eng := b.uc.eng.set p e } }

/-- The valid trap-table entry that a fetch address in ROM matches (R191): its index and the patch-RAM microaddress that it gives. -/
def trapAt (b : Block) (ua : Nat) : Option (Nat × Nat) :=
  if 0x2000 ≤ ua then none
  else
    match b.uc.image with
    | none => none
    | some img =>
      let hit := fun (t : Bool × Nat × Nat) => t.1 && t.2.1 == ua
      (img.patch.traps.find? hit).map (fun t => (img.patch.traps.findIdx hit, 0x2000 + t.2.2 % 2048))

/-- The word that the stores hold at a microaddress. -/
def uHeld (b : Block) (ua : Nat) : Nat :=
  if ua < 0x2000 then Config.romWord ua % 2 ^ 32
  else match b.uc.image with
    | none => 0
    | some img => img.patch.words.getD (ua - 0x2000) 0

/-- The spare row to which row `row` of sequencer `p` is redirected. -/
def spareRow (b : Block) (p row : Nat) : Option Nat := (b.uc.rows.find? (fun x => x.1 == p && x.2.1 == row)).map (fun x => x.2.2)

/-- The place that a microaddress names in sequencer `p` (R192): a row of the patch RAM that is redirected lies in its spare row, the
spare rows standing above the 256 rows. -/
def uPlace (b : Block) (p ua : Nat) : Nat :=
  if ua < 0x2000 then ua
  else match b.spareRow p ((ua - 0x2000) / 8) with
    | some s => 0x2800 + 8 * s + ua % 8
    | none => ua

/-- A word or trap-table entry that the scrub has found bad (R198). -/
def uBad (b : Block) (p place : Nat) : Bool := b.uc.bad.contains (p, place)

/-! ### A fetch (R195) -/

/-- The word at microaddress `ua`, which may show a parity error at the first fetch and at the replay. -/
def uWord (b : Block) (p ua : Nat) (x : UFetch) : URead :=
  let held := b.uHeld ua
  let ok := fun (w : Option (BitVec 33)) => (w.map uParity).getD true
  let val := fun (w : Option (BitVec 33)) => (w.map (fun v => v.toNat % 2 ^ 32)).getD held
  if b.uBad p (b.uPlace p ua) then ⟨0, ua, none⟩
  else if ok x.first then ⟨0, ua, some (val x.first)⟩
  else if ok x.again then ⟨1, ua, some (val x.again)⟩
  else ⟨0, ua, none⟩

/-- A fetch at microaddress `ua`, through the trap table. -/
def uFetch (b : Block) (p ua : Nat) (x : UFetch) : URead :=
  match b.trapAt ua with
  | none => b.uWord p ua x
  | some (i, a) =>
    if x.trap.val = 2 ∨ b.uBad p (0x4000 + i) then ⟨0, 0x4000 + i, none⟩
    else
      let r := b.uWord p a x
      { r with replays := r.replays + b01 (x.trap.val == 1) }

/-! ### A stretch of a routine -/

/-- One word fetched and executed. With service due, a restart point is fetched and not executed (R199), and so is the first word of an
instruction. -/
def uStep (b : Block) (p : Nat) (due first : Bool) (w : UWalk) (x : UFetch) : UWalk :=
  if w.stop then w
  else
    let e := match x.ua with
      | some a => { w.eng with ua := a.val }
      | none => w.eng
    let r := b.uFetch p e.ua x
    let w := { w with eng := e, replays := w.replays + r.replays }
    match r.word with
    | none => { w with check := some (r.ua, true), stop := true }
    | some v =>
      if due && (first || uRestart v) then { w with stop := true }
      else
        let w := { w with cycles := w.cycles + uCycles v }
        match uNext { e with ua := r.ua } v x.taken with
        | .go e => { w with eng := e }
        | .dispatch => { w with stop := true }
        | .check => { w with check := some (r.ua, false), stop := true }

/-- The words fetched after the first. -/
def uRun (b : Block) (p : Nat) (due : Bool) (ws : List UFetch) (w : UWalk) : UWalk := ws.foldl (fun w x => b.uStep p due false w x) w

/-- The words that error `e` shows in sequencer `p`: from the dispatch of opcode `op`, whose first word is always fetched, or, in the middle
of an instruction, from where the engine stands. -/
def uWalk (b : Block) (p : Nat) (op : Option Nat) (due : Bool) (e : SeqErr) : UWalk :=
  let ws := match e with
    | .micro ws _ => ws
    | _ => []
  match op with
  | none => b.uRun p due ws { eng := b.engine p }
  | some o =>
    let w : UWalk := { eng := { b.engine p with ua := o } }
    let r := b.uFetch p o {}
    match r.word, ws with
    | none, _ => { w with check := some (r.ua, true), stop := true }
    | some _, [] => w
    | some _, x :: rest => b.uRun p due rest (b.uStep p due x.ua.isNone w x)

/-- The clean replays of a command counted and paid for, 4 core cycles each (R190, R195), with the words executed before a machine check,
and the engine brought up to date; a command that shows nothing leaves it. -/
def uPay (b : Block) (f p : Nat) (e : SeqErr) (w : UWalk) : Block :=
  match e with
  | .micro _ _ =>
    let n := 4 * w.replays + (if w.check.isSome then w.cycles else 0)
    ((b.updSeq f (fun q => { q with cycles := q.cycles + n })).count (8 * p) UC_SEQ.REPLAYS w.replays).setEngine p w.eng
  | _ => b

/-- A row of the patch RAM of sequencer `p` mapped to the next spare row (R192); none left, nothing changes. -/
def rowMapTo (b : Block) (p row : Nat) : Block :=
  let n := b.get (8 * p) UC_SEQ.SPARE_ROWS
  if 64 ≤ n then b
  else { b.set (8 * p) UC_SEQ.SPARE_ROWS (n + 1) with
    uc := { b.uc with rows := (p, row, n) :: b.uc.rows.filter (fun x => !(x.1 == p && x.2.1 == row)) } }

/-- An error of a control store recorded in UC_SEQ (R196, R198, R200): microaddresses below 0x2000 are ROM, to 0x27FF patch RAM;
values from 0x4000 on name entry `ua - 0x4000` of the trap table. -/
def ucRecord (b : Block) (p ua : Nat) (scrub : Bool) : Block :=
  let b := (b.set (8 * p) UC_SEQ.MC_TICK b.tick16).setFlag (8 * p) UC_SEQ.SCRUB scrub
  if ua < 0x2000 then (b.set (8 * p) UC_SEQ.MC_UADDR ua).set (8 * p) UC_SEQ.MC_WHERE 1
  else if ua < 0x4000 then (b.set (8 * p) UC_SEQ.MC_UADDR ua).set (8 * p) UC_SEQ.MC_WHERE 2
  else (b.set (8 * p) UC_SEQ.MC_UADDR (ua - 0x4000)).set (8 * p) UC_SEQ.MC_WHERE 3

/-- A patch-RAM row with a persistent error waits for its repair (R198). -/
def rowAsk (b : Block) (p ua : Nat) : Block :=
  if 0x2000 ≤ ua ∧ ua < 0x2800 then
    { b with flt := { b.flt with rowDue := b.flt.rowDue ++ [(p, (ua - 0x2000) / 8)] } }
  else b

end Block
end Sys2Proof.Machine
end

