-- ==== Sys2Proof/Machine/SeqOps.lean ====
section
/-!
DEFINITION. What every Halyr instruction is written with (ch. 6): registers, stack, data store, the frame's cycles, waits,
program faults (R158) and machine checks (R195 to R197), and the one way in which an instruction of a field is fetched, decoded
and executed (R140 to R142).
-/
namespace Sys2Proof.Machine

/-- Program-fault causes (R160). -/
def causeStackOver : Nat := 3
/-- STACK_UNDER (R149). -/
def causeStackUnder : Nat := 4
/-- DSTORE_ADDR (R140). -/
def causeDstore : Nat := 5
/-- PAGE (R140, R169). -/
def causePage : Nat := 6
/-- SPECIAL_RO (R158). -/
def causeReadOnly : Nat := 7
/-- HASP (R142, R176). -/
def causeHasp : Nat := 10
/-- STACK_KIND (R149). -/
def causeStackKind : Nat := 11

namespace Block

/-! ### Program state (R138) -/

/-- General register `i`. -/
def greg (b : Block) (f i : Nat) : Nat := b.get (FLD f + 8 * i) SEQ_G.VALUE
/-- General register `i` set. -/
def setG (b : Block) (f i v : Nat) : Block := b.set (FLD f + 8 * i) SEQ_G.VALUE v
/-- Loop counter `i`. -/
def lreg (b : Block) (f i : Nat) : Nat := b.get (FLD f + 8 * i) SEQ_L.COUNT
/-- Loop counter `i` set. -/
def setL (b : Block) (f i v : Nat) : Block := b.set (FLD f + 8 * i) SEQ_L.COUNT v
/-- PC. -/
def pc (b : Block) (f : Nat) : Nat := b.get (FLD f) SEQ_PC.PC
/-- PC set; it wraps at 32,768. -/
def setPc (b : Block) (f v : Nat) : Block := b.set (FLD f) SEQ_PC.PC v
/-- FLAGS (R139). -/
def flags (b : Block) (f : Nat) : Nat := b.get (FLD f) SEQ_FLAGS.FLAGS
/-- FLAGS set. -/
def setFlags (b : Block) (f v : Nat) : Block := b.set (FLD f) SEQ_FLAGS.FLAGS v
/-- The sequencer that serves field `f` (R159). -/
def phys (b : Block) (f : Nat) : Nat := b.get (FLD f) SEQ_STAT.PHYS
/-- The tick whose frame is under construction, as a TICKNO: FTICK (R138). -/
def fTick (b : Block) (f : Nat) : Nat := b.tickNoOf (b.seq f).frame

/-- Core cycles spent in the frame under construction (R161). -/
def spend (b : Block) (f n : Nat) : Block := b.updSeq f (fun q => { q with cycles := q.cycles + n })
/-- The core cycle that the sequencer has reached: that of its frame, or the present one where that is later. -/
def coreNow (b : Block) (f : Nat) : Nat := max (20 * b.time.now) ((b.seq f).startCyc + (b.seq f).cycles)
/-- The sequencer enters a wait. -/
def waitFor (b : Block) (f : Nat) (w : Wait) : Block := b.updSeq f (fun q => { q with wait := some w })
/-- The wait of field `f` is over. -/
def clearWait (b : Block) (f : Nat) : Block := b.updSeq f (fun q => { q with wait := none })
/-- A data wait from now on (R140, R161). -/
def waitData (b : Block) (f : Nat) : Block := b.waitFor f (.data (b.coreNow f))
/-- The next instruction (R138). -/
def pcNext (b : Block) (f : Nat) : Block := b.setPc f (b.pc f + 1)

/-- DEPTH brought up to the return stack (R160). -/
def depthSync (b : Block) (f : Nat) : Block := b.set (FLD f) SEQ_STAT.DEPTH (b.seq f).stack.length
/-- An entry pushed onto the return stack, unless it is full (R149). -/
def push (b : Block) (f : Nat) (e : RetEntry) : Except Nat Block :=
  if 16 ≤ (b.seq f).stack.length then .error causeStackOver
  else .ok ((b.updSeq f (fun q => { q with stack := e :: q.stack })).depthSync f)

/-! ### Event service (R151, R152) -/

/-- The event line for which service is due: none while in service (R152). -/
def dueLine (b : Block) (f : Nat) : Option Nat :=
  if b.flag (FLD f) SEQ_STAT.INSVC then none
  else (List.range 64).find? (fun i => bit (b.get (FLD f) SEQ_EVM.EVM) i && b.linePending f i)

/-! ### Stops (R158, R196) -/

/-- The channels of field `f` stop stamping as the field stops or is done (R230). -/
def tiaStop (b : Block) (f : Nat) : Block := (List.range 16).foldl (fun b k => b.tiaOff (b.chSlice f k)) b

/-- A program fault (R158): the program stops at the offending instruction, which has no effect. -/
def progFault (b : Block) (f cause : Nat) : Block :=
  let b := ((b.set (FLD f) SEQ_FAULT.CAUSE cause).set (FLD f) SEQ_FAULT.PC (b.pc f)).set (FLD f) SEQ_FAULT.TICK b.tick16
  let b := ((b.stopProgram f 5).updStep f (fun st => { st with faulted := setBit st.faulted f })).tiaStop f
  b.fault (288 + 2 * b.phys f) 0

/-- The progress word of a long instruction (R186). -/
def longWord (l : LongSt) : Nat :=
  if l.op = 0xE0 then l.done + 65536 * b01 l.issued
  else if l.op = 0xE1 then l.done % 32 + 65536 * b01 l.issued
  else if l.op = 0xE2 then l.done + 65536 * b01 l.failed
  else l.done

/-- A machine check (R196, R197) at microaddress or trap-table entry `c.1`, a persistent parity error where `c.2` holds: the sequencer
stops at once; SEQ_PROG keeps `progress`, that of the last restart point, where a long instruction was under way. -/
def machineCheck (b : Block) (f : Nat) (c : Nat × Bool) (progress : Option Nat) : Block :=
  let p := b.phys f
  let b := (b.ucRecord p c.1 false).count (8 * p) UC_SEQ.MC_COUNT 1
  let b := match progress with
    | some w => (b.set (FLD f) SEQ_PROG.PROGRESS w).setFlag (FLD f) SEQ_PROG.SUSP false
    | none => b
  let b := ((b.stopProgram f 5).updStep f (fun st => { st with mchecked := setBit st.mchecked f })).tiaStop f
  ((if c.2 then b.rowAsk p c.1 else b).fault (289 + 2 * p) 0).journal 1 p

/-- What a sequencer does at the end of an instruction (R145, R146): in a tick wait it fills its late frames, else frames that the
stream covers close. -/
def seqEpilogue (b : Block) (f : Nat) : Block :=
  (if (b.seq f).wait.isSome then (b.fillWait f).seqSync f else b.settle f).frameComplete f

end Block

/-! ### Memories of the sequencer (R140) -/

/-- The instruction at PC. -/
def State.instrWord (st : State) (f : Nat) : Nat := Memory.word st.mem (.prog (st.blk.phys f)) (st.blk.pc f)
/-- Word `a` of the data store. -/
def State.store (st : State) (f a : Nat) : Nat := Memory.word st.mem (.data (st.blk.phys f)) a
/-- Word `a` of the data store set. -/
def State.setStore (st : State) (f a v : Nat) : State := { st with mem := Memory.setWord st.mem (.data (st.blk.phys f)) a v }

/-- The instruction reads the data store as it executes (R140). SEARCH reads it as it judges (`Halyr.judgesByStore`). -/
def Halyr.readsStore : Halyr → Bool
  | .ldd _ _ _ => true
  | .limit _ _ _ => true
  | .measall _ _ _ _ lim => lim
  | .bmove _ _ _ _ dir => dir
  | _ => false

/-- The instruction reads the data store as it judges at the end of a wait (R140, R183). -/
def Halyr.judgesByStore : Halyr → Bool
  | .searchI _ _ _ _ _ judge _ _ => decide (2 ≤ judge.val)
  | _ => false

/-- What an instruction does to the state, or the cause of its program fault. -/
abbrev Effect := Halyr → State → Except Nat State

/-- The effect had taken place before the machine check, where the error leads to one (R197). -/
def lateCheck : SeqErr → Bool
  | .micro _ eff => eff
  | _ => false

/-- The progress of the long instruction under way in field `f` at its last restart point: `before` where the command found it at one,
else where it goes on to issue what follows that point (R186, R197). -/
def State.restartProgress (st : State) (f : Nat) (before : Option LongSt) : Option Nat :=
  match before, (st.blk.seq f).long with
  | some l, _ => some (Block.longWord l)
  | none, some l => some (Block.longWord { l with issued := false })
  | none, none => none

/-- The end of a command of field `f` whose microwords are `w`: a machine check stops the sequencer between microwords, before the
instruction's end (R196); else the instruction ends. `restart` is the long instruction at the restart point before the command. -/
def State.microEnd (st : State) (f : Nat) (w : UWalk) (restart : Option LongSt) : State :=
  match w.check with
  | some c => st.on (fun b => b.machineCheck f c (st.restartProgress f restart))
  | none => st.on (fun b => b.seqEpilogue f)

/-- The effect of an instruction that has passed its checks of R142, and the end of the instruction. -/
def seqExec (st : State) (f : Nat) (w : UWalk) (h : Halyr) (body : Effect) : State :=
  match body h st with
  | .error c => st.on (fun b => b.progFault f c)
  | .ok t => t.microEnd f w (st.blk.seq f).long

/-- The instruction at PC, whose opcode is `op`, is at its first word, not at a restart point or in a wait. -/
def Block.firstWord (b : Block) (f op : Nat) : Option Nat :=
  if (b.seq f).wait.isNone ∧ (b.seq f).long.isNone then some op else none

/-- The sequencer of field `f` executes the instruction at PC, whose opcode is to be `op`, with `body` (R140, R142, R145, R152): a
step runs, the frame is open, no wait holds it, and no event service is due. `e` is what the memories and the microcode show. Words
whose replays are clean cost their cycles before the instruction ends (R190); a machine check before the effect leaves it out. The words
of a wait, and the word at which service is due, show errors too (R195, R199). -/
def seqRun (st : State) (f op : Nat) (e : SeqErr) (body : Effect) : State :=
  let q := st.blk.seq f
  if !st.blk.seqLive f ∨ !q.opened ∨ bits (st.instrWord f) 56 8 ≠ op then st
  else
    let held := q.wait.isSome || (st.blk.dueLine f).isSome
    let w := st.blk.uWalk (st.blk.phys f) (st.blk.firstWord f op) (st.blk.dueLine f).isSome e
    let st := st.on (fun b => b.uPay f (b.phys f) e w)
    if w.check.isSome ∧ (held ∨ !lateCheck e) then st.on (fun b => b.machineCheck f (w.check.getD (0, false)) (st.restartProgress f q.long))
    else if held then st
    else if e = .pmem then st.on (fun b => b.progFault f 8)
    else
      match decodeWord (st.instrWord f) with
      | .error c => st.on (fun b => b.progFault f c)
      | .ok h => if e = .dstore ∧ h.readsStore then st.on (fun b => b.progFault f 9) else seqExec st f w h body

/-- An instruction whose effect concerns the block alone: `n` cycles, PC moved on. -/
def plain (f n : Nat) (g : Block → Except Nat Block) (st : State) : Except Nat State :=
  match g st.blk with
  | .ok b => .ok { st with blk := (b.spend f n).pcNext f }
  | .error c => .error c

/-- A decoded instruction that is not of the row's own kind has no effect here; it never arises, since the row's opcode decides
the kind. -/
def other (st : State) : Except Nat State := .ok st

end Sys2Proof.Machine
end

