-- ==== Sys2Proof/Machine/SeqFlow.lean ====
section
/-!
DEFINITION. Flow control, loops and waits (R148 to R150, R153, R155, R157, R165, R166), and the program fault of an opcode that
is not assigned (R142).
-/
namespace Sys2Proof.Machine

/-- NOP (R165). -/
def nopEffect (f : Nat) : Effect := fun h st =>
  match h with
  | .nop => plain f 1 .ok st
  | _ => other st

/-- END (R157). -/
def endEffect (f : Nat) : Effect := fun h st =>
  match h with
  | .endI => .ok (st.on (fun b => ((b.spend f 1).pcNext f).stopProgram f 6))
  | _ => other st

/-- A branch to `t`, of `n` cycles. -/
def branch (f n t : Nat) (st : State) : Except Nat State := .ok (st.on (fun b => (b.spend f n).setPc f t))

/-- JMP (R165). -/
def jmpEffect (f : Nat) : Effect := fun h st =>
  match h with
  | .jmp c t => if condHolds (st.blk.flags f) c then branch f 3 t st else plain f 1 .ok st
  | _ => other st

/-- CALL (R149). -/
def callEffect (f : Nat) : Effect := fun h st =>
  match h with
  | .callI c t =>
    if condHolds (st.blk.flags f) c then
      match st.blk.push f { addr := (st.blk.pc f + 1) % 32768 } with
      | .ok b => branch f 4 t { st with blk := b }
      | .error x => .error x
    else plain f 1 .ok st
  | _ => other st

/-- RET (R149). -/
def retEffect (f : Nat) : Effect := fun h st =>
  match h with
  | .ret =>
    match (st.blk.seq f).stack with
    | [] => .error causeStackUnder
    | x :: rest =>
      if x.svc then .error causeStackKind
      else branch f 4 x.addr (st.on (fun b => (b.updSeq f (fun q => { q with stack := rest })).depthSync f))
  | _ => other st

/-- The end of event service (R153): FLAGS restored, the wait or long instruction resumed, or the long instruction abandoned. -/
def leaveService (b : Block) (f : Nat) (x : RetEntry) (rest : List RetEntry) (abandon : Bool) : Block :=
  let b := (b.spend f 8).setFlags f (flagsRestore (b.flags f) x.flags)
  let b := ((b.updSeq f (fun q => { q with stack := rest })).depthSync f).setFlag (FLD f) SEQ_STAT.INSVC false
  match x.long with
  | some l =>
    let b := b.setFlag (FLD f) SEQ_PROG.SUSP false
    if abandon then
      let b := (b.setPc f (x.addr + 1)).setFlag (FLD f) SEQ_PROG.ABAND true
      { b with res := { b.res with partials := Sparse.set 0 f 1 b.res.partials } }
    else
      let b := (b.set (FLD f) SEQ_PROG.OPCODE l.op).set (FLD f) SEQ_PROG.PC l.pc
      ((b.set (FLD f) SEQ_PROG.PROGRESS (Block.longWord l)).setPc f x.addr).updSeq f
        (fun q => { q with wait := x.wait, long := some l })
  | none => (b.setPc f x.addr).updSeq f (fun q => { q with wait := x.wait })

/-- RETE (R153). -/
def reteEffect (f : Nat) : Effect := fun h st =>
  match h with
  | .rete abandon =>
    match (st.blk.seq f).stack with
    | [] => .error causeStackUnder
    | x :: rest => if !x.svc then .error causeStackKind else .ok (st.on (fun b => leaveService b f x rest abandon))
  | _ => other st

/-- LOOP (R150). -/
def loopEffect (f : Nat) : Effect := fun h st =>
  match h with
  | .loopI l t =>
    let n := st.blk.lreg f l
    let st := st.on (fun b => b.setL f l (n - 1))
    if 2 ≤ n then branch f 4 t st else plain f 2 .ok st
  | _ => other st

/-- LDL (R165). -/
def ldlEffect (f : Nat) : Effect := fun h st =>
  match h with
  | .ldl l v => plain f 1 (fun b => .ok (b.setL f l v)) st
  | _ => other st

/-- A WAITEV that times out (R155, R165): woken by what is pending at that moment, else 65. -/
def Block.waitevExpire (b : Block) (f d : Nat) : Block := b.endWaitev f d ((b.eventCode f).getD 65)

/-- WAITEV (R155, R165): it completes at once on a pending line or foreign source; else it sleeps, and a timeout that has already
passed expires once the late frame is filled. -/
def waitevEffect (f : Nat) : Effect := fun h st =>
  match h with
  | .waitev d a =>
    .ok (st.on (fun b =>
      let t := b.greg f a
      let b := (b.spend f 4).pcNext f
      match b.eventCode f with
      | some v => b.setG f d v
      | none =>
        let due := (b.seq f).frame + t - 2
        let b := b.waitFor f (.ev d (if t = 0 then none else some due))
        if t ≠ 0 ∧ due ≤ b.time.ticks then (b.fillWait f).waitevExpire f d else b))
  | _ => other st

/-- P = NOT F as SYNCF completes (R166). -/
def Block.syncfEnd (b : Block) (f : Nat) : Block := (b.setFlags f (putP (b.flags f) (!bit (b.flags f) 3))).pcNext f

/-- SYNCF (R166). -/
def syncfEffect (f : Nat) : Effect := fun h st =>
  match h with
  | .syncf =>
    .ok (st.on (fun b =>
      let b := b.spend f 4
      let n := (b.seq f).issued
      if n ≤ (b.seq f).judged then b.syncfEnd f else b.waitFor f (.judged n)))
  | _ => other st

/-- WAITT (R165). -/
def waittEffect (f : Nat) : Effect := fun h st =>
  match h with
  | .waitt k =>
    .ok (st.on (fun b =>
      let n := match k with
        | .imm v => v.val
        | .reg a => b.greg f a
      let b := b.spend f 4
      if n = 0 then b.pcNext f else b.waitFor f (.frame ((b.seq f).frame + n))))
  | _ => other st

/-! ### The rows -/

/-- NOP (R165). -/
def execNop (f : Fin 16) (e : SeqErr) (st : State) : Host.Outcome State Fault Refusal := .next (seqRun st f 0x00 e (nopEffect f))
/-- END (R157). -/
def execEndI (f : Fin 16) (e : SeqErr) (st : State) : Host.Outcome State Fault Refusal := .next (seqRun st f 0x01 e (endEffect f))
/-- JMP (R165). -/
def execJmp (f : Fin 16) (e : SeqErr) (st : State) : Host.Outcome State Fault Refusal := .next (seqRun st f 0x02 e (jmpEffect f))
/-- CALL (R149). -/
def execCallI (f : Fin 16) (e : SeqErr) (st : State) : Host.Outcome State Fault Refusal := .next (seqRun st f 0x03 e (callEffect f))
/-- RET (R149). -/
def execRet (f : Fin 16) (e : SeqErr) (st : State) : Host.Outcome State Fault Refusal := .next (seqRun st f 0x04 e (retEffect f))
/-- RETE (R153). -/
def execRete (f : Fin 16) (e : SeqErr) (st : State) : Host.Outcome State Fault Refusal := .next (seqRun st f 0x05 e (reteEffect f))
/-- LOOP (R150). -/
def execLoopI (f : Fin 16) (e : SeqErr) (st : State) : Host.Outcome State Fault Refusal := .next (seqRun st f 0x06 e (loopEffect f))
/-- LDL (R165). -/
def execLdl (f : Fin 16) (e : SeqErr) (st : State) : Host.Outcome State Fault Refusal := .next (seqRun st f 0x07 e (ldlEffect f))
/-- WAITEV (R155). -/
def execWaitev (f : Fin 16) (e : SeqErr) (st : State) : Host.Outcome State Fault Refusal :=
  .next (seqRun st f 0x08 e (waitevEffect f))
/-- SYNCF (R166). -/
def execSyncf (f : Fin 16) (e : SeqErr) (st : State) : Host.Outcome State Fault Refusal :=
  .next (seqRun st f 0x09 e (syncfEffect f))
/-- WAITT (R165). -/
def execWaitt (f : Fin 16) (e : SeqErr) (st : State) : Host.Outcome State Fault Refusal :=
  .next (seqRun st f 0x0A e (waittEffect f))

/-- An opcode that ch. 7 does not assign (R142). -/
def opAssigned (op : Nat) : Bool :=
  decide (op ≤ 0x0A) || decide (0x20 ≤ op ∧ op ≤ 0x34) || decide (0x40 ≤ op ∧ op ≤ 0x45) || decide (0x60 ≤ op ∧ op ≤ 0x66) ||
  decide (0x80 ≤ op ∧ op ≤ 0x87) || decide (0xA0 ≤ op ∧ op ≤ 0xA3) || decide (0xB0 ≤ op ∧ op ≤ 0xB4) || op == 0xC0 || op == 0xC1 ||
  decide (0xD0 ≤ op ∧ op ≤ 0xD3) || decide (0xE0 ≤ op ∧ op ≤ 0xE3)

/-- ILLEGAL_OPCODE (R142): the instruction at PC has an opcode that is not assigned; its routine raises ILLEGAL (R190), which the
decoder answers. -/
def execIllegalOpcode (f : Fin 16) (e : SeqErr) (st : State) : Host.Outcome State Fault Refusal :=
  let op := bits (st.instrWord f) 56 8
  .next (if opAssigned op then st else seqRun st f op e (fun _ st => other st))

end Sys2Proof.Machine
end

