-- ==== Sys2Proof/Machine/SeqArith.lean ====
section
/-!
DEFINITION. Arithmetic, moves and data (R167) and HBM reads (R140).
-/
namespace Sys2Proof.Machine

/-- D = result, FLAGS = Z, N and C of it, in `n` cycles. -/
def result (f d n : Nat) (r : Nat × Bool) (st : State) : Except Nat State :=
  plain f n (fun b => .ok ((b.setG f d r.1).setFlags f (znc (b.flags f) r.1 r.2))) st

/-- FLAGS = Z, N and C of a result, which is written nowhere. -/
def compared (f : Nat) (r : Nat × Bool) (st : State) : Except Nat State :=
  plain f 1 (fun b => .ok (b.setFlags f (znc (b.flags f) r.1 r.2))) st

/-- D = value, with the flags as they were. -/
def moved (f d n v : Nat) (st : State) : Except Nat State := plain f n (fun b => .ok (b.setG f d v)) st

/-- ADD, SUB, MUL, AND, OR and XOR (R167). -/
def aluEffect (f : Nat) : Effect := fun h st =>
  match h with
  | .alu op d a b => result f d (if op = .mul then 4 else 1) (aluRun op (st.blk.greg f a) (st.blk.greg f b)) st
  | _ => other st

/-- SHL, SHR and SAR (R167). -/
def shiftEffect (f : Nat) : Effect := fun h st =>
  match h with
  | .shift op d a (.imm n) => result f d 1 (shiftRun op (st.blk.greg f a) n) st
  | .shift op d a (.reg b) => result f d 1 (shiftRun op (st.blk.greg f a) (st.blk.greg f b % 64)) st
  | _ => other st

/-- ADDI (R167). -/
def addiEffect (f : Nat) : Effect := fun h st =>
  match h with
  | .addi d a i => result f d 1 (addC (st.blk.greg f a) (sext41 i)) st
  | _ => other st

/-- CMP (R167). -/
def cmpEffect (f : Nat) : Effect := fun h st =>
  match h with
  | .cmp a b => compared f (subC (st.blk.greg f a) (st.blk.greg f b)) st
  | _ => other st

/-- CMPI (R167). -/
def cmpiEffect (f : Nat) : Effect := fun h st =>
  match h with
  | .cmpi a i => compared f (subC (st.blk.greg f a) (sext41 i)) st
  | _ => other st

/-- MOV (R167). -/
def movEffect (f : Nat) : Effect := fun h st =>
  match h with
  | .mov d a => moved f d 1 (st.blk.greg f a) st
  | _ => other st

/-- MOVI (R167). -/
def moviEffect (f : Nat) : Effect := fun h st =>
  match h with
  | .movi d i => moved f d 1 (sext41 i) st
  | _ => other st

/-- MOVHI (R167). -/
def movhiEffect (f : Nat) : Effect := fun h st =>
  match h with
  | .movhi d i => moved f d 1 (i * 2 ^ 41 + st.blk.greg f d % 2 ^ 41) st
  | _ => other st

/-- EXT (R167). -/
def extEffect (f : Nat) : Effect := fun h st =>
  match h with
  | .ext d a lsb msb s => result f d 1 (extRun (st.blk.greg f a) lsb msb s, false) st
  | _ => other st

/-- What MFS reads from special register `n` (R138); none for a number not used. -/
def specialRead (b : Block) (f n : Nat) : Option Nat :=
  if n = 0 then some ((b.pc f + 1) % 32768)
  else if n = 1 then some (b.flags f)
  else if n = 2 then some (b.get (FLD f) SEQ_EVM.EVM)
  else if n = 3 then some (b.get (FLD f) SEQ_TSEL.SET)
  else if n = 4 then some (b.get (FLD f) SEQ_PROG.PROGRESS)
  else if n = 5 then some (b.fTick f)
  else if n = 6 then some b.tick
  else if 8 ≤ n ∧ n ≤ 15 then some (b.lreg f (n - 8))
  else none

/-- What MTS does to special register `n` (R138, R167). A write of 0 to F marks the vectors that may set it again (R139). -/
def specialWrite (b : Block) (f n v : Nat) : Except Nat Block :=
  if n = 0 ∨ n = 4 ∨ n = 5 ∨ n = 6 then .error causeReadOnly
  else if n = 1 then
    let b := if bit v 3 then b else b.updSeq f (fun q => { q with fFrom := q.issued })
    .ok (b.setFlags f (flagsWrite (b.flags f) v))
  else if n = 2 then .ok (b.set (FLD f) SEQ_EVM.EVM v)
  else if n = 3 then (if v < 64 then .ok (b.set (FLD f) SEQ_TSEL.SET v) else .error causeOperand)
  else if 8 ≤ n ∧ n ≤ 15 then (if v < 2 ^ 32 then .ok (b.setL f (n - 8) v) else .error causeOperand)
  else .error causeOperand

/-- MFS (R167). -/
def mfsEffect (f : Nat) : Effect := fun h st =>
  match h with
  | .mfs d sr =>
    match specialRead st.blk f sr with
    | some v => moved f d 2 v st
    | none => .error causeOperand
  | _ => other st

/-- MTS (R167). -/
def mtsEffect (f : Nat) : Effect := fun h st =>
  match h with
  | .mts sr a => plain f 2 (fun b => specialWrite b f sr (b.greg f a)) st
  | _ => other st

/-- The data-store address Ga + sext(IMM) (R167). -/
def storeAddr (b : Block) (f a i : Nat) : Nat := u64 (b.greg f a + sext41 i)

/-- LDD (R167). -/
def lddEffect (f : Nat) : Effect := fun h st =>
  match h with
  | .ldd d a i =>
    let x := storeAddr st.blk f a i
    if x < 1024 then moved f d 2 (st.store f x) st else .error causeDstore
  | _ => other st

/-- STD (R167). -/
def stdEffect (f : Nat) : Effect := fun h st =>
  match h with
  | .std a b i =>
    let x := storeAddr st.blk f a i
    if x < 1024 then plain f 2 .ok (st.setStore f x (st.blk.greg f b)) else .error causeDstore
  | _ => other st

/-- A sequencer's read of a pattern page with the directory error `e` (R140, R218): the page rules, and a request at the
sequencer-data port, on which the sequencer waits. A directory row that cannot be read gives PAGE (DEDUCED, log entry 12). -/
def pageRead (b : Block) (f p : Nat) (e : SeqErr) : Except Nat Block :=
  if !b.pageReadable p then .error causePage
  else
    let r := b.dirRead p (match e with
      | .dir n => n.val
      | _ => 0)
    .ok (if r.2 then (r.1.hbmReq 6 p f).waitData f else r.1.progFault f causePage)

/-- LDH (R140, R167): the request; D is written when the word arrives. -/
def ldhEffect (f : Nat) (e : SeqErr) : Effect := fun h st =>
  match h with
  | .ldh _ a _ =>
    match pageRead (st.blk.spend f 4) f (st.blk.greg f a) e with
    | .ok b => .ok { st with blk := b }
    | .error c => .error c
  | _ => other st

/-! ### The rows -/

/-- ADD (R167). -/
def execAdd (f : Fin 16) (e : SeqErr) (st : State) : Host.Outcome State Fault Refusal := .next (seqRun st f 0x20 e (aluEffect f))
/-- SUB (R167). -/
def execSubI (f : Fin 16) (e : SeqErr) (st : State) : Host.Outcome State Fault Refusal := .next (seqRun st f 0x21 e (aluEffect f))
/-- ADDI (R167). -/
def execAddi (f : Fin 16) (e : SeqErr) (st : State) : Host.Outcome State Fault Refusal := .next (seqRun st f 0x22 e (addiEffect f))
/-- MUL (R167). -/
def execMul (f : Fin 16) (e : SeqErr) (st : State) : Host.Outcome State Fault Refusal := .next (seqRun st f 0x23 e (aluEffect f))
/-- AND (R167). -/
def execAndI (f : Fin 16) (e : SeqErr) (st : State) : Host.Outcome State Fault Refusal := .next (seqRun st f 0x24 e (aluEffect f))
/-- OR (R167). -/
def execOrI (f : Fin 16) (e : SeqErr) (st : State) : Host.Outcome State Fault Refusal := .next (seqRun st f 0x25 e (aluEffect f))
/-- XOR (R167). -/
def execXorI (f : Fin 16) (e : SeqErr) (st : State) : Host.Outcome State Fault Refusal := .next (seqRun st f 0x26 e (aluEffect f))
/-- SHL (R167). -/
def execShl (f : Fin 16) (e : SeqErr) (st : State) : Host.Outcome State Fault Refusal := .next (seqRun st f 0x27 e (shiftEffect f))
/-- SHR (R167). -/
def execShr (f : Fin 16) (e : SeqErr) (st : State) : Host.Outcome State Fault Refusal := .next (seqRun st f 0x28 e (shiftEffect f))
/-- SAR (R167). -/
def execSar (f : Fin 16) (e : SeqErr) (st : State) : Host.Outcome State Fault Refusal := .next (seqRun st f 0x29 e (shiftEffect f))
/-- CMP (R167). -/
def execCmp (f : Fin 16) (e : SeqErr) (st : State) : Host.Outcome State Fault Refusal := .next (seqRun st f 0x2A e (cmpEffect f))
/-- CMPI (R167). -/
def execCmpi (f : Fin 16) (e : SeqErr) (st : State) : Host.Outcome State Fault Refusal := .next (seqRun st f 0x2B e (cmpiEffect f))
/-- MOV (R167). -/
def execMov (f : Fin 16) (e : SeqErr) (st : State) : Host.Outcome State Fault Refusal := .next (seqRun st f 0x2C e (movEffect f))
/-- MOVI (R167). -/
def execMovi (f : Fin 16) (e : SeqErr) (st : State) : Host.Outcome State Fault Refusal := .next (seqRun st f 0x2D e (moviEffect f))
/-- MOVHI (R167). -/
def execMovhi (f : Fin 16) (e : SeqErr) (st : State) : Host.Outcome State Fault Refusal := .next (seqRun st f 0x2E e (movhiEffect f))
/-- EXT (R167). -/
def execExt (f : Fin 16) (e : SeqErr) (st : State) : Host.Outcome State Fault Refusal := .next (seqRun st f 0x2F e (extEffect f))
/-- MFS (R167). -/
def execMfs (f : Fin 16) (e : SeqErr) (st : State) : Host.Outcome State Fault Refusal := .next (seqRun st f 0x30 e (mfsEffect f))
/-- MTS (R167). -/
def execMts (f : Fin 16) (e : SeqErr) (st : State) : Host.Outcome State Fault Refusal := .next (seqRun st f 0x31 e (mtsEffect f))
/-- LDD (R167). -/
def execLdd (f : Fin 16) (e : SeqErr) (st : State) : Host.Outcome State Fault Refusal := .next (seqRun st f 0x32 e (lddEffect f))
/-- STD (R167). -/
def execStd (f : Fin 16) (e : SeqErr) (st : State) : Host.Outcome State Fault Refusal := .next (seqRun st f 0x33 e (stdEffect f))
/-- LDH (R140). -/
def execLdh (f : Fin 16) (e : SeqErr) (st : State) : Host.Outcome State Fault Refusal := .next (seqRun st f 0x34 e (ldhEffect f e))

end Sys2Proof.Machine
end

