-- ==== Sys2Proof/Machine/SeqSet.lean ====
section
/-!
DEFINITION. Settings that a program issues (R144, R171 to R173, TIASTAMP of R174): their checks at execution, and what they do
at B(n), together with the program's other actions for that boundary.
-/
namespace Sys2Proof.Machine

/-- The register fields that a setting writes, each with its lowest bit in VALUE (R171); none for a reserved SEL. SETLVL of the
force DAC and the thresholds have SEL 7 to 9; SETWM with SEL 2 clears the verdict and writes nothing. -/
def setFields (op : SetOp) (sel : Nat) : Option (List (Fld × Nat)) :=
  match op with
  | .lvl =>
    if sel < 7 then some [(lvlTarget sel, 0)]
    else if sel = 7 then some [(PMU_FORCE.CODE, 0)]
    else if sel = 8 then some [(WM_TH.TH_HI, 0)]
    else if sel = 9 then some [(WM_TH.TH_LO, 0)]
    else none
  | .pmu =>
    if sel = 0 then some [(PMU_CFG.FILT, 10), (PMU_CFG.MODE, 6), (PMU_CFG.IRANGE, 0)]
    else if sel = 1 then some [(PMU_CFG.OFS, 0)] else none
  | .slc =>
    if sel = 0 then some [(SLC_CTRL.CLAMP_IRQ, 7), (SLC_CTRL.DOFF, 4), (SLC_CTRL.BLEED, 1), (SLC_CTRL.EN, 0)]
    else if sel = 1 then some [(CMP_CFG.HYST, 0)]
    else if sel = 2 then some [(LOAD_CFG.ISRC, 0)]
    else if sel = 3 then some [(LOAD_CFG.ISNK, 0)] else none
  | .slew =>
    if sel = 0 then some [(LVL_SLEW.STEP, 0)]
    else if sel = 1 then some [(LVL_SLEW.INTV, 0)]
    else if sel = 2 then some [(FORCE_SLEW.STEP, 0)]
    else if sel = 3 then some [(FORCE_SLEW.INTV, 0)] else none
  | .gen =>
    if sel = 0 then some [(GEN_CTRL.WAVE, 4), (GEN_CTRL.RUN, 0)]
    else if sel = 1 then some [(GEN_CFG.AMPL, 0)]
    else if sel = 2 then some [(GEN_CFG.GSTEP, 0)]
    else if sel = 3 then some [(GEN_CFG.GINTV, 0)]
    else if sel = 4 then some [(GEN_SEED.SEED, 0)] else none
  | .wm =>
    if sel = 0 then some [(WM_CTRL.HYS, 8), (WM_CTRL.IRQ, 2), (WM_CTRL.LATCH, 1), (WM_CTRL.EN, 0)]
    else if sel = 1 then some [(WM_CTRL.OFS, 0)]
    else if sel = 2 then some [] else none
  | .dps =>
    if sel = 0 then some [(DPS_V.CODE, 0)]
    else if sel = 1 then some [(DPS_ICL.CODE, 0)]
    else if sel = 2 then
      some [(DPS_CTRL.CLAMP_IRQ, 7), (DPS_CTRL.GUARD, 6), (DPS_CTRL.IRANGE, 4), (DPS_CTRL.BOOST, 3), (DPS_CTRL.LSENSE, 2),
        (DPS_CTRL.DISCH, 1), (DPS_CTRL.EN, 0)]
    else if sel = 8 then some [(DPS_WM_TH.TH_HI, 0)]
    else if sel = 9 then some [(DPS_WM_TH.TH_LO, 0)]
    else if sel = 10 then some [(DPS_WM_CTRL.HYS, 8), (DPS_WM_CTRL.IRQ, 2), (DPS_WM_CTRL.LATCH, 1), (DPS_WM_CTRL.EN, 0)]
    else none

/-- VALUE holds nothing outside its fields and no reserved encoding (R163, R172). -/
def setValueOk (op : SetOp) (sel v : Nat) : Bool :=
  match setFields op sel with
  | none => false
  | some fs => fs.all (fun x => x.1.ok (bits v x.2 x.1.w)) && fs.foldl (fun n x => n + bits v x.2 x.1.w * 2 ^ x.2) 0 == v

/-- The mask of a setting (R163); a mask from a register has no bit above 15. -/
def setMask (b : Block) (f : Nat) : Src 65536 → Except Nat Nat
  | .imm v => .ok v
  | .reg a => if b.greg f a < 65536 then .ok (b.greg f a) else .error causeOperand

/-- The value of a setting (R163). -/
def setValue (b : Block) (f : Nat) : Src (2 ^ 18) → Nat
  | .imm v => v
  | .reg x => b.greg f x

namespace Block

/-- An action of the program for B(n) of its frame (R143). -/
def act (b : Block) (f : Nat) (a : Act) : Block :=
  b.updSeq f (fun q => { q with acts := q.acts ++ [(q.frame, b.time.now, a)] })

/-! ### At B(n) (R144, R172, R173) -/

/-- What the settings of one boundary have touched: units (slices, and 272 + r for regulator r), slices whose force target was
written, and those whose stamping was asked for less than 1 µs before (R239). -/
structure Touched where
  units : List Nat := []
  forces : List Nat := []
  lates : List Nat := []

/-- The fields of a setting written in force at `base`. -/
def putFields (b : Block) (base v : Nat) (fs : List (Fld × Nat)) : Block :=
  fs.foldl (fun b x => b.set base x.1 (bits v x.2 x.1.w)) b

/-- A setting for slice `s` (R144): discarded for a bolted one (R173). -/
def putSlice (x : Block × Touched) (op : SetOp) (sel v s : Nat) : Block × Touched :=
  if x.1.slcBolted s then x
  else
    let b : Block := if op = .wm ∧ sel = 2 then x.1.setVerdict (monSlice s) (x.1.get (SLC s) WM_STAT.RAW)
      else x.1.putFields (SLC s) v ((setFields op sel).getD [])
    (b, { x.2 with units := x.2.units ++ [s], forces := if op = .lvl ∧ sel = 7 then x.2.forces ++ [s] else x.2.forces })

/-- A setting for regulator `r` (R144, R173). -/
def putDps (x : Block × Touched) (sel v r : Nat) : Block × Touched :=
  if x.1.flag (DPS r) DPS_STAT.BOLTED then x
  else (x.1.putFields (DPS r) v ((setFields .dps sel).getD []), { x.2 with units := x.2.units ++ [272 + r] })

/-- TIASTAMP for slice `s` (R174, R230): MODE in force. -/
def putStamp (x : Block × Touched) (mode s : Nat) (late : Bool) : Block × Touched :=
  if x.1.slcBolted s then x
  else (x.1.set (SLC s) TIA_CTRL.MODE mode,
    { x.2 with units := x.2.units ++ [s], lates := if late then x.2.lates ++ [s] else x.2.lates })

end Block

/-- The settings class by its code, for the actions that wait (R171). -/
def setOpOf (op : Nat) : SetOp :=
  if op = 0x60 then .lvl else if op = 0x61 then .pmu else if op = 0x62 then .slc else if op = 0x63 then .slew
  else if op = 0x64 then .gen else if op = 0x65 then .wm else .dps

namespace Block

/-- One waiting setting, issued at sub-tick `at_`, applied for field `f` (R142: to the slices and regulators that serve it now). -/
def putSetting (f : Nat) (x : Block × Touched) (at_ op sel mask v : Nat) : Block × Touched :=
  if op = 0x66 then
    (List.range 2).foldl (fun x i => if bit mask i then putDps x sel v (x.1.landReg (2 * f + i)) else x) x
  else
    (List.range 16).foldl (fun x k =>
      if !bit mask k then x
      else if op = 0x85 then putStamp x sel (x.1.chSlice f k) (decide (x.1.time.now < at_ + 100))
      else putSlice x (setOpOf op) sel v (x.1.chSlice f k)) x

/-- The actions of field `f` for this boundary, in program order, jumps apart (R144). -/
def dueActs (b : Block) (f : Nat) : List (Nat × Nat × Act) :=
  (b.seq f).acts.filter (fun a => decide (a.1 ≤ b.time.ticks) && !(match a.2.2 with
    | .sjmp _ => true
    | _ => false))

/-- The settings among them written in force. -/
def progWrites (b : Block) (f : Nat) (t : Touched) : Block × Touched :=
  (b.dueActs f).foldl (fun x a => match a.2.2 with
    | .set op sel mask v => putSetting f x a.2.1 op sel mask v
    | _ => x) (b, t)

/-- The other actions of this boundary, in program order (R143, R174, R176, R179). -/
def progActs (b : Block) (f : Nat) : Block :=
  let due := b.dueActs f
  let b := b.updSeq f (fun q => { q with acts := q.acts.filter (fun a => !due.contains a) })
  due.foldl (fun b a => match a.2.2 with
    | .signal n => b.arrive n
    | .trg line act => b.trgCommand line (act + 1)
    | .freq ch g => b.gateStart (b.chSlice f ch) g b.time.lastB (decide (b.time.now < a.2.1 + 100))
    | .hconn k => { b with buses := Sparse.set 0 f (if k = 16 then 0 else k + 1) b.buses }
    | _ => b) b

/-- The values written for this boundary take effect in the units touched (R144, R172): one judgement for each unit, of all values of
the boundary together. `old` is the block before them. -/
def latchUnits (old b : Block) (t : Touched) : Block :=
  let b := t.units.eraseDups.foldl (fun b u =>
    if u < 272 then slcLatch old b u (t.forces.contains u) else dpsLatch old b (u - 272)) b
  t.lates.eraseDups.foldl (fun b s =>
    if old.get (SLC s) TIA_CTRL.MODE = 0 ∧ (b.tia s).stamping then
      b.updTia s (fun x => { x with stamping := false, lateStamp := true }) else b) b

/-- The programs' actions of a boundary at which no generation comes into force (R144). -/
def progBoundary (b : Block) : Block :=
  let old := b
  let x := (List.range 16).foldl (fun x f => progWrites x.1 f x.2) (b, ({} : Touched))
  (List.range 16).foldl progActs (latchUnits old x.1 x.2)

end Block

/-! ### The instructions -/

/-- A setting of the class 0x60 to 0x66 (R171, R172). -/
def settingEffect (f : Nat) : Effect := fun h st =>
  match h with
  | .setting op sel mask value =>
    let v := setValue st.blk f value
    match setMask st.blk f mask with
    | .error c => .error c
    | .ok m =>
      if !setValueOk op sel v ∨ (op = .dps ∧ 4 ≤ m) then .error causeOperand
      else plain f 6 (fun b => .ok (if m = 0 then b else b.act f (.set op.code sel m v))) st
  | _ => other st

/-- The field holds entry `i` of the hasp table, else the program fault HASP (R19, R142). -/
def needHasp (f i : Nat) (st : State) (go : State → Except Nat State) : Except Nat State :=
  if st.blk.holds f i then go st else .error causeHasp

/-- TIASTAMP (R174, R175): SEL is the mode; it names no value, so VALUE is zero. -/
def tiastampEffect (f : Nat) : Effect := fun h st =>
  match h with
  | .tiastamp sel mask value =>
    match setMask st.blk f mask with
    | .error c => .error c
    | .ok m =>
      if 4 ≤ sel.val ∨ setValue st.blk f value ≠ 0 then .error causeOperand
      else needHasp f (16 * f + 5) st (plain f 6 (fun b => .ok (if m = 0 then b else b.act f (.set 0x85 sel m 0))))
  | _ => other st

/-! ### The rows -/

/-- SETLVL (R171). -/
def execSetlvl (f : Fin 16) (e : SeqErr) (st : State) : Host.Outcome State Fault Refusal :=
  .next (seqRun st f 0x60 e (settingEffect f))
/-- SETPMU (R171). -/
def execSetpmu (f : Fin 16) (e : SeqErr) (st : State) : Host.Outcome State Fault Refusal :=
  .next (seqRun st f 0x61 e (settingEffect f))
/-- SETSLC (R171). -/
def execSetslc (f : Fin 16) (e : SeqErr) (st : State) : Host.Outcome State Fault Refusal :=
  .next (seqRun st f 0x62 e (settingEffect f))
/-- SETSLEW (R171). -/
def execSetslew (f : Fin 16) (e : SeqErr) (st : State) : Host.Outcome State Fault Refusal :=
  .next (seqRun st f 0x63 e (settingEffect f))
/-- SETGEN (R171). -/
def execSetgen (f : Fin 16) (e : SeqErr) (st : State) : Host.Outcome State Fault Refusal :=
  .next (seqRun st f 0x64 e (settingEffect f))
/-- SETWM (R171). -/
def execSetwm (f : Fin 16) (e : SeqErr) (st : State) : Host.Outcome State Fault Refusal :=
  .next (seqRun st f 0x65 e (settingEffect f))
/-- SETDPS (R171). -/
def execSetdps (f : Fin 16) (e : SeqErr) (st : State) : Host.Outcome State Fault Refusal :=
  .next (seqRun st f 0x66 e (settingEffect f))
/-- TIASTAMP (R174). -/
def execTiastamp (f : Fin 16) (e : SeqErr) (st : State) : Host.Outcome State Fault Refusal :=
  .next (seqRun st f 0x85 e (tiastampEffect f))

end Sys2Proof.Machine
end

