-- ==== Sys2Proof/Machine/SeqMeas.lean ====
section
/-!
DEFINITION. Measurements and judgements (R164, R174, R175).
-/
namespace Sys2Proof.Machine

/-- The tick m of a tick selector (R164), as a tick number that may lie before tick 0. -/
def tickOf (b : Block) (f : Nat) : TickSel → Int
  | .rel o => Int.ofNat (b.fTick f) + toSigned 16 o
  | .abs a => Int.ofNat (b.greg f a)

/-- The result of tick `m` is available (R164): B(m + 1) has come. -/
def tickReady (b : Block) (m : Int) : Bool := decide (m < Int.ofNat b.tick)

/-- Tick `m` is older than the latest 64 (R164). -/
def tickOld (b : Block) (m : Int) : Bool := decide (m < Int.ofNat b.tick - 64)

/-- A word that is zero except for its TICK field (R164). -/
def tickWord (m : Int) : Nat := ofSigned 16 m * 2 ^ 48

/-- The conversion of slice `s` in tick `m`, in the layout of PMU_MEAS (R164, R174). -/
def conversionOf (b : Block) (s : Nat) (m : Int) : Nat :=
  if tickOld b m then tickWord m
  else match (b.slc s).meas.find? (fun x => Int.ofNat x.1 == m) with
    | some x => x.2
    | none => tickWord m

/-- A conversion is clean (R174): VALID, and none of BLEED, PATH, NSET, CLAMP_I, CLAMP_V and OVR. -/
def convClean (w : Nat) : Bool := bit w 43 && !bit w 44 && bits w 38 5 == 0

/-- The state of the monitor of slice `s` after the sample of tick `m`, in the layout of WM_STAT without SEEN bits (R174). A monitor that
was off in that tick reads zero except for TICK (DEDUCED, log entry 13). -/
def verdictWord (b : Block) (s : Nat) (m : Int) : Nat :=
  if tickOld b m then tickWord m
  else match (b.wm s).hist.find? (fun x => Int.ofNat x.1 == m) with
    | some x => x.2
    | none => tickWord m

/-- The signed or unsigned code of a conversion, as its QTY requires (R183, R184). -/
def convCode (w : Nat) : Nat := if bit w 34 then sextW 18 (bits w 0 18) else bits w 0 18

/-- MEAS with its conversion at hand (R174). -/
def measEnd (f d ch : Nat) (m : Int) (b : Block) : Block :=
  let w := conversionOf b (b.chSlice f ch) m
  ((b.setG f d w).setFlags f (putZ (b.flags f) (!convClean w))).pcNext f

/-- VERD with its state at hand (R174). -/
def verdEnd (f d ch : Nat) (m : Int) (b : Block) : Block :=
  let w := verdictWord b (b.chSlice f ch) m
  ((b.setG f d w).setFlags f (putZ (b.flags f) (tickOld b m || w % 8 == 2))).pcNext f

/-- VERDALL with its verdicts at hand (R174). -/
def verdallEnd (f d : Nat) (m : Int) (b : Block) : Block :=
  let v := fun k => verdictWord b (b.chSlice f k) m % 8
  let w := ofSigned 16 m * 2 ^ 48 + (List.range 16).foldl (fun n k => n + v k * 2 ^ (3 * k)) 0
  ((b.setG f d w).setFlags f (putZ (b.flags f) (tickOld b m || (List.range 16).all (fun k => v k == 2 || v k == 0)))).pcNext f

/-- A measurement of tick `m` ends at once, or waits until B(m + 1) (R164). -/
def measure (f n : Nat) (m : Int) (fin : Block → Block) (st : State) : Except Nat State :=
  .ok (st.on (fun b =>
    let b := b.spend f n
    if tickReady b m then fin b else b.waitFor f (.meas m.toNat)))

/-- MEAS (R174). -/
def measEffect (f : Nat) : Effect := fun h st =>
  match h with
  | .meas d s ch => let m := tickOf st.blk f s; measure f 3 m (measEnd f d ch m) st
  | _ => other st

/-- VERD (R174). -/
def verdEffect (f : Nat) : Effect := fun h st =>
  match h with
  | .verd d s ch => let m := tickOf st.blk f s; measure f 3 m (verdEnd f d ch m) st
  | _ => other st

/-- VERDALL (R174). -/
def verdallEffect (f : Nat) : Effect := fun h st =>
  match h with
  | .verdall d s => let m := tickOf st.blk f s; measure f 4 m (verdallEnd f d m) st
  | _ => other st

/-- LIMIT (R174, R175). -/
def limitEffect (f : Nat) : Effect := fun h st =>
  match h with
  | .limit d a t =>
    if t.val = 1023 then .error causeDstore
    else
      let r := limitRun (st.blk.greg f a) (st.store f t) (st.store f (t + 1))
      plain f 4 (fun b => .ok ((b.setG f d r).setFlags f (putP (b.flags f) (r == 0)))) st
  | _ => other st

/-- FMASK (R174). -/
def fmaskEffect (f : Nat) : Effect := fun h st =>
  match h with
  | .fmask d clear =>
    plain f 2 (fun b =>
      let b := b.setG f d (b.seq f).fmask
      .ok (if clear then b.updSeq f (fun q => { q with fmask := 0 }) else b)) st
  | _ => other st

/-- FREQ (R174): gates of 10 to 10,000,000 µs. -/
def freqEffect (f : Nat) : Effect := fun h st =>
  match h with
  | .freq ch g =>
    if g.val < 10 ∨ 10000000 < g.val then .error causeOperand
    else plain f 6 (fun b => .ok ((b.act f (.freq ch g)).updSeq f (fun q => { q with freqs := setBit q.freqs ch }))) st
  | _ => other st

/-- The frequency result of channel `ch` is there (R174): no gate is still to open, open, or to be computed. -/
def freqReady (b : Block) (f ch : Nat) : Bool :=
  !(b.tia (b.chSlice f ch)).resultOwed && !(b.seq f).acts.any (fun a => match a.2.2 with
    | .freq c _ => c == ch
    | _ => false)

/-- The frequency result word of slice `s`, in the layout of TIA_FRES (R241, R245). -/
def freqWord (b : Block) (s : Nat) : Nat :=
  b.get (SLC s) TIA_FRES.VALID * 2 ^ 63 + b.get (SLC s) TIA_FRES.COLD * 2 ^ 62 + b.get (SLC s) TIA_FRES.UNCAL * 2 ^ 61 +
    b.get (SLC s) TIA_FRES.SHORT * 2 ^ 60 + b.get (SLC s) TIA_FRES.FEW * 2 ^ 59 + b.get (SLC s) TIA_FRES.F_UHZ

/-- FREQRD with its result at hand (R174). -/
def freqrdEnd (f d ch : Nat) (b : Block) : Block :=
  let w := freqWord b (b.chSlice f ch)
  ((b.setG f d w).setFlags f (putZ (b.flags f) (!bit w 63))).pcNext f

/-- FREQRD (R174, R175): with no measurement started since START_STEP, D = 0 and Z = 1 at once. -/
def freqrdEffect (f : Nat) : Effect := fun h st =>
  match h with
  | .freqrd d ch =>
    .ok (st.on (fun b =>
      let b := b.spend f 3
      if !bit (b.seq f).freqs ch then ((b.setG f d 0).setFlags f (putZ (b.flags f) true)).pcNext f
      else if freqReady b f ch then freqrdEnd f d ch b
      else b.waitFor f (.gate ch)))
  | _ => other st

/-! ### The rows -/

/-- MEAS (R174). -/
def execMeas (f : Fin 16) (e : SeqErr) (st : State) : Host.Outcome State Fault Refusal := .next (seqRun st f 0x80 e (measEffect f))
/-- VERD (R174). -/
def execVerd (f : Fin 16) (e : SeqErr) (st : State) : Host.Outcome State Fault Refusal := .next (seqRun st f 0x81 e (verdEffect f))
/-- VERDALL (R174). -/
def execVerdall (f : Fin 16) (e : SeqErr) (st : State) : Host.Outcome State Fault Refusal :=
  .next (seqRun st f 0x82 e (verdallEffect f))
/-- LIMIT (R174). -/
def execLimit (f : Fin 16) (e : SeqErr) (st : State) : Host.Outcome State Fault Refusal :=
  .next (seqRun st f 0x83 e (limitEffect f))
/-- FMASK (R174). -/
def execFmask (f : Fin 16) (e : SeqErr) (st : State) : Host.Outcome State Fault Refusal :=
  .next (seqRun st f 0x84 e (fmaskEffect f))
/-- FREQ (R174). -/
def execFreq (f : Fin 16) (e : SeqErr) (st : State) : Host.Outcome State Fault Refusal :=
  .next (seqRun st f 0x86 e (freqEffect f))
/-- FREQRD (R174). -/
def execFreqrd (f : Fin 16) (e : SeqErr) (st : State) : Host.Outcome State Fault Refusal :=
  .next (seqRun st f 0x87 e (freqrdEffect f))

end Sys2Proof.Machine
end

