-- ==== Sys2Proof/Machine/SeqLong.lean ====
section
/-!
DEFINITION. The long block instructions (R181 to R186): SWEEP, SEARCH, MEASALL and BMOVE, each from its start or its last restart
point to its next wait, restart point with service due, or end.
-/
namespace Sys2Proof.Machine

/-- A code that a SWEEP or SEARCH may use (R172, R182, R183): the DAC's valid range, or for the force DAC its 18 bits. -/
def dacCodeOk (sel : Nat) (c : Int) : Bool :=
  match c with
  | .ofNat n => setValueOk .lvl sel n
  | .negSucc _ => false

/-- `n` words of the data store from address `a` exist (R181). -/
def storeFits (a n : Nat) : Bool := decide (a + n ≤ 1024)

namespace Block

/-- The long instruction under way changed. -/
def setLong (b : Block) (f : Nat) (l : LongSt) : Block := b.updSeq f (fun q => { q with long := some l })

/-- The long instruction at PC starts (R160, R181), in `n` cycles. -/
def longStart (b : Block) (f n : Nat) (l : LongSt) : Block :=
  let b := (b.set (FLD f) SEQ_PROG.OPCODE l.op).set (FLD f) SEQ_PROG.PC (b.pc f)
  let b := (b.setFlag (FLD f) SEQ_PROG.ABAND false).setFlag (FLD f) SEQ_PROG.SUSP false
  (b.spend f n).setLong f l

/-- The long instruction is complete. -/
def longEnd (b : Block) (f : Nat) : Block := (b.updSeq f (fun q => { q with long := none, wait := none })).pcNext f

/-- A point of a SWEEP or SEARCH (R182, R183): SETLVL in the frame under construction, and the wait for tick n + DWELL - 1. -/
def point (b : Block) (f : Nat) (l : LongSt) (mask sel code dwell : Nat) : Block :=
  let n := (b.seq f).frame
  let b := b.spend f 10
  let b := if mask = 0 then b else b.act f (.set 0x60 sel mask code)
  (b.setLong f { l with issued := true, idx := n }).waitFor f (.meas (b.tickNoOf (n + dwell - 1)))

end Block

/-- The long instruction that an instruction row resumes, if its own is under way. -/
def State.resumed (st : State) (f op : Nat) : Option LongSt := (st.blk.seq f).long.filter (fun l => l.op == op)

/-- A long instruction stops at a restart point while service is due, else goes on (R154, R199). -/
def restart (f : Nat) (l : LongSt) (go : State → LongSt → State) (st : State) : State :=
  let st := st.on (fun b => (b.setLong f l).clearWait f)
  if (st.blk.dueLine f).isSome then st else go st l

/-! ### SWEEP (R182) -/

/-- The code of point `i`. -/
def sweepCode (ga gb i : Nat) : Int := toSigned 64 ga + Int.ofNat i * toSigned 64 gb

/-- The next point of a SWEEP, or its end. -/
def sweepNext (f mask sel count dwell : Nat) (st : State) (l : LongSt) : State :=
  st.on (fun b => if count ≤ l.done then b.longEnd f
    else b.point f l mask sel (ofSigned 64 (sweepCode l.ga l.gb l.done)) dwell)

/-- SWEEP (R181, R182). -/
def sweepEffect (f : Nat) : Effect := fun h st =>
  match h with
  | .sweep d a b mask sel count dwell _ =>
    match st.resumed f 0xE0 with
    | some l => .ok (sweepNext f mask sel count dwell st l)
    | none =>
      let gd := st.blk.greg f d
      let ga := st.blk.greg f a
      let gb := st.blk.greg f b
      if !storeFits gd count then .error causeDstore
      else if !(List.range count).all (fun i => dacCodeOk sel (sweepCode ga gb i)) then .error causeOperand
      else
        let l : LongSt := { op := 0xE0, pc := st.blk.pc f, gd := gd, ga := ga, gb := gb }
        .ok (sweepNext f mask sel count dwell (st.on (fun b => b.longStart f 6 l)) l)
  | _ => other st

/-- The conversion of a point of a SWEEP is there (R182). -/
def sweepPoint (f mask sel count dwell mch m : Nat) (st : State) (l : LongSt) : State :=
  let w := conversionOf st.blk (st.blk.chSlice f mch) m
  restart f { l with done := l.done + 1, issued := false } (sweepNext f mask sel count dwell) (st.setStore f (l.gd + l.done) w)

/-! ### SEARCH (R183) -/

/-- The next iteration of a SEARCH, with lo and hi in `l`, or its end. -/
def searchNext (f d k sel dwell : Nat) (st : State) (l : LongSt) : State :=
  st.on (fun b => if l.gb ≤ l.ga + 1 then (b.setG f d l.gb).longEnd f
    else b.point f l (2 ^ k) sel (l.ga + (l.gb - l.ga) / 2) dwell)

/-- SEARCH (R181, R183). -/
def searchEffect (f : Nat) : Effect := fun h st =>
  match h with
  | .searchI d a b k sel _ dwell _ =>
    match st.resumed f 0xE1 with
    | some l => .ok (searchNext f d k sel dwell st l)
    | none =>
      let ga := st.blk.greg f a
      let gb := st.blk.greg f b
      if toSigned 64 gb ≤ toSigned 64 ga ∨ !dacCodeOk sel (toSigned 64 ga) ∨ !dacCodeOk sel (toSigned 64 gb) then .error causeOperand
      else
        let l : LongSt := { op := 0xE1, pc := st.blk.pc f, ga := ga, gb := gb }
        .ok (searchNext f d k sel dwell (st.on (fun b => b.longStart f 6 l)) l)
  | _ => other st

/-- The judgement of an iteration with tick `m` (R183). -/
def searchTrue (st : State) (f k judge taddr m : Nat) : Bool :=
  let s := st.blk.chSlice f k
  let raw := bits (verdictWord st.blk s m) 4 3
  let code := toSigned 64 (convCode (conversionOf st.blk s m))
  let ref := toSigned 64 (st.store f taddr)
  if judge = 0 then raw == 3 else if judge = 1 then raw == 4 else if judge = 2 then decide (ref ≤ code) else decide (code ≤ ref)

/-- The conversion or verdict of an iteration is there (R183): lo or hi becomes mid, and Ga and Gb follow. -/
def searchPoint (f d a b k sel judge dwell taddr m : Nat) (st : State) (l : LongSt) : State :=
  let mid := l.ga + (l.gb - l.ga) / 2
  let l := if searchTrue st f k judge taddr m then { l with gb := mid } else { l with ga := mid }
  restart f { l with done := l.done + 1, issued := false } (searchNext f d k sel dwell)
    (st.on (fun x => (x.setG f a l.ga).setG f b l.gb))

/-! ### MEASALL (R184) -/

/-- Channel `k` of a MEASALL for tick `m`: stored, and judged with LIM; whether a limit has failed. -/
def measallChan (f gd gb : Nat) (lim : Bool) (m : Int) (x : State × Bool) (k : Nat) : State × Bool :=
  let st := x.1
  let w := conversionOf st.blk (st.blk.chSlice f k) m
  let st := (st.setStore f (gd + k) w).on (fun b => b.spend f 6)
  if lim then (st, x.2 || limitRun (convCode w) (st.store f (gb + 2 * k)) (st.store f (gb + 2 * k + 1)) != 0) else (st, x.2)

/-- The next masked channel of a MEASALL from channel `k` on (R186). -/
def measallNext (mask k : Nat) : Option Nat := ((List.range 16).drop k).find? (bit mask)

/-- MEASALL stops at the restart point before its next masked channel, or ends (R184, R186). -/
def measallStop (f mask : Nat) (lim : Bool) (l : LongSt) (st : State) : State :=
  st.on (fun b => match measallNext mask l.done with
    | some k => (b.setLong f { l with done := k }).clearWait f
    | none => (if lim then b.setFlags f (putP (b.flags f) (!l.failed)) else b).longEnd f)

/-- One channel of a MEASALL, and the next restart point or the end; the tick is kept in `l.ga`. -/
def measallRun (f mask : Nat) (lim : Bool) (st : State) (l : LongSt) : State :=
  match measallNext mask l.done with
  | none => measallStop f mask lim l st
  | some k =>
    let r := measallChan f l.gd l.gb lim (toSigned 64 l.ga) (st, l.failed) k
    measallStop f mask lim { l with done := k + 1, failed := r.2 } r.1

/-- MEASALL (R181, R184, R186): it starts, or goes on from a restart point to the next. -/
def measallEffect (f : Nat) : Effect := fun h st =>
  match h with
  | .measall d b mask ofs lim =>
    match st.resumed f 0xE2 with
    | some l => .ok (measallRun f mask lim st l)
    | none =>
      let gd := st.blk.greg f d
      let gb := st.blk.greg f b
      if !storeFits gd 16 ∨ (lim ∧ !storeFits gb 32) then .error causeDstore
      else
        let m := tickOf st.blk f (.rel ofs)
        let l : LongSt := { op := 0xE2, pc := st.blk.pc f, gd := gd, ga := ofSigned 64 m, gb := gb }
        let st := st.on (fun b => b.longStart f 4 l)
        .ok (if tickReady st.blk m then measallStop f mask lim l st else st.on (fun b => b.waitFor f (.meas m.toNat)))
  | _ => other st

/-! ### BMOVE (R185) -/

/-- `n` words copied from data-store address `a` to address `d`, one at a time in ascending order. -/
def storeCopy (f a d : Nat) : Nat → State → State
  | 0, st => st
  | n + 1, st => storeCopy f (a + 1) (d + 1) n (st.setStore f d (st.store f a))

/-- `n` words copied from word `w` of page `p` to data-store address `d`. -/
def pageCopy (f p w d : Nat) : Nat → State → State
  | 0, st => st
  | n + 1, st => pageCopy f p (w + 1) (d + 1) n (st.setStore f d (pageWord st.mem p w))

/-- The next words of a BMOVE from a page: a request and a data wait, or the end; a page that may no longer be read is PAGE (R140). -/
def bmoveNext (f count : Nat) (st : State) (l : LongSt) : State :=
  st.on (fun b => if count ≤ l.done then b.longEnd f
    else if b.pageReadable l.ga then (b.hbmReq 6 l.ga f).waitData f
    else b.progFault f causePage)

/-- Eight words of a BMOVE within the data store (R185, R186): 4 cycles, and the next restart point or the end. -/
def bmoveCopy (f count : Nat) (st : State) (l : LongSt) : State :=
  let n := min 8 (count - l.done)
  (storeCopy f (l.ga + l.done) (l.gd + l.done) n st).on (fun b =>
    let b := (b.spend f 4).setLong f { l with done := l.done + n }
    if count ≤ l.done + n then b.longEnd f else b)

/-- BMOVE (R181, R185, R186): it starts, or goes on from a restart point to the next. -/
def bmoveEffect (f : Nat) (e : SeqErr) : Effect := fun h st =>
  match h with
  | .bmove d a b count dir =>
    match st.resumed f 0xE3 with
    | some l => .ok (if dir then bmoveCopy f count st l else bmoveNext f count st l)
    | none =>
      let gd := st.blk.greg f d
      let ga := st.blk.greg f a
      let w := st.blk.greg f b % 4096
      let l : LongSt := { op := 0xE3, pc := st.blk.pc f, gd := gd, ga := ga, gb := w }
      if !storeFits gd count ∨ (dir ∧ !storeFits ga count) then .error causeDstore
      else if dir then
        let st := st.on (fun b => b.longStart f 0 l)
        .ok (bmoveCopy f count st l)
      else if 4096 < w + count.val then .error causeOperand
      else
        match pageRead st.blk f ga e with
        | .error c => .error c
        | .ok x =>
          if x.seqLive f then .ok { st with blk := (x.longStart f 0 l).waitData f }
          else .ok { st with blk := x }
  | _ => other st

/-- Eight words of a BMOVE have arrived (R185): 4 cycles, and the next restart point. -/
def bmoveWords (f count : Nat) (st : State) (l : LongSt) : State :=
  let n := min 8 (count - l.done)
  let st := (pageCopy f l.ga (l.gb + l.done) (l.gd + l.done) n st).on (fun b => b.spend f 4)
  restart f { l with done := l.done + n } (bmoveNext f count) st

/-! ### The rows -/

/-- SWEEP (R182). -/
def execSweep (f : Fin 16) (e : SeqErr) (st : State) : Host.Outcome State Fault Refusal :=
  .next (seqRun st f 0xE0 e (sweepEffect f))
/-- SEARCH (R183). -/
def execSearchI (f : Fin 16) (e : SeqErr) (st : State) : Host.Outcome State Fault Refusal :=
  .next (seqRun st f 0xE1 e (searchEffect f))
/-- MEASALL (R184). -/
def execMeasall (f : Fin 16) (e : SeqErr) (st : State) : Host.Outcome State Fault Refusal :=
  .next (seqRun st f 0xE2 e (measallEffect f))
/-- BMOVE (R185). -/
def execBmove (f : Fin 16) (e : SeqErr) (st : State) : Host.Outcome State Fault Refusal :=
  .next (seqRun st f 0xE3 e (bmoveEffect f e))

end Sys2Proof.Machine
end

