-- ==== Sys2Proof/Machine/SeqStream.lean ====
section
/-!
DEFINITION. Vector blocks, timing-set selection and stream alignment (R147, R168 to R170).
-/
namespace Sys2Proof.Machine

/-- TSELI (R168). -/
def tseliEffect (f : Nat) : Effect := fun h st =>
  match h with
  | .tseli t => plain f 1 (fun b => .ok (b.set (FLD f) SEQ_TSEL.SET t)) st
  | _ => other st

/-- TSELR (R168). -/
def tselrEffect (f : Nat) : Effect := fun h st =>
  match h with
  | .tselr a =>
    plain f 1 (fun b => if b.greg f a < 64 then .ok (b.set (FLD f) SEQ_TSEL.SET (b.greg f a)) else .error causeOperand) st
  | _ => other st

/-- The dictionary tag of the segment headed by `p` fits the dictionary of field `f`: it is zero, or SOW_DTAG (R209). -/
def tagFits (m : List Host.Cell) (b : Block) (f p : Nat) : Bool :=
  let t := pageWord m p 2 % 2 ^ 32
  t == 0 || t == b.get (FLD f) SOW_DTAG.TAG

/-- The checks of a head page by field `f` (R169, R170, R209) with the directory error `e` (R218): whether the play may go on, and the block
after the directory was read. -/
def headCheck (m : List Host.Cell) (b : Block) (f p : Nat) (e : SeqErr) : Block × Bool :=
  if !b.playable p || !tagFits m b f p then (b, false)
  else
    let r := b.dirRead p (match e with
      | .dir n => n.val
      | _ => 0)
    (r.1, r.2 && r.1.chainReadable p)

/-- A PLAY that has room in the queue (R169, R226). -/
def playNow (f head : Nat) (st : State) : State :=
  st.on (fun b => (b.pushPlay f head (b.get (FLD f) SEQ_TSEL.SET) (segCounts st.mem head)).pcNext f)

/-- PLAY (R169, R226): with 32 unfinished plays it waits as a data wait. -/
def playEffect (f : Nat) (e : SeqErr) : Effect := fun h st =>
  match h with
  | .play a =>
    let p := st.blk.greg f a
    let r := headCheck st.mem (st.blk.spend f 12) f p e
    if !r.2 then .ok { st with blk := r.1.progFault f causePage }
    else if 32 ≤ r.1.playCount f then .ok { st with blk := (r.1.waitData f).count (FLD f) SOW_EVCNT.QFULL 1 }
    else .ok (playNow f p { st with blk := r.1 })
  | _ => other st

/-- FALLOW (R168). -/
def fallowEffect (f : Nat) : Effect := fun h st =>
  match h with
  | .fallow n =>
    plain f 4 (fun b => .ok (b.pushFallow f (match n with
      | .imm v => v.val
      | .reg a => b.greg f a % 2 ^ 32))) st
  | _ => other st

/-- SJMP (R170): the jump point lies in the stream as issued so far; where none does, the segment is appended as by PLAY. With 32 unfinished
plays of which it discards none it waits as a PLAY does (R226). -/
def sjmpEffect (f : Nat) (e : SeqErr) : Effect := fun h st =>
  match h with
  | .sjmp a =>
    let p := st.blk.greg f a
    let r := headCheck st.mem (st.blk.spend f 12) f p e
    if !r.2 then .ok { st with blk := r.1.progFault f causePage }
    else if 32 ≤ r.1.playCount f ∧ r.1.jumpHeads st.mem f (r.1.seq f).frame = [] then
      .ok { st with blk := (r.1.waitData f).count (FLD f) SOW_EVCNT.QFULL 1 }
    else .ok { st with blk := (r.1.segJump st.mem f p (r.1.get (FLD f) SEQ_TSEL.SET) (r.1.seq f).frame).pcNext f }
  | _ => other st

/-- The first tick boundary at or after the stream position, as a time (R147). -/
def Block.syncsTo (b : Block) (f : Nat) : Nat :=
  let K := b.k * 20000
  let z := b.time.lastB * 20000
  z + ceilDiv ((b.seq f).pos - z) K * K

/-- SYNCS (R147): the stream is filled to the next boundary B(m); the frames that it then covers close, so that F(m) is the next
one to execute. -/
def syncsEffect (f : Nat) : Effect := fun h st =>
  match h with
  | .syncs => plain f 4 (fun b => .ok (b.fillTo f (b.syncsTo f))) st
  | _ => other st

/-! ### The rows -/

/-- TSELI (R168). -/
def execTseli (f : Fin 16) (e : SeqErr) (st : State) : Host.Outcome State Fault Refusal :=
  .next (seqRun st f 0x40 e (tseliEffect f))
/-- TSELR (R168). -/
def execTselr (f : Fin 16) (e : SeqErr) (st : State) : Host.Outcome State Fault Refusal :=
  .next (seqRun st f 0x41 e (tselrEffect f))
/-- PLAY (R169). -/
def execPlay (f : Fin 16) (e : SeqErr) (st : State) : Host.Outcome State Fault Refusal :=
  .next (seqRun st f 0x42 e (playEffect f e))
/-- FALLOW (R168). -/
def execFallow (f : Fin 16) (e : SeqErr) (st : State) : Host.Outcome State Fault Refusal :=
  .next (seqRun st f 0x43 e (fallowEffect f))
/-- SJMP (R170). -/
def execSjmp (f : Fin 16) (e : SeqErr) (st : State) : Host.Outcome State Fault Refusal :=
  .next (seqRun st f 0x44 e (sjmpEffect f e))
/-- SYNCS (R147). -/
def execSyncs (f : Fin 16) (e : SeqErr) (st : State) : Host.Outcome State Fault Refusal :=
  .next (seqRun st f 0x45 e (syncsEffect f))

end Sys2Proof.Machine
end

