-- ==== Sys2Proof/Machine/Dds.lean ====
section
/-!
DEFINITION. The DDS source and the digitiser of a field (ch. 11).
-/
namespace Sys2Proof.Machine

/-- The phase of sample `n` under tuning word `ftw` and phase offset `pow`, in 2^-48 turns (R249). -/
def ddsPhase (ftw pow n : Nat) : Nat := (ftw * n + pow * 2 ^ 32) % 2 ^ 48

/-- The largest tuning word (R251): 400 MHz. -/
def ftwMax : Nat := 0x666666666666

/-- The offset voltage of a DDS_OUT.OFFSET code, in volts (R81, R251). -/
noncomputable def ddsOffsetVolts (code : Nat) : ℝ := (code : ℝ) * 10 / 65536 - 2.5

/-- The value of a sample, in volts, from its phase in 2^-48 turns, the amplitude code and the offset code (R249). -/
noncomputable def ddsVolts (offset ampl phase : Nat) : ℝ :=
  ddsOffsetVolts offset + (ampl : ℝ) / 65536 * Real.sin (2 * Real.pi * phase / 2 ^ 48)

namespace Block

/-- The sample index N now: samples of 1 ns since timing zero (R249, R250). -/
def ddsN (b : Block) : Nat := (b.time.now - b.time.zero) * 10

/-- At a list boundary OFFSET, MKEN and MKW come into force; the offset of a stopped source stays at 0 V (R255, R256). -/
def ddsSub (b : Block) (f : Nat) : Block :=
  b.updDds f (fun d => { d with
    mken := b.get (FLD f) DDS_OUT.MKEN, mkw := b.get (FLD f) DDS_OUT.MKW
    offset := if d.silent then 16384 else b.get (FLD f) DDS_OUT.OFFSET })

/-- At a tick boundary BUS and FAB come into force (R256). -/
def ddsBus (b : Block) (f : Nat) : Block :=
  b.updDds f (fun d => { d with bus := b.flag (FLD f) DDS_OUT.BUS, fab := b.flag (FLD f) DDS_OUT.FAB })

/-- The DDS route switch and the digitiser input switch are both closed: the digitiser measures the DDS output (R247). -/
def ddsLoop (b : Block) (f : Nat) : Bool := (b.dds f).bus && b.flag (FLD f) DIG_CFG.BUS

/-- The FAB switch of field `f` is closed (R247). -/
def fabClosed (b : Block) (f : Nat) : Bool := (b.dds f).fab || b.flag (FLD f) DIG_CFG.FAB

/-- The channel of field `f` whose pad the instrument side reaches, through the bus tie and the pad switch that HCONN has set; the bus tie
stays open while a substitution is in force (R13, R247, R248). -/
def padReached (b : Block) (f : Nat) : Option Nat :=
  let k := Sparse.get 0 f b.buses
  if k = 0 ∨ b.flag (8 * f) RM_CHMAP.SUB then none else some (k - 1)

/-- What the input of the digitiser of field `f` is connected to (R247): the DDS output of the field, its FAB land, a pad. -/
def digNodes (b : Block) (f : Nat) : Bool × Bool × Option Nat :=
  if b.flag (FLD f) DIG_CFG.BUS then ((b.dds f).bus, b.fabClosed f, b.padReached f) else (false, false, none)

/-- What the DDS output of field `f` drives (R247): its FAB land, a pad. -/
def ddsNodes (b : Block) (f : Nat) : Bool × Option Nat :=
  if (b.dds f).bus then (b.fabClosed f, b.padReached f) else (false, none)

/-- The program and host requests whose boundary is this one, in order: code (1 RUN, 2 step, 3 STOP) and entry (R252). -/
def ddsDue (b : Block) (f : Nat) : List (Nat × Nat) :=
  if b.atBoundary then
    (((b.dds f).prog.filter (fun r => decide (r.2.2 ≤ b.time.ticks))).map (fun r => (r.1, r.2.1))) ++
    (((b.dds f).cmds.filter (fun r => b.ripe r.2.2)).map (fun r => (r.1, r.2.1)))
  else []

/-- The first due request is removed: a program one before a host one. -/
def ddsPop (b : Block) (f : Nat) : Block :=
  b.updDds f (fun d =>
    if d.prog.any (fun r => decide (r.2.2 ≤ b.time.ticks)) then
      { d with prog := d.prog.eraseP (fun r => decide (r.2.2 ≤ b.time.ticks)) }
    else { d with cmds := d.cmds.eraseP (fun r => b.ripe r.2.2) })

/-- `n` due requests removed. -/
def ddsPopN (f : Nat) : Nat → Block → Block
  | 0, b => b
  | n + 1, b => ddsPopN f n (b.ddsPop f)

/-- Entry `i` has come into force (R252, R253): INDEX and TICK. -/
def ddsEnter (b : Block) (f i : Nat) : Block :=
  ((b.set (FLD f) DDS_STAT.INDEX i).set (FLD f) DDS_STAT.TICK b.tick16).updDds f (fun d => { d with fresh := some i })

/-- The enabled markers of entry `i` are emitted (R254). -/
def ddsMarkers (b : Block) (m : List Host.Cell) (f i : Nat) : Block :=
  let mk := bits (Memory.word m (.dds f 0) i) 48 4
  (List.range 4).foldl (fun b j =>
    if bit mk j ∧ bit (b.dds f).mken j then b.ddsMarker f j (b.time.now * 20000) else b) b

/-- `n` more requests take effect at this list boundary; a boundary with several is counted once (R253). -/
def ddsTook (b : Block) (f n : Nat) : Block :=
  let d := b.dds f
  let before := if d.reqAt = b.time.now + 1 then d.reqs else 0
  let b := b.updDds f (fun d => { d with reqAt := b.time.now + 1, reqs := before + n })
  if before ≤ 1 ∧ 1 < before + n then b.count (FLD f) DDS_EVCNT.MERGED 1 else b

/-- RUN at entry `e` (R252): the entry in force, and the source running with its amplitude and offset. -/
def ddsRun (b : Block) (f e : Nat) : Block :=
  let b := (b.set (FLD f) DDS_STAT.STATE 1).updDds f (fun d => { d with silent := false, runTick := b.tick })
  ((b.ddsSub f).ddsTook f 1).ddsEnter f e

/-- One step (R253): the entry after it, or none where none comes into force; the step from LAST raises the list-end source. -/
def ddsStepOne (b : Block) (f i : Nat) : Block × Nat × Bool :=
  if b.get (FLD f) DDS_STAT.STATE ≠ 1 then (b, i, false)
  else
    let b := b.count (FLD f) DDS_EVCNT.STEPS 1
    if i = b.get (FLD f) DDS_LIST.LAST then
      let b := (b.count (FLD f) DDS_EVCNT.ENDS 1).arrive (272 + 8 * f + 6)
      if b.flag (FLD f) DDS_CTRL.ENDM then (b.set (FLD f) DDS_STAT.STATE 2, i, false)
      else (b, b.get (FLD f) DDS_LIST.FIRST, true)
    else (b, (i + 1) % 4096, true)

/-- `n` steps from entry `i`: whether any entry came into force, and how many took effect, for a held source ignores them. -/
def ddsStepN (f : Nat) : Nat → Block → Nat → Bool → Nat → Block × Nat × Bool × Nat
  | 0, b, i, c, t => (b, i, c, t)
  | n + 1, b, i, c, t =>
    let r := b.ddsStepOne f i
    ddsStepN f n r.1 r.2.1 (c || r.2.2) (if b.get (FLD f) DDS_STAT.STATE = 1 then t + 1 else t)

/-- The step requests that take effect now (R252): those at the front of the program and host requests of this boundary, and
those of markers, events and the tick count whose instant has come. -/
def ddsSteps (b : Block) (f : Nat) : Nat × Nat :=
  (((b.ddsDue f).takeWhile (fun r => r.1 == 2)).length, ((b.dds f).steps.filter (fun t => decide (t ≤ b.time.now))).length)

/-- Once no request of this list boundary is left, the entry that has finally come into force emits its markers (R253). -/
def ddsSettle (b : Block) (m : List Host.Cell) (f : Nat) : Block :=
  let n := b.ddsSteps f
  if !(b.ddsDue f).isEmpty ∨ n.2 ≠ 0 then b
  else
    match (b.dds f).fresh with
    | some i => (b.updDds f (fun d => { d with fresh := none })).ddsMarkers m f i
    | none => b

/-- The steps of a list boundary (R253): one for each request. -/
def ddsStepApply (b : Block) (m : List Host.Cell) (f : Nat) : Block :=
  let n := b.ddsSteps f
  let b := (ddsPopN f n.1 b).updDds f (fun d => { d with steps := d.steps.filter (fun t => !decide (t ≤ b.time.now)) })
  let k := n.1 + n.2
  if k = 0 then b
  else if b.get (FLD f) DDS_STAT.STATE = 0 then b.ddsSettle m f
  else
    let r := ddsStepN f k b (b.get (FLD f) DDS_STAT.INDEX) false 0
    let b := if r.2.2.2 = 0 then r.1 else r.1.ddsTook f r.2.2.2
    (if r.2.2.1 then b.ddsEnter f r.2.1 else b).ddsSettle m f

/-- The request that is first at this boundary, where it has that code: it is taken, and `g` is its effect (R252). -/
def ddsFirst (b : Block) (m : List Host.Cell) (f code : Nat) (g : Block → Nat → Block) : Block :=
  match b.ddsDue f with
  | (c, e) :: _ => if c = code then (g (b.ddsPop f) e).ddsSettle m f else b
  | [] => b

/-- The tick count asks for a step at every B(n) with n - r a non-zero multiple of NTICK (R252). -/
def ddsTickCount (b : Block) (f : Nat) : Block :=
  let d : Int := Int.ofNat b.tick - Int.ofNat (b.dds f).runTick
  if b.get (FLD f) DDS_CTRL.STEP_SRC = 3 ∧ b.get (FLD f) DDS_STAT.STATE ≠ 0 ∧ b.atBoundary ∧ d ≠ 0 ∧
      d % Int.ofNat (b.get (FLD f) DDS_CTRL.NTICK) = 0 ∧ (b.dds f).tickStep ≠ b.time.ticks + 1 then
    b.updDds f (fun x => { x with steps := x.steps ++ [b.time.now], tickStep := b.time.ticks + 1 })
  else b

/-- Sample `n` of the source of field `f` as it stands: its offset and amplitude codes and its phase (R249); a source at 0 V has amplitude
0 (R255). Its voltage is `ddsVolts` of the three. -/
def ddsSample (b : Block) (m : List Host.Cell) (f n : Nat) : Nat × Nat × Nat :=
  let i := b.get (FLD f) DDS_STAT.INDEX
  let d := b.dds f
  (d.offset, if d.silent then 0 else bits (Memory.word m (.dds f 2) i) 0 16,
    ddsPhase (bits (Memory.word m (.dds f 0) i) 0 48) (bits (Memory.word m (.dds f 1) i) 0 16) n)

/-- The sample that the source of field `f` puts out now. -/
def ddsNow (b : Block) (m : List Host.Cell) (f : Nat) : Nat × Nat × Nat := b.ddsSample m f b.ddsN

/-- Marker `m` of field `f` is high now (R254). -/
def ddsMarkHigh (b : Block) (f m : Nat) : Bool := decide (b.time.now * 20000 < Sparse.get 0 m (b.dds f).markEnd)

/-- No sequencer holds the DDS output route (R248). -/
def ddsHostOk (b : Block) (f : Nat) : Bool := !b.seqHeld (16 * f + 2)

/-- A host DDS command waits for its boundary (R248, R252). -/
def ddsHost (b : Block) (f code e : Nat) : Block :=
  if !b.ddsHostOk f then b.fault (272 + f) 0
  else if code = 1 ∧ (e < b.get (FLD f) DDS_LIST.FIRST ∨ b.get (FLD f) DDS_LIST.LAST < e) then b.fault (272 + f) 0
  else if code ≠ 1 ∧ b.get (FLD f) DDS_STAT.STATE = 0 then b
  else b.updDds f (fun d => { d with cmds := d.cmds ++ [(code, e, b.time.now)] })

/-! ### Digitiser -/

/-- The host may write DIG_CFG and DIG_CMD (R248). -/
def digHostOk (b : Block) (f : Nat) : Bool := !b.seqHeld (16 * f + 3)

/-- A host START (R259). -/
def digHost (b : Block) (f : Nat) : Block :=
  if !b.digHostOk f ∨ !b.idle f then b.fault (272 + f) 0
  else if b.get (FLD f) DIG_STAT.STATE ≠ 0 then b
  else (b.set (FLD f) DIG_STAT.STATE 1).updDig f (fun d => { d with
    startReq := some b.time.now, t0 := none, prog := none, owner := b.haspOwner (16 * f + 3) })

/-- At a tick boundary t0 becomes known: of a host START a microsecond old, or of a DIGACQ for this boundary (R259). -/
def digTick (b : Block) (f : Nat) : Block :=
  let d := b.dig f
  if (d.startReq.any b.ripe) || d.prog.any (fun n => decide (n ≤ b.time.ticks)) then
    b.updDig f (fun d => { d with startReq := none, prog := none, t0 := some (b.time.lastB + b.get (FLD f) DIG_CFG.OFS) })
  else b

/-- At t0 the acquisition starts (R259); a read-back slot in progress is lost, since its entry is judged only at its end with the
digitiser free (R261, R98). -/
def digStart (b : Block) (f : Nat) : Block :=
  match (b.dig f).t0 with
  | some t =>
    if b.get (FLD f) DIG_STAT.STATE = 1 ∧ t ≤ b.time.now then
      let n := b.get (FLD f) DIG_CFG.NSAMP
      (b.set (FLD f) DIG_STAT.STATE 2).updDig f (fun d => { d with
        nsamp := n, taken := 0, seen := [], lastAt := t + ceilDiv ((n - 1) * b.digPeriod f) 20000 })
    else b
  | none => b

/-- The codes of all samples of an acquisition of field `f`, with their range-limit flags: `codes`, then `n` samples that all read `level`, as
the converter gave them, and those of the samples that the capture engine took as it saw them (R258, R264). -/
def digCodes (b : Block) (f : Nat) (codes : List Nat) (level n : Nat) : List (Nat × Bool) :=
  (codes ++ List.replicate n level).mapIdx (fun i c => b.digCode f (Sparse.get 0 i (b.dig f).seen - 1 + (if Sparse.get 0 i (b.dig f).seen = 0 then c else 0)))

/-- The results of an acquisition at their boundary, from the codes of all its samples (R258, R260): sum, minimum, maximum and count. -/
def digResults (b : Block) (f : Nat) (codes : List Nat) (level n : Nat) : Block :=
  if b.get (FLD f) DIG_STAT.STATE = 2 ∧ b.atBoundary ∧ b.ripe (b.dig f).lastAt ∧ codes.length + n = (b.dig f).nsamp then
    let cs := b.digCodes f codes level n
    let b := b.capFlushAvg f
    let b := (b.set (FLD f) DIG_SUM.SUM (cs.foldl (fun n c => n + c.1) 0)).set (FLD f) DIG_MM.MIN
      (cs.foldl (fun n c => min n c.1) 262143)
    let b := (b.set (FLD f) DIG_MM.MAX (cs.foldl (fun n c => max n c.1) 0)).set (FLD f) DIG_STAT.COUNT (b.dig f).nsamp
    let b := ((b.set (FLD f) DIG_STAT.TICK b.tick16).setFlag (FLD f) DIG_STAT.OVR (cs.any (fun c => c.2))).setFlag (FLD f)
      DIG_STAT.ABORT false
    let b := ((b.setFlag (FLD f) DIG_STAT.VALID true).set (FLD f) DIG_STAT.STATE 0).updDig f (fun d => { d with t0 := none })
    (b.updRb f (fun r => { r with used := b.time.now })).arrive (272 + 8 * f + 7)
  else b

end Block

/-- A read or write of DDS_LD (R251, R248, R256). -/
def ddsListAccess (st : State) (f : Nat) (w : Option Nat) : State :=
  let b := st.blk
  let i := b.get (FLD f) DDS_LA.INDEX
  let l := b.get (FLD f) DDS_LA.LIST
  let next := fun (b : Block) => b.set (FLD f) DDS_LA.INDEX ((i + 1) % 4096)
  match w with
  | none => { st with blk := next { b with host := { b.host with lastRead := [Memory.word st.mem (.dds f l) i] } } }
  | some v =>
    if !b.ddsHostOk f ∨ b.get (FLD f) DDS_STAT.STATE ≠ 0 ∨ (l = 0 ∧ ftwMax < v % 2 ^ 48) then { st with blk := b.fault (272 + f) 0 }
    else { st with blk := next b, mem := Memory.setWord st.mem (.dds f l) i (if l = 0 then v % 2 ^ 52 else v % 2 ^ 16) }

/-! ### The commands -/

/-- DDS_CMD_RUN (R252). -/
def execDdsCmdRun (f : Fin 16) (entry : Nat) (st : State) : Host.Outcome State Fault Refusal :=
  .next (st.on (fun b => b.ddsHost f 1 (entry % 4096)))
/-- DDS_CMD_STEP (R252). -/
def execDdsCmdStep (f : Fin 16) (st : State) : Host.Outcome State Fault Refusal := .next (st.on (fun b => b.ddsHost f 2 0))
/-- DDS_CMD_STOP (R255). -/
def execDdsCmdStop (f : Fin 16) (st : State) : Host.Outcome State Fault Refusal := .next (st.on (fun b => b.ddsHost f 3 0))
/-- DDS_RUN_APPLY (R252): the RUN that is first among the requests of this boundary. -/
def execDdsRunApply (f : Fin 16) (st : State) : Host.Outcome State Fault Refusal :=
  .next (st.on (fun b => b.ddsFirst st.mem f 1 (fun b e => b.ddsRun f e)))
/-- DDS_STEP_APPLY (R253). -/
def execDdsStepApply (f : Fin 16) (st : State) : Host.Outcome State Fault Refusal :=
  .next (st.on (fun b => b.ddsStepApply st.mem f))
/-- DDS_STOP_APPLY (R255): the STOP that is first among the requests of this boundary. -/
def execDdsStopApply (f : Fin 16) (st : State) : Host.Outcome State Fault Refusal :=
  .next (st.on (fun b => b.ddsFirst st.mem f 3 (fun b _ => b.ddsStop f)))
/-- DDS_TICK_COUNT_STEP (R252). -/
def execDdsTickCountStep (f : Fin 16) (st : State) : Host.Outcome State Fault Refusal := .next (st.on (fun b => b.ddsTickCount f))
/-- DDS_LD_ACCESS (R251). -/
def execDdsLdAccess (f : Fin 16) (w : Option Word) (st : State) : Host.Outcome State Fault Refusal :=
  .next (ddsListAccess st f (w.map (fun x => x.toNat)))
/-- DIG_CMD_START (R259). -/
def execDigCmdStart (f : Fin 16) (st : State) : Host.Outcome State Fault Refusal := .next (st.on (fun b => b.digHost f))
/-- DIG_CMD_ABORT (R260). -/
def execDigCmdAbort (f : Fin 16) (st : State) : Host.Outcome State Fault Refusal :=
  .next (st.on (fun b => if b.digHostOk f then
    (if b.get (FLD f) DIG_STAT.STATE = 2 then b.capFlushAvg f else b).digAbort f else b.fault (272 + f) 0))
/-- DIG_ACQ_START (R259). -/
def execDigAcqStart (f : Fin 16) (st : State) : Host.Outcome State Fault Refusal := .next (st.on (fun b => b.digStart f))
/-- DIG_RESULTS (R260). -/
def execDigResults (f : Fin 16) (codes : List Nat) (level n : Nat) (st : State) : Host.Outcome State Fault Refusal :=
  .next (st.on (fun b => b.digResults f codes level n))

end Sys2Proof.Machine
end

