-- ==== Sys2Proof/Machine/SeqUnits.lean ====
section
/-!
DEFINITION. Capture, trigger, DDS, digitiser and hinge-bus instructions (R176), result records and bins (R177, R178), and events,
signals and hasps (R179).
-/
namespace Sys2Proof.Machine

/-! ### Capture, trigger, DDS and digitiser (R176) -/

/-- The result of a CARM as it executes (R176, R266): a CARM that waits for its boundary counts as armed. -/
def carmCode (b : Block) (f : Nat) : Nat :=
  if (b.cap f).prog.any (fun r => r.1 == 1) then 2 else b.capArmResult f (b.seqOwner f)

/-- A request of the program for the capture engine at B(n): 1 ARM, 2 TRIG, 3 STOP (R176). -/
def capAsk (b : Block) (f code : Nat) : Block :=
  b.updCap f (fun c => { c with prog := c.prog ++ [(code, (b.seq f).frame, b.seqOwner f)] })

/-- CARM (R176). -/
def carmEffect (f : Nat) : Effect := fun h st =>
  match h with
  | .carm d =>
    needHasp f (16 * f + 4) st (fun st =>
      if st.blk.flag (FLD f) CAP_CFG.STREAM && !st.blk.holds f (16 * f + 6) then .error causeHasp
      else
        plain f 6 (fun b =>
          let r := carmCode b f
          let b := b.setG f d r
          .ok (if r = 0 then capAsk b f 1 else b.set (FLD f) CAP_STAT.ARMRES r)) st)
  | _ => other st

/-- CTRIG (R176). -/
def ctrigEffect (f : Nat) : Effect := fun h st =>
  match h with
  | .ctrig => needHasp f (16 * f + 4) st (plain f 4 (fun b => .ok (capAsk b f 2)))
  | _ => other st

/-- CSTOP (R176). -/
def cstopEffect (f : Nat) : Effect := fun h st =>
  match h with
  | .cstop => needHasp f (16 * f + 4) st (plain f 4 (fun b => .ok (capAsk b f 3)))
  | _ => other st

/-- TRGOUT (R176). -/
def trgoutEffect (f : Nat) : Effect := fun h st =>
  match h with
  | .trgout line act => needHasp f (256 + line) st (plain f 4 (fun b => .ok (b.act f (.trg line act))))
  | _ => other st

/-- A request of the program for the DDS source at B(n): 1 RUN, 2 step, 3 STOP, and an entry (R176, R252). -/
def ddsAsk (b : Block) (f code entry : Nat) : Block :=
  b.updDds f (fun d => { d with prog := d.prog ++ [(code, entry, (b.seq f).frame)] })

/-- DDSRUN (R176, R252): an entry outside FIRST to LAST is OPERAND. -/
def ddsrunEffect (f : Nat) : Effect := fun h st =>
  match h with
  | .ddsrun n =>
    needHasp f (16 * f + 2) st (plain f 6 (fun b =>
      if n.val < b.get (FLD f) DDS_LIST.FIRST ∨ b.get (FLD f) DDS_LIST.LAST < n.val then .error causeOperand
      else .ok (ddsAsk b f 1 n)))
  | _ => other st

/-- DDSSTEP (R176). -/
def ddsstepEffect (f : Nat) : Effect := fun h st =>
  match h with
  | .ddsstep => needHasp f (16 * f + 2) st (plain f 4 (fun b => .ok (ddsAsk b f 2 0)))
  | _ => other st

/-- DDSSTOP (R176). -/
def ddsstopEffect (f : Nat) : Effect := fun h st =>
  match h with
  | .ddsstop => needHasp f (16 * f + 2) st (plain f 4 (fun b => .ok (ddsAsk b f 3 0)))
  | _ => other st

/-- DIGACQ (R176, R259). -/
def digacqEffect (f : Nat) : Effect := fun h st =>
  match h with
  | .digacq d =>
    needHasp f (16 * f + 3) st (plain f 6 (fun b =>
      .ok (if b.get (FLD f) DIG_STAT.STATE ≠ 0 then b.setG f d 2
        else
          ((b.setG f d 0).set (FLD f) DIG_STAT.STATE 1).updDig f (fun x => { x with
            prog := some (b.seq f).frame, startReq := none, t0 := none, owner := b.seqOwner f }))))
  | _ => other st

/-- HCONN (R176). -/
def hconnEffect (f : Nat) : Effect := fun h st =>
  match h with
  | .hconn k => needHasp f (16 * f) st (plain f 6 (fun b => .ok (b.act f (.hconn k))))
  | _ => other st

/-! ### Results and bins (R177, R178, R302) -/

/-- The record of a RESULT (R177, R178, R297). -/
def issueResult (b : Block) (f a site test k kind : Nat) : Block :=
  let p := b01 (bit (b.flags f) 4)
  let b :=
    if kind = 0 then b.issueRec f 1 site test k kind p 0 0 none
    else if kind = 1 then b.issueRec f 1 site test k kind p 0 (b.greg f a) none
    else if kind = 4 then b.issueRec f 1 site test k kind 0 0 (b.greg f a) none
    else b.issueRec f 1 site test k kind 0 0 0 (some (b.seq f).issued)
  b.pcNext f

/-- The record of a BIN (R177, R297). -/
def issueBin (b : Block) (f site bin : Nat) : Block := (b.issueRec f 2 site 0 0 0 0 bin 0 none).pcNext f

/-- A record is issued in `n` cycles, or waits for room as a data wait (R302, R303). A site without a channel in the field is
OPERAND (R178); finding that used the entries of the field's channels (R295). -/
def recordOr (f n site : Nat) (issue : Block → Block) (st : State) : Except Nat State :=
  if !st.blk.siteHere f site then .ok (st.on (fun b => (b.siteScan f).progFault f causeOperand))
  else .ok (st.on (fun b =>
    let b := b.spend f n
    if b.recRoom then issue b else (b.waitData f).count 0 RES_STAT.QWAITS 1))

/-- RESULT (R177). -/
def resultEffect (f : Nat) : Effect := fun h st =>
  match h with
  | .result a site test k kind => recordOr f 8 site (fun b => issueResult b f a site test k kind) st
  | _ => other st

/-- BIN (R177). -/
def binEffect (f : Nat) : Effect := fun h st =>
  match h with
  | .binI site bin => recordOr f 6 site (fun b => issueBin b f site bin) st
  | _ => other st

/-! ### Events, signals and hasps (R179) -/

/-- SIGNAL (R179): at once, or at B(n) with ANCHOR. -/
def signalEffect (f : Nat) : Effect := fun h st =>
  match h with
  | .signalI anchor src =>
    plain f 3 (fun b =>
      let n := match src with
        | .imm v => v.val
        | .reg a => b.greg f a % 1024
      if n < 658 then .error causeOperand
      else .ok (if anchor then b.act f (.signal n) else b.arrive n)) st
  | _ => other st

/-- The pending bit of source `n` cleared by EVACK; Z = 1 if it was not pending (R179). -/
def evack (f n : Nat) (b : Block) : Block := (b.icClear n).setFlags f (putZ (b.flags f) (!b.icPend n))

/-- EVACK (R179). -/
def evackEffect (f : Nat) : Effect := fun h st =>
  match h with
  | .evackSrc n => plain f 3 (fun b => .ok (evack f n b)) st
  | .evackLine l =>
    plain f 3 (fun b =>
      if b.flag (FLD f + 8 * l.val) EV_SRC.VALID then .ok (evack f (b.get (FLD f + 8 * l.val) EV_SRC.SRC) b)
      else .error causeOperand) st
  | _ => other st

/-- HCLAIM (R179): the code, and the owner on a conflict. -/
def hclaimEffect (f : Nat) : Effect := fun h st =>
  match h with
  | .hclaim d i tag =>
    plain f 20 (fun b =>
      let r := b.haspClaim (b.seqOwner f) i tag
      .ok ((r.1.setG f d (r.2.1 + 256 * r.2.2)).setFlags f (putZ (b.flags f) (r.2.1 == 0)))) st
  | _ => other st

/-- HREL (R179). -/
def hrelEffect (f : Nat) : Effect := fun h st =>
  match h with
  | .hrel d i =>
    plain f 20 (fun b =>
      let r := b.haspRelease (b.seqOwner f) i false
      .ok ((r.1.setG f d r.2).setFlags f (putZ (b.flags f) (r.2 == 0)))) st
  | _ => other st

/-! ### The rows -/

/-- CARM (R176). -/
def execCarm (f : Fin 16) (e : SeqErr) (st : State) : Host.Outcome State Fault Refusal := .next (seqRun st f 0xA0 e (carmEffect f))
/-- CTRIG (R176). -/
def execCtrig (f : Fin 16) (e : SeqErr) (st : State) : Host.Outcome State Fault Refusal :=
  .next (seqRun st f 0xA1 e (ctrigEffect f))
/-- CSTOP (R176). -/
def execCstop (f : Fin 16) (e : SeqErr) (st : State) : Host.Outcome State Fault Refusal :=
  .next (seqRun st f 0xA2 e (cstopEffect f))
/-- TRGOUT (R176). -/
def execTrgout (f : Fin 16) (e : SeqErr) (st : State) : Host.Outcome State Fault Refusal :=
  .next (seqRun st f 0xA3 e (trgoutEffect f))
/-- DDSRUN (R176). -/
def execDdsrun (f : Fin 16) (e : SeqErr) (st : State) : Host.Outcome State Fault Refusal :=
  .next (seqRun st f 0xB0 e (ddsrunEffect f))
/-- DDSSTEP (R176). -/
def execDdsstep (f : Fin 16) (e : SeqErr) (st : State) : Host.Outcome State Fault Refusal :=
  .next (seqRun st f 0xB1 e (ddsstepEffect f))
/-- DDSSTOP (R176). -/
def execDdsstop (f : Fin 16) (e : SeqErr) (st : State) : Host.Outcome State Fault Refusal :=
  .next (seqRun st f 0xB2 e (ddsstopEffect f))
/-- DIGACQ (R176). -/
def execDigacq (f : Fin 16) (e : SeqErr) (st : State) : Host.Outcome State Fault Refusal :=
  .next (seqRun st f 0xB3 e (digacqEffect f))
/-- HCONN (R176). -/
def execHconn (f : Fin 16) (e : SeqErr) (st : State) : Host.Outcome State Fault Refusal :=
  .next (seqRun st f 0xB4 e (hconnEffect f))
/-- RESULT (R177). -/
def execResult (f : Fin 16) (e : SeqErr) (st : State) : Host.Outcome State Fault Refusal :=
  .next (seqRun st f 0xC0 e (resultEffect f))
/-- BIN (R177). -/
def execBinI (f : Fin 16) (e : SeqErr) (st : State) : Host.Outcome State Fault Refusal := .next (seqRun st f 0xC1 e (binEffect f))
/-- SIGNAL (R179). -/
def execSignalI (f : Fin 16) (e : SeqErr) (st : State) : Host.Outcome State Fault Refusal :=
  .next (seqRun st f 0xD0 e (signalEffect f))
/-- EVACK (R179). -/
def execEvack (f : Fin 16) (e : SeqErr) (st : State) : Host.Outcome State Fault Refusal :=
  .next (seqRun st f 0xD1 e (evackEffect f))
/-- HCLAIM (R179). -/
def execHclaim (f : Fin 16) (e : SeqErr) (st : State) : Host.Outcome State Fault Refusal :=
  .next (seqRun st f 0xD2 e (hclaimEffect f))
/-- HREL (R179). -/
def execHrel (f : Fin 16) (e : SeqErr) (st : State) : Host.Outcome State Fault Refusal := .next (seqRun st f 0xD3 e (hrelEffect f))

end Sys2Proof.Machine
end

