-- ==== Sys2Proof/Machine/SeqWaits.lean ====
section
/-!
DEFINITION. How waits end (R140, R146, R155, R162, R164) and how event service is entered (R151, R152, R154).
-/
namespace Sys2Proof.Machine

/-- What a tick wait waits for is there (R146, R162). -/
def Block.waitOver (b : Block) (f : Nat) : Wait → Bool
  | .ev _ _ => false
  | .woken _ => true
  | .meas m => tickReady b m
  | .judged v => decide (v ≤ (b.seq f).judged)
  | .frame n => decide (n ≤ (b.seq f).frame)
  | .gate ch => freqReady b f ch
  | .data _ => false

/-- The instruction that waited in a tick wait completes, or a long instruction goes on (R162, R182 to R184). `w` is the wait that
ended. -/
def tickFinish (f : Nat) (w : Wait) (h : Halyr) (st : State) : State :=
  let long := (st.blk.seq f).long.getD {}
  let m : Nat := match w with
    | .meas m => m
    | _ => 0
  match h with
  | .syncf => st.on (fun b => b.syncfEnd f)
  | .waitt _ => st.on (fun b => b.pcNext f)
  | .meas d _ ch => st.on (measEnd f d ch m)
  | .verd d _ ch => st.on (verdEnd f d ch m)
  | .verdall d _ => st.on (verdallEnd f d m)
  | .freqrd d ch => st.on (freqrdEnd f d ch)
  | .sweep _ _ _ mask sel count dwell mch => sweepPoint f mask sel count dwell mch m st long
  | .searchI d a b k sel judge dwell taddr => searchPoint f d a b k sel judge dwell taddr m st long
  | .measall _ _ mask _ lim => measallStop f mask lim long st
  | _ => st

/-- A command of field `f` that is at hand while the sequencer stands in a wait or at a restart point: what its microwords show is counted
(R195, R199), and unless they lead to a machine check before it (R196), `go` follows. `op` is the opcode whose first word is fetched, `due`
whether service is due. -/
def withMicro (st : State) (f : Nat) (op : Option Nat) (due : Bool) (e : SeqErr) (go : UWalk → State → State) : State :=
  let w := st.blk.uWalk (st.blk.phys f) op due e
  let before := (st.blk.seq f).long
  let st := st.on (fun b => b.uPay f (b.phys f) e w)
  if w.check.isSome ∧ (due ∨ !lateCheck e) then st.on (fun b => b.machineCheck f (w.check.getD (0, false)) (st.restartProgress f before))
  else go w st

/-- A tick wait of field `f` ends (R146, R162): in an open frame, once what it waits for is there. WAITEV examines what is pending: code
66 where nothing is any more (R155). A machine check after what the wait was for leaves SEQ_PROG at the restart point passed (R197). -/
def tickWaitEnd (st : State) (f : Nat) (e : SeqErr) : State :=
  match (st.blk.seq f).wait with
  | some w =>
    if st.blk.seqLive f ∧ (st.blk.seq f).opened ∧ st.blk.waitOver f w then
      withMicro st f none false e (fun x st =>
        match w with
        | .woken d => (st.on (fun b => b.endWaitev f d ((b.eventCode f).getD 66))).microEnd f x none
        | _ =>
          match decodeWord (st.instrWord f) with
          | .ok h =>
            if e = .dstore ∧ h.judgesByStore then st.on (fun b => b.progFault f 9)
            else (tickFinish f w h (st.on (fun b => b.clearWait f))).microEnd f x none
          | .error _ => st)
    else st
  | none => st

/-- Data awaited by field `f` is there (R140, R226, R302): room in its play queue or the result queue, or the words of a page. -/
def dataReady (b : Block) (f : Nat) (h : Halyr) : Bool :=
  match h with
  | .play _ => decide (b.playCount f < 32)
  | .sjmp _ => decide (b.playCount f < 32)
  | .result _ _ _ _ _ => b.recRoom
  | .binI _ _ => b.recRoom
  | .ldh _ a _ => !b.hbmWaits 6 (b.greg f a) f && !b.pageHeld (b.greg f a)
  | .bmove _ _ _ _ _ => let p := ((b.seq f).long.getD {}).ga; !b.hbmWaits 6 p f && !b.pageHeld p
  | _ => false

/-- The instruction that waited for data completes, or goes on (R140, R185). -/
def dataFinish (f : Nat) (h : Halyr) (st : State) : State :=
  match h with
  | .play a => playNow f (st.blk.greg f a) st
  | .sjmp a =>
    st.on (fun b => (b.segJump st.mem f (b.greg f a) (b.get (FLD f) SEQ_TSEL.SET) (b.seq f).frame).pcNext f)
  | .result a site test k kind => st.on (fun b => issueResult b f a site test k kind)
  | .binI site bin => st.on (fun b => issueBin b f site bin)
  | .ldh d a w => st.on (fun b => (b.setG f d (pageWord st.mem (b.greg f a) w)).pcNext f)
  | .bmove _ _ _ count _ => bmoveWords f count st ((st.blk.seq f).long.getD {})
  | _ => st

/-- A data wait of field `f` ends (R140): every cycle that it lasted counts (R161). -/
def dataArrival (st : State) (f : Nat) (e : SeqErr) : State :=
  match (st.blk.seq f).wait with
  | some (.data t) =>
    if st.blk.seqLive f ∧ (st.blk.seq f).opened then
      match decodeWord (st.instrWord f) with
      | .ok h =>
        if dataReady st.blk f h then
          withMicro st f none false e (fun x st =>
            (dataFinish f h (st.on (fun b => (b.spend f (20 * b.time.now - t)).clearWait f))).microEnd f x none)
        else st
      | .error _ => st
    else st
  | _ => st

namespace Block

/-- Service of line `i` is entered (R152, R154): 12 cycles; the return address, FLAGS and any wait or long instruction go to the
stack; progress goes to G31 and SEQ_PROG. A full stack is STACK_OVER (R149). -/
def enterService (b : Block) (f i : Nat) : Block :=
  let q := b.seq f
  let b := match q.long with
    | some l => ((b.setG f 31 (longWord l)).set (FLD f) SEQ_PROG.PROGRESS (longWord l)).setFlag (FLD f) SEQ_PROG.SUSP true
    | none => b
  match b.push f { svc := true, addr := b.pc f, flags := b.flags f, wait := q.wait, long := q.long } with
  | .error c => b.progFault f c
  | .ok b =>
    let b := (b.setFlag (FLD f) SEQ_STAT.INSVC true).setPc f (b.get (FLD f) SEQ_EVBASE.BASE + i)
    ((b.updSeq f (fun q => { q with wait := none, long := none })).spend f 12).seqEpilogue f

/-- Event service of field `f` is due and may be taken (R151, R152, R162): at an instruction boundary or a restart point of an open frame,
or in a tick wait other than WAITEV. -/
def mayServe (b : Block) (f : Nat) : Bool :=
  b.seqLive f && (b.seq f).opened && match (b.seq f).wait with
    | none => true
    | some (.ev _ _) => false
    | some (.woken _) => false
    | some (.data _) => false
    | some _ => true

/-- The timeout of WAITEV (R155, R165) has come: at B(n + t - 2). -/
def waitevDue (b : Block) (f : Nat) : Option Nat :=
  match (b.seq f).wait with
  | some (.ev d (some i)) => if b.seqLive f ∧ (b.seq f).opened ∧ i ≤ b.time.ticks then some d else none
  | _ => none

end Block

/-- Event service of field `f` where it is due (R152): the word at which the engine stands is fetched, replay included, before R152 is
evaluated (R199). -/
def eventService (st : State) (f : Nat) (e : SeqErr) : State :=
  match st.blk.dueLine f with
  | some i =>
    if st.blk.mayServe f then
      withMicro st f (st.blk.firstWord f (bits (st.instrWord f) 56 8)) true e (fun _ st => st.on (fun b => b.enterService f i))
    else st
  | none => st

/-- WAITEV times out (R155, R165). -/
def waitevTimeout (st : State) (f : Nat) (e : SeqErr) : State :=
  match st.blk.waitevDue f with
  | some d => withMicro st f none false e (fun x st => (st.on (fun b => b.waitevExpire f d)).microEnd f x none)
  | none => st

/-! ### The rows -/

/-- WAITEV_TIMEOUT (R165). -/
def execWaitevTimeout (x : SeqTurn) (st : State) : Host.Outcome State Fault Refusal := .next (waitevTimeout st x.f x.e)
/-- TICK_WAIT_END (R162). -/
def execTickWaitEnd (x : SeqTurn) (st : State) : Host.Outcome State Fault Refusal := .next (tickWaitEnd st x.f x.e)
/-- HBM_DATA_ARRIVAL (R140). -/
def execHbmDataArrival (x : SeqTurn) (st : State) : Host.Outcome State Fault Refusal := .next (dataArrival st x.f x.e)
/-- EVENT_SERVICE (R152). -/
def execEventService (x : SeqTurn) (st : State) : Host.Outcome State Fault Refusal := .next (eventService st x.f x.e)

end Sys2Proof.Machine
end

