-- ==== Sys2Proof/Machine/Steps.lean ====
section
/-!
DEFINITION. Test steps (ch. 1, R15 to R18; ch. 6, R156, R157; R365): START_STEP, a field's end, a step's completion; the judgement of
vectors (R166); boundary work that no command of its own starts (R198, R218); and takeover by sequencer 16 (R159).
-/
namespace Sys2Proof.Machine
namespace Block

/-! ### START_STEP (R15, R34, R40, R156, R304, R365, R399) -/

/-- A commit that waits to be applied changes K (R40). -/
def commitMovesK (b : Block) : Bool :=
  match b.sync.commit with
  | some c => Sparse.get 0 (fkey 0 TICK_K.K) b.tags == c.gen + 1 && b.getSh 0 TICK_K.K != b.get 0 TICK_K_ACT.K
  | none => false

/-- A sync lead keeps every field from starting (R313). -/
def leadRuns (b : Block) : Bool := b.flag 0 SYNC_STAT.LEAD_RUN

/-- The pattern memory is in Quiet, or on its way in or out (R350). -/
def hbmQuiet (b : Block) : Bool := decide (3 ≤ b.get 0 HBM_STAT.STATE)

/-- Why START_STEP of the fields in `mask` at start tick `S` is refused, in the order of the codes of R366: busy, late, cold
reference, ring off, bolted; 0 when it is accepted. -/
def stepRefusal (b : Block) (mask S : Nat) : Nat :=
  let fs := (List.range 16).filter (bit mask)
  if fs.any (fun f => b.inStep f || b.boundaryBusy f) || b.commitMovesK || b.leadRuns || b.hbmQuiet then 0x04
  else if S < b.tick + 2 then 0x05
  else if b.flag 0 TB_CTRL.COLD_BLOCK && b.cold then 0x06
  else if !b.flag 0 RES_CTRL.EN then 0x07
  else if fs.any b.fieldBolted then 0x53
  else 0

/-- Field `f` starts for a step whose start tick has index `i` (R156): program state, stream position, accounts, fail log; F(S)
opens at B(S - 2), or now where that has passed. -/
def fieldStart (b : Block) (f i : Nat) : Block :=
  let b := ((b.setPc f (b.get (FLD f) SEQ_ENTRY.ENTRY)).setFlags f 0).setFlag (FLD f) SEQ_STAT.INSVC false
  let b := (b.set (FLD f) SEQ_STAT.DEPTH 0).set (FLD f) SEQ_STAT.STATE 2
  let b := b.updSeq f (fun q => { q with
    stack := [], wait := none, long := none, ended := false, done := false, frame := i, opened := false, cycles := 0
    startCyc := 0, closeCyc := 0, closes := [], compl := i, pos := b.bHalf i, issued := 0, judged := 0, fFrom := 0, fmask := 0, freqs := 0
    headland := false, ovrRaised := false, stlRaised := false, accepted := none })
  let b := b.updSow f (fun s => { s with
    queue := [], cur := none, res := [], fetch := none, epos := b.bHalf i, out := [], vnum := 0, judge := [], waiting := false })
  let b := (List.range 16).foldl (fun b k => b.updSlc (b.chSlice f k) (fun x => { x with lastData := false })) b
  let b := b.setEngine (b.phys f) {}
  let b := ((b.resStart f).failClear f).sowSync f
  (if i ≤ b.time.ticks + 2 then b.frameOpen f i true else b).laSync f

/-- START_STEP on queue pair `q` (R15, R365); in Quiet it starts the exit (R350). -/
def startStep (b : Block) (q mask S : Nat) : Block :=
  let why := b.stepRefusal mask S
  if why ≠ 0 then (if b.get 0 HBM_STAT.STATE = 4 then (b.set 0 HBM_STAT.STATE 5).set 0 HBM_STAT.TICK b.tick16 else b).complete q
    (b.tick16 * 2 ^ 48) why
  else
    let i := b.tickIdx S
    let b := b.holdQueue q
    let b := { b with steps := b.steps ++ [{ queue := q, mask := mask, start := i }] }
    ((List.range 16).filter (bit mask)).foldl (fun b f => (b.fieldStart f i).seqSync f) b

/-! ### The end of a field and of a step (R157, R365) -/

/-- Nothing that the field has issued is still to play. -/
def streamEmpty (b : Block) (f : Nat) : Bool :=
  let s := b.sow f
  s.queue.isEmpty && s.cur.isNone && s.out.isEmpty && decide ((b.seq f).pos ≤ b.time.now * 20000)

/-- The field is done once its last issued vector has ended (R157): its channels stop stamping (R230). -/
def fieldDone (b : Block) (f : Nat) : Block :=
  if b.inStep f && (b.seq f).ended && !(b.seq f).done && b.streamEmpty f then
    let b := b.updSeq f (fun q => { q with done := true })
    let b := (b.updStep f (fun s => { s with done := setBit s.done f })).tiaStop f
    if b.get (FLD f) SEQ_STAT.STATE = 5 then b else b.set (FLD f) SEQ_STAT.STATE 6
  else b

/-- The completion code of a step (R366): the lowest that applies. -/
def stepCode (s : StepRec) : Nat :=
  if s.faulted ≠ 0 then 0x50 else if s.mchecked ≠ 0 then 0x51 else if s.stalled ≠ 0 then 0x52 else if s.bolted ≠ 0 then 0x53 else 0

/-- RESULT of a step (R365). -/
def stepResult (b : Block) (s : StepRec) : Nat :=
  b.tick16 * 2 ^ 48 + (s.faulted ||| s.mchecked) * 2 ^ 32 + s.underran * 2 ^ 16 + s.bolted

/-- Every named field of the step is done, its records are written, fault notifications in its stream among them (R16, R365, G2,
G4), and its stamps stand in their pages (R235). -/
def stepOver (b : Block) (s : StepRec) : Bool :=
  s.done == s.mask && !b.res.queue.any (fun r => bit s.mask r.field) && !b.res.waiting.any (fun n => bit s.mask n.field) &&
    (List.range 16).all (fun f => !bit s.mask f || b.stampsOut f)

/-- The step of queue pair `q` completes (R365): its entry becomes due; the step runs until that entry is written (R17). -/
def stepComplete (b : Block) (q : Nat) : Block :=
  match b.steps.find? (fun s => s.queue == q && !s.closed) with
  | some s =>
    if b.stepOver s then
      let b := { b with steps := b.steps.map (fun (x : StepRec) => if x.queue = q then { x with closed := true } else x) }
      b.complete q (b.stepResult s) (stepCode s)
    else b
  | none => b

/-! ### Judgement (R166) -/

/-- The oldest vector of field `f` that may be judged is judged at a tick boundary: F, where the vector was issued since F was last
cleared (R139), and FMASK, the fail log (R275), the site
accounts (R295), the capture entry (R264), and the records that waited for it (R178). -/
def vectorJudged (b : Block) (f : Nat) : Block :=
  match (b.sow f).judge with
  | j :: rest =>
    if j.due ≤ b.time.lastB * 20000 then
      let b := (b.updSow f (fun s => { s with judge := rest })).updSeq f (fun q => { q with
        judged := j.num + 1, fmask := q.fmask ||| j.fails })
      let b := if j.fails = 0 ∨ j.num < (b.seq f).fFrom then b else b.setFlags f (setBit (b.flags f) 3)
      let soft := if b.flag (FLD f) CAP_CFG.LOG_RO then j.soft else 0
      let b := b.failLog f j.num (j.fails ||| soft)
      let b := (b.siteVector f j.num j.fails).resolveRecs f (j.num + 1)
      if b.get (FLD f) CAP_CFG.SRC = 0 then b.capOffer f j.word j.start (j.fails ||| soft) else b
    else b
  | [] => b

/-! ### Repairs as boundary work (R17, R198, R218) -/

/-- A failing patch-RAM row or directory row is mapped to the next spare row at a tick boundary at which its field, or the module, is
idle; with no spare row left RM_LAST records that. Rows of a patch RAM are due as (p, row), rows of the directory stand among the
bad ones. -/
def rowRepair (b : Block) (w : BoundaryWork) : Block :=
  match w with
  | .patchRow p row =>
    let free : Bool := if p.val = 16 then !b.flag 0 RM_SEQMAP.SUB || b.idle (b.get 0 RM_SEQMAP.FIELD) else b.idle p
    if b.atBoundary && free && b.flt.rowDue.contains (p.val, row.val) then
      let n := b.get (8 * p) UC_SEQ.SPARE_ROWS
      let b := { b with flt := { b.flt with rowDue := b.flt.rowDue.filter (fun x => x != (p.val, row.val)) } }
      if n = 64 then b.rmRecord 3 2 0 row 0
      else (((b.rowMapTo p row).rmRecord 3 0 0 row n).mapChanged).arrive 617
    else b
  | .directoryRow row =>
    if b.atBoundary && b.moduleIdle && b.hbm.badRows.contains row then
      let n := b.get 0 DIR_STAT.SPARE_ROWS
      if n = 128 then b.rmRecord 4 2 0 row 0
      else
        let b := { b with hbm := { b.hbm with
          badRows := b.hbm.badRows.filter (· != row), rowMap := (row, n) :: b.hbm.rowMap.filter (fun x => x.1 != row) } }
        (((b.set 0 DIR_STAT.SPARE_ROWS (n + 1)).rmRecord 4 0 0 row n).mapChanged).arrive 617
    else b

/-! ### Takeover (R25, R159) -/

/-- At an idle boundary of field `f` the copy to sequencer 16 starts where its substitution is due (R159, R407, R408), unless that
sequencer is bolted (R14, R398). -/
def takeover (b : Block) (f : Nat) : Block :=
  if b.atBoundary && b.idle f && !b.boundaryBusy f && b.flt.due.contains (2, f) && b.phys f == f &&
      !b.flt.bolts.any (fun r => r.scope == 2 && r.unit == 16) then
    let b := { b with flt := { b.flt with due := b.flt.due.filter (fun x => x != (2, f)) } }
    if b.flag 0 RM_SEQMAP.SUB then b.markNoSpare (306 + f) else b.workStart (some f) 3 f
  else b

/-- The copy has ended (R159): every hasp of sequencer f passes to sequencer 16, routes are rewritten, PHYS reads 16, and sequencer f
is retired; or a persistent parity error has abandoned it. -/
def takeoverEnd (b : Block) (f : Nat) (ok : Bool) : Block :=
  let b := b.workEnd 3 f
  if ok then
    let b := (List.range 274).foldl (fun b i =>
      if b.haspOwner i = f + 1 then (b.set (8 * i) HASP_ENT.OWNER 0x11).bump (8 * i) HASP_ENT.GEN else b) b
    let b := (List.range 1024).foldl (fun b n => if b.icRoute n = f then b.set (8 * n) IC_ROUTE.TARGET 16 else b) b
    let b := ((b.set (FLD f) SEQ_STAT.PHYS 16).setFlag (8 * f) UC_SEQ.RETIRED true).set 0 RM_STAT.SPARE_SEQ 0
    let b := (b.setFlag 0 RM_SEQMAP.SUB true).set 0 RM_SEQMAP.FIELD f
    ((b.rmRecord 2 0 0 f 16).mapChanged).arrive 610
  else b.rmRecord 2 3 0 f 16

/-- The takeover of field `f` is under way. -/
def takingOver (b : Block) (f : Nat) : Bool := b.bwork.any (fun w => w.what == 3 && w.unit == f)

end Block

/-! ### The memories of a sequencer (R159, R160) -/

/-- `size` bytes copied from `src` to `dst`. -/
def copyBytes (m : List Host.Cell) (src dst size : Nat) : List Host.Cell :=
  (m.filter (fun c => decide (src ≤ c.1) && decide (c.1 < src + size))).foldl (fun m c => Memory.setByte m (dst + (c.1 - src)) c.2)
    (zeroBytes m dst (dst + size))

/-- TAKEOVER_DONE: program memory and data store of sequencer f stand in sequencer 16 too (R159). -/
def takeoverDone (st : State) (f : Nat) (ok : Bool) : State :=
  if st.blk.takingOver f then
    let m := if ok then
        copyBytes (copyBytes st.mem (Ram.prog f).base (Ram.prog 16).base (2 ^ 18)) (Ram.data f).base (Ram.data 16).base (2 ^ 13)
      else st.mem
    { st with blk := st.blk.takeoverEnd f ok, mem := m }
  else st

/-- A read or write of SEQ_PMD or SEQ_DSD (R160): the word at the address register, which moves on; a write while the field is not
idle is ignored and reported. -/
def seqWordAccess (st : State) (f : Nat) (r : Ram) (A : Fld) (n : Nat) (w : Option Nat) : State :=
  let b := st.blk
  let i := b.get (FLD f) A % n
  let next := fun (b : Block) => b.set (FLD f) A ((i + 1) % n)
  match w with
  | none => { st with blk := next { b with host := { b.host with lastRead := [Memory.word st.mem r i] } } }
  | some v =>
    if !b.idle f then { st with blk := b.fault (272 + f) 0 }
    else { st with blk := next b, mem := Memory.setWord st.mem r i v }

/-! ### The commands -/

/-- START_STEP (R15). -/
def execStartStep (q : Fin 64) (st : State) : Host.Outcome State Fault Refusal :=
  .next (st.on (fun b => match b.cmdOf q 0x10 with
    | some ws => b.startStep q (bits (ws.getD 1 0) 0 16) (ws.getD 2 0)
    | none => b))
/-- FIELD_DONE (R157). -/
def execFieldDone (f : Fin 16) (st : State) : Host.Outcome State Fault Refusal := .next (st.on (fun b => b.fieldDone f))
/-- STEP_COMPLETE (R365). -/
def execStepComplete (q : Fin 64) (st : State) : Host.Outcome State Fault Refusal := .next (st.on (fun b => b.stepComplete q))
/-- VECTOR_JUDGED (R166). -/
def execVectorJudged (f : Fin 16) (st : State) : Host.Outcome State Fault Refusal := .next (st.on (fun b => b.vectorJudged f))
/-- BOUNDARY_WORK_START (R17). -/
def execBoundaryWorkStart (w : BoundaryWork) (st : State) : Host.Outcome State Fault Refusal :=
  .next (st.on (fun b => b.rowRepair w))
/-- SEQUENCER_TAKEOVER (R159). -/
def execSequencerTakeover (f : Fin 16) (st : State) : Host.Outcome State Fault Refusal := .next (st.on (fun b => b.takeover f))
/-- TAKEOVER_DONE (R159). -/
def execTakeoverDone (f : Fin 16) (ok : Bool) (st : State) : Host.Outcome State Fault Refusal := .next (takeoverDone st f ok)
/-- SEQ_PMD_ACCESS (R160). -/
def execSeqPmdAccess (f : Fin 16) (w : Option Word) (st : State) : Host.Outcome State Fault Refusal :=
  .next (seqWordAccess st f (.prog (st.blk.phys f)) SEQ_PMA.ADDR 32768 (w.map (fun x => x.toNat)))
/-- SEQ_DSD_ACCESS (R160). -/
def execSeqDsdAccess (f : Fin 16) (w : Option Word) (st : State) : Host.Outcome State Fault Refusal :=
  .next (seqWordAccess st f (.data (st.blk.phys f)) SEQ_DSA.ADDR 1024 (w.map (fun x => x.toNat)))

end Sys2Proof.Machine
end

