-- ==== Sys2Proof/Machine/Tick.lean ====
section
/-!
DEFINITION. The tick boundary and what is anchored to it (ch. 2, R38, R42), and the reference, its PLLs and the stop and restart of
the tick generator (R33 to R37).
-/
namespace Sys2Proof.Machine
namespace Block

/-! ### Results of the tick that ended (R68, R107, R287) -/

/-- The latest 64 of a history, newest first (R164). -/
def keep64 (l : List (Nat × Nat)) : List (Nat × Nat) := l.take 64

/-- The word of a monitor after the sample of a tick, in the layout of WM_STAT without SEEN bits (R107). -/
def monWord (b : Block) (m : MonRegs) : Nat :=
  b.get m.base m.tick * 2 ^ 48 + b.get m.base m.clrHeld * 2 ^ 10 + b.get m.base m.raw * 16 + b.get m.base m.verd

/-- The conversion of slice `s` in the tick numbered `n` is published (R68); it does not read valid where a bolt has brought MODE into force
as OFF meanwhile (R79). -/
def publishSlc (n : Nat) (b : Block) (s : Nat) : Block :=
  match (b.slc s).measNext with
  | none => b
  | some w =>
    let b := (b.set (SLC s) PMU_MEAS.TICK (bits w 48 16)).set (SLC s) PMU_MEAS.BLEED (bits w 44 1)
    let b := b.set (SLC s) PMU_MEAS.VALID (if b.get (SLC s) PMU_CFG.MODE = 0 then 0 else bits w 43 1)
    let b := ((b.set (SLC s) PMU_MEAS.PATH (bits w 42 1)).set (SLC s) PMU_MEAS.NSET (bits w 41 1)).set (SLC s) PMU_MEAS.CLAMP_I (bits w 40 1)
    let b := ((b.set (SLC s) PMU_MEAS.CLAMP_V (bits w 39 1)).set (SLC s) PMU_MEAS.OVR (bits w 38 1)).set (SLC s) PMU_MEAS.IRANGE (bits w 35 3)
    let b := (b.set (SLC s) PMU_MEAS.QTY (bits w 34 1)).set (SLC s) PMU_MEAS.CODE (bits w 0 18)
    b.updSlc s (fun x => { x with measNext := none, meas := keep64 ((n, w) :: x.meas) })

/-- The conversion of regulator `r` is published (R287). -/
def publishDps (n : Nat) (b : Block) (r : Nat) : Block :=
  match (b.dps r).measNext with
  | none => b
  | some w =>
    let b := ((b.set (DPS r) DPS_MEAS.TICK (bits w 48 16)).set (DPS r) DPS_MEAS.VALID (bits w 47 1)).set (DPS r) DPS_MEAS.CLAMP (bits w 46 1)
    let b := ((b.set (DPS r) DPS_MEAS.RAMP (bits w 45 1)).set (DPS r) DPS_MEAS.OVR (bits w 44 1)).set (DPS r) DPS_MEAS.IRANGE (bits w 42 2)
    let b := (b.set (DPS r) DPS_MEAS.VCODE (bits w 18 18)).set (DPS r) DPS_MEAS.ICODE (bits w 0 18)
    b.updDps r (fun x => { x with measNext := none, meas := keep64 ((n, w) :: x.meas) })

/-- The state of a monitor in the tick numbered `n` joins its history; one that is off and has none keeps none (R107, R164). -/
def publishMon (n : Nat) (b : Block) (m : MonRegs) : Block :=
  if b.flag m.base m.en || !(b.wm m.unit).hist.isEmpty then
    let w := if b.flag m.base m.en then b.monWord m else n % 65536 * 2 ^ 48
    b.updWm m.unit (fun x => { x with hist := keep64 ((n, w) :: x.hist) })
  else b

/-! ### The boundary (R38, R42) -/

/-- What the tick numbered `n` has measured reaches the core die, and the capture engines are offered its conversions (R68, R107, R264,
R287). -/
def tickResults (b : Block) (n : Nat) : Block :=
  let old := b
  let b := (List.range 272).foldl (fun b s => publishMon n (publishSlc n b s) (monSlice s)) b
  let b := (List.range 34).foldl (fun b r => publishMon n (publishDps n b r) (monDps r)) b
  (List.range 16).foldl (fun b f => b.capTick f (fun s => (old.slc s).measNext)) b

/-- What each field does at B(n) once generation and settings for it are in force (R44, R45, R146, R156, R247, R252, R259): the next
frame opens, tick waits fill their frame, route switches and acquisitions come into force, and calibration tasks become due
(R419). -/
def tickField (b : Block) (f : Nat) : Block :=
  let b := ((((b.frameTick f).fillWait f).frameComplete f).seqSync f).ddsBus f
  (b.digTick f).calTick f

/-- What all fields do at B(n) once generation and settings for it are in force. -/
def tickFields (b : Block) : Block := ((List.range 16).foldl tickField b).calSync.trgTick

/-- B(n) where no generation comes into force: underruns are judged, then the programs' settings for B(n) apply, those of a delayed
frame with their frame (R46, R144), then frames open. -/
def boundaryRest (b : Block) : Block := (underruns b b).progBoundary.tickFields

/-- The counters that advance at every boundary (R42, R286, R385, R394, R404). -/
def tickCounters (b : Block) : Block :=
  let b := (List.range 34).foldl (fun b r =>
    if (b.dps r).waitLeft = 0 then b else b.updDps r (fun d => { d with waitLeft := d.waitLeft - 1 })) b
  let b := (List.range 34).foldl chkBoundary b
  b.drainTick.holdoffTick.heartbeat

/-- The clock reaches the next boundary of the tick generator: K sub-ticks after the last one (R38, R40). -/
def tickMove (b : Block) : Block :=
  let now := max b.time.now (b.time.lastB + b.k)
  let b := { b with time := { b.time with now := now, lastB := now, ticks := b.time.ticks + 1 } }
  b.bump 0 TICKNO.TICKNO

/-- A commit is to be applied at this boundary: what follows it in the order of R144 then waits for it (R321). -/
def commitDue (b : Block) : Bool :=
  match b.sync.commit with
  | some c => c.apply && decide (c.target ≤ b.tick)
  | none => false

/-- TICK_BOUNDARY (R38, R42). -/
def tickBoundary (b : Block) : Block :=
  if !b.flag 0 TB_STAT.TICK_RUN then b
  else
    let n := b.tick
    let b := (b.tickMove.tickResults n).tickCounters.framesPass
    if b.commitDue then b else b.boundaryRest

/-! ### Reference and PLLs (R33 to R37) -/

/-- The lock bit of PLL `p`, in the order of R35. -/
def lockBit (p : Nat) : Fld :=
  if p = 0 then TB_STAT.CORE_LOCK else if p = 1 then TB_STAT.TIM_LOCK else if p = 2 then TB_STAT.D2D_LOCK else TB_STAT.HBM_LOCK

/-- The reference and every PLL are good. -/
def clocksGood (b : Block) : Bool :=
  b.flag 0 TB_STAT.REF_OK && b.flag 0 TB_STAT.CORE_LOCK && b.flag 0 TB_STAT.TIM_LOCK && b.flag 0 TB_STAT.D2D_LOCK &&
    b.flag 0 TB_STAT.HBM_LOCK

/-- The tick generator stops at once (R36); one that was running waits for a sync pulse to restart. A pulse in its lead is lost with the
clock that was to count it, and local pulses still to be sampled with it (DEDUCED, log entry 153); a release of HOLD_N ends, for the
module drives the net low while its tick generator is stopped (R320). -/
def tickStop (b : Block) : Block :=
  let run := b.flag 0 TB_STAT.TICK_RUN
  let b := { b with
    time := { b.time with lockSince := none, waitSync := b.time.waitSync || run }
    sync := { b.sync with b0At := none, locals := [] } }
  let b := (b.setFlag 0 TB_STAT.TICK_RUN false).setFlag 0 SYNC_STAT.WAIT false
  (b.setFlag 0 SYNC_STAT.LEAD_RUN false).setFlag 0 SYNC_STAT.HOLD_REL false

/-- The reference is declared lost (R33, R36). -/
def refLoss (b : Block) : Block :=
  if b.flag 0 TB_STAT.REF_OK then
    (((b.setFlag 0 TB_STAT.REF_OK false).count 0 TB_EVCNT.REF_LOSS 1).tickStop).fault 395 0
  else b

/-- PLL `p` loses lock (R36); with PLL_TIM the DLLs of the slices lose theirs (R236). -/
def pllUnlock (b : Block) (p : Nat) : Block :=
  if b.flag 0 (lockBit p) then
    let b : Block := if p = 1 then (List.range 272).foldl (fun b s =>
        (b.setFlag (SLC s) TIA_STAT.DLL_LOCK false).updTia s (fun t => { t with dllAt := none })) b else b
    (((b.setFlag 0 (lockBit p) false).count 0 TB_EVCNT.UNLOCK 1).tickStop).fault 396 0
  else b

/-- The tick generator starts with no sync pulse (R38): the first tick after power-up, TICKNO 0. -/
def tickFirst (b : Block) : Block :=
  let b := { b with time := { b.time with lastB := b.time.now, zero := b.time.now } }
  (b.setFlag 0 TB_STAT.TICK_RUN true).set 0 TICKNO.TICKNO 0

/-- One sub-tick: the clock moves on, every vector of the interrupt controller is evaluated (R382, R385), and DDS settings that wait for
a list boundary come into force (R256). -/
def subTick (b : Block) : Block := (List.range 16).foldl ddsSub b.moderationStep

/-- REFCLK is within limits and the four PLLs have locked (R37, R38): the 10 ms begin, or ticks begin at power-up. -/
def pllLock (b : Block) : Block :=
  if b.clocksGood then b
  else
    let tim := !b.flag 0 TB_STAT.TIM_LOCK
    let b := ([TB_STAT.REF_OK, TB_STAT.CORE_LOCK, TB_STAT.TIM_LOCK, TB_STAT.D2D_LOCK, TB_STAT.HBM_LOCK]).foldl
      (fun b F => b.setFlag 0 F true) b
    let b := { b with time := { b.time with lockSince := some b.time.now } }
    let b : Block := if tim then (List.range 272).foldl (fun b s => b.updTia s (fun t => { t with dllDue := true })) b else b
    if b.time.waitSync ∨ b.flag 0 TB_STAT.TICK_RUN then b else b.tickFirst

/-- The 10 ms have passed without interruption (R37): the module waits for its sync pulse. -/
def tickRestart (b : Block) : Block :=
  match b.time.lockSince with
  | some t =>
    if b.time.waitSync ∧ b.clocksGood ∧ t + 1000000 ≤ b.time.now ∧ !b.flag 0 TB_STAT.TICK_RUN then b.setFlag 0 SYNC_STAT.WAIT true else b
  | none => b

/-- TB_STAT.WARM_IN and COLD follow the pin and TB_CTRL (R34): a change to cold is counted; its end is marked for the records (R298). -/
def warmSync (b : Block) : Block :=
  let warm := b.time.warmPin != b.flag 0 TB_CTRL.WARM_POL
  let cold := !warm && !b.flag 0 TB_CTRL.WARM_IGNORE
  let was := b.cold
  let b := (b.setFlag 0 TB_STAT.WARM_IN warm).setFlag 0 TB_STAT.COLD cold
  if cold && !was then (b.count 0 TB_EVCNT.COLD_ENTRIES 1).gatesCold else if was && !cold then b.mark 2 0 else b

/-- WARM_IN and COLD as they are found at power-up; that is no change from warm to cold. -/
def warmInit (b : Block) : Block :=
  let warm := b.time.warmPin != b.flag 0 TB_CTRL.WARM_POL
  (b.setFlag 0 TB_STAT.WARM_IN warm).setFlag 0 TB_STAT.COLD (!warm && !b.flag 0 TB_CTRL.WARM_IGNORE)

/-- OCXO_WARM changes (R34). -/
def warmChange (b : Block) (level : Bool) : Block := ({ b with time := { b.time with warmPin := level } }).warmSync

end Block

/-! ### The commands -/

/-- TICK_BOUNDARY (R38). -/
def execTickBoundary (st : State) : Host.Outcome State Fault Refusal := .next (st.on Block.tickBoundary)
/-- MODERATION_STEP (R385). -/
def execModerationStep (st : State) : Host.Outcome State Fault Refusal := .next (st.on Block.subTick)
/-- REF_LOSS (R33). -/
def execRefLoss (st : State) : Host.Outcome State Fault Refusal := .next (st.on Block.refLoss)
/-- WARM_CHANGE (R34). -/
def execWarmChange (level : Bool) (st : State) : Host.Outcome State Fault Refusal := .next (st.on (fun b => b.warmChange level))
/-- PLL_UNLOCK (R36). -/
def execPllUnlock (p : Fin 4) (st : State) : Host.Outcome State Fault Refusal := .next (st.on (fun b => b.pllUnlock p))
/-- PLL_LOCK (R37). -/
def execPllLock (st : State) : Host.Outcome State Fault Refusal := .next (st.on Block.pllLock)
/-- TICK_RESTART (R37). -/
def execTickRestart (st : State) : Host.Outcome State Fault Refusal := .next (st.on Block.tickRestart)

end Sys2Proof.Machine
end

