-- ==== Sys2Proof/Machine/Commit.lean ====
section
/-!
DEFINITION. The alignment of modules (ch. 15): skew calibration, sync pulses, and the commit of a staged generation through HOLD_N.
-/
namespace Sys2Proof.Machine
namespace Block

/-! ### Skew calibration (R311) -/

/-- SKEW_CAL on queue pair `q` (R311). -/
def skewCal (b : Block) (q : Nat) : Block :=
  if !b.moduleIdle then b.complete q 0 0x04
  else if (List.range 16).any (fun i => b.haspOwner (256 + i) != 0) then b.complete q 0 0x21
  else b.takeSlot q []

/-- The skew target in units of 0.5 ps: (2 × TGT + 1) × 2.5 ns (R311). -/
def skewTarget (b : Block) : Nat := (2 * b.get 0 SYNC_CTRL.TGT + 1) * 5000

/-- What line pair `i` has shown (R311): no pulse returned, half the round trip above the target, or its new delay. The delay for a
round trip of an odd number of units is the larger of its two neighbours (DESIGN CHOICE, log entry 152). -/
def pairResult (b : Block) (i : Nat) (m : LineMeas) : Block :=
  if !m.loop then b.set (8 * i) LINE_CAL.STATE 2
  else
    let b := (b.set (8 * i) LINE_CAL.RTT m.rtt).set (8 * i) LINE_CAL.SPREAD (min 255 m.spread)
    if 2 * b.skewTarget < m.rtt then b.set (8 * i) LINE_CAL.STATE 3
    else (b.set (8 * i) LINE_CAL.STATE 1).set (8 * i) LINE_CAL.DLY (b.skewTarget - m.rtt / 2)

/-- The skew calibration in slot `k` ends (R311): in an error when any of the nine pairs fails. -/
def skewCalDone (b : Block) (k : Nat) (pairs : List LineMeas) : Block :=
  if b.slotRuns k 0x38 then
    let b := ((pairs.take 9).zipIdx).foldl (fun b x => b.pairResult x.2 x.1) b
    let bad := (List.range 9).any (fun i => b.get (8 * i) LINE_CAL.STATE != 1)
    if bad then b.slotFail k else b.slotEnd k 0
  else b

/-! ### The sync pulse (R312 to R315) -/

/-- A write of SYNC_CMD.ISSUE (R312): in the sync master a pulse of 40 ns is commanded for the first REFCLK edge at least 1 µs later;
its edges leave the land as R310 says. Every such write launches its own pulse. -/
def syncIssue (b : Block) : Block :=
  if b.flag 0 SYNC_CTRL.SOUT then
    let e := b.time.now + 100
    (({ b with sync := { b.sync with issues := b.sync.issues ++ [e] } }).outEdge 0 (e * 20000) true).outEdge 0 ((e + 4) * 20000) false
  else b

/-- A write of SYNC_CMD.LOCAL (R315): each makes a pulse of its own. -/
def syncLocal (b : Block) : Block := { b with sync := { b.sync with locals := b.sync.locals ++ [b.time.now + 100] } }

/-- A module that waits for a sync pulse makes a local one itself (R315, R37), once. -/
def autoLocal (b : Block) : Block :=
  if b.flag 0 SYNC_STAT.WAIT && b.flag 0 SYNC_CTRL.AUTO_LOCAL && b.sync.locals.isEmpty && b.sync.b0At.isNone then b.syncLocal else b

/-- A sync pulse can name a boundary: the tick generator runs, or the 10 ms of good clocks after which it restarts at the next pulse
are over (R36, R37). A pulse before that is not accepted (DEDUCED, log entry 153). -/
def pulseUsable (b : Block) : Bool :=
  b.flag 0 TB_STAT.TICK_RUN || (b.clocksGood && b.time.lockSince.any (fun t => decide (t + 1000000 ≤ b.time.now)))

/-- A pulse at its sampling edge (R313, R314): accepted where no step runs and no lead is in progress, else refused. -/
def pulseSampled (b : Block) (isLocal : Bool) : Block :=
  if b.steps.isEmpty && b.sync.b0At.isNone && b.pulseUsable then
    let b := (b.count 0 SYNC_EVCNT.PULSES 1)
    let b := { b with sync := { b.sync with b0At := some (b.time.now + b.get 0 SYNC_CTRL.LEAD) } }
    ((b.setFlag 0 SYNC_STAT.LEAD_RUN true).setFlag 0 SYNC_STAT.SRC_LOCAL isLocal).setFlag 0 SYNC_STAT.REFUSED false
  else
    (((b.setFlag 0 SYNC_STAT.REFUSED true).count 0 SYNC_EVCNT.REFUSED 1).setFlag 0 SYNC_STAT.SYNCED false).arrive 571

/-- A pulse on SYNC_IN, or the local one, is sampled (R312, R313, R315): one shorter than 20 ns is ignored. -/
def pulseSample (b : Block) (isLocal wide : Bool) : Block :=
  if isLocal then
    match b.sync.locals with
    | t :: rest => if t ≤ b.time.now then ({ b with sync := { b.sync with locals := rest } }).pulseSampled true else b
    | [] => b
  else if wide then b.pulseSampled false
  else b

/-! ### Generations (R5, R318, R321, R322) -/

/-- TB_STAT.K_PEND (R49): a commit is pending whose generation changes K. -/
def kPendSync (b : Block) : Block := b.setFlag 0 TB_STAT.K_PEND b.commitMovesK

/-- The keys of the shadow values tagged with generation `g`. -/
def tagged (b : Block) (g : Nat) : List Nat := (b.tags.filter (fun x => x.2 == g + 1)).map Prod.fst

/-- Generation `g` is discarded (R322): its shadow values return to those in force, untagged. -/
def tagsDrop (b : Block) (g : Nat) : Block :=
  (b.tagged g).foldl (fun b k => match fldAt k with
    | some (base, F) => { b.setSh base F (b.get base F) with tags := Sparse.set 0 k 0 b.tags }
    | none => { b with tags := Sparse.set 0 k 0 b.tags }) b

/-- The pending commit is discarded (R322) with a cause: 1 retries, 2 resync, 3 HOLD_N stuck. -/
def commitDiscard (b : Block) (cause : Nat) : Block :=
  match b.sync.commit with
  | some c =>
    let b := { b with sync := { b.sync with commit := none } }
    let b := (((b.tagsDrop c.gen).kPendSync).set 0 COMMIT_STAT.WCNT 0).count 0 SYNC_EVCNT.FAILS 1
    let b := (b.set 0 COMMIT_STAT.STATE 3).set 0 COMMIT_STAT.CAUSE cause
    (b.setFlag 0 SYNC_STAT.HOLD_REL false).complete c.queue 0 0x40 |>.arrive 573
  | none => b

/-! ### B(0) (R313) -/

/-- The stamp writer of field `f` owes an epoch word after a sync pulse (R234): the epoch changes with the pulse count. -/
def syncEpoch (b : Block) : Block := { b with time := { b.time with syncs := b.time.syncs + 1, zero := b.time.now } }

/-- At B(0) the tick in progress ends, with all that a boundary does, and TICKNO is 0 (R313, R38). -/
def zeroBoundary (b : Block) : Block :=
  let run := b.flag 0 TB_STAT.TICK_RUN
  let n := b.tick
  let b := { b with time := { b.time with lastB := b.time.now, ticks := b.time.ticks + 1, waitSync := false } }
  let b := (b.set 0 TICKNO.TICKNO 0).setFlag 0 TB_STAT.TICK_RUN true
  (if run then b.tickResults n else b).tickCounters.framesPass.boundaryRest

/-- SYNC_B0 (R313, R315, R331): the boundary that the accepted pulse names. -/
def syncB0 (b : Block) : Block :=
  match b.sync.b0At with
  | some t =>
    if t ≤ b.time.now ∧ b.clocksGood then
      let b := { b with sync := { b.sync with b0At := none } }
      let b := b.zeroBoundary
      let b := b.ptpStep.syncEpoch
      let b := (List.range 16).foldl (fun b f =>
        if b.get (FLD f) DDS_STAT.STATE = 0 then b else b.setFlag (FLD f) DDS_STAT.RESYNC true) b
      let b := b.commitDiscard 2
      let b := ((b.setFlag 0 SYNC_STAT.SYNCED true).setFlag 0 SYNC_STAT.LEAD_RUN false).setFlag 0 SYNC_STAT.WAIT false
      ((b.ptpPulse).setFlag 0 PTM_STAT.VALID false).arrive 570
    else b
  | none => b

/-! ### COMMIT (R318) -/

/-- Why COMMIT is refused (R318), 0 when it is not: generation `g`, latch tick `L`, shared scope. -/
def commitRefusal (b : Block) (g L : Nat) (shared : Bool) : Nat :=
  if L < b.tick + 2 then 0x41
  else if b.sync.commit.isSome then 0x42
  else if g ≠ (b.get 0 MODE_GEN.GEN + 1) % 65536 then 0x43
  else if shared && (!b.flag 0 SYNC_CTRL.HOLD_EN || b.flag 0 SYNC_STAT.LOCAL_SCOPE) then 0x44
  else if b.leadRuns then 0x04
  else 0

/-- COMMIT on queue pair `q` (R318, R365): generation, latch tick, write count, scope. -/
def commit (b : Block) (q g L w : Nat) (shared : Bool) : Block :=
  let why := b.commitRefusal g L shared
  if why ≠ 0 then b.complete q 0 why
  else
    let b := b.holdQueue q
    let b := { b with sync := { b.sync with commit := some { gen := g, target := L, writes := w, shared := shared, queue := q } } }
    (((b.set 0 COMMIT_STAT.STATE 1).set 0 COMMIT_STAT.SLIPS 0).set 0 COMMIT_STAT.LTICK L).kPendSync

/-! ### Readiness (R319, R130, R40, R294) -/

/-- The value that a register field would have with generation `g` in force. -/
def staged (b : Block) (g base : Nat) (F : Fld) : Nat :=
  if Sparse.get 0 (fkey base F) b.tags = g + 1 then b.getSh base F else b.get base F

/-- Every field checks its table as generation `g` would have it, and reports in TS_CHK unless a host check runs (R130, R131). -/
def tablesCheck (b : Block) (g : Nat) : Block × Bool :=
  (List.range 16).foldl (fun x f =>
    let r := tsFirst (b.staged g) f
    (if (x.1.ts f).running then x.1 else x.1.tsReport f g r, x.2 && r.isNone)) (b, true)

/-- The shadow value with key `k` differs from the value in force. -/
def changesFld (b : Block) (k : Nat) : Bool :=
  match fldAt k with
  | some (base, F) => b.getSh base F != b.get base F
  | none => false

/-- A step keeps generation `g` back: it changes K (R40) or an entry of the site map (R294). -/
def stepHolds (b : Block) (g : Nat) : Bool :=
  !b.steps.isEmpty && (b.tagged g).any (fun k => b.changesFld k && (k / 64 == TICK_K.K.off ||
    (decide (SITE_CH.SITE.off ≤ k / 64) && decide (k / 64 < SITE_CH.SITE.off + 2048))))

/-- The module evaluates readiness at B(T - 1) + 100 ns (R319). -/
def readiness (b : Block) : Block :=
  match b.sync.commit with
  | some c =>
    if !c.judged ∧ c.target ≤ b.tick + 1 ∧ b.time.lastB + 10 ≤ b.time.now ∧ b.flag 0 TB_STAT.TICK_RUN then
      let r := b.tablesCheck c.gen
      let why := if b.get 0 COMMIT_STAT.WCNT ≠ c.writes then 1 else if !r.2 then 2 else if b.stepHolds c.gen then 3
        else if b.leadRuns then 5 else 0
      let b := r.1.set 0 COMMIT_STAT.WHY why
      { b with sync := { b.sync with commit := some { c with judged := true, ready := why == 0 } } }
    else b
  | none => b

/-- A ready module releases HOLD_N at B(T - 1) + 200 ns (R319, R320). -/
def holdRelease (b : Block) : Block :=
  match b.sync.commit with
  | some c =>
    if c.judged ∧ c.ready ∧ c.shared ∧ b.time.lastB + 20 ≤ b.time.now ∧ b.flag 0 TB_STAT.TICK_RUN then
      b.setFlag 0 SYNC_STAT.HOLD_REL true else b
  | none => b

/-- The commit slips (R321, R322): the next tick is its target, unless its retries are used up. -/
def commitSlip (b : Block) (c : CommitRec) : Block :=
  if b.get 0 SYNC_CTRL.RETRY_MAX ≤ b.get 0 COMMIT_STAT.SLIPS then b.commitDiscard 1
  else
    let b := (b.count 0 COMMIT_STAT.SLIPS 1).count 0 SYNC_EVCNT.SLIPS 1
    let b := b.set 0 COMMIT_STAT.LTICK (c.target + 1)
    ({ b with sync := { b.sync with commit := some { c with target := c.target + 1, judged := false, ready := false } } }).arrive 572

/-- HOLD_N reads high while this module drives it low (R323): local scope from now on, a slip, and the commit discarded. Source 397 is
of class Notice (R396), so that it is only logged, with its tick in FC_STATE, unless its bucket promotes it: no notification is issued
for the first one, although R30 and R323 speak of one (R400 gives none to a Notice; DEDUCED, log entry 154). -/
def holdStuck (b : Block) : Block :=
  let b := (b.setFlag 0 SYNC_STAT.HOLD_STUCK true).setFlag 0 SYNC_STAT.LOCAL_SCOPE true
  let b := ((b.count 0 COMMIT_STAT.SLIPS 1).count 0 SYNC_EVCNT.SLIPS 1).arrive 572
  ((b.arrive 574).commitDiscard 3).fault 397 0

/-- This module drives HOLD_N low (R320). -/
def holdDriven (b : Block) : Bool :=
  b.flag 0 SYNC_CTRL.HOLD_EN && !b.flag 0 SYNC_STAT.LOCAL_SCOPE && !b.flag 0 SYNC_STAT.HOLD_REL

/-- The live level of HOLD_N (R324): the net as it is read; low again once this module drives it (R320). -/
def holdLevel (b : Block) (high : Bool) : Block := b.setFlag 0 SYNC_STAT.HOLD_IN high

/-- HOLD_N is read: HOLD_IN follows it. At B(T) - 200 ns this is the sample of R319 to R323, after which the module drives the net low
again where it takes part; a LOCAL commit is decided by the module's own readiness. -/
def holdSample (b : Block) (high : Bool) : Block :=
  let b := b.holdLevel high
  match b.sync.commit with
  | some c =>
    if !c.judged ∨ c.apply ∨ b.time.now < b.time.lastB + b.k - 20 ∨ !b.flag 0 TB_STAT.TICK_RUN then b
    else if !c.shared then
      if c.ready then { b with sync := { b.sync with commit := some { c with apply := true } } } else b.commitSlip c
    else if b.holdDriven && high then b.holdStuck
    else
      let b := b.setFlag 0 SYNC_STAT.HOLD_REL false
      let b := if b.holdDriven then b.holdLevel false else b
      if high then { b with sync := { b.sync with commit := some { c with apply := true } } }
      else (if c.ready then b.set 0 COMMIT_STAT.WHY 4 else b).commitSlip c
  | none => b

/-! ### Application (R321, R144, R210, R488) -/

/-- The slice or regulator of a register base: slices 0 to 271, regulators from 272 on. -/
def unitOf (base : Nat) : Option Nat :=
  if SLC 0 ≤ base ∧ base < SLC 272 then some ((base - SLC 0) / 0x1000)
  else if DPS 0 ≤ base ∧ base < DPS 34 then some (272 + (base - DPS 0) / 0x1000) else none

/-- Unit `u` is bolted, so that no staged value comes into force for it (R488). -/
def unitBolted (b : Block) (u : Nat) : Bool := if u < 272 then b.slcBolted u else b.flag (DPS (u - 272)) DPS_STAT.BOLTED

/-- The shadow value with key `k` comes into force, or returns to the value in force for a bolted unit (R321, R488); it is no longer
tagged. -/
def tagApply (x : Block × Touched) (k : Nat) : Block × Touched :=
  let drop := fun b : Block => { b with tags := Sparse.set 0 k 0 b.tags }
  match fldAt k with
  | none => (drop x.1, x.2)
  | some (base, F) =>
    match unitOf base with
    | some u =>
      if x.1.unitBolted u then (drop (x.1.setSh base F (x.1.get base F)), x.2)
      else (drop (x.1.set base F (x.1.getSh base F)),
        { x.2 with units := x.2.units ++ [u], forces := if F.off = PMU_FORCE.CODE.off ∧ u < 272 then x.2.forces ++ [u] else x.2.forces })
    | none => (drop (x.1.set base F (x.1.getSh base F)), x.2)

/-- A timing register that moves the stream is among the keys for field `f` (R210): a period or the headland set. -/
def periodsTagged (f : Nat) (ks : List Nat) : Bool :=
  ks.any (fun k => k / 64 == FLD f + TS_CTRL.HEAD_SET.off && k % 64 == 0 ||
    (decide (FLD f + TS_PER.PERIOD.off ≤ k / 64) && decide (k / 64 < FLD f + TS_PER.PERIOD.off + 512)))

/-- Generation G comes into force at B(T) (R321): first the generation, and streams whose periods changed are laid out anew (R210);
underruns at B(T), judged as the streams stood before it (R46); then the programs' settings for the boundary, judged unit by unit
together (R144), and all else that the boundary brings. -/
def commitApply (b : Block) : Block :=
  match b.sync.commit with
  | some c =>
    if c.apply ∧ b.atBoundary ∧ c.target ≤ b.tick then
      let old := b
      let ks := b.tagged c.gen
      let x := ks.foldl tagApply (b, ({} : Touched))
      let b := x.1.set 0 TICK_K_ACT.K (x.1.get 0 TICK_K.K)
      let b := (List.range 16).foldl (fun b f => if b.inStep f && periodsTagged f ks then b.restream f else b) b
      let b := underruns old b
      let y := (List.range 16).foldl (fun y f => progWrites y.1 f y.2) (b, x.2)
      let b := ((List.range 16).foldl progActs (latchUnits old y.1 y.2)).tickFields
      let b := { b with sync := { b.sync with commit := none } }
      let b := (((b.set 0 MODE_GEN.GEN c.gen).set 0 COMMIT_STAT.WCNT 0).set 0 COMMIT_STAT.STATE 2).set 0 COMMIT_STAT.LTICK b.tick
      ((b.kPendSync).complete c.queue b.tick 0).arrive 575
    else b
  | none => b

end Block

/-! ### The commands -/

/-- SKEW_CAL (R311). -/
def execSkewCal (q : Fin 64) (st : State) : Host.Outcome State Fault Refusal :=
  .next (st.on (fun b => match b.cmdOf q 0x38 with
    | some _ => b.skewCal q
    | none => b))
/-- SKEW_CAL_DONE (R311). -/
def execSkewCalDone (k : Fin 256) (pairs : List LineMeas) (st : State) : Host.Outcome State Fault Refusal :=
  .next (st.on (fun b => b.skewCalDone k pairs))
/-- SYNC_ISSUE (R312). -/
def execSyncIssue (st : State) : Host.Outcome State Fault Refusal := .next (st.on Block.syncIssue)
/-- SYNC_LOCAL (R315). -/
def execSyncLocal (st : State) : Host.Outcome State Fault Refusal := .next (st.on Block.syncLocal)
/-- SYNC_PULSE_SAMPLE (R313). -/
def execSyncPulseSample (isLocal wide : Bool) (st : State) : Host.Outcome State Fault Refusal :=
  .next (st.on (fun b => b.pulseSample isLocal wide))
/-- SYNC_B0 (R313). -/
def execSyncB0 (st : State) : Host.Outcome State Fault Refusal := .next (st.on Block.syncB0)
/-- AUTO_LOCAL_PULSE (R315). -/
def execAutoLocalPulse (st : State) : Host.Outcome State Fault Refusal := .next (st.on Block.autoLocal)
/-- COMMIT (R318). -/
def execCommit (q : Fin 64) (st : State) : Host.Outcome State Fault Refusal :=
  .next (st.on (fun b => match b.cmdOf q 0x11 with
    | some ws => b.commit q (bits (ws.getD 1 0) 0 16) (ws.getD 2 0) (bits (ws.getD 1 0) 32 32) (!bit (ws.getD 1 0) 16)
    | none => b))
/-- COMMIT_READINESS (R319). -/
def execCommitReadiness (st : State) : Host.Outcome State Fault Refusal := .next (st.on Block.readiness)
/-- HOLD_RELEASE (R320). -/
def execHoldRelease (st : State) : Host.Outcome State Fault Refusal := .next (st.on Block.holdRelease)
/-- HOLD_SAMPLE (R321). -/
def execHoldSample (high : Bool) (st : State) : Host.Outcome State Fault Refusal := .next (st.on (fun b => b.holdSample high))
/-- COMMIT_APPLY (R321). -/
def execCommitApply (st : State) : Host.Outcome State Fault Refusal := .next (st.on Block.commitApply)

end Sys2Proof.Machine
end

