-- ==== Sys2Proof/Machine/Hbm.lean ====
section
/-!
DEFINITION. The commands of the pattern memory controller (ch. 17): grants and parity replays, page and pseudo-channel
retirement, refetch, refresh, temperature, training, and Quiet.
-/
namespace Sys2Proof.Machine

/-- Urgency of a wait `w` against a latency target (R340). -/
def waitUrgency (w target : Nat) : Nat :=
  if 2 * w < target then 0 else if w < target then 1 else if w < 2 * target then 2 else 3

/-- Refresh urgency from the intervals owed (R343); 4 is forced. -/
def refreshUrgency (hot : Bool) (owed : Nat) : Nat :=
  if owed = 0 then 0
  else if hot then (if owed = 1 then 1 else if owed = 2 then 2 else if owed = 3 then 3 else 4)
  else if owed ≤ 2 then 1 else if owed ≤ 5 then 2 else if owed ≤ 7 then 3 else 4

namespace Block

/-! ### Ports (R340 to R342) -/

/-- A real-time port is urgent from its buffer state (R340): few resident pages and the next not resident, or a capture SRAM
whose waiting words fill more than half of what the ring leaves. -/
def bufferUrgent (b : Block) (r : HReq) : Bool :=
  if r.port = 0 then
    let s := Sparse.get ({} : SowSt) r.unit b.sows
    decide (s.res.length ≤ 2) && !s.res.contains r.page
  else if r.port = 1 then
    decide (131072 - b.get (FLD r.unit) CAP_LEN.PRE < 2 * (b.cap r.unit).waiting.length)
  else false

/-- The urgency of a request (R340). -/
def urgency (b : Block) (r : HReq) : Nat :=
  if b.bufferUrgent r then 3 else waitUrgency (b.time.now - r.at_) (b.get (8 * r.port) HBM_PORT.TARGET)

/-- Requests that pseudo-channel `p` can serve: reads of a page whose content is awaited wait (R337 to R339). -/
def candidates (b : Block) (p : Nat) : List HReq := b.hbm.reqs.filter (fun r => b.pgPc r.page == p && !b.pageHeld r.page)

/-- The better of two requests: higher urgency, then lower port, then the earlier one (R341). -/
def better (b : Block) (x y : HReq) : HReq :=
  if b.urgency x < b.urgency y then y
  else if b.urgency x = b.urgency y ∧ y.port < x.port then y
  else x

/-- The oldest non-real-time request beyond its target (R341). -/
def starved (b : Block) (rs : List HReq) : Option HReq :=
  rs.find? (fun r => decide (2 ≤ r.port) && decide (b.get (8 * r.port) HBM_PORT.TARGET < b.time.now - r.at_))

/-- The request granted on pseudo-channel `p` (R341). -/
def pick (b : Block) (p : Nat) : Option HReq :=
  match b.candidates p with
  | [] => none
  | r :: rs =>
    let best := rs.foldl b.better r
    if (Sparse.get 0 p b.hbm.grants + 1) % 16 = 0 then some ((b.starved (r :: rs)).getD best) else some best

/-- Intervals of refresh owed by pseudo-channel `p`. -/
def owed (b : Block) (p : Nat) : Nat := Sparse.get 0 p b.hbm.owed

/-- The highest urgency among real-time requests on pseudo-channel `p` (R343). -/
def rtUrgency (b : Block) (p : Nat) : Option Nat :=
  ((b.hbm.reqs.filter (fun r => b.pgPc r.page == p && decide (r.port ≤ 1))).map b.urgency).max?

/-- Refresh is issued on pseudo-channel `p` unless a real-time request of higher urgency postpones it; at the budget it is
forced (R343). An issued refresh pays every interval owed. -/
def refresh (b : Block) (p : Nat) : Block :=
  let u := refreshUrgency (b.flag 0 HBM_STAT.HOT) (b.owed p)
  let paid := fun b : Block => { b with hbm := { b.hbm with owed := Sparse.set 0 p 0 b.hbm.owed } }
  if b.owed p = 0 then b
  else if u = 4 then paid (b.count 0 HBM_EVCNT.FORCED_REF 1)
  else if (b.rtUrgency p).any (fun x => decide (u < x)) then b
  else paid b

/-! ### Retirement of pages (R335, R337, R338) -/

/-- Pages backed by pseudo-channel `p`. -/
def backedBy (b : Block) (p : Nat) : Nat :=
  match Sparse.get 0 p b.hbm.backed with
  | 0 => 32768
  | n + 1 => n

/-- One page more or less behind pseudo-channel `p`. -/
def setBacked (b : Block) (p n : Nat) : Block := { b with hbm := { b.hbm with backed := Sparse.set 0 p (n + 1) b.hbm.backed } }

/-- The pseudo-channel that gives the spare frame for a page of pseudo-channel `p`, if any has one (R335). -/
def sparePc (b : Block) (p : Nat) : Option Nat :=
  let free := fun x => b.get (16 * x) HBM_PC.SPARE_FREE
  if b.get (16 * p) HBM_PC.STATE = 0 ∧ 0 < free p then some p
  else (List.range 32).foldl (fun best x =>
    if b.get (16 * x) HBM_PC.STATE = 0 ∧ 0 < free x then
      match best with
      | none => some x
      | some y => if free y < free x then some x else best
    else best) none

/-- The next spare frame of pseudo-channel `p`, taken (R334): spare frames are used in ascending order. -/
def takeFrame (b : Block) (p : Nat) : Block × Nat :=
  let n := b.get (16 * p) HBM_PC.SPARE_FREE
  (b.set (16 * p) HBM_PC.SPARE_FREE (n - 1), 36864 - n)

/-- A page with no frame left enters RETIRED; a FREE one is no longer counted (R335). -/
def pageGone (b : Block) (page : Nat) : Block :=
  let b := if b.pgState page = 0 then b.set 0 DIR_STAT.FREE (b.get 0 DIR_STAT.FREE - 1) else b
  let pc := b.pgPc page
  (b.pgSet 4 page).setBacked pc (b.backedBy pc - 1)

/-- Page `page` moves to a frame of pseudo-channel `pc`: only PC and FRAME of its entry change, and RPLY returns to 0
(R334). -/
def pageMove (b : Block) (page pc frame : Nat) : Block :=
  let o := b.pgPc page
  let b := b.setBacked o (b.backedBy o - 1)
  let b := b.setBacked pc (b.backedBy pc + 1)
  ((b.set (16 * page) DIR_ENT0.PC pc).set (16 * page) DIR_ENT0.FRAME frame).set (16 * page) DIR_ENT0.RPLY 0

/-- The refetch of page `n` is asked for: by the controller itself from the mirror, or through the refetch queue (R339). -/
def refetchAsk (b : Block) (n : Nat) : Block :=
  let b := b.count 0 HBM_EVCNT.REFETCH 1
  let b := { b with hbm := { b.hbm with refetch := b.hbm.refetch ++ [n] } }
  if b.flag 0 HBM_MIRROR.EN then { b with hbm := { b.hbm with refBusy := b.hbm.refBusy ++ [n] } }
  else
    let b := if b.hbm.refq.length < 64 then { b with hbm := { b.hbm with refq := b.hbm.refq ++ [n] } }
      else { b with hbm := { b.hbm with refWait := b.hbm.refWait ++ [n] } }
    b.arrive (514 + b.pgPc n)

/-- Page `n` is logged in HBM_LOST; the log keeps the oldest 64 entries (R351). -/
def lostLog (b : Block) (n : Nat) : Block :=
  let w := 2 ^ 63 + b.pgOwner n * 2 ^ 56 + b.pgUnit n * 2 ^ 52 + b.tick16 * 2 ^ 32 + n
  if b.hbm.lost.length < 64 then { b with hbm := { b.hbm with lost := b.hbm.lost ++ [w] } } else b

/-- Results of field `f` carry LOST_CAPTURE from now until its next START_STEP (R338). -/
def captureLost (b : Block) (f : Nat) : Block :=
  { b with res := { b.res with partials := Sparse.set 0 (16 + f) 1 b.res.partials } }

/-- What becomes of a page with unreadable words, by its owner kind (R338). -/
def pageDamaged (b : Block) (n : Nat) : Block :=
  if b.pgOwner n = 0 then b
  else if b.pgOwner n = 1 then
    if b.pgProt n then { b with hbm := { b.hbm with damaged := b.hbm.damaged ++ [n] } }.lostLog n
    else if b.hbm.refetch.contains n then b else b.refetchAsk n
  else
    let b := b.lostLog n
    if b.pgOwner n = 2 ∨ b.pgOwner n = 4 then b.captureLost (b.pgUnit n) else b

/-- A damaged page keeps its content where a refetch will bring it back; else its unreadable words are written as all ones. -/
def fillsOnes (b : Block) (n : Nat) : Bool := b.pgOwner n != 0 && (b.pgOwner n != 1 || b.pgProt n)

/-- Page `n` is retired: a spare frame is taken and the copy begins (R335, R337). -/
def pageRetire (b : Block) (n : Nat) : Block :=
  if b.hbm.copying.any (fun c => c.1 == n) ∨ b.pgState n = 4 then b
  else
    let old := b.pgPc n
    let b := b.count 0 HBM_EVCNT.PG_RET 1
    let b := match b.sparePc old with
      | none => b.pageGone n
      | some pc =>
        let r := b.takeFrame pc
        { r.1 with hbm := { r.1.hbm with copying := r.1.hbm.copying ++ [(n, pc, r.2)] } }
    b.arrive (514 + old)

/-- `k` parity replays of a word of page `n` on pseudo-channel `p`: each is counted, adds to RPLY and is one event (R336). -/
def replays (b : Block) (p n : Nat) : Nat → Block
  | 0 => b
  | k + 1 => (((b.count 0 HBM_EVCNT.REPLAYS 1).count (16 * n) DIR_ENT0.RPLY 1).fault (356 + p) 0).replays p n k

/-! ### Grants -/

/-- The latency of a granted request is recorded (R342). -/
def grantLatency (b : Block) (r : HReq) : Block :=
  let w := b.time.now - r.at_
  let b := b.set (8 * r.port) HBM_PORT.LAT_MAX (min 65535 (max w (b.get (8 * r.port) HBM_PORT.LAT_MAX)))
  if b.get (8 * r.port) HBM_PORT.TARGET < w then b.count (8 * r.port) HBM_PORT.OVER 1 else b

/-- The port reads pages (R340): Sower, host DMA, Keyring and sequencer data. -/
def readPort (p : Nat) : Bool := p == 0 || p == 4 || p == 5 || p == 6

/-- The first request equal to `r` is taken from the list. -/
def reqTake (r : HReq) : List HReq → List HReq
  | [] => []
  | x :: t => if x = r then t else x :: reqTake r t

end Block

/-- A grant on pseudo-channel `p` (R341): refresh first where it is due, then the request of highest urgency. A read word may
show `err` parity replays, persistent at 4; 32-bit word `bad` of the page is then unreadable (R336 to R338). -/
def hbmGrant (st : State) (p bad err : Nat) : State :=
  let b := st.blk
  if b.get 0 HBM_STAT.STATE ≠ 1 then st
  else
    let b := b.refresh p
    match b.pick p with
    | none => { st with blk := b }
    | some r =>
      let b := b.grantLatency r
      let n := Sparse.get 0 p b.hbm.grants
      let b := { b with hbm := { b.hbm with
        grants := Sparse.set 0 p ((n + 1) % 16) b.hbm.grants, reqs := Block.reqTake r b.hbm.reqs } }
      if err = 0 ∨ !Block.readPort r.port then { st with blk := b }
      else
        let b := b.replays p r.page (min err 3)
        if err = 4 then
          let ones := b.fillsOnes r.page
          { st with
            blk := (b.pageRetire r.page).pageDamaged r.page
            mem := if ones then Memory.setBytes st.mem (r.page * 32768 + 4 * (bad % 8192)) (2 ^ 32 - 1) 4 else st.mem }
        else if b.get 0 HBM_CTRL.RPLY_MAX ≤ b.get (16 * r.page) DIR_ENT0.RPLY then { st with blk := b.pageRetire r.page }
        else { st with blk := b }

namespace Block

/-- Pages with a listed state, that is all that are not FREE. -/
def pagesListed (b : Block) : List Nat :=
  b.regs.filterMap (fun c =>
    let a := c.1 / 64
    if c.1 % 64 = 60 ∧ 0x1000000 ≤ a ∧ a < 0x2000000 ∧ a % 16 = 0 then some ((a - 0x1000000) / 16) else none)

/-- Evacuation order (R348): ACTIVE pages first, then READY, FILLING and FREE. -/
def evacRank (st : Nat) : Nat := if st = 3 then 0 else if st = 2 then 1 else if st = 1 then 2 else 3

/-- Page `n` is the next that the evacuation of its pseudo-channel moves (R348). -/
def evacTurn (b : Block) (n : Nat) : Bool :=
  let p := b.pgPc n
  let rk := evacRank (b.pgState n)
  b.pgState n != 4 &&
  b.pagesListed.all (fun x => b.pgPc x != p || b.pgState x == 4 ||
    decide (rk < evacRank (b.pgState x)) || (rk == evacRank (b.pgState x) && decide (n ≤ x))) &&
  (rk != 3 || (List.range n).all (fun x => b.pgPc x != p || b.pgState x != 0))

/-- The copy of page `n` ends and the directory is switched to its new frame (R337); or, while its pseudo-channel is
evacuating, the page is remapped in its turn (R348). The repair map holds the placement of every remapped page (R409). -/
def retireSwitch (b : Block) (n : Nat) : Block :=
  match b.hbm.copying.find? (fun c => c.1 == n) with
  | some c =>
    let b := (b.pageMove n c.2.1 c.2.2).mapChanged
    { b with hbm := { b.hbm with copying := b.hbm.copying.filter (fun x => x.1 != n) } }
  | none =>
    if b.get (16 * b.pgPc n) HBM_PC.STATE = 2 ∧ b.evacTurn n then
      let old := b.pgPc n
      let b := b.count 0 HBM_EVCNT.PG_RET 1
      let b := match b.sparePc old with
        | none => b.pageGone n
        | some pc => let r := b.takeFrame pc; (r.1.pageMove n pc r.2).mapChanged
      b.arrive (514 + old)
    else b

/-- The copy of page `n` to another frame is under way, or its pseudo-channel is evacuating and it is the next to move (R337, R348). -/
def pageMoves (b : Block) (n : Nat) : Bool :=
  b.hbm.copying.any (fun c => c.1 == n) || (b.get (16 * b.pgPc n) HBM_PC.STATE == 2 && b.evacTurn n)

/-- When no page remains in an evacuating pseudo-channel it is RETIRED, which the repair map and RM_LAST record (R348, R408). -/
def pcEvacuated (b : Block) (p : Nat) : Block :=
  if b.get (16 * p) HBM_PC.STATE = 2 ∧ b.backedBy p = 0 then
    ((((b.set (16 * p) HBM_PC.STATE 3).setFlag (16 * p) HBM_PC.RT_DUE false).hbmCounts).rmRecord 6 0 0 p 0).mapChanged
  else b

/-- A Sower or capture request has waited beyond four targets: the latency source, once for each request (R342). -/
def latencyFault (b : Block) (port : Nat) : Block :=
  let hit := fun r : HReq => r.port == port && !r.late &&
    decide (4 * b.get (8 * port) HBM_PORT.TARGET < b.time.now - r.at_)
  if port ≤ 1 ∧ b.hbm.reqs.any hit then
    ({ b with hbm := { b.hbm with reqs := b.hbm.reqs.map (fun r => if hit r then { r with late := true } else r) } }).fault 392 0
  else b

/-- Pseudo-channel `p` owes one more refresh interval (R343); in Quiet the stack refreshes itself (R350), and a retired pseudo-channel owes
none. -/
def refreshInterval (b : Block) (p : Nat) : Block :=
  if b.get 0 HBM_STAT.STATE = 4 ∨ b.get (16 * p) HBM_PC.STATE = 3 then b
  else ({ b with hbm := { b.hbm with owed := Sparse.set 0 p (b.owed p + 1) b.hbm.owed } }).refresh p

/-- The stack's temperature is read (R343, R345, R346): HOT, the highest readout, RT_DUE of each pseudo-channel, and the
over-temperature source once for each crossing. -/
def hbmTemp (b : Block) (t : Int) : Block :=
  let b := (b.set 0 HBM_TEMP.NOW (ofSigned 8 t)).set 0 HBM_TEMP.TICK b.tick16
  let b := if toSigned 8 (b.get 0 HBM_TEMP.MAX) < t then b.set 0 HBM_TEMP.MAX (ofSigned 8 t) else b
  let b := if 85 < t then b.setFlag 0 HBM_STAT.HOT true else if t ≤ 83 then b.setFlag 0 HBM_STAT.HOT false else b
  let b := (List.range 32).foldl (fun b p =>
    if b.get (16 * p) HBM_PC.STATE ≠ 3 ∧
        Int.ofNat (b.get 0 HBM_CTRL.RT_DT) < 4 * (t - toSigned 8 (b.get (16 * p) HBM_PC.TTEMP)).natAbs then
      b.setFlag (16 * p) HBM_PC.RT_DUE true else b) b
  if 95 < t then
    if b.hbm.hotOver then b else ({ b with hbm := { b.hbm with hotOver := true } }).fault 393 0
  else { b with hbm := { b.hbm with hotOver := false } }

/-! ### Training (R346, R347) -/

/-- The state of the controller set, with the tick of the change (R351). -/
def hbmState (b : Block) (st : Nat) : Block := (b.set 0 HBM_STAT.STATE st).set 0 HBM_STAT.TICK b.tick16

/-- HBM_TRAIN is accepted only at a module idle boundary (R346). -/
def hbmTrain (b : Block) (q : Nat) : Block :=
  match b.cmdOf q 0x28 with
  | none => b
  | some _ =>
    if !b.moduleIdle ∨ b.get 0 HBM_STAT.STATE ≠ 1 then b.complete q 0 0x04
    else
      match b.freeSlot with
      | none => b.takeSlot q []
      | some k =>
        let b := (b.takeSlot q []).workStart none 7 0
        { b with hbm := { b.hbm with trainSlot := some k } }

/-- Some pseudo-channel is due for retraining. -/
def trainDue (b : Block) : Bool := (List.range 32).any (fun p => b.flag (16 * p) HBM_PC.RT_DUE)

/-- As boundary work at a module idle boundary, all pseudo-channels retrain when any is due (R346, R17). -/
def hbmRetrain (b : Block) : Block :=
  if b.trainDue && b.moduleIdle && b.bwork.isEmpty && b.time.now == b.time.lastB && b.get 0 HBM_STAT.STATE == 1 then
    (b.hbmState 2).workStart none 7 0
  else b

/-- The result of training for pseudo-channel `p` with read and write eyes `e` (R346, R347): a usable one comes into force;
else the last setting is kept and the pseudo-channel is DEGRADED, or retired at start-up. -/
def trainResult (startup : Bool) (e : Nat × Nat) (b : Block) (p : Nat) : Block :=
  let st := b.get (16 * p) HBM_PC.STATE
  if st = 3 then b
  else
    let b := (b.set (16 * p) HBM_PC.TICK b.tick16).set (16 * p) HBM_PC.TTEMP (b.get 0 HBM_TEMP.NOW)
    let b := b.setFlag (16 * p) HBM_PC.RT_DUE false
    if 64 ≤ e.1 ∧ 64 ≤ e.2 then
      let b := ((b.set (16 * p) HBM_EYE.RD e.1).set (16 * p) HBM_EYE.WR e.2).setFlag (16 * p) HBM_EYE.NOSET false
      if st = 1 then b.set (16 * p) HBM_PC.STATE 0 else b
    else
      let b := b.setFlag (16 * p) HBM_EYE.NOSET true
      if startup then b.evacStart p
      else ((if st = 0 then b.set (16 * p) HBM_PC.STATE 1 else b)).arrive (514 + p)

/-- Training ends with the eyes found, by pseudo-channel (R347). -/
def trainDone (b : Block) (eyes : List (Nat × Nat)) : Block :=
  let st := b.get 0 HBM_STAT.STATE
  if st = 0 ∨ st = 2 then
    let b := (List.range 32).foldl (fun b p => trainResult (st == 0) (eyes.getD p (0, 0)) b p) b
    let b := ((b.hbmCounts).hbmState 1).workEnd 7 0
    match b.hbm.trainSlot with
    | some k => ({ b with hbm := { b.hbm with trainSlot := none } }).slotEnd k 0
    | none => b
  else b

/-! ### Quiet (R350) -/

/-- Quiet may be entered: a module idle boundary, no request waiting, no refetch outstanding, nothing evacuating. -/
def quietOk (b : Block) : Bool :=
  b.get 0 HBM_STAT.STATE == 1 && b.moduleIdle && b.hbm.reqs.isEmpty && b.hbm.refetch.isEmpty && b.bwork.isEmpty &&
  (List.range 32).all (fun p => b.get (16 * p) HBM_PC.STATE != 2)

/-- A write of HBM_CMD.QUIET: entry starts, or the write is ignored and sets QREF (R350). -/
def quietWrite (b : Block) : Block :=
  if b.quietOk then (b.hbmState 3).setFlag 0 HBM_STAT.QREF false else b.setFlag 0 HBM_STAT.QREF true

/-- A write of HBM_CMD.WAKE starts the exit from Quiet (R350). -/
def wakeWrite (b : Block) : Block := if b.get 0 HBM_STAT.STATE = 4 then b.hbmState 5 else b

/-- Entry into Quiet ends; a request that has come meanwhile starts the exit (R350). -/
def quietEntered (b : Block) : Block :=
  if b.get 0 HBM_STAT.STATE = 3 then (if b.hbm.reqs.isEmpty then b.hbmState 4 else b.hbmState 5) else b

/-- The exit from Quiet ends; where the readout differs from a training temperature by more than RT_DT, retraining is part of
it (R350). -/
def quietExited (b : Block) : Block :=
  if b.get 0 HBM_STAT.STATE = 5 then
    let far := (List.range 32).any (fun p => b.get (16 * p) HBM_PC.STATE != 3 &&
      decide (b.get 0 HBM_CTRL.RT_DT < 4 * (toSigned 8 (b.get 0 HBM_TEMP.NOW) - toSigned 8 (b.get (16 * p) HBM_PC.TTEMP)).natAbs))
    if far then (b.hbmState 2).workStart none 7 0 else b.hbmState 1
  else b

/-! ### Refetch (R338, R339) -/

/-- PAGE_REFETCH is a long operation (R339, R364). -/
def pageRefetch (b : Block) (q : Nat) : Block :=
  match b.cmdOf q 0x24 with
  | none => b
  | some ws =>
    let p := bits (ws.getD 1 0) 0 20
    match b.freeSlot with
    | none => b.takeSlot q []
    | some _ => { b.takeSlot q [] with hbm := { b.hbm with refBusy := b.hbm.refBusy ++ [p] } }

/-- The slot whose PAGE_REFETCH writes page `n`. -/
def refetchSlot (b : Block) (n : Nat) : Option Nat :=
  (List.range 256).find? (fun k => b.slotRuns k 0x24 && b.slotWord k 1 % 2 ^ 20 == n)

/-- Page `n` is no longer awaited. -/
def refetched (b : Block) (n : Nat) : Block :=
  { b with hbm := { b.hbm with
    refetch := b.hbm.refetch.filter (· != n), refBusy := b.hbm.refBusy.filter (· != n)
    refq := b.hbm.refq.filter (· != n), refWait := b.hbm.refWait.filter (· != n) } }

/-- A read of HBM_REFQ takes the oldest page of the refetch queue; a request that waits takes its room (R339, R351). -/
def refqPop (b : Block) : Block :=
  match b.hbm.refq with
  | [] => { b with host := { b.host with lastRead := [0] } }
  | n :: t =>
    let t' := t ++ b.hbm.refWait.take 1
    { b with
      hbm := { b.hbm with refq := t', refWait := b.hbm.refWait.drop 1 }
      host := { b.host with lastRead := [2 ^ 63 + t'.length * 2 ^ 20 + n] } }

/-- A read of HBM_LOST takes the oldest entry of the damage log (R351). -/
def lostPop (b : Block) : Block :=
  { b with
    hbm := { b.hbm with lost := b.hbm.lost.drop 1 }
    host := { b.host with lastRead := [b.hbm.lost.headD 0] } }

end Block

/-- The copy of page `n` ends (R337, R348), having found the 32-bit words `bad` unreadable after three replays each (R336): the page is
damaged, and where nothing will bring them back those words are written as all ones (R338). -/
def pageSwitch (st : State) (n : Nat) (bad : List Nat) : State :=
  let b := st.blk
  if bad.isEmpty ∨ !b.pageMoves n then st.on (fun b => b.retireSwitch n)
  else
    let mem := if b.fillsOnes n then
        bad.foldl (fun m w => Memory.setBytes m (n * 32768 + 4 * (w % 8192)) (2 ^ 32 - 1) 4) st.mem
      else st.mem
    { st with blk := ((b.replays (b.pgPc n) n (3 * bad.length)).pageDamaged n).retireSwitch n, mem := mem }

/-- A refetch of page `n` completes: its content has arrived with clean parity, or the transfer failed (R339, R366). -/
def refetchDone (st : State) (n : Nat) (data : List Nat) (ok : Bool) : State :=
  let b := st.blk
  if b.hbm.refBusy.contains n then
    let slot := b.refetchSlot n
    if b.pgProt n then
      let b := b.refetched n
      match slot with
      | some k => { st with blk := b.slotEnd k 0x32 }
      | none => { st with blk := b }
    else if ok then
      let b := b.refetched n
      let b := match slot with
        | some k => ((b.npart k 1).opres k 0 32768).slotEnd k 0
        | none => b
      { st with blk := b, mem := Memory.setWords st.mem .pages (n * 4096) ((List.range 4096).map (fun i => data.getD i 0)) }
    else
      match slot with
      | some k => { st with blk := ({ b with hbm := { b.hbm with refBusy := b.hbm.refBusy.filter (· != n) } }).slotEnd k 0x09 }
      | none => st
  else st

/-! ### The commands -/

/-- HBM_GRANT (R341). -/
def execHbmGrant (p : Fin 32) (bad : Nat) (err : Fin 5) (st : State) : Host.Outcome State Fault Refusal := .next (hbmGrant st p bad err)
/-- PAGE_RETIRE_SWITCH (R337). -/
def execPageRetireSwitch (x : PageCopy) (st : State) : Host.Outcome State Fault Refusal := .next (pageSwitch st x.page x.bad)
/-- PAGE_REFETCH (R339). -/
def execPageRefetch (q : Fin 64) (st : State) : Host.Outcome State Fault Refusal := .next (st.on (fun b => b.pageRefetch q))
/-- PAGE_REFETCH_DONE (R339). -/
def execPageRefetchDone (page : Fin 1048576) (data : List Word) (ok : Bool) (st : State) : Host.Outcome State Fault Refusal :=
  .next (refetchDone st page (data.map (fun x => x.toNat)) ok)
/-- HBM_LATENCY_FAULT (R342). -/
def execHbmLatencyFault (port : Fin 7) (st : State) : Host.Outcome State Fault Refusal := .next (st.on (fun b => b.latencyFault port))
/-- REFRESH_INTERVAL (R343). -/
def execRefreshInterval (p : Fin 32) (st : State) : Host.Outcome State Fault Refusal := .next (st.on (fun b => b.refreshInterval p))
/-- HBM_TEMP_READOUT (R343). -/
def execHbmTempReadout (t : Int) (st : State) : Host.Outcome State Fault Refusal := .next (st.on (fun b => b.hbmTemp t))
/-- HBM_TRAIN (R346). -/
def execHbmTrain (q : Fin 64) (st : State) : Host.Outcome State Fault Refusal := .next (st.on (fun b => b.hbmTrain q))
/-- HBM_RETRAIN (R346). -/
def execHbmRetrain (st : State) : Host.Outcome State Fault Refusal := .next (st.on Block.hbmRetrain)
/-- HBM_TRAIN_DONE (R347). -/
def execHbmTrainDone (eyes : List (Nat × Nat)) (st : State) : Host.Outcome State Fault Refusal := .next (st.on (fun b => b.trainDone eyes))
/-- PC_EVACUATED (R348). -/
def execPcEvacuated (p : Fin 32) (st : State) : Host.Outcome State Fault Refusal := .next (st.on (fun b => b.pcEvacuated p))
/-- HBM_CMD_QUIET (R350). -/
def execHbmCmdQuiet (st : State) : Host.Outcome State Fault Refusal := .next (st.on Block.quietWrite)
/-- HBM_CMD_WAKE (R350). -/
def execHbmCmdWake (st : State) : Host.Outcome State Fault Refusal := .next (st.on Block.wakeWrite)
/-- QUIET_ENTERED (R350). -/
def execQuietEntered (st : State) : Host.Outcome State Fault Refusal := .next (st.on Block.quietEntered)
/-- QUIET_EXITED (R350). -/
def execQuietExited (st : State) : Host.Outcome State Fault Refusal := .next (st.on Block.quietExited)
/-- HBM_REFQ_POP (R339). -/
def execHbmRefqPop (st : State) : Host.Outcome State Fault Refusal := .next (st.on Block.refqPop)
/-- HBM_LOST_POP (R338). -/
def execHbmLostPop (st : State) : Host.Outcome State Fault Refusal := .next (st.on Block.lostPop)

end Sys2Proof.Machine
end

