-- ==== Sys2Proof/Machine/Clear.lean ====
section
/-!
DEFINITION. Clear codes with their complements (R81, R86, R278, R290): which word a clear-code register accepts, and its write.
-/
namespace Sys2Proof.Machine

/-- Bits `[lo + w - 1 : lo]` of `v` and the complement at `nlo` agree. -/
def compl (v lo nlo w : Nat) : Bool := bits v lo w + bits v nlo w == 2 ^ w - 1

/-- The word of clear-code register `i` of a slice is accepted (R81, R86): 0 to 6 CLR_LVL, 7 CLR_FV, 8 CLR_FI, 9 WM_CLR_TH. -/
def slcClearWord (i v : Nat) : Bool :=
  if i < 7 then compl v 0 32 16 && lvlOk i (bits v 0 16)
  else if i = 7 then compl v 0 32 18 && decide (13108 ≤ bits v 0 18 ∧ bits v 0 18 ≤ 249036)
  else if i = 8 then compl v 0 32 18
  else compl v 0 32 12 && compl v 16 48 12 && thOk (bits v 0 12) && thOk (bits v 16 12)

/-- The word of clear-code register `i` of a regulator is accepted (R81, R86, R278): 0 DPS_CLR below VMAX, 1 DPS_LIM, 2
DPS_WM_CLR_TH. -/
def dpsClearWord (vmax i v : Nat) : Bool :=
  if i = 0 then compl v 0 48 16 && decide (bits v 0 16 ≤ vmax)
  else if i = 1 then compl v 0 48 16 && decide (bits v 0 16 ≤ 52428)
  else compl v 0 32 12 && compl v 16 48 12 && dpsThOk (bits v 0 12) && dpsThOk (bits v 16 12)

namespace Block

/-- A clear-code register of slice `s` set. -/
def slcClearSet (b : Block) (s i v : Nat) : Block :=
  let o := SLC s
  if i < 7 then (b.set (o + 8 * i) CLR_LVL.CODE (bits v 0 16)).set (o + 8 * i) CLR_LVL.NCODE (bits v 32 16)
  else if i = 7 then (b.set o CLR_FV.CODE (bits v 0 18)).set o CLR_FV.NCODE (bits v 32 18)
  else if i = 8 then (b.set o CLR_FI.CODE (bits v 0 18)).set o CLR_FI.NCODE (bits v 32 18)
  else (((b.set o WM_CLR_TH.LO (bits v 0 12)).set o WM_CLR_TH.HI (bits v 16 12)).set o WM_CLR_TH.NLO (bits v 32 12)).set o WM_CLR_TH.NHI
    (bits v 48 12)

/-- A clear-code register of regulator `r` set. -/
def dpsClearSet (b : Block) (r i v : Nat) : Block :=
  let o := DPS r
  if i = 0 then (b.set o DPS_CLR.CODE (bits v 0 16)).set o DPS_CLR.NCODE (bits v 48 16)
  else if i = 1 then (b.set o DPS_LIM.CODE (bits v 0 16)).set o DPS_LIM.NCODE (bits v 48 16)
  else (((b.set o DPS_WM_CLR_TH.LO (bits v 0 12)).set o DPS_WM_CLR_TH.HI (bits v 16 12)).set o DPS_WM_CLR_TH.NLO (bits v 32 12)).set o
    DPS_WM_CLR_TH.NHI (bits v 48 12)

/-- A write of a clear-code register: applied, or refused and reported to the unit (R86). -/
def slcClearWrite (b : Block) (s i v : Nat) : Block := if slcClearWord i v then b.slcClearSet s i v else b.fault s 0

/-- The same for a regulator (R86, R290). -/
def dpsClearWrite (b : Block) (r i v : Nat) : Block :=
  if dpsClearWord (b.get (DPS r) DPS_LIM.CODE) i v then b.dpsClearSet r i v else b.fault (322 + r) 0

end Block
end Sys2Proof.Machine
end

