-- ==== Sys2Proof/Machine/Microcode.lean ====
section
/-!
DEFINITION. Signed images (R433, R434), patches and control stores (ch. 8). What needs keys (hashes, signatures, decryption) is an
operand of the command that brings an image.
-/
namespace Sys2Proof.Machine

/-! ### Signed images (R433, R434) -/

/-- Word `i` of an image's header. -/
def imgWord (img : SignedImage) (i : Nat) : Nat := (img.header.getD i 0).toNat

/-- The security version of an image (R433). -/
def imgSvn (img : SignedImage) : Nat := bits (imgWord img 0) 8 8

/-- ADV of an image (R433). -/
def imgAdv (img : SignedImage) : Bool := bits (imgWord img 0) 16 8 == 1

/-- The digest of an image's plaintext, words 8 to 11 (R433). -/
def imgDigest (img : SignedImage) : List Nat := (List.range 4).map (fun i => imgWord img (8 + i))

/-- The first 32 bits of the digest (R434). -/
def imgHash (img : SignedImage) : Nat := bits (imgWord img 8) 32 32

/-- The header names this device, revision and kind, a patch ROM level 3, and the lengths hold together (R433, R434 step 3); `len` is the
length that the command gives. -/
def imgNames (img : SignedImage) (kind len : Nat) : Bool :=
  bits (imgWord img 0) 32 32 == 0x47525448 && bits (imgWord img 0) 24 8 == kind && bits (imgWord img 0) 0 8 == 0xB0 &&
  bits (imgWord img 1) 48 16 == 0x0256 && bits (imgWord img 1) 0 16 == 0 && (kind == 1 || bits (imgWord img 1) 16 16 == 3) &&
  decide (bits (imgWord img 0) 16 8 ≤ 1) && decide (imgSvn img < (if kind = 1 then 32 else 16)) && bits (imgWord img 4) 0 32 == 0 &&
  imgWord img 7 == 0 && (img.header.drop 18).all (fun w => w == 0) && len == img.len && len == 256 + imgWord img 2 + 16224 &&
  decide (len ≤ (if kind = 1 then 2 ^ 20 else 2 ^ 17))

/-- The payload of a patch is refused (R193): its ROM level is not 3, two valid entries name one ROM address, a branch target lies in the
range not used, or it is longer than the patch RAM. -/
def patchRefused (p : PatchImage) : Bool :=
  let roms := (p.traps.filter (fun t => t.1)).map (fun t => t.2.1)
  p.rom != 3 || !(roms.dedup.length == roms.length) || decide (2048 < p.words.length) || decide (128 < p.traps.length) ||
    p.words.any (fun w => decide (0x38 ≤ bits w 26 6 ∧ bits w 26 6 ≤ 0x3C ∧ 0x2800 ≤ bits w 0 14))

namespace Block

/-- The code with which an image of a kind is refused (R434, R193), 0 where every check passes; the checks run in order. -/
def imageCode (b : Block) (img : SignedImage) (kind len : Nat) : Nat :=
  let svnMin := if kind = 1 then b.get 0 BOOT_STAT.FW_SVN_MIN else b.get 0 BOOT_STAT.PATCH_SVN_MIN
  if !img.fuseOk ∨ !img.keyOk ∨ !img.sigOk then 0x65
  else if !imgNames img kind len then 0x6F
  else if imgSvn img < svnMin then 0x69
  else if !img.gcmOk ∨ !img.digestOk then 0x66
  else if kind = 2 ∧ patchRefused img.patch then 0x0B
  else 0

/-- What the checks of an image leave behind (R434, R454): a hash that disagrees with its complement is fault 421, and signature and
decryption failures are counted. -/
def imageNote (b : Block) (img : SignedImage) (code : Nat) : Block :=
  let b := if img.fuseOk then b else b.fault 421 0
  if code = 0x65 then b.count 0 KR_EVCNT.SIG_BAD 1 else if code = 0x66 then b.count 0 KR_EVCNT.DECRYPT_BAD 1 else b

/-- No sequencer runs out of spare rows by the read-back of an image (R193, R194). -/
def rowsFit (b : Block) (img : SignedImage) : Bool :=
  (List.range 17).all (fun p =>
    decide (b.get (8 * p) UC_SEQ.SPARE_ROWS + (img.badRows.filter (fun x => x.1 == p)).length ≤ 64))

/-- The rows that fail the read-back are mapped to spare rows (R193), which changes the repair map (R409). -/
def readBackMap (b : Block) (img : SignedImage) : Block :=
  img.badRows.foldl (fun b x => b.rowMapTo x.1 x.2) (if img.badRows.isEmpty then b else b.mapChanged)

/-- A patch image that has passed its read-back comes into force in all seventeen sequencers (R193, R194, R200, R435); what it writes anew
in patch RAMs and trap tables reads well. -/
def patchForce (b : Block) (img : SignedImage) : Block :=
  let b : Block := b.readBackMap img
  let b := { b with uc := { b.uc with image := some img, bad := b.uc.bad.filter (fun x => decide (x.2 < 0x2000)) } }
  let b := (b.set 0 UCODE_VER.PATCH (bits (imgWord img 1) 32 16)).set 0 UCODE_VER.HASH (imgHash img)
  let b := (List.range 17).foldl (fun b p => b.setFlag (8 * p) UC_SEQ.PATCH_OK true) b
  if imgAdv img then b.set 0 BOOT_STAT.PATCH_SVN_MIN (max (imgSvn img) (b.get 0 BOOT_STAT.PATCH_SVN_MIN)) else b

/-! ### PATCH_LOAD (R194, R439, R448) -/

/-- PATCH_LOAD is accepted with the Crypto Officer role at a module idle boundary; the module is busy until it ends. -/
def patchLoad (b : Block) (q : Nat) (img : SignedImage) : Block :=
  let why := b.krRefuse q 0x3A 2
  if why ≠ 0 then b.complete q 0 why
  else if !b.moduleIdle ∨ !b.bwork.isEmpty then b.complete q 0 0x04
  else
    match b.freeSlot with
    | none => b.takeSlot q []
    | some k =>
      { (b.takeSlot q []).workStart none 10 k with uc := { b.uc with load := some (k, img), active := false } }

/-- The code with which the load in slot `k` fails its checks. -/
def loadCode (b : Block) (k : Nat) (img : SignedImage) : Nat := b.imageCode img 2 (b.slotWord k 3)

/-- PATCH_ACTIVATE (R194): an image that passes comes into force at a tick boundary; it is then stored in the older patch slot (R448). -/
def patchActivate (b : Block) : Block :=
  match b.uc.load with
  | some (k, img) =>
    if b.slotRuns k 0x3A && b.atBoundary && !b.uc.active && b.loadCode k img == 0 && b.rowsFit img then
      let b := b.patchForce img
      ({ b with uc := { b.uc with active := true } }).flashAsk 1 k
    else b
  | none => b

/-- PATCH_LOAD_DONE (R194): done once the image is in force and stored; failed where the image is refused, or where a sequencer runs out of
spare rows or, as those of `stuck`, fails its read-back even with them: the old image is back in force everywhere then. -/
def patchDone (b : Block) (k : Nat) (stuck : List Nat) : Block :=
  match b.uc.load with
  | some (j, img) =>
    let close := fun (b : Block) (err : Nat) =>
      (({ b with uc := { b.uc with load := none, active := false } }).workEnd 10 k).slotEnd k err
    if j = k ∧ b.slotRuns k 0x3A then
      if b.uc.active then
        match b.flashOutcome 1 k with
        | some good => close (b.flashForget 1 k) (if good then 0 else 0x6A)
        | none => b
      else
        let code := b.loadCode k img
        if code ≠ 0 then close (b.imageNote img code) code
        else if b.rowsFit img && stuck.isEmpty then b
        else close (b.readBackMap img) 0x0B
    else b
  | none => b

/-! ### The scrub (R198) -/

/-- Sequencer `p` executes no microwords (R198): no program of its field runs, its frame is not open yet, or it is in a tick wait; or it
serves no field. -/
def scrubs (b : Block) (p : Nat) : Bool :=
  match (List.range 16).find? (fun f => b.phys f == p) with
  | some f => !b.seqLive f || !(b.seq f).opened || tickWait (b.seq f).wait
  | none => true

/-- The word that the scrub of sequencer `p` reads next (R198): its store, 0 ROM, 1 patch RAM, 2 trap table, and its microaddress or index. -/
def scrubNext (b : Block) (p : Nat) : Nat × Nat :=
  let i := b.uc.scrub.getD p 0
  if i < 0x2000 then (0, i) else if i < 0x2800 then (1, i) else (2, i - 0x2800)

/-- SCRUB_READ of sequencer `p` (R195, R198): the next word through ROM, patch RAM, following the row map, and trap table. A replay that is
clean is counted. A persistent error is recorded and remembered, and raises the control-store source: cause 2 for a patch-RAM row with
no spare row left; a row that can be repaired takes cause 1 without wear (DEDUCED, log entry 165) and waits for its repair. -/
def scrub (b : Block) (p store a : Nat) (err replayErr : Bool) : Block :=
  if !b.scrubs p ∨ b.scrubNext p ≠ (store, a) then b
  else
    let ua := if store < 2 then a else 0x4000 + a
    let place := if store < 2 then b.uPlace p a else ua
    let b : Block := { b with uc := { b.uc with scrub := b.uc.scrub.set p ((b.uc.scrub.getD p 0 + 1) % (0x2800 + 128)) } }
    if !b.uBad p place && !err then b
    else if !b.uBad p place && !replayErr then b.count (8 * p) UC_SEQ.REPLAYS 1
    else
      let b := b.ucRecord p ua true
      let b := if b.uBad p place then b else { b with uc := { b.uc with bad := b.uc.bad ++ [(p, place)] } }
      (b.rowAsk p ua).fault (289 + 2 * p) (if store ≠ 1 then 1 else if b.get (8 * p) UC_SEQ.SPARE_ROWS < 64 then 8 + 1 else 2)

end Block

/-! ### The commands -/

/-- SCRUB_READ (R198). -/
def execScrubRead (p : Fin 17) (store : Fin 3) (ua : Nat) (err replayErr : Bool) (st : State) : Host.Outcome State Fault Refusal :=
  .next (st.on (fun b => b.scrub p store ua err replayErr))
/-- PATCH_LOAD (R194). -/
def execPatchLoad (q : Fin 64) (img : SignedImage) (st : State) : Host.Outcome State Fault Refusal :=
  .next (st.on (fun b => match b.cmdOf q 0x3A with
    | some _ => b.patchLoad q img
    | none => b))
/-- PATCH_ACTIVATE (R194). -/
def execPatchActivate (st : State) : Host.Outcome State Fault Refusal := .next (st.on Block.patchActivate)
/-- PATCH_LOAD_DONE (R194). -/
def execPatchLoadDone (k : Fin 256) (stuck : List Nat) (st : State) : Host.Outcome State Fault Refusal :=
  .next (st.on (fun b => b.patchDone k stuck))

end Sys2Proof.Machine
end

