-- ==== Sys2Proof/Machine/Queues.lean ====
section
/-!
DEFINITION. The host interface (ch. 18): queue pairs, the fetch and completion of commands, long-operation slots, program load and page
DMA, PTM, and the states of the link. Configuration space and the MSI-X table's message contents are outside the model.
-/
namespace Sys2Proof.Machine

/-! ### Operands (R358, R364, R423, R439) -/

/-- A mask of `w` bits from bit `lo`. -/
def maskAt (lo w : Nat) : Nat := (2 ^ w - 1) * 2 ^ lo

/-- The bits of operand words 1 to 3 that command `opc` defines (R364, R423, R439); words 4 to 7 are zero; none where the opcode is not
assigned. -/
def argMasks (opc : Nat) : Option (Nat × Nat × Nat) :=
  let all := 2 ^ 64 - 1
  match opc with
  | 0x01 => some (maskAt 32 10 + maskAt 3 22, all - 7, 0)
  | 0x08 => some (maskAt 0 4, all, maskAt 0 32)
  | 0x10 => some (maskAt 0 16, all, 0)
  | 0x11 => some (maskAt 32 32 + maskAt 16 1 + maskAt 0 16, all, 0)
  | 0x18 => some (maskAt 16 16 + maskAt 0 9, 0, 0)
  | 0x19 => some (maskAt 63 1 + maskAt 0 9, 0, 0)
  | 0x20 => some (maskAt 24 17 + maskAt 4 4 + maskAt 0 4, maskAt 0 20, 0)
  | 0x21 | 0x22 | 0x23 => some (maskAt 0 20, 0, 0)
  | 0x24 => some (maskAt 0 20, all - 63, 0)
  | 0x25 => some (maskAt 63 1 + maskAt 26 9 + maskAt 0 20, all - 63, maskAt 6 26)
  | 0x28 | 0x38 => some (0, 0, 0)
  | 0x30 => some (all, 0, 0)
  | 0x31 => some (0, all - 63, 0)
  | 0x39 => some (maskAt 63 1 + maskAt 16 7 + maskAt 0 16, 0, 0)
  | 0x3A => some (0, all, all)
  | 0x40 | 0x41 => some (1, all, 0)
  | 0x42 | 0x48 | 0x49 | 0x4C => some (0, 0, 0)
  | 0x43 => some (0, all, all)
  | 0x44 => some (maskAt 32 6 + maskAt 0 16, all, 0)
  | 0x45 => some (maskAt 32 6 + maskAt 0 20, all, all)
  | 0x46 => some (maskAt 63 1 + maskAt 0 6, 0, 0)
  | 0x47 => some (all, all, 0)
  | 0x4A | 0x4B | 0x4E => some (0, all, all)
  | 0x4D => some (0, all, 0)
  | _ => none

/-- No bit of `w` stands outside mask `m`. -/
def within (w m : Nat) : Bool := w &&& m == w

/-- The operand values that R364 and R214 exclude: COUNT of READ_REGS, an empty field mask, an owner kind or number of pages, a byte
count. -/
def valuesOk (opc : Nat) (ws : List Nat) : Bool :=
  let w1 := ws.getD 1 0
  match opc with
  | 0x01 => decide (1 ≤ bits w1 32 10 ∧ bits w1 32 10 ≤ 512)
  | 0x10 => decide (w1 ≠ 0)
  | 0x20 => decide (1 ≤ bits w1 0 4 ∧ bits w1 0 4 ≤ 5) && decide (1 ≤ bits w1 24 17 ∧ bits w1 24 17 ≤ 65536)
  | 0x25 => decide (64 ≤ ws.getD 3 0 ∧ ws.getD 3 0 ≤ 2 ^ 31)
  | _ => true

/-- A submission entry holds no bit that its command does not define (R358). -/
def operandsOk (opc : Nat) (ws : List Nat) (m : Nat × Nat × Nat) : Bool :=
  within (ws.getD 0 0) (maskAt 56 8 + maskAt 48 1 + maskAt 32 16) && within (ws.getD 1 0) m.1 && within (ws.getD 2 0) m.2.1 &&
    within (ws.getD 3 0) m.2.2 && (ws.drop 4).all (· == 0) && valuesOk opc ws

namespace Block

/-! ### Queue pairs (R358 to R363) -/

/-- Entries of the submission and of the completion queue of pair `q` (R377). -/
def sqSize (b : Block) (q : Nat) : Nat := 2 ^ b.get (32 * q) Q_CFG.SQ_LOG2
def cqSize (b : Block) (q : Nat) : Nat := 2 ^ b.get (32 * q) Q_CFG.CQ_LOG2

/-- The CID of the command that pair `q` executes, if any. -/
def cmdCid (b : Block) (q : Nat) : Nat := bits ((Sparse.get [] q b.host.cmds).getD 0 0) 32 16

/-- A write of the submission doorbell (R353, R363): ignored before READY; an index outside the queue is an error. -/
def sqDoorbell (b : Block) (q v : Nat) : Block :=
  if !b.flag 0 HQ_STAT.READY then b
  else
    let b := b.set (16 * q) Q_SQDB.INDEX v
    if b.qState q ≠ 0 ∧ b.qState q ≠ 5 ∧ b.sqSize q ≤ v % 65536 then b.queueError q 1 (b.cmdCid q) else b

/-- A write of the completion doorbell (R353, R362): the entries up to the new head are consumed; the same index written with the queue
full says that all are. -/
def cqDoorbell (b : Block) (q v : Nat) : Block :=
  if !b.flag 0 HQ_STAT.READY then b
  else
    let n := b.cqSize q
    let out := Sparse.get 0 q b.host.cqOut
    let d := (v % 65536 + n - b.get (16 * q) Q_CQDB.INDEX % n) % n
    let d := if d = 0 ∧ out = n then n else d
    let b := b.set (16 * q) Q_CQDB.INDEX v
    { b with host := { b.host with cqOut := Sparse.set 0 q (out - d) b.host.cqOut } }

/-- In a Grave state every command but READ_REGS and RETURN_PREP is refused (R402). -/
def graveStops (b : Block) (opc : Nat) : Bool := b.flt.grave && opc != 0x01 && opc != 0x4C

/-- A fetched entry starts its command, or completes at once where the opcode is not assigned, a bit is not defined, or a Grave state
holds (R358, R360, R364, R402). -/
def sqStart (b : Block) (q : Nat) (ws : List Nat) : Block :=
  let opc := bits (ws.getD 0 0) 56 8
  let b := b.set (32 * q) Q_STAT.SQ_HEAD ((b.get (32 * q) Q_STAT.SQ_HEAD + 1) % b.sqSize q)
  let b := b.set (32 * q) Q_STAT.STATE 2
  let b := { b with host := { b.host with cmds := Sparse.set [] q ws b.host.cmds } }
  if b.graveStops opc then b.complete q 0 0x53
  else
    match argMasks opc with
    | none => b.complete q 0 0x01
    | some m => if operandsOk opc ws m then b else b.complete q 0 0x02

/-- SQ_FETCH (R360, R363, R374): the next entry of an idle pair; eight words, or an error completion. -/
def sqFetch (b : Block) (q : Nat) (entry : List Nat) (bad : Bool) : Block :=
  if b.flag 0 HQ_STAT.READY && b.linkOpen && b.qState q == 1 && b.get (32 * q) Q_STAT.SQ_HEAD != b.get (16 * q) Q_SQDB.INDEX then
    if bad then b.queueError q 2 0 else b.sqStart q ((List.range 8).map (fun i => entry.getD i 0))
  else b

/-- The completion entry of pair `q` leaves the device's care: a step whose entry it is runs no longer (R17). -/
def compDrop (b : Block) (q : Nat) : Block :=
  { b with
    steps := b.steps.filter (fun s => !(s.queue == q && s.closed))
    host := { b.host with comps := b.host.comps.filter (fun c => c.queue != q) } }

/-- The completion entry `c` is written (R359, R362): word 0, then word 1 with PHASE by the pass; then source 434 + q. -/
def compWrite (b : Block) (q : Nat) (c : CompRec) : Block :=
  let n := Sparse.get 0 q b.host.cqSeq
  let size := b.cqSize q
  let a := b.get (32 * q) Q_CQBASE.ADDR * 64 + 16 * (n % size)
  let b := (b.hostWrite a [c.result]).hostWrite (a + 8) [(1 - n / size % 2) * 2 ^ 63 + c.word1]
  let b := (b.set (32 * q) Q_STAT.CQ_TAIL ((n + 1) % size)).set (32 * q) Q_STAT.LAST_CODE (bits c.word1 40 8)
  let b := { b with host := { b.host with
    cqSeq := Sparse.set 0 q (n + 1) b.host.cqSeq, cqOut := Sparse.set 0 q (Sparse.get 0 q b.host.cqOut + 1) b.host.cqOut } }
  ((b.compDrop q).set (32 * q) Q_STAT.STATE 1).arrive (434 + q)

/-- CQ_WRITE (R359, R362, R363): the entry that waits is written where there is room; a pair in ERROR loses it. -/
def cqWrite (b : Block) (q : Nat) (bad : Bool) : Block :=
  match b.host.comps.find? (fun c => c.queue == q) with
  | none => b
  | some c =>
    if b.qState q = 5 then b.compDrop q
    else if !b.linkOpen then b
    else if b.cqSize q ≤ Sparse.get 0 q b.host.cqOut then b.set (32 * q) Q_STAT.STATE 4
    else if bad then (b.compDrop q).queueError q 3 (c.word1 % 65536)
    else b.compWrite q c

/-- The pair has no command under way and no entry to write (R362). -/
def pairIdle (b : Block) (q : Nat) : Bool :=
  (Sparse.get [] q b.host.cmds).isEmpty && b.host.comps.all (fun c => c.queue != q)

/-- A role of pair `q` is dropped (R438). -/
def roleDrop (b : Block) (q : Nat) : Block :=
  (b.set 0 KR_ROLE_CO.BITS (clrBit (b.get 0 KR_ROLE_CO.BITS) q)).set 0 KR_ROLE_USER.BITS (clrBit (b.get 0 KR_ROLE_USER.BITS) q)

/-- A queue size that is not reserved (R377). -/
def logOk (n : Nat) : Bool := decide (4 ≤ n ∧ n ≤ 16)

/-- The queue sizes that an accepted write of Q_CFG brings (R377): a reserved encoding keeps the field and is reported (R8). -/
def qSizes (b : Block) (q v : Nat) : Block :=
  let sq := bits v 8 5
  let cq := bits v 16 5
  let o := 32 * q
  let b := if logOk sq then b.set o Q_CFG.SQ_LOG2 sq else b
  let b := if logOk cq then b.set o Q_CFG.CQ_LOG2 cq else b
  if logOk sq && logOk cq then b else b.fault 400 0

/-- A write of Q_CFG (R362, R363, R377): a disabled pair takes sizes and may be enabled; an idle pair may be disabled, with the sizes
of that write; any other change is ignored and reported. -/
def qCfgWrite (b : Block) (q v : Nat) : Block :=
  let o := 32 * q
  if b.flag o Q_CFG.EN then
    if bit v 0 then
      (if bits v 8 5 = b.get o Q_CFG.SQ_LOG2 ∧ bits v 16 5 = b.get o Q_CFG.CQ_LOG2 then b else b.fault 400 0)
    else if b.pairIdle q then (((b.qSizes q v).setFlag o Q_CFG.EN false).set o Q_STAT.STATE 0).roleDrop q
    else b.fault 400 0
  else
    let b := b.qSizes q v
    if bit v 0 then
      let b := (b.setFlag o Q_CFG.EN true).set o Q_STAT.STATE 1
      let b := ((b.set o Q_STAT.SQ_HEAD 0).set o Q_STAT.CQ_TAIL 0).set (16 * q) Q_SQDB.INDEX 0
      { b.set (16 * q) Q_CQDB.INDEX 0 with host := { b.host with
        cqOut := Sparse.set 0 q 0 b.host.cqOut, cqSeq := Sparse.set 0 q 0 b.host.cqSeq } }
    else b

/-! ### Page DMA (R216, R217, R364) -/

/-- The chunks of a transfer along a chain: page, byte offset in it, bytes; and whether a page is refused, or the chain ends, before the
last byte (R364). -/
def dmaChunks (b : Block) (toPages : Bool) : Nat → Nat → Nat → Nat → List (Nat × Nat × Nat) × Bool
  | 0, _, _, left => ([], left != 0)
  | fuel + 1, p, off, left =>
    if left = 0 then ([], false)
    else if (if toPages then !bar2Writable b p else b.pgProt p) then ([], true)
    else
      let n := min (32768 - off) left
      let rest := if b.pgLast p ∨ b.pgState p = 0 then ([], left != n) else b.dmaChunks toPages fuel (b.pgNext p) 0 (left - n)
      ((p, off, n) :: rest.1, rest.2)

/-- The chunks of the operation in slot `k`. -/
def dmaPlan (b : Block) (k : Nat) : List (Nat × Nat × Nat) × Bool :=
  let w1 := b.slotWord k 1
  b.dmaChunks (!bit w1 63) 65538 (w1 % 2 ^ 20) (bits w1 20 15) (b.slotWord k 3)

/-! ### Long operations (R367, R368, R446) -/

/-- The Keyring serves the operation: it waits in QUEUED while a self-test runs (R446). -/
def keyringOp (opc : Nat) : Bool := (decide (0x40 ≤ opc ∧ opc < 0x50) || opc == 0x31) && opc != 0x49

/-- LONG_OP_START (R367): QUEUED passes to RUNNING when the work starts; training then begins (R346), and page DMA and seed-stream import
ask for their pages at the host DMA and Keyring ports (R340). -/
def slotBegin (b : Block) (k : Nat) : Block :=
  let opc := b.get (8 * k) OPSTAT.OPC
  if b.get (8 * k) OPSTAT.STATE ≠ 1 ∨ (keyringOp opc ∧ b.get 0 KR_STAT.STATE = 0) then b
  else
    let b := b.slotState k 2
    if opc = 0x28 then b.hbmState 2
    else if opc = 0x25 then (b.dmaPlan k).1.foldl (fun b c => b.hbmReq 4 c.1 16) b
    else if opc = 0x45 then (b.chain (b.slotWord k 1 % 2 ^ 20)).foldl (fun b p => b.hbmReq 5 p 16) b
    else b

/-- A write of OPSTAT.FREE (R367, R377): a DONE or FAILED slot becomes FREE and reads zero. -/
def slotFree (b : Block) (k : Nat) : Block :=
  if 3 ≤ b.get (8 * k) OPSTAT.STATE then
    let b := ((b.set (8 * k) OPSTAT.STATE 0).set (8 * k) OPSTAT.OPC 0).set (8 * k) OPSTAT.PCT 0
    let b := ((b.set (8 * k) OPSTAT.NPART 0).set (8 * k) OPSTAT.ERR 0).set (8 * k) OPSTAT.TICK 0
    let b := (List.range 16).foldl (fun b j => b.opres k j 0) b
    { b with host := { b.host with slots := Sparse.set {} k {} b.host.slots } }
  else b

/-! ### PTM (R375) -/

/-- A PTM exchange starts, over a link that is up in D0. -/
def ptmStart (b : Block) : Block := if b.linkOpen then { b with host := { b.host with ptmBusy := true } } else b

/-- Every INTV ms while AUTO is 1 an exchange starts. -/
def ptmAuto (b : Block) : Block :=
  if b.flag 0 PTM_CTRL.AUTO && decide (b.host.ptmAt + b.get 0 PTM_CTRL.INTV * 100000 ≤ b.time.now) then
    { b.ptmStart with host := { b.ptmStart.host with ptmAt := b.time.now } }
  else b

/-- An exchange ends: PTM_TICK, PTM_HOST and PTM_STAT together. -/
def ptmDone (b : Block) (host ofs : Nat) : Block :=
  if b.host.ptmBusy then
    let b := { b with host := { b.host with ptmBusy := false } }
    let b := ((b.set 0 PTM_TICK.VALUE b.tick).set 0 PTM_HOST.VALUE host).set 0 PTM_STAT.OFS ofs
    (b.bump 0 PTM_STAT.COUNT).setFlag 0 PTM_STAT.VALID true
  else b

/-- The word of PTM_STAT. -/
def ptmWord (b : Block) : Nat :=
  b.get 0 PTM_STAT.COUNT * 2 ^ 48 + b.get 0 PTM_STAT.VALID * 2 ^ 32 + b.get 0 PTM_STAT.OFS

/-- An 8-byte read of PTM_STAT latches PTM_TICK and PTM_HOST for the reads that follow. -/
def ptmRead (b : Block) : Block :=
  { b with host := { b.host with ptmLatch := some (b.get 0 PTM_TICK.VALUE, b.get 0 PTM_HOST.VALUE), lastRead := [b.ptmWord] } }

/-! ### The link (R354, R373, R374) -/

/-- What waited for the link goes out in its order (R354, R374). -/
def owedOut (b : Block) : Block :=
  if b.linkOpen then { b with host := { b.host with out := b.host.out ++ b.host.owed, owed := [] } } else b

/-- The link goes down (R354, R377). -/
def linkDown (b : Block) : Block :=
  if b.host.linkUp then ({ b with host := { b.host with linkUp := false, l1 := false } }).count 0 HQ_STAT.LINKDOWN 1 else b

/-- The link comes up at a generation and width (R352, R377). -/
def linkUp (b : Block) (gen width : Nat) : Block :=
  if b.host.perst then b
  else ((({ b with host := { b.host with linkUp := true } }).set 0 HQ_STAT.GEN gen).set 0 HQ_STAT.WIDTH width).owedOut

/-- The host sets D3hot (R374): pending messages go out with moderation bypassed, Quiet is asked for at a module idle boundary. -/
def d3Enter (b : Block) : Block :=
  if b.host.linkUp && !b.host.d3 then
    let b := (List.range 64).foldl msixEval { b with host := { b.host with d3Entering := true, l1 := false } }
    let b := { b with host := { b.host with d3Entering := false, d3 := true } }
    if b.quietOk then b.quietWrite else b
  else b

/-- The function returns to D0 (R374, R387): the waiting writes go out and fetching resumes; every vector with a pending source fires at its
first evaluation. -/
def d0Return (b : Block) : Block :=
  if b.host.d3 then
    let vs := (List.range 64).filter (fun v => (b.icNext (18 + v)).isSome)
    ({ b with host := { b.host with d3 := false, bypass := vs } }).owedOut
  else b

/-- The link enters L1 while nothing is outstanding or waiting (R373); a message that moderation holds does not count (R386). -/
def l1Enter (b : Block) : Block :=
  if b.linkOpen && b.host.comps.isEmpty && b.host.owed.isEmpty && b.res.queue.isEmpty && b.res.waiting.isEmpty && !b.host.ptmBusy &&
      (List.range 64).all (fun v => !b.msixReady v || b.masked v) then
    { b with host := { b.host with l1 := true } }
  else b

end Block

/-! ### Program load and page DMA on the memories -/

/-- PROG_LOAD (R364): the image goes into both memories, the event-line table and the two addresses; a field that is not idle, a failed
transfer, and an image that does not fit the memories of R138 are refused before anything is written. -/
def progLoad (st : State) (q : Nat) (img : Option ProgImage) : State :=
  let b := st.blk
  match b.cmdOf q 0x08 with
  | none => st
  | some ws =>
    let f := bits (ws.getD 1 0) 0 4
    if !b.idle f then { st with blk := b.complete q 0 0x08 }
    else
      match img with
      | none => { st with blk := b.complete q 0 0x09 }
      | some i =>
        if !i.readable ∨ 32768 < i.prog.length ∨ 1024 < i.data.length ∨ i.events.any (fun e => decide (64 ≤ e.1)) ∨ 32768 ≤ i.entry ∨
            32768 ≤ i.evbase then { st with blk := b.complete q 0 0x0C }
        else
          let m := Memory.setWords st.mem (.prog (b.phys f)) 0 (i.prog.map (fun w => w.toNat))
          let m := Memory.setWords m (.data (b.phys f)) 0 (i.data.map (fun w => w.toNat))
          let b := i.events.foldl (fun b e => (b.set (FLD f + 8 * e.1) EV_SRC.VALID (bits e.2 15 1)).set (FLD f + 8 * e.1) EV_SRC.SRC
            (bits e.2 0 10)) b
          let b := (b.set (FLD f) SEQ_ENTRY.ENTRY i.entry).set (FLD f) SEQ_EVBASE.BASE i.evbase
          { st with blk := b.complete q 0 0, mem := m }

/-- The words of a chunk of pages read from memory. -/
def chunkWords (m : List Host.Cell) (c : Nat × Nat × Nat) : List Nat :=
  (List.range (c.2.2 / 8)).map (fun i => pageWord m c.1 (c.2.1 / 8 + i))

/-- PAGE_DMA_DONE (R216, R364, R368): `data` holds the words that the host memory gave or took; an error ends the transfer after them,
a refused page after the pages before it. -/
def pageDma (st : State) (k : Nat) (data : List Nat) (bad : Bool) : State :=
  let b := st.blk.hbmKnock
  if !b.slotRuns k 0x25 then st
  else
    let toPages := !bit (b.slotWord k 1) 63
    let plan := b.dmaPlan k
    let good := fun (x : Nat) => !bad || decide (x ≤ data.length * 8)
    let r := plan.1.foldl (fun (x : State × Nat × Nat) c =>
      let moved := x.2.2 + c.2.2
      if !good moved then x
      else if toPages then
        let ws := (List.range (c.2.2 / 8)).map (fun i => data.getD (x.2.2 / 8 + i) 0)
        ({ x.1 with mem := Memory.setWords x.1.mem .pages (c.1 * 4096 + c.2.1 / 8) ws }, x.2.1 + 1, moved)
      else ({ x.1 with blk := x.1.blk.hostWrite (x.1.blk.slotWord k 2 + x.2.2) (chunkWords x.1.mem c) }, x.2.1 + 1, moved))
      ({ st with blk := b }, 0, 0)
    let b := (r.1.blk.opres k 0 r.2.2).npart k r.2.1
    let total := plan.1.foldl (fun n c => n + c.2.2) 0
    let err : Nat := if !good total then 0x09 else if plan.2 then 0x32 else 0
    let b := if err = 0x32 ∧ toPages then b.count 0 DIR_STAT.WR_REFUSED 1 else b
    { r.1 with blk := b.slotEnd k err }

/-! ### The commands -/

/-- SQ_DOORBELL (R363). -/
def execSqDoorbell (q : Fin 64) (v : Word) (st : State) : Host.Outcome State Fault Refusal :=
  .next (st.on (fun b => b.sqDoorbell q v.toNat))
/-- CQ_DOORBELL (R362). -/
def execCqDoorbell (q : Fin 64) (v : Word) (st : State) : Host.Outcome State Fault Refusal :=
  .next (st.on (fun b => b.cqDoorbell q v.toNat))
/-- SQ_FETCH (R360). -/
def execSqFetch (q : Fin 64) (entry : List Word) (bad : Bool) (st : State) : Host.Outcome State Fault Refusal :=
  .next (st.on (fun b => b.sqFetch q (entry.map (fun w => w.toNat)) bad))
/-- CQ_WRITE (R359). -/
def execCqWrite (q : Fin 64) (bad : Bool) (st : State) : Host.Outcome State Fault Refusal := .next (st.on (fun b => b.cqWrite q bad))
/-- Q_CFG_WRITE (R362). -/
def execQCfgWrite (q : Fin 64) (v : Word) (st : State) : Host.Outcome State Fault Refusal :=
  .next (st.on (fun b => b.qCfgWrite q v.toNat))
/-- PROG_LOAD (R364). -/
def execProgLoad (q : Fin 64) (img : Option ProgImage) (st : State) : Host.Outcome State Fault Refusal := .next (progLoad st q img)
/-- PAGE_DMA (R364). -/
def execPageDma (q : Fin 64) (st : State) : Host.Outcome State Fault Refusal :=
  .next (st.on (fun b => match b.cmdOf q 0x25 with
    | some _ => b.takeSlot q []
    | none => b))
/-- PAGE_DMA_DONE (R368). -/
def execPageDmaDone (k : Fin 256) (data : List Word) (bad : Bool) (st : State) : Host.Outcome State Fault Refusal :=
  .next (pageDma st k (data.map (fun w => w.toNat)) bad)
/-- OPSTAT_FREE (R367). -/
def execOpstatFree (k : Fin 256) (st : State) : Host.Outcome State Fault Refusal := .next (st.on (fun b => b.slotFree k))
/-- PTM_REQ (R375). -/
def execPtmReq (st : State) : Host.Outcome State Fault Refusal := .next (st.on Block.ptmStart)
/-- PTM_AUTO (R375). -/
def execPtmAuto (st : State) : Host.Outcome State Fault Refusal := .next (st.on Block.ptmAuto)
/-- PTM_EXCHANGE_DONE (R375). -/
def execPtmExchangeDone (host ofs : Nat) (st : State) : Host.Outcome State Fault Refusal := .next (st.on (fun b => b.ptmDone host ofs))
/-- PTM_STAT_READ (R375). -/
def execPtmStatRead (st : State) : Host.Outcome State Fault Refusal := .next (st.on Block.ptmRead)
/-- D3HOT_ENTER (R374). -/
def execD3hotEnter (st : State) : Host.Outcome State Fault Refusal := .next (st.on Block.d3Enter)
/-- D0_RETURN (R374). -/
def execD0Return (st : State) : Host.Outcome State Fault Refusal := .next (st.on Block.d0Return)
/-- L1_ENTER (R373). -/
def execL1Enter (st : State) : Host.Outcome State Fault Refusal := .next (st.on Block.l1Enter)
/-- L1_EXIT (R373). -/
def execL1Exit (st : State) : Host.Outcome State Fault Refusal :=
  .next (st.on (fun b => { b with host := { b.host with l1 := false } }))
/-- LINK_DOWN (R354). -/
def execLinkDown (st : State) : Host.Outcome State Fault Refusal := .next (st.on Block.linkDown)
/-- LINK_UP (R354). -/
def execLinkUp (gen width : Nat) (st : State) : Host.Outcome State Fault Refusal := .next (st.on (fun b => b.linkUp gen width))

end Sys2Proof.Machine
end

