-- ==== Sys2Proof/Machine/Keyring.lean ====
section
/-!
DEFINITION. The Keyring's services (ch. 22). Nonces, unwrapped keys and decrypted streams are operands of the commands that bring them;
signatures and certificates, whose values the spec leaves to the part, are constants of `Config`.
-/
namespace Sys2Proof.Machine

/-- The value of the register instance with base `base`: its fields as they stand in force (R5). -/
def regValue (b : Block) (base : Nat) (d : RegDef) : Nat := d.flds.foldl (fun n F => n + b.get base F * 2 ^ F.lo) 0

namespace Block

/-- A service waits while the Keyring tests itself or zeroises (R446, R447). -/
def krWaits (b : Block) : Bool := b.get 0 KR_STAT.STATE == 0 || b.get 0 KR_STAT.STATE == 3

/-- A service that is no long operation: it waits, is turned away, or is carried out by `f` on the words of its command. -/
def krShort (b : Block) (q opc need : Nat) (f : List Nat → Block → Block) : Block :=
  match b.cmdOf q opc with
  | none => b
  | some ws =>
    if b.krWaits then b
    else if b.krRefuse q opc need ≠ 0 then b.complete q 0 (b.krRefuse q opc need) else f ws b

/-- A long service: it is turned away, or accepted by `f`. -/
def krLong (b : Block) (q opc need : Nat) (f : List Nat → Block → Block) : Block :=
  match b.cmdOf q opc with
  | none => b
  | some ws => if b.krRefuse q opc need ≠ 0 then b.complete q 0 (b.krRefuse q opc need) else f ws b

/-- The Keyring changed by `f`. -/
def updKr (b : Block) (f : KrSt → KrSt) : Block := { b with kr := f b.kr }

/-! ### Login (R438) -/

/-- KR_CHALLENGE: a fresh nonce for the pair, written to the host buffer. -/
def krChallenge (q nonce : Nat) (ws : List Nat) (b : Block) : Block :=
  let b := b.updKr (fun r => { r with nonces := Sparse.put q (nonce % 2 ^ 256, b.time.now) r.nonces })
  (b.hostWrite (ws.getD 2 0) ((List.range 4).map (fun i => bits nonce (64 * i) 64))).complete q 0 0

/-- 10 s and 60 s in sub-ticks. -/
def nonceLife : Nat := 1000000000
def lockLife : Nat := 6000000000

/-- The nonce of a pair that is still valid. -/
def nonceOf (b : Block) (q : Nat) : Option Nat :=
  match Sparse.find q b.kr.nonces with
  | some (v, t) => if b.time.now < t + nonceLife then some v else none
  | none => none

/-- The response that a login must carry: SHA-256 over nonce, credential, SERNO and role byte, as 32 bytes. -/
def loginResponse (nonce cred role : Nat) : List Nat :=
  bytesBE (sha256 (bytesLE nonce 32 ++ bytesLE cred 32 ++ bytesBE Config.serno 8 ++ [role])) 32

/-- A login fails (R438): counted, source 596; the eighth failure in a row locks the role, source 597. -/
def loginFail (b : Block) (co : Bool) : Block :=
  let b := (b.count 0 KR_EVCNT.AUTH_FAIL 1).arrive 596
  let n := (if co then b.kr.failCo else b.kr.failUser) + 1
  if n < 8 then b.updKr (fun r => if co then { r with failCo := n } else { r with failUser := n })
  else
    let b := b.updKr (fun r => if co then { r with failCo := 0, lockCo := b.time.now } else { r with failUser := 0, lockUser := b.time.now })
    (b.setFlag 0 (if co then KR_STAT.LOCK_CO else KR_STAT.LOCK_USER) true).arrive 597

/-- KR_LOGIN: the nonce is used up; a correct response sets the pair's bit. -/
def krLogin (q resp : Nat) (ws : List Nat) (b : Block) : Block :=
  let co := bit (ws.getD 1 0) 0
  if b.flag 0 (if co then KR_STAT.LOCK_CO else KR_STAT.LOCK_USER) then b.complete q 0 0x6E
  else
    match b.nonceOf q with
    | none => b.complete q 0 0x62
    | some n =>
      let b := b.updKr (fun r => { r with nonces := Sparse.del q r.nonces })
      if b.get 0 KR_STAT.PROV ≠ 1 then b.complete q 0 0x63
      else if loginResponse n (if co then b.kr.co else b.kr.user) (b01 co) = bytesLE resp 32 then
        let F := if co then KR_ROLE_CO.BITS else KR_ROLE_USER.BITS
        let b := b.updKr (fun r => if co then { r with failCo := 0 } else { r with failUser := 0 })
        (b.set 0 F (setBit (b.get 0 F) q)).complete q 0 0
      else (b.loginFail co).complete q 0 0x61

/-- NONCE_EXPIRY: 10 s after its challenge a nonce is no longer valid. -/
def nonceExpire (b : Block) (q : Nat) : Block :=
  match Sparse.find q b.kr.nonces with
  | some (_, t) => if t + nonceLife ≤ b.time.now then b.updKr (fun r => { r with nonces := Sparse.del q r.nonces }) else b
  | none => b

/-- LOCKOUT_EXPIRY: 60 s after a role was locked it is open again. -/
def lockExpire (b : Block) (co : Bool) : Block :=
  let F := if co then KR_STAT.LOCK_CO else KR_STAT.LOCK_USER
  if b.flag 0 F && decide ((if co then b.kr.lockCo else b.kr.lockUser) + lockLife ≤ b.time.now) then b.setFlag 0 F false else b

/-! ### Keys (R441 to R444) -/

/-- KR_STAT.SLOTS, KR_SLOTS and the tag of slot `i` after a change. -/
def slotKeySync (b : Block) (i : Nat) (loaded : Bool) (tag : Nat) : Block :=
  let w := b.get 0 KR_SLOTS.BITS
  let w := if loaded then setBit w i else clrBit w i
  let b := (b.set 0 KR_SLOTS.BITS w).set (8 * i) KR_SLOT_TAG.TAG tag
  b.set 0 KR_STAT.SLOTS ((List.range 64).filter (bit w)).length

/-- KR_KEY_IMPORT (R443): `key` is the blob unwrapped under the KEK, none where its integrity check fails. -/
def krKeyImport (q : Nat) (key : Option Nat) (ws : List Nat) (b : Block) : Block :=
  let w := ws.getD 1 0
  if b.get 0 KR_STAT.PROV ≠ 1 then b.complete q 0 0x63
  else
    match key with
    | none => (b.count 0 KR_EVCNT.DECRYPT_BAD 1).complete q 0 0x67
    | some v =>
      let i := bits w 32 6
      ((b.updKr (fun r => { r with keys := Sparse.put i v r.keys })).slotKeySync i true (bits w 0 16)).complete q 0 0

/-- A pattern key slot cleared. -/
def keyClear (b : Block) (i : Nat) : Block := (b.updKr (fun r => { r with keys := Sparse.del i r.keys })).slotKeySync i false 0

/-- Every pattern key slot cleared. -/
def keysClear (b : Block) : Block := (List.range 64).foldl keyClear b

/-- KR_KEY_CLEAR (R439). -/
def krKeyClear (q : Nat) (ws : List Nat) (b : Block) : Block :=
  let w := ws.getD 1 0
  (if bit w 63 then b.keysClear else b.keyClear (bits w 0 6)).complete q 0 0

/-- The code with which KR_STREAM_IMPORT is turned away, 0 where it is accepted (R444): slot empty, wrong length, not the head of a chain,
not a pattern chain, not FILLING, or too short a chain. -/
def importCode (b : Block) (ws : List Nat) (plen : Nat) : Nat :=
  let w := ws.getD 1 0
  let p := w % 2 ^ 20
  if !bit (b.get 0 KR_SLOTS.BITS) (bits w 32 6) then 0x68
  else if ws.getD 3 0 ≠ plen + 80 then 0x6F
  else if !b.pgHead p then 0x31
  else if b.pgOwner p ≠ 1 then 0x35
  else if b.pgState p ≠ 1 ∨ b.importing p then 0x32
  else if (b.chain p).length * 32768 < plen then 0x34
  else 0

/-- KR_STREAM_IMPORT (R444): accepted, every page of the chain is protected. The header's key tag and length are brought with it. -/
def krStreamImport (q keyTag plen : Nat) (ws : List Nat) (b : Block) : Block :=
  let code := b.importCode ws plen
  if code ≠ 0 then b.complete q 0 code
  else if b.freeSlot.isNone then b.takeSlot q []
  else
    let b := b.takeSlot q [keyTag, plen]
    (b.chain (ws.getD 1 0 % 2 ^ 20)).foldl (fun b p => b.setFlag (16 * p) DIR_ENT0.PROT true) b

/-! ### Provisioning, signing (R442, R445) -/

/-- KR_PROVISION (R442, R441, R451): only unprovisioned or returned, not analysed, with a storage key left. -/
def krProvision (q co user kek : Nat) (_ws : List Nat) (b : Block) : Block :=
  if b.flag 0 KR_STAT.ANALYSED then b.complete q 0 0x6C
  else if b.get 0 KR_STAT.PROV = 1 then b.complete q 0 0x64
  else if 32 ≤ b.get 0 KR_STAT.EPOCH then b.complete q 0 0x6D
  else b.takeSlot q [co % 2 ^ 256, user % 2 ^ 256, kek % 2 ^ 256]

/-- The attestation public key and its signature by the identity key, as words (R442). -/
def certWords (n : Nat) : List Nat := (List.range 986).map (Config.keyringWord n)

/-- KR_PROVISION_DONE (R442): the key store is written, the attestation key and its certificate go to the host, PROV becomes 1. -/
def provisionDone (b : Block) (k : Nat) : Block :=
  if b.slotRuns k 0x43 then
    match b.flashOutcome 4 k with
    | none => b
    | some false => (b.flashForget 4 k).slotEnd k 0x6A
    | some true =>
      let aux := (b.slot k).aux
      let n := b.time.freeCount
      let b := (b.flashForget 4 k).freed
      let b := b.updKr (fun r => { r with
        co := aux.getD 0 0, user := aux.getD 1 0, kek := aux.getD 2 0, att := some n, cert := certWords n })
      ((b.hostWrite (b.slotWord k 3) (certWords n)).set 0 KR_STAT.PROV 1).slotEnd k 0
  else b

/-- The report that KR_ATTEST signs (R445). -/
def attestReport (b : Block) (nonce : Nat) : List Nat :=
  let four := fun (l : List Nat) => (List.range 4).map (fun i => l.getD i 0)
  let n := b.get 0 RM_STAT.MAPSEQ
  [0xA77E * 2 ^ 48 + 1 * 2 ^ 32, Config.serno % 2 ^ 64, nonce, b.tick] ++ four b.kr.fwDigest ++
    four ((b.uc.image.map imgDigest).getD []) ++
    [regValue b 0 FW_VER.reg, regValue b 0 UCODE_VER.reg, regValue b 0 KR_STAT.reg, regValue b 0 BOOT_STAT.reg, n] ++
    (List.range 4).map (Config.keyringWord (2 ^ 32 + n)) ++
    [b.get 0 KR_SLOTS.BITS, regValue b 0 MODE_GEN.reg, regValue b 0 SIREV.reg] ++ List.replicate 8 0

/-- KR_ATTEST (R445): the report is formed at acceptance. -/
def krAttest (q : Nat) (ws : List Nat) (b : Block) : Block :=
  if b.kr.att.isNone then b.complete q 0 0x63 else b.takeSlot q (b.attestReport (ws.getD 1 0))

/-- KR_ATTEST_DONE (R445): report and signature to the host buffer. -/
def attestDone (b : Block) (k : Nat) : Block :=
  if b.slotRuns k 0x47 then
    let body := (b.slot k).aux
    (b.hostWrite (b.slotWord k 2) (body ++ (List.range 2136).map (Config.signature body))).slotEnd k 0
  else b

/-- KR_CERT_READ (R442): identity public key, its certificate and, while provisioned, the output of provisioning, which each provisioning
makes anew; the spec lays out neither the first two nor the buffer. -/
def krCertRead (q : Nat) (ws : List Nat) (b : Block) : Block :=
  let n := match b.kr.att with | none => 0 | some n => n + 1
  (b.hostWrite (ws.getD 2 0) ((List.range 3072).map (Config.keyringWord (2 ^ 33 + n)))).complete q 0 0

/-! ### Self-test and ERROR (R446) -/

/-- The long services that ERROR ends: queued and running ones with these opcodes. -/
def endServices (b : Block) (opcs : List Nat) (err : Nat) : Block :=
  (List.range 256).foldl (fun b k =>
    if (b.get (8 * k) OPSTAT.STATE == 1 || b.get (8 * k) OPSTAT.STATE == 2) && opcs.contains (b.get (8 * k) OPSTAT.OPC) then b.slotEnd k err
    else b) b

/-- The Keyring enters ERROR: the DRBG state is cleared, source 595, and every service but the four named ends. -/
def krError (b : Block) : Block :=
  let b := ((b.set 0 KR_STAT.STATE 2).updKr (fun r => { r with drbg := false })).arrive 595
  b.endServices [0x31, 0x43, 0x45, 0x47, 0x4A, 0x4B, 0x4E] 0x6B

/-- ENTROPY_FAIL: a continuous entropy test fails. -/
def entropyFail (b : Block) : Block := (b.count 0 KR_EVCNT.HEALTH 1).krError

/-- KR_SELFTEST_DONE: a pass returns the Keyring to OPERATIONAL, unless a known-answer test has failed since start-up. -/
def selftestDone (b : Block) (k : Nat) (ok : Bool) : Block :=
  if b.slotRuns k 0x49 then
    if ok then
      let b := if b.kr.katBad then b.set 0 KR_STAT.STATE 2
        else (b.set 0 KR_STAT.STATE 1).updKr (fun r => { r with drbg := true })
      (b.arrive 594).slotEnd k 0
    else ((b.updKr (fun r => { r with katBad := true })).krError.fault 422 0).slotEnd k 0x6B
  else b

/-! ### Zeroisation (R447) -/

/-- Step 1: pattern keys, DRBG state and roles are cleared. -/
def zeroKeys (b : Block) : Block :=
  let b := (b.keysClear.set 0 KR_ROLE_CO.BITS 0).set 0 KR_ROLE_USER.BITS 0
  b.updKr (fun r => { r with drbg := false, nonces := [] })

/-- Step 2: imports and signing operations end FAILED with ZEROISED. -/
def zeroOps (b : Block) : Block := b.endServices [0x31, 0x45, 0x47] 0x70

/-- The heads of protected chains. -/
def protectedHeads (b : Block) : List Nat := (pagesListed b).filter (fun p => b.pgProt p && b.pgHead p)

/-- Steps 4 and 5: the storage key of the epoch is revoked, the key store gone, the DRBG instantiated anew. -/
def zeroStore (b : Block) : Block :=
  let b := b.set 0 KR_STAT.EPOCH (min 32 (b.get 0 KR_STAT.EPOCH + 1))
  b.updKr (fun r => { r with co := 0, user := 0, kek := 0, att := none, cert := [], drbg := true, failUser := 0, failCo := 0 })

/-- KR_ZEROISE is accepted at a module idle boundary; START_STEP is turned away until it ends. -/
def krZeroise (q : Nat) (_ws : List Nat) (b : Block) : Block :=
  if !b.moduleIdle then b.complete q 0 0x04
  else
    match b.freeSlot with
    | none => b.takeSlot q []
    | some k =>
      let old := b.get 0 KR_STAT.STATE
      let b := (b.takeSlot q [old]).workStart none 11 k
      ((b.set 0 KR_STAT.STATE 3).zeroKeys).zeroOps

/-! ### Stored images (R448) -/

/-- The image that FW_UPDATE in slot `k` stores. -/
def storedImg (b : Block) (k : Nat) : Option SignedImage := Sparse.find k b.kr.stored

/-- FW_UPDATE is accepted with its image. -/
def krFwUpdate (q : Nat) (img : SignedImage) (_ws : List Nat) (b : Block) : Block :=
  match b.freeSlot with
  | none => b.takeSlot q []
  | some k => (b.takeSlot q []).updKr (fun r => { r with stored := Sparse.put k img r.stored })

/-- The code with which the image of slot `k` is refused. -/
def fwCode (b : Block) (k : Nat) : Nat :=
  match b.storedImg k with
  | some img => b.imageCode img 1 (b.slotWord k 3)
  | none => 0x6F

/-- FW_UPDATE_DONE: the image stands in the slot that does not run and is named the first to try; source 599. -/
def fwUpdateDone (b : Block) (k : Nat) : Block :=
  if b.slotRuns k 0x4A then
    let code := b.fwCode k
    let forget := fun (b : Block) => b.updKr (fun r => { r with stored := Sparse.del k r.stored })
    if code ≠ 0 then
      let b := match b.storedImg k with | some img => b.imageNote img code | none => b
      (forget b).slotEnd k code
    else
      match b.flashOutcome 2 k with
      | none => b
      | some good =>
        let b := forget (b.flashForget 2 k)
        if good then
          let src := b.get 0 BOOT_STAT.SRC
          ((b.set 0 BOOT_STAT.NEXT (if src = 0 then 1 else if src = 1 then 0 else 1 - b.get 0 BOOT_STAT.NEXT)).arrive 599).slotEnd k 0
        else b.slotEnd k 0x6A
  else b

/-- Word `i` of the body of a clear-code image is accepted, `vmax` being what the image gives the regulator (R448, R86, R81). -/
def clrBodyOk (ws : List Nat) (i : Nat) : Bool :=
  let w := ws.getD (8 + i) 0
  if i < 2720 then slcClearWord (i % 10) w
  else
    let r := (i - 2720) / 3
    dpsClearWord (bits (ws.getD (8 + 2720 + 3 * r + 1) 0) 0 16) ((i - 2720) % 3) w

/-- The clear-code image has the right header, digest and values (R448). -/
def clrImageOk (ws : List Nat) : Bool :=
  ws.length == 2830 && ws.getD 0 0 == 0xC1EA * 2 ^ 48 + 2822 && ws.getD 1 0 == 0 && ws.getD 6 0 == 0 && ws.getD 7 0 == 0 &&
  (List.range 2822).all (clrBodyOk ws) &&
  sha256 ((ws.drop 8).flatMap (bytesLE · 8)) == (List.range 4).foldl (fun n i => n * 2 ^ 64 + ws.getD (2 + i) 0) 0

/-- CLR_STORE is accepted with its image, none where the transfer failed: the slot keeps 1 and the outcome of the check. -/
def krClrStore (q : Nat) (img : Option (List Nat)) (ws : List Nat) (b : Block) : Block :=
  b.takeSlot q [match img with
    | none => 0x09
    | some l => if ws.getD 3 0 = 22640 ∧ clrImageOk l then 0 else 0x6F]

/-- CLR_STORE_DONE: the image is stored, or was refused before anything was written. -/
def clrStoreDone (b : Block) (k : Nat) : Block :=
  if b.slotRuns k 0x4B then
    let code := (b.slot k).aux.getD 0 0
    if code ≠ 0 then b.slotEnd k code
    else
      match b.flashOutcome 3 k with
      | none => b
      | some good => (b.flashForget 3 k).slotEnd k (if good then 0 else 0x6A)
  else b

/-! ### Field returns (R449 to R451) -/

/-- RETURN_PREP is accepted with the Crypto Officer role at a module idle boundary, or by anyone while a Grave reaction holds. -/
def krReturnPrep (b : Block) (q : Nat) : Block :=
  match b.cmdOf q 0x4C with
  | none => b
  | some _ =>
    if b.flt.grave then b.takeSlot q []
    else if !b.hasCo q then b.complete q 0 0x60
    else if !b.moduleIdle then b.complete q 0 0x04
    else b.takeSlot q []

/-- A token opens the test modes (R450): its signature verifies, its serial number is the module's, and its nonce is current on a queue
pair. `tok` is none where the signature does not verify. -/
def tokenOk (b : Block) (tok : Option (Nat × Nat)) : Bool :=
  match tok with
  | none => false
  | some (serno, nonce) => serno == Config.serno % 2 ^ 64 && (List.range 64).any (fun q => b.nonceOf q == some (nonce % 2 ^ 256))

/-- KR_UNLOCK is accepted only while PROV is 2; the spec gives no code for a refusal, which is a free value other than OK. The token is
judged as it stands at acceptance. -/
def krUnlock (q : Nat) (tok : Option (Nat × Nat)) (_ws : List Nat) (b : Block) : Block :=
  if b.get 0 KR_STAT.PROV = 2 then b.takeSlot q [b01 (b.tokenOk tok)] else (b.complete q 0 (1 + b.free % 255)).freed

/-- KR_UNLOCK_DONE: ANALYSED is blown before anything else, TESTMODE set, source 605; a failed token is SIG_BAD. -/
def unlockDone (b : Block) (k : Nat) : Block :=
  if b.slotRuns k 0x4E then
    if (b.slot k).aux.getD 0 0 = 1 then
      (((b.setFlag 0 KR_STAT.ANALYSED true).setFlag 0 KR_STAT.TESTMODE true).arrive 605).slotEnd k 0
    else (b.count 0 KR_EVCNT.SIG_BAD 1).slotEnd k 0x65
  else b

/-! ### The start of a long service (R367, R432, R446) -/

/-- What the start of the operation in slot `k` sets going: a self-test, or the flash job of what is to be stored. -/
def krBegin (b : Block) (k : Nat) : Block :=
  let opc := b.get (8 * k) OPSTAT.OPC
  if opc = 0x49 then b.set 0 KR_STAT.STATE 0
  else if opc = 0x43 ∨ opc = 0x48 then b.flashAsk 4 k
  else if opc = 0x4A ∧ b.fwCode k = 0 then b.flashAsk 2 k
  else if opc = 0x4B ∧ (b.slot k).aux.getD 0 0 = 0 then b.flashAsk 3 k
  else if opc = 0x4C then b.flashAsk 5 k
  else b

/-- LONG_OP_START (R367): QUEUED passes to RUNNING; a self-test waits for the end of a zeroisation. -/
def opStart (b : Block) (k : Nat) : Block :=
  if b.get (8 * k) OPSTAT.OPC = 0x49 ∧ b.get 0 KR_STAT.STATE = 3 then b
  else
    let x := b.slotBegin k
    if b.get (8 * k) OPSTAT.STATE = 1 ∧ x.get (8 * k) OPSTAT.STATE = 2 then x.krBegin k else x

end Block

/-! ### Services on the memories -/

/-- KR_STREAM_IMPORT_DONE (R444): with the tag checked the plaintext stands from word 0 of the head page, the rest of the chain is zero;
a failed tag, or a key tag that is not the slot's, zeroes the chain. -/
def streamImportDone (st : State) (k : Nat) (plain : Option (List Nat)) : State :=
  let b := st.blk
  if !b.slotRuns k 0x45 then st
  else
    let w := b.slotWord k 1
    let plen := (b.slot k).aux.getD 1 0
    let ps := b.chain (w % 2 ^ 20)
    let m := ps.foldl zeroPage st.mem
    let bad := fun (err : Nat) (b : Block) => { st with blk := (b.slotEnd k err).arrive 602, mem := m }
    if (b.slot k).aux.getD 0 0 ≠ b.get (8 * bits w 32 6) KR_SLOT_TAG.TAG then bad 0x68 b
    else
      match plain with
      | none => bad 0x66 (b.count 0 KR_EVCNT.DECRYPT_BAD 1)
      | some l =>
        let m := ps.zipIdx.foldl (fun m x =>
          let left := plen - 32768 * x.2
          (List.range (min 4096 (ceilDiv left 8))).foldl (fun m i =>
            let v := l.getD (4096 * x.2 + i) 0
            setPageWord m x.1 i (if 8 * (i + 1) ≤ left then v else v % 2 ^ (8 * (left - 8 * i)))) m) m
        { st with blk := (((b.opres k 0 plen).opres k 1 (w % 2 ^ 20)).npart k ps.length).slotEnd k 0, mem := m }

/-- Step 3 of zeroisation: every protected chain is zero-filled and freed (R217, R447). -/
def zeroChains (st : State) : State :=
  st.blk.protectedHeads.foldl (fun st p =>
    { st with mem := (st.blk.chain p).foldl zeroPage st.mem, blk := st.blk.chainFree p }) st

/-- KR_ZEROISE_DONE (R447): chains, storage key and DRBG; PROV becomes 0 and source 598 is raised; a flash that could not be erased ends the
operation in FLASH_ERROR, the key being revoked all the same. -/
def zeroiseDone (st : State) (k : Nat) : State :=
  if st.blk.slotRuns k 0x48 then
    match st.blk.flashOutcome 4 k with
    | none => st
    | some good =>
      let st := zeroChains st
      st.on (fun b =>
        let old := (b.slot k).aux.getD 0 0
        let b := ((b.flashForget 4 k).zeroStore).set 0 KR_STAT.PROV 0
        let b := b.set 0 KR_STAT.STATE (if old = 2 ∨ b.get 0 KR_STAT.STATE ≠ 3 then 2 else 1)
        ((b.workEnd 11 k).arrive 598).slotEnd k (if good then 0 else 0x6A))
  else st

/-- RETURN_PREP_DONE (R449): the record is written, the keys are zeroised, PROV becomes 2 and source 604 is raised; a record that could not
be written leaves them in place. -/
def returnPrepDone (st : State) (k : Nat) : State :=
  if st.blk.slotRuns k 0x4C then
    match st.blk.flashOutcome 5 k with
    | none => st
    | some false => st.on (fun b => (b.flashForget 5 k).slotEnd k 0x6A)
    | some true =>
      let st := zeroChains (st.on (fun b => b.zeroKeys.zeroOps))
      st.on (fun b => (((b.flashForget 5 k).zeroStore.set 0 KR_STAT.PROV 2).arrive 604).slotEnd k 0)
  else st

/-! ### The commands -/

/-- LONG_OP_START (R367). -/
def execLongOpStart (k : Fin 256) (st : State) : Host.Outcome State Fault Refusal := .next (st.on (fun b => b.opStart k))
/-- KR_CHALLENGE (R438). -/
def execKrChallenge (q : Fin 64) (nonce : Nat) (st : State) : Host.Outcome State Fault Refusal :=
  .next (st.on (fun b => b.krShort q 0x40 0 (Block.krChallenge q nonce)))
/-- KR_LOGIN (R438). -/
def execKrLogin (q : Fin 64) (resp : Nat) (st : State) : Host.Outcome State Fault Refusal :=
  .next (st.on (fun b => b.krShort q 0x41 0 (Block.krLogin q resp)))
/-- KR_LOGOUT (R438). -/
def execKrLogout (q : Fin 64) (st : State) : Host.Outcome State Fault Refusal :=
  .next (st.on (fun b => b.krShort q 0x42 0 (fun _ b => (b.roleDrop q).complete q 0 0)))
/-- NONCE_EXPIRY (R438). -/
def execNonceExpiry (q : Fin 64) (st : State) : Host.Outcome State Fault Refusal := .next (st.on (fun b => b.nonceExpire q))
/-- LOCKOUT_EXPIRY (R438). -/
def execLockoutExpiry (co : Bool) (st : State) : Host.Outcome State Fault Refusal := .next (st.on (fun b => b.lockExpire co))
/-- KR_PROVISION (R442). -/
def execKrProvision (q : Fin 64) (co user kek : Nat) (st : State) : Host.Outcome State Fault Refusal :=
  .next (st.on (fun b => b.krLong q 0x43 0 (Block.krProvision q co user kek)))
/-- KR_PROVISION_DONE (R442). -/
def execKrProvisionDone (k : Fin 256) (st : State) : Host.Outcome State Fault Refusal := .next (st.on (fun b => b.provisionDone k))
/-- KR_KEY_IMPORT (R443). -/
def execKrKeyImport (q : Fin 64) (key : Option Nat) (st : State) : Host.Outcome State Fault Refusal :=
  .next (st.on (fun b => b.krShort q 0x44 1 (Block.krKeyImport q key)))
/-- KR_STREAM_IMPORT (R444). -/
def execKrStreamImport (q : Fin 64) (keyTag plen : Nat) (st : State) : Host.Outcome State Fault Refusal :=
  .next (st.on (fun b => b.krLong q 0x45 1 (Block.krStreamImport q keyTag plen)))
/-- KR_STREAM_IMPORT_DONE (R444). -/
def execKrStreamImportDone (k : Fin 256) (plain : Option (List Word)) (st : State) : Host.Outcome State Fault Refusal :=
  .next (streamImportDone st k (plain.map (fun l => l.map (fun w => w.toNat))))
/-- KR_KEY_CLEAR (R439). -/
def execKrKeyClear (q : Fin 64) (st : State) : Host.Outcome State Fault Refusal :=
  .next (st.on (fun b => b.krShort q 0x46 1 (Block.krKeyClear q)))
/-- KR_ATTEST (R445). -/
def execKrAttest (q : Fin 64) (st : State) : Host.Outcome State Fault Refusal :=
  .next (st.on (fun b => b.krLong q 0x47 1 (Block.krAttest q)))
/-- KR_ATTEST_DONE (R445). -/
def execKrAttestDone (k : Fin 256) (st : State) : Host.Outcome State Fault Refusal := .next (st.on (fun b => b.attestDone k))
/-- KR_ZEROISE (R447). -/
def execKrZeroise (q : Fin 64) (st : State) : Host.Outcome State Fault Refusal :=
  .next (st.on (fun b => b.krLong q 0x48 2 (Block.krZeroise q)))
/-- KR_ZEROISE_DONE (R447). -/
def execKrZeroiseDone (k : Fin 256) (st : State) : Host.Outcome State Fault Refusal := .next (zeroiseDone st k)
/-- KR_SELFTEST (R446). -/
def execKrSelftest (q : Fin 64) (st : State) : Host.Outcome State Fault Refusal :=
  .next (st.on (fun b => b.krLong q 0x49 0 (fun _ b => b.takeSlot q [])))
/-- KR_SELFTEST_DONE (R446). -/
def execKrSelftestDone (k : Fin 256) (ok : Bool) (st : State) : Host.Outcome State Fault Refusal :=
  .next (st.on (fun b => b.selftestDone k ok))
/-- ENTROPY_FAIL (R446). -/
def execEntropyFail (st : State) : Host.Outcome State Fault Refusal := .next (st.on Block.entropyFail)
/-- FW_UPDATE (R448). -/
def execFwUpdate (q : Fin 64) (img : SignedImage) (st : State) : Host.Outcome State Fault Refusal :=
  .next (st.on (fun b => b.krLong q 0x4A 2 (Block.krFwUpdate q img)))
/-- FW_UPDATE_DONE (R448). -/
def execFwUpdateDone (k : Fin 256) (st : State) : Host.Outcome State Fault Refusal := .next (st.on (fun b => b.fwUpdateDone k))
/-- CLR_STORE (R448). -/
def execClrStore (q : Fin 64) (img : Option (List Word)) (st : State) : Host.Outcome State Fault Refusal :=
  .next (st.on (fun b => b.krLong q 0x4B 1 (Block.krClrStore q (img.map (fun l => l.map (fun w => w.toNat))))))
/-- CLR_STORE_DONE (R448). -/
def execClrStoreDone (k : Fin 256) (st : State) : Host.Outcome State Fault Refusal := .next (st.on (fun b => b.clrStoreDone k))
/-- RETURN_PREP (R449). -/
def execReturnPrep (q : Fin 64) (st : State) : Host.Outcome State Fault Refusal := .next (st.on (fun b => b.krReturnPrep q))
/-- RETURN_PREP_DONE (R449). -/
def execReturnPrepDone (k : Fin 256) (st : State) : Host.Outcome State Fault Refusal := .next (returnPrepDone st k)
/-- KR_CERT_READ (R442). -/
def execKrCertRead (q : Fin 64) (st : State) : Host.Outcome State Fault Refusal :=
  .next (st.on (fun b => b.krShort q 0x4D 0 (Block.krCertRead q)))
/-- KR_UNLOCK (R450). -/
def execKrUnlock (q : Fin 64) (tok : Option (Nat × Nat)) (st : State) : Host.Outcome State Fault Refusal :=
  .next (st.on (fun b => b.krLong q 0x4E 0 (Block.krUnlock q tok)))
/-- KR_UNLOCK_DONE (R450). -/
def execKrUnlockDone (k : Fin 256) (st : State) : Host.Outcome State Fault Refusal := .next (st.on (fun b => b.unlockDone k))

end Sys2Proof.Machine
end

