-- ==== Sys2Proof/Machine/Power.lean ====
section
/-!
DEFINITION. Reset, start-up and supplies (R87, R236, R323, R353, R354, R409, R410, R415, R436, R437; ch. 24). What start-up reads and
measures is an operand of PERST_DEASSERT.
-/
namespace Sys2Proof.Machine
namespace Block

/-! ### The repair map (R29, R409, R410) -/

/-- A hasp entry that a substitution in force requires is claimed for the repair manager (R29). -/
def haspBoot (b : Block) (i : Nat) : Block :=
  ((b.set (8 * i) HASP_ENT.OWNER 0x60).set (8 * i) HASP_ENT.STATE 1).set (8 * i) HASP_ENT.GEN 1

/-- A slice substitution of the map: channel `k` of field `f` is served by the field's spare slice. -/
def mapSlice (b : Block) (x : Nat × Nat) : Block :=
  let f := x.1 % 16
  let k := x.2 % 16
  let b := (b.set (SLC (17 * f + k)) SLC_ID.ROLE 3).set (SLC (17 * f + k)) SLC_ID.CHAN 0x1FF
  let b := (b.set (SLC (17 * f + 16)) SLC_ID.ROLE 2).set (SLC (17 * f + 16)) SLC_ID.CHAN (16 * f + k)
  let b := (b.setFlag (8 * f) RM_CHMAP.SUB true).set (8 * f) RM_CHMAP.K k
  let b := (b.set 0 RM_STAT.SPARE_SLC (b.get 0 RM_STAT.SPARE_SLC - 1)).setFlag (FLD f) DDS_STAT.SKEW_OLD true
  let b := ((b.calSelect f k).slcSync (17 * f + k)).slcSync (17 * f + 16)
  (b.haspBoot (16 * f)).haspBoot (16 * f + 1)

/-- A regulator substitution of the map: spare 32 or 33 serves land `l`. -/
def mapDps (b : Block) (x : Nat × Nat) : Block :=
  let sp := if x.1 = 32 then 32 else 33
  let l := x.2 % 32
  let b := (b.set (DPS l) DPS_ID.ROLE 3).set (DPS l) DPS_ID.LAND 0x3F
  let b := (b.set (DPS sp) DPS_ID.ROLE 2).set (DPS sp) DPS_ID.LAND l
  let b := if sp = 32 then (b.setFlag 0 RM_DPSMAP.SUB32 true).set 0 RM_DPSMAP.LAND32 l
    else (b.setFlag 0 RM_DPSMAP.SUB33 true).set 0 RM_DPSMAP.LAND33 l
  let b := b.updDps sp (fun d => { d with calSet := l })
  (b.set 0 RM_STAT.SPARE_DPS (b.get 0 RM_STAT.SPARE_DPS - 1)).haspBoot (272 + (sp - 32))

/-- The sequencer substitution of the map (R159). -/
def mapSeq (b : Block) (f : Nat) : Block :=
  let b := ((b.set (FLD f) SEQ_STAT.PHYS 16).setFlag (8 * f) UC_SEQ.RETIRED true).set 0 RM_STAT.SPARE_SEQ 0
  (b.setFlag 0 RM_SEQMAP.SUB true).set 0 RM_SEQMAP.FIELD f

/-- The spare rows in use under a row map: they are taken in order (R192). -/
def sparesUsed (spares : List Nat) : Nat := (spares.map (· + 1)).foldl max 0

/-- The repair map applied at start-up (R409, R410), and mirrored by the Keeper. -/
def mapApply (b : Block) (m : RepairMap) : Block :=
  let b := m.chans.foldl mapSlice b
  let b := m.lands.foldl mapDps b
  let b := match m.seqField with | some f => b.mapSeq (f % 16) | none => b
  let b := m.noChan.foldl (fun b (x : Nat × Nat) => b.set (8 * x.1) RM_CHMAP.NOSPARE x.2) b
  let b := (b.set 0 RM_DPSMAP.NOSPARE m.noLand).set 0 RM_SEQMAP.NOSPARE m.noSeq
  let b := m.wear.foldl (fun b (x : Nat × Nat) => b.set (8 * x.1) RM_WEAR.COUNT x.2) b
  let b := m.worn.foldl (fun b u => b.setFlag (8 * u) RM_WEAR.WORN true) b
  let b := b.set 0 DIR_STAT.SPARE_ROWS (sparesUsed (m.dirRows.map (fun x => x.2)))
  let b : Block := { b with hbm := { b.hbm with rowMap := m.dirRows } }
  let b := m.lanes.foldl (fun b (x : Nat × Nat × Nat) => (b.set (8 * x.1) RM_D2D.SP_OUT x.2.1).set (8 * x.1) RM_D2D.SP_IN x.2.2) b
  let b := m.dead.foldl (fun b p => b.set (16 * p) HBM_PC.STATE 3) b
  let b := m.pages.foldl (fun b (x : Nat × Nat × Nat) => (b.takeFrame x.2.1).1.pageMove x.1 x.2.1 x.2.2) b
  { (b.hbmCounts).set 0 RM_STAT.MAPSEQ m.seq with keeper := { b.keeper with mirror := b.keeper.mirror + 1 } }

/-- The mirror carries a higher sequence number than the valid slot: a save was cut short (R410). -/
def mirrorNewer (o : BootOutcome) : Bool :=
  match o.map, o.mirror with
  | some m, some x => decide (m.seq < x.seq)
  | _, _ => false

/-- The repair map that start-up takes (R410): the valid slot's, or the mirror's completed with that slot's page placements. -/
def bootMapOf (o : BootOutcome) : Option RepairMap :=
  match o.map, o.mirror with
  | some m, some x => some (if mirrorNewer o then { x with pages := m.pages } else m)
  | m, _ => m

/-- The patch-RAM row maps of the repair map (R192, R409), which the patch is loaded through. -/
def bootRows (b : Block) (o : BootOutcome) : Block :=
  match bootMapOf o with
  | some m =>
    let b : Block := { b with uc := { b.uc with rows := m.rows } }
    (List.range 17).foldl (fun b p =>
      b.set (8 * p) UC_SEQ.SPARE_ROWS (sparesUsed ((m.rows.filter (fun x => x.1 == p)).map (fun x => x.2.2)))) b
  | none => b

/-- Stage 4 (R410): the map of the valid slot; a mirror with a higher sequence number is completed with that slot's page placements and saved
again; with no valid slot source 420 makes the module Grave. -/
def bootMap (b : Block) (o : BootOutcome) : Block :=
  match bootMapOf o with
  | none => b.fault 420 0
  | some m => if mirrorNewer o then (b.mapApply m).mapChanged else b.mapApply m

/-! ### Start-up (R436, R437) -/

/-- Start-up halts: READY stays 0 (R437). -/
def bootHalt (b : Block) (err : Nat) : Block := (b.set 0 BOOT_PROG.STAGE 15).set 0 BOOT_PROG.ERR err

/-- The images in the order in which start-up tries them (R437): the slot named by the last FW_UPDATE, the other, the recovery image. -/
def bootOrder (b : Block) : List Nat := if b.get 0 BOOT_STAT.NEXT = 1 then [1, 0, 2] else [0, 1, 2]

/-- The first image that passes R434, tried in order, with what the failing ones leave behind. -/
def bootTry (o : BootOutcome) : List Nat → Block → Block × Option (Nat × SignedImage)
  | [], b => (b, none)
  | i :: t, b =>
    match o.images.getD i none with
    | none => bootTry o t b
    | some img =>
      let code := b.imageCode img 1 img.len
      if code = 0 then (b, some (i, img)) else bootTry o t (b.imageNote img code)

/-- Stage 2: the firmware that runs (R437, R376, R455). -/
def bootFirmware (b : Block) (i : Nat) (img : SignedImage) : Block :=
  let first := b.bootOrder.headD 0
  let b := ((b.set 0 BOOT_STAT.SRC i).set 0 BOOT_STAT.FW_SVN (imgSvn img)).set 0 FW_VER.MAJOR (bits (imgWord img 1) 32 16)
  let b := (b.set 0 FW_VER.MINOR (bits (imgWord img 1) 16 16)).set 0 FW_VER.HASH (imgHash img)
  b.updKr (fun r => { r with
    fwDigest := imgDigest img, other := i != first, adv := if imgAdv img then some (imgSvn img) else none })

/-- The first stored patch that passes R434, tried in order, with what the failing ones leave behind. -/
def patchTry : List SignedImage → Block → Block × Option SignedImage
  | [], b => (b, none)
  | img :: t, b =>
    let code := b.imageCode img 2 img.len
    if code = 0 then (b, some img) else patchTry t (b.imageNote img code)

/-- Stage 3: the newer stored patch that passes; where none does, or where it fails its read-back in a sequencer (DEDUCED from R194, log
entry 166), source 601 (R193, R436, R452). -/
def bootPatch (b : Block) (o : BootOutcome) : Block :=
  let r := patchTry o.patches b
  match r.2 with
  | some img => if r.1.rowsFit img && o.stuck.isEmpty then r.1.patchForce img else (r.1.readBackMap img).arrive 601
  | none => r.1.arriveIf (!o.patches.isEmpty) 601

/-- Stage 6: the clear-code image, if one is stored (R87). -/
def bootClear (b : Block) (o : BootOutcome) : Block :=
  match o.clr with
  | none => b
  | some l =>
    let ws := l.map (fun w => w.toNat)
    if clrImageOk ws then
      let b := (List.range 2720).foldl (fun b i => b.slcClearSet (i / 10) (i % 10) (ws.getD (8 + i) 0)) b
      (List.range 102).foldl (fun b i => b.dpsClearSet (i / 3) (i % 3) (ws.getD (2728 + i) 0)) b
    else b

/-- The measurement of a start-up task; one that is missing did not complete. -/
def bootMeas (o : BootOutcome) (f t : Nat) : CalMeas :=
  match o.cal.find? (fun x => x.1 == f && x.2.1 == t) with
  | some x => x.2.2
  | none => { complete := false, res := 0, slices := [], regs := [], store := [] }

/-- Stage 7: the references, the factory constants, then DIG and LVL as full runs on every field (R415, R420). -/
def bootCal (b : Block) (o : BootOutcome) : Block :=
  let b := b.setFlag 0 CAL_STAT.REF_MISSING (!o.refOk)
  let b := o.factory.foldl calConstants b
  (List.range 16).foldl (fun b f =>
    let run := fun (t : Nat) (b : Block) => b.calResult f t (b.get (8 * f) CAL_FTEMP.NOW) (bootMeas o f t)
    run 1 (run 0 b)) b

/-- Stage 8: one monitor check on every regulator (R111), HOLD_N driven low and read back (R323), and the DLLs locked (R236). -/
def bootTests (b : Block) (o : BootOutcome) : Block :=
  let b := (List.range 34).foldl (fun b r =>
    let p := o.dpsPairs.getD r (0, 0, 0)
    (((b.updWm (272 + r) (fun w => { w with chk := 1 })).chkStep r p.1).chkStep r p.2.1).chkStep r p.2.2) b
  let b := if o.holdOk then b
    else (((b.setFlag 0 SYNC_STAT.HOLD_STUCK true).setFlag 0 SYNC_STAT.LOCAL_SCOPE true).arrive 574).fault 397 0
  (List.range 272).foldl (fun b s => b.setFlag (SLC s) TIA_STAT.DLL_LOCK true) b

/-- Stages 3 to 8, once firmware runs. -/
def bootRun (b : Block) (o : BootOutcome) : Block :=
  let b := ((b.bootRows o).bootPatch o).bootMap o
  let b := (((List.range 4).foldl (fun b d => b.laneEye d (o.d2dEyes.getD d 0)) (b.trainDone o.eyes)).bootClear o).bootCal o
  ((b.bootTests o).warmInit).set 0 BOOT_PROG.STAGE 8

/-- PERST_DEASSERT (R436, R437): the boot stages. -/
def perstDeassert (b : Block) (o : BootOutcome) : Block :=
  if !b.host.perst || b.host.perstAt.isSome || !b.keeper.vaux || !b.flag 0 SP_STAT.MAIN then b
  else
    let b := { b with host := { b.host with perst := false } }
    if !o.fuseOk then b.bootHalt 1
    else if !o.katOk then (((b.updKr (fun r => { r with katBad := true })).set 0 KR_STAT.STATE 2).fault 422 0).bootHalt 2
    else
      let b := (((b.set 0 KR_STAT.STATE 1).updKr (fun r => { r with drbg := true })).arrive 594)
      let b := (b.set 0 BF_ID.ID0 (o.id0.getD 0)).set 0 BF_ID.ID1 (o.id1.getD 0)
      if o.id0.isNone && o.id1.isNone then b.bootHalt 4
      else
        let r := bootTry o b.bootOrder b
        match r.2 with
        | none => r.1.bootHalt 3
        | some (i, img) => (r.1.bootFirmware i img).bootRun o

/-- BOOT_READY (R347, R353, R419, R435, R437): with no pseudo-channel still evacuating, READY, the tasks that have not run are due, the fused SVN minimum follows an image with ADV. -/
def bootReady (b : Block) (ms : Nat) : Block :=
  if !b.host.perst && b.get 0 BOOT_PROG.STAGE == 8 && !b.flag 0 HQ_STAT.READY &&
      (List.range 32).all (fun p => b.get (16 * p) HBM_PC.STATE != 2) then
    let b := (b.set 0 BOOT_PROG.STAGE 9).setFlag 0 HQ_STAT.READY true
    let b := (calTasks.foldl (fun b x => if b.calState x.1 x.2 = 0 then b.calMakeDue x.1 x.2 else b) (b.set 0 BOOT_STAT.TIME ms)).calSync
    let b := b.arriveIf b.kr.other 600
    match b.kr.adv with
    | some n => b.set 0 BOOT_STAT.FW_SVN_MIN (max n (b.get 0 BOOT_STAT.FW_SVN_MIN))
    | none => b
  else b

/-! ### Reset (R354, R402) -/

/-- Every slice and regulator is bolted in one ordered bolt (R354). -/
def boltModule (b : Block) : Block := b.bolt [] (3, 0)

/-- The roles, nonces and test modes end at PERST_N (R438, R450). -/
def krPerst (b : Block) : Block :=
  (((b.set 0 KR_ROLE_CO.BITS 0).set 0 KR_ROLE_USER.BITS 0).setFlag 0 KR_STAT.TESTMODE false).updKr (fun r => { r with nonces := [] })

/-- PERST_ASSERT (R354): the module bolts; the link is gone; core logic is reset later. -/
def perstAssert (b : Block) : Block :=
  if b.host.perst then b
  else
    let b := b.boltModule.krPerst
    { b with host := { b.host with perst := true, perstAt := some b.time.now, linkUp := false, l1 := false } }

/-- The fields that a reset of core logic leaves alone: the Keeper's (R354, R393, R404), fuses and stored state (R441, R455), and the plant
inputs. -/
def keptFields : List (Nat × Fld) :=
  (List.range 10).map (fun i => (8 * i, FC_STICKY.BITS)) ++
  [(0, FC_ALIVE.STATE), (0, FC_ALIVE.LEVEL), (0, FC_ALIVE.HB), (0, SP_STAT.MAIN), (0, SP_STAT.RAM_ERR), (0, SP_ERR.SHORT), (0, SP_ERR.LONG),
    (0, SP_ERR.SOON), (0, SP_PAGE.PAGE), (0, SP_JSEQ.SEQ), (0, KR_STAT.EPOCH), (0, KR_STAT.ANALYSED), (0, KR_STAT.PROV),
    (0, BOOT_STAT.FW_SVN_MIN), (0, BOOT_STAT.PATCH_SVN_MIN), (0, BOOT_STAT.NEXT), (0, CLR_STAT.CLR_IN), (0, SYNC_STAT.LOCAL_SCOPE)]

/-- Clearing holds at the end of a reset while CLR_N is low (R89): the monitors are judged against the clear codes (R106). -/
def resetHeld (b : Block) : Block :=
  let b := (List.range 272).foldl (fun b s => b.setFlag (SLC s) WM_STAT.CLR_HELD true) (b.setFlag 0 CLR_STAT.HELD true)
  (List.range 34).foldl (fun b r => b.setFlag (DPS r) DPS_WM_STAT.CLR_HELD true) b

/-- Core logic reset (R354, R402): every register and engine at reset but what the Keeper, fuses and flash keep; time runs on, and a Grave
state holds. LOCAL_SCOPE clears at power-up only (R323). -/
def coreReset (b : Block) : Block :=
  let n : Block := keptFields.foldl (fun n x => n.set x.1 x.2 (b.get x.1 x.2)) ({} : Block)
  let t := { n.time with now := b.time.now, lastB := b.time.now, zero := b.time.now, ticks := b.time.ticks, warmPin := b.time.warmPin }
  let t := { t with syncs := b.time.syncs, freeCount := b.time.freeCount }
  let kr := { n.kr with co := b.kr.co, user := b.kr.user, kek := b.kr.kek, att := b.kr.att, cert := b.kr.cert }
  let host := { n.host with msgs := b.host.msgs, pme := b.host.pme, out := b.host.out }
  let flt := { n.flt with grave := b.flt.grave, heartbeat := b.flt.heartbeat, saves := b.flt.saves }
  let n : Block := { n with time := t, kr := kr, keeper := b.keeper, host := host, flt := flt }
  let n := if b.flag 0 SP_STAT.MAIN then n else n.setFlag 0 SYNC_STAT.LOCAL_SCOPE false
  let n := if n.flag 0 CLR_STAT.CLR_IN then n.resetHeld else n
  if b.flt.grave then ((n.set 0 FC_FIRST.STATE 2).set 0 FC_FIRST.CLASS 3).boltModule else n

/-- A bolt ramp of the module is still running (R354). -/
def rampsRun (b : Block) : Bool := (List.range 272).any b.slcRamping || (List.range 34).any b.dpsRamping

/-- CORE_RESET is due (R354): after PERST_N or the loss of the main rails, once the ramps have ended or 10 ms have passed. -/
def resetDue (b : Block) : Bool := b.host.perstAt.any (fun t => !b.rampsRun || decide (t + 1000000 ≤ b.time.now))

/-! ### Supplies (R466, R468, R469, R471 to R473) -/

/-- MAIN_VALID (R466): the main rails are present; a Grave state ends once they have been removed and restored (R402). -/
def mainValid (b : Block) : Block :=
  if b.keeper.vaux && !b.flag 0 SP_STAT.MAIN then
    let b := b.setFlag 0 SP_STAT.MAIN true
    { b with flt := { b.flt with grave := false } }
  else b

/-- RAIL_FAULT (R354, R466, R471): MAIN falls; with PERST_N deasserted source 426 bolts the module, and core logic is reset after the ramps. -/
def railFault (b : Block) : Block :=
  if b.flag 0 SP_STAT.MAIN then
    let b := b.setFlag 0 SP_STAT.MAIN false
    if b.host.perst then b
    else
      let b := b.fault 426 0
      { b with host := { b.host with perstAt := some b.time.now, linkUp := false, l1 := false } }
  else b

/-- RAIL_ORDER_VIOLATION (R469): only the sticky bit of source 426 is set. -/
def railOrder (b : Block) : Block :=
  if b.flag 0 SP_STAT.MAIN || !b.keeper.vaux then b else b.set (8 * (426 / 64)) FC_STICKY.BITS (setBit (b.get (8 * (426 / 64)) FC_STICKY.BITS) (426 % 64))

/-- A slice of a PE die in its local bolt (R472): no ramp, and the series disconnect opens. -/
def localSlice (b : Block) (s : Nat) : Block :=
  let b := b.slcBolt s
  let b := ((b.set (SLC s) SLC_STAT.PATH 0).set (SLC s) SLC_STAT.IRANGE_ACT 0).setFlag (SLC s) SLC_STAT.PMU_SW false
  let b := (b.updSlc s (fun x => { x with swMode := 0, downDone := false, localOpen := true })).forceMove s false
  let b := ((b.forceAt s (b.fvClear s).1).forceHeld s).slcSync s
  { b with flt := { b.flt with bolts := if b.flt.bolts.any (fun r => covers (r.scope, r.unit) (0, s)) then b.flt.bolts
      else b.flt.bolts ++ [⟨0, s, []⟩] } }

/-- A regulator of a PE die in its local bolt (R472): switch open, discharge closed, gate at 0 V, at once and in no order. -/
def localDps (b : Block) (r : Nat) : Block :=
  let b := (b.dpsBoltOne b.flt.boltNext r).dpsOut r 0
  let b := (b.setFlag (DPS r) DPS_STAT.OUT_SW false).updDps r (fun d => { d with
    bolt := 2, ending := false, waitLeft := 0, pos := 0, clrRamp := false, gateHeld := true })
  let b := (b.dpsMove r false).dpsSync r
  { b with flt := { b.flt with bolts := if b.dpsCovered r then b.flt.bolts else b.flt.bolts ++ [⟨1, r, []⟩] } }

/-- PE_LOCAL_BOLT (R472, R473): every slice and regulator of the die; an event that falls into a reaction merges into it (R401). -/
def localBolt (b : Block) (d : Nat) : Block :=
  let b := (List.range 68).foldl (fun b i => b.localSlice (68 * d + i)) b
  let b := ((List.range 34).filter (fun r => dpsDie r == d)).foldl localDps b
  let b := { b with flt := { b.flt with boltNext := b.flt.boltNext + 1 } }
  (if b.flt.reacting then (b.count 0 FC_FIRST.MERGED 1).arrive 630 else b).endReaction

/-- The Keeper's own registers at their values of VAUX power-up (R393, R456, R464). -/
def keeperClear (b : Block) (vaux : Bool) : Block :=
  let b := (List.range 10).foldl (fun b i => b.set (8 * i) FC_STICKY.BITS 0) b
  let b := ((b.set 0 SP_STAT.MAIN 0).set 0 SP_STAT.RAM_ERR 0).set 0 SP_PAGE.PAGE 0
  let b := (((b.set 0 SP_ERR.SHORT 0).set 0 SP_ERR.LONG 0).set 0 SP_ERR.SOON 0).set 0 SP_JSEQ.SEQ 0
  { b with keeper := { vaux := vaux } }

/-- VAUX_POWER_UP (R456, R459): zero RAM, sticky bits 0, the first reply is NONE. -/
def vauxUp (b : Block) : Block := if b.keeper.vaux then b else b.keeperClear true

end Block

/-- The memories over a reset of core logic: the dictionaries and the DDS lists return to their reset content (R208, R251), the others
keep theirs (log entry 79). -/
def memReset (m : List Host.Cell) : List Host.Cell :=
  zeroBytes (zeroBytes m (Ram.dict 0).base (Ram.dict 16).base) (Ram.dds 0 0).base (Ram.dds 16 0).base

/-- The state after a reset of core logic (R354). -/
def State.coreReset (st : State) : State := { st with blk := st.blk.coreReset, mem := memReset st.mem }

/-- VAUX_LOSS (R465, R468, R470): the Keeper resets and loses the sticky bits; the core die is held in reset. -/
def vauxLoss (st : State) : State := if st.blk.keeper.vaux then (st.on (fun b => b.keeperClear false)).coreReset else st

/-! ### The commands -/

/-- PERST_ASSERT (R354). -/
def execPerstAssert (st : State) : Host.Outcome State Fault Refusal := .next (st.on Block.perstAssert)
/-- PERST_DEASSERT (R436). -/
def execPerstDeassert (o : BootOutcome) (st : State) : Host.Outcome State Fault Refusal := .next (st.on (fun b => b.perstDeassert o))
/-- BOOT_READY (R353). -/
def execBootReady (ms : Nat) (st : State) : Host.Outcome State Fault Refusal := .next (st.on (fun b => b.bootReady ms))
/-- CORE_RESET (R354). -/
def execCoreReset (st : State) : Host.Outcome State Fault Refusal := .next (if st.blk.resetDue then st.coreReset else st)
/-- MAIN_VALID (R466). -/
def execMainValid (st : State) : Host.Outcome State Fault Refusal := .next (st.on Block.mainValid)
/-- RAIL_FAULT (R471). -/
def execRailFault (_rail : Fin 11) (st : State) : Host.Outcome State Fault Refusal := .next (st.on Block.railFault)
/-- RAIL_ORDER_VIOLATION (R469). -/
def execRailOrderViolation (_rail : Fin 11) (st : State) : Host.Outcome State Fault Refusal := .next (st.on Block.railOrder)
/-- PE_LOCAL_BOLT (R472). -/
def execPeLocalBolt (d : Fin 4) (st : State) : Host.Outcome State Fault Refusal := .next (st.on (fun b => b.localBolt d))
/-- VAUX_POWER_UP (R456). -/
def execVauxPowerUp (st : State) : Host.Outcome State Fault Refusal := .next (st.on Block.vauxUp)
/-- VAUX_LOSS (R465). -/
def execVauxLoss (st : State) : Host.Outcome State Fault Refusal := .next (vauxLoss st)

end Sys2Proof.Machine
end

