-- ==== Sys2Proof/Machine/Keeper.lean ====
section
/-!
DEFINITION. The Keeper (R456 to R464): the retention RAM seen by the supervisor port and by the host, the port's frames and replies, and the
journal of served arrivals.
-/
namespace Sys2Proof.Machine
namespace Block

/-! ### The retention RAM (R456) -/

/-- The 32-bit word `i` of the retention RAM; the mirror of the repair map fills bytes 0x2000 to 0x37FF once the repair manager has written it. -/
def krWord (b : Block) (i : Nat) : Nat :=
  if 0x800 ≤ i && i < 0xE00 && b.keeper.mirror != 0 then Config.mirrorWord b.keeper.mirror (i - 0x800) % 2 ^ 32
  else Sparse.get 0 (i % 4096) b.keeper.ram

/-- A 32-bit word of the retention RAM written. -/
def krPut (b : Block) (i v : Nat) : Block :=
  { b with keeper := { b.keeper with ram := Sparse.set 0 (i % 4096) (v % 2 ^ 32) b.keeper.ram } }

/-- A word that keeps its parity error after the replay (R456). -/
def ramErr (b : Block) : Block := (b.setFlag 0 SP_STAT.RAM_ERR true).fault 425 0

/-- KP_RA.ADDR moves on, from 4,095 to 0 (R457). -/
def kpNext (b : Block) : Block := b.set 0 KP_RA.ADDR ((b.get 0 KP_RA.ADDR + 1) % 4096)

/-- A host read of KP_RD, and what it answers (R456, R457). -/
def kpRead (b : Block) (err : Bool) : Block × Nat :=
  let v := if err then 0xFFFFFFFF else b.krWord (b.get 0 KP_RA.ADDR)
  ((if err then b.ramErr else b).kpNext, v)

/-- A host write of KP_RD (R457): the scratch area only, else source 402. -/
def kpWrite (b : Block) (v : Nat) : Block :=
  let i := b.get 0 KP_RA.ADDR
  if 0xE00 ≤ i then (b.krPut i v).kpNext else b.fault 402 0

/-! ### The port (R458 to R464) -/

/-- SP_STAT as the port reads it (R464). -/
def spStat (b : Block) : Nat :=
  b.get 0 SP_STAT.MAIN * 2 ^ 15 + b.get 0 FC_ALIVE.HB * 2 ^ 14 + b.get 0 FC_ALIVE.STATE * 2 ^ 12 + b.get 0 FC_FIRST.CLASS * 2 ^ 10 +
    b01 (b.get 0 FC_FIRST.STATE != 0) * 2 ^ 9 + b.get 0 SP_STAT.RAM_ERR * 2 ^ 8

/-- The port address lies in a block (R461). -/
def spInBlock (a : Nat) : Bool := decide (a ≤ 4) || (decide (0x40 ≤ a) && decide (a ≤ 0x67)) || (decide (0x800 ≤ a) && decide (a ≤ 0xFFF))

/-- The 32-bit RAM word behind an address of the window (R464); the lower 16-bit word of a pair is the less significant. -/
def spRamIx (b : Block) (a : Nat) : Nat := b.get 0 SP_PAGE.PAGE * 1024 + (a - 0x800) / 2

/-- The 16-bit word at a port address of a block (R464). -/
def spWord (b : Block) (a : Nat) : Nat :=
  if a = 0 then b.get 0 SP_ID.ID
  else if a = 1 then b.spStat
  else if a = 2 then b.get 0 SP_ERR.SHORT * 2 ^ 10 + b.get 0 SP_ERR.LONG * 2 ^ 4 + b.get 0 SP_ERR.SOON
  else if a = 3 then b.get 0 SP_PAGE.PAGE
  else if a = 4 then b.get 0 SP_JSEQ.SEQ
  else if a < 0x800 then b.get (8 * ((a - 0x40) / 4)) FC_STICKY.BITS / 2 ^ (16 * ((a - 0x40) % 4)) % 2 ^ 16
  else b.krWord (b.spRamIx a) / 2 ^ (16 * (a % 2)) % 2 ^ 16

/-- A frame shifts out the reply to the frame before and leaves its own reply (R459, R460); BOLT_ARM holds for one frame. -/
def spFrame (b : Block) (status a d : Nat) (armed : Bool) : Block :=
  { b with keeper := { b.keeper with shifted := b.keeper.reply, reply := status % 16 * 2 ^ 28 + a % 4096 * 2 ^ 16 + d % 2 ^ 16, armed := armed } }

/-- A word read through the port at `a` (R456, R460, R461); `past` says that READ_NEXT has left the block it started in. -/
def spRead (b : Block) (a : Nat) (past err : Bool) : Block :=
  let b : Block := { b with keeper := { b.keeper with addr := a, past := past } }
  if past then b.spFrame 3 a 0xFFFF false
  else if err && decide (0x800 ≤ a) then (b.ramErr).spFrame 8 a 0xFFFF false
  else b.spFrame 0 a (b.spWord a) false

/-- NOP (R460). -/
def sspNop (b : Block) (a d : Nat) : Block := if a = 0 ∧ d = 0 then b.spFrame 0 0 0 false else b.spFrame 4 a 0 false

/-- READ (R460, R461). -/
def sspRead (b : Block) (a d : Nat) (err : Bool) : Block :=
  if d ≠ 0 then b.spFrame 4 a 0 false else b.spRead a (!spInBlock a) err

/-- READ_NEXT (R460, R461): no wrap, no crossing, and the address stays at 0xFFF. -/
def sspReadNext (b : Block) (a d : Nat) (err : Bool) : Block :=
  let n := min (b.keeper.addr + 1) 0xFFF
  if a ≠ 0 ∨ d ≠ 0 then b.spFrame 4 a 0 false
  else b.spRead n (b.keeper.past || b.keeper.addr == 0xFFF || !spInBlock n) err

/-- WRITE (R460, R462): SP_PAGE, and the scratch area while page 3 is in the window. -/
def sspWrite (b : Block) (a d : Nat) : Block :=
  if a = 3 then (b.set 0 SP_PAGE.PAGE d).spFrame 0 a d false
  else if 0xC00 ≤ a ∧ b.get 0 SP_PAGE.PAGE = 3 then
    let i := b.spRamIx a
    let w := b.krWord i
    let v := if a % 2 = 0 then w / 2 ^ 16 * 2 ^ 16 + d else d * 2 ^ 16 + w % 2 ^ 16
    (b.krPut i v).spFrame 0 a d false
  else b.spFrame 5 a d false

/-- BOLT_ARM (R460): the spec gives no STATUS for another DATA; nothing is armed then. -/
def sspBoltArm (b : Block) (a d : Nat) : Block :=
  if a ≠ 0 then b.spFrame 4 a 0 false
  else if d = 0xB01D then b.spFrame 0 0 0 true
  else (b.freed).spFrame b.free 0 0 false

/-- BOLT (R463): only in the frame after an accepted BOLT_ARM and with the main rails present; the spec gives no STATUS for another DATA. -/
def sspBolt (b : Block) (a d : Nat) : Block :=
  if a ≠ 0 then b.spFrame 4 a 0 false
  else if !b.keeper.armed || !b.flag 0 SP_STAT.MAIN then b.spFrame 6 0 0 false
  else if d = 0x4FE2 then (b.spFrame 0 0 0 false).fault 424 0
  else (b.freed).spFrame b.free 0 0 false

/-- A discarded frame (R458, R459): counted, and answered by its own status. -/
def sspDiscard (b : Block) (edges : Nat) (soon : Bool) : Block :=
  if soon then (b.bump 0 SP_ERR.SOON).spFrame 7 0 0 false
  else if edges < 32 then (b.bump 0 SP_ERR.SHORT).spFrame 1 0 0 false
  else if 32 < edges then (b.bump 0 SP_ERR.LONG).spFrame 2 0 0 false
  else b

/-- An action of the Keeper, which needs VAUX. -/
def onKeeper (b : Block) (f : Block → Block) : Block := if b.keeper.vaux then f b else b

/-- The Keeper firmware serves an arrival routed to target 17 (R411): one journal entry, then the source is cleared. -/
def keeperServe (b : Block) (n : Nat) : Block :=
  if (n = 628 ∨ n = 629 ∨ n = 632) ∧ b.icHits 17 n then (b.journal 0 n).icClear n else b

end Block

/-- SSP_NOP (R460). -/
def execSspNop (a : BitVec 12) (d : BitVec 16) (st : State) : Host.Outcome State Fault Refusal :=
  .next (st.on (fun b => b.onKeeper (fun b => b.sspNop a.toNat d.toNat)))
/-- SSP_READ (R461). -/
def execSspRead (a : BitVec 12) (d : BitVec 16) (e : Bool) (st : State) : Host.Outcome State Fault Refusal :=
  .next (st.on (fun b => b.onKeeper (fun b => b.sspRead a.toNat d.toNat e)))
/-- SSP_READ_NEXT (R461). -/
def execSspReadNext (a : BitVec 12) (d : BitVec 16) (e : Bool) (st : State) : Host.Outcome State Fault Refusal :=
  .next (st.on (fun b => b.onKeeper (fun b => b.sspReadNext a.toNat d.toNat e)))
/-- SSP_WRITE (R462). -/
def execSspWrite (a : BitVec 12) (d : BitVec 16) (st : State) : Host.Outcome State Fault Refusal :=
  .next (st.on (fun b => b.onKeeper (fun b => b.sspWrite a.toNat d.toNat)))
/-- SSP_BOLT_ARM (R460). -/
def execSspBoltArm (a : BitVec 12) (d : BitVec 16) (st : State) : Host.Outcome State Fault Refusal :=
  .next (st.on (fun b => b.onKeeper (fun b => b.sspBoltArm a.toNat d.toNat)))
/-- SSP_BOLT (R463). -/
def execSspBolt (a : BitVec 12) (d : BitVec 16) (st : State) : Host.Outcome State Fault Refusal :=
  .next (st.on (fun b => b.onKeeper (fun b => b.sspBolt a.toNat d.toNat)))
/-- SSP_FRAME_DISCARD (R458). -/
def execSspFrameDiscard (edges : Nat) (soon : Bool) (st : State) : Host.Outcome State Fault Refusal :=
  .next (st.on (fun b => b.onKeeper (fun b => b.sspDiscard edges soon)))
/-- KP_RD_ACCESS (R457): with a value a write, without one a read. -/
def execKpRdAccess (w : Option Word) (e : Bool) (st : State) : Host.Outcome State Fault Refusal :=
  .next (st.on (fun b => match w with
    | some v => b.kpWrite (v.toNat % 2 ^ 32)
    | none => let r := b.kpRead e; { r.1 with host := { r.1.host with lastRead := [r.2] } }))
/-- KEEPER_SERVE (R411). -/
def execKeeperServe (n : Fin 1024) (st : State) : Host.Outcome State Fault Refusal :=
  .next (st.on (fun b => b.onKeeper (fun b => b.keeperServe n)))

end Sys2Proof.Machine
end

