-- ==== Sys2Proof/Machine/RegAccess.lean ====
section
/-!
DEFINITION. Reads and writes of BAR0 (R5 to R8, R353, R356, R357) and READ_REGS (R369, R370): every register by its access code, and the
registers whose write or read does more by the operation that does it.
-/
namespace Sys2Proof.Machine
namespace Block

/-- The configuration-error fault source of the block at offset `a` (R8, R391). -/
def cfgSource (a : Nat) : Nat :=
  if a < 0x10000 then 400
  else if a < 0x90000 then 400 + a / 0x10000
  else if a < 0xA0000 then 409
  else if a < 0xB0000 then 410
  else if a < 0xC0000 then 411
  else if a < 0x100000 then 412
  else if a < 0x200000 then 272 + (a - 0x100000) / 0x10000
  else if a < 0x310000 then (a - 0x200000) / 0x1000
  else if a < 0x422000 then 322 + (a - 0x400000) / 0x1000
  else 409

/-! ### Writes -/

/-- The field as the word `v` would leave it: a reserved encoding keeps the previous value (R8). -/
def wouldBe (b : Block) (base v : Nat) (F : Fld) : Nat := if F.ok (bits v F.lo F.w) then bits v F.lo F.w else b.get base F

/-- One field of a write of the word `v` under generation `gen`, by its access code (R5, R8). -/
def fieldWrite (base v gen : Nat) (bad : Fld → Bool) (b : Block) (F : Fld) : Block :=
  let x := bits v F.lo F.w
  match F.acc with
  | .rw => if bad F then b else b.set base F x
  | .rws => if bad F then b else { b.setSh base F x with tags := Sparse.set 0 (fkey base F) (gen + 1) b.tags }
  | .w1c => b.set base F (b.get base F &&& (2 ^ F.w - 1 - x))
  | .ro | .wo | .rc => b

/-- A register's fields written (R5, R8, R318). `keep` names further fields, by their lowest bits, that carry a reserved combination. A write
tagged with another generation than that of the pending commit leaves a register that it staged alone. -/
def plainWrite (b : Block) (base : Nat) (d : RegDef) (v : Nat) (keep : List Nat) : Block :=
  let gen := b.get 0 STAGE_GEN.GEN
  let src := cfgSource (base + d.off)
  let staged := d.flds.any (fun F => F.acc == .rws)
  let guarded := (b.sync.commit.map (fun c => gen != c.gen &&
    d.flds.any (fun F => F.acc == .rws && Sparse.get 0 (fkey base F) b.tags == c.gen + 1))).getD false
  if guarded then b.fault src 0
  else
    let bad : Fld → Bool := fun F => (F.acc == .rw || F.acc == .rws || F.acc == .wo) && (!F.ok (bits v F.lo F.w) || keep.contains F.lo)
    let anyBad := d.flds.any bad
    let b := d.flds.foldl (fieldWrite base v gen bad) b
    let b := if staged && !anyBad && gen == (b.get 0 MODE_GEN.GEN + 1) % 65536 then b.count 0 COMMIT_STAT.WCNT 1 else b
    (b.kPendSync).faultIf anyBad src 0

/-- A write that breaks a condition is ignored and reported (R8). -/
def ifAllowed (b : Block) (c : Bool) (a : Nat) (r : Block) : Block := if c then r else b.fault (cfgSource a) 0

/-- A register of the host-queue block (ch. 18). -/
def hostqWrite (b : Block) (base : Nat) (d : RegDef) (v : Nat) : Block :=
  if d.off = Q_CFG.EN.off then b.qCfgWrite (base / 32) v
  else if d.off = Q_SQBASE.ADDR.off then
    b.ifAllowed (!b.flag base Q_CFG.EN || bits v 6 58 == b.get base Q_SQBASE.ADDR) d.off (b.plainWrite base d v [])
  else if d.off = Q_CQBASE.ADDR.off then
    b.ifAllowed (!b.flag base Q_CFG.EN || bits v 6 58 == b.get base Q_CQBASE.ADDR) d.off (b.plainWrite base d v [])
  else if d.off = Q_SQDB.INDEX.off then b.sqDoorbell (base / 16) v
  else if d.off = Q_CQDB.INDEX.off then b.cqDoorbell (base / 16) v
  else if d.off = OPSTAT.FREE.off then (if bit v 59 then b.slotFree (base / 8) else b)
  else if d.off = PTM_CTRL.REQ.off then
    let b := b.plainWrite base d v []
    if bit v 1 then b.ptmStart else b
  else b.plainWrite base d v []

/-- A register of the interrupt controller (ch. 19). -/
def icWrite (b : Block) (base : Nat) (d : RegDef) (v : Nat) : Block :=
  if d.off = IC_PEND.BITS.off then b.icPendClear (base / 8) v
  else if d.off = IC_EN.BITS.off then b.icEnSetTo (base / 8) v
  else if d.off = IC_EN_SET.BITS.off then b.icEnSet (base / 8) v
  else if d.off = IC_EN_CLR.BITS.off then b.icEnClr (base / 8) v
  else if d.off = IC_RAISE.SRC.off then b.icRaise v
  else if d.off = IC_HOSTIDLE_SET.BITS.off then b.hostIdleSet v
  else if d.off = IC_HOSTIDLE_CLR.BITS.off then b.hostIdleClr v
  else if d.off = IC_ROUTE.TARGET.off then b.icRouteWrite (base / 8) v
  else b.plainWrite base d v []

/-- A register of fault collection, with the clear input and the Keeper's window (ch. 4, 20, 23). -/
def fcWrite (b : Block) (base : Nat) (d : RegDef) (v : Nat) : Block :=
  if d.off = FC_STICKY.BITS.off then b.stickyWrite (base / 8) v
  else if d.off = FC_RECOVER.GO.off then b.recoverWrite v
  else if d.off = FC_CFG.BASE.off then b.fcCfgWrite (base / 8) v
  else if d.off = CLR_REL.REL.off then (if bit v 0 then b.clrRelease else b)
  else if d.off = KP_RD.DATA.off then b.kpWrite (v % 2 ^ 32)
  else if d.off = FC_CTRL.ALIVE_SCOPE.off then (b.plainWrite base d v []).aliveSync
  else b.plainWrite base d v []

/-- A register of the sync block (ch. 15). -/
def syncWrite (b : Block) (base : Nat) (d : RegDef) (v : Nat) : Block :=
  if d.off = SYNC_CMD.ISSUE.off then
    let b := if bit v 0 then b.syncIssue else b
    if bit v 1 then b.syncLocal else b
  else if d.off = TRG_OUT_CFG.SRC.off then
    let n := base / 8
    let marker := decide (bits v 1 2 = 2) && b.seqHeld (16 * bits v 36 4 + 7 + bits v 32 2)
    b.ifAllowed (b.trgFree n && !marker) d.off ((b.plainWrite base d v []).trgHost n (bits v 46 2))
  else b.plainWrite base d v []

/-- A register of the results block (ch. 14). -/
def resWrite (b : Block) (base : Nat) (d : RegDef) (v : Nat) : Block :=
  if d.off = RES_CTRL.EN.off then b.resCtrl v
  else if d.off = RES_CONS.COUNT.off then b.consWrite v
  else if d.off = RES_RING_BASE.ADDR.off ∨ d.off = RES_RING_SIZE.LOG2.off then
    b.ifAllowed (!b.flag 0 RES_CTRL.EN) d.off (b.plainWrite base d v [])
  else if d.off = SITE_CH.SITE.off then b.ifAllowed (bits v 0 9 + bits v 16 9 == 511) d.off (b.plainWrite base d v [])
  else b.plainWrite base d v []

/-- A register of a module block. -/
def moduleWrite (b : Block) (base : Nat) (d : RegDef) (v : Nat) : Block :=
  if d.off < 0x10000 then b.hostqWrite base d v
  else if d.off < 0x20000 then b.icWrite base d v
  else if d.off < 0x30000 then b.fcWrite base d v
  else if d.off < 0x40000 then (if d.off = TB_CTRL.COLD_BLOCK.off then (b.plainWrite base d v []).warmSync else b.plainWrite base d v [])
  else if d.off < 0x50000 then b.syncWrite base d v
  else if d.off < 0x60000 then
    if d.off = PTP_CTRL.OC_EN.off then (b.plainWrite base d v []).ptpEnable
    else if d.off = PTP_CMD.RELOCK.off then (if bit v 0 then b.ptpRelock else b)
    else b.plainWrite base d v []
  else if d.off < 0x90000 then b.plainWrite base d v []
  else if d.off < 0xA0000 then
    if d.off = HBM_CMD.QUIET.off then
      let b := if bit v 0 then b.quietWrite else b
      if bit v 1 then b.wakeWrite else b
    else b.plainWrite base d v []
  else if d.off < 0xB0000 then (if d.off = RM_CMD.GO.off then b.rmCmd v else b.plainWrite base d v [])
  else if d.off < 0xC0000 then b.resWrite base d v
  else b

/-- The registers of a sequencer and its Sower that only an idle field lets the host write (R160, R226). -/
def idleOnly (o : Nat) : Bool :=
  [SEQ_ENTRY.ENTRY.off, SEQ_EVBASE.BASE.off, SEQ_EVM.EVM.off, SEQ_TSEL.SET.off, SEQ_G.VALUE.off, SEQ_L.COUNT.off, EV_SRC.SRC.off,
    SOW_CTRL.POLICY.off, SOW_DTAG.TAG.off, SOW_DCA.ADDR.off].contains o

/-- The fields of DDS_CTRL that keep their value where NTICK would be 0 with STEP_SRC 3 (R263). -/
def ddsCtrlKeep (b : Block) (base v : Nat) : List Nat :=
  if b.wouldBe base v DDS_CTRL.NTICK = 0 ∧ b.wouldBe base v DDS_CTRL.STEP_SRC = 3 then
    (if b.get base DDS_CTRL.NTICK = 0 then [48, 0] else [48]) else []

/-- The fields of DDS_LIST that keep their value where LAST would be below FIRST (R263). -/
def ddsListKeep (b : Block) (base v : Nat) : List Nat :=
  if bits v 32 12 < bits v 0 12 then (if b.get base DDS_LIST.LAST < bits v 0 12 then [32, 0] else [32]) else []

/-- The fields of CAP_MSKA that keep their value where END would be below START (R277). -/
def capMaskKeep (b : Block) (base v : Nat) : List Nat :=
  if bits v 24 24 < bits v 0 24 then (if b.get base CAP_MSKA.END < bits v 0 24 then [24, 0] else [24]) else []

/-- The fields of CAP_CFG in a reserved combination (R265, R271, R274). -/
def capCfgKeep (b : Block) (base v : Nat) : List Nat :=
  let src := b.wouldBe base v CAP_CFG.SRC
  let mode := b.wouldBe base v CAP_CFG.MODE
  let odd := decide (src = 0 ∨ src = 3)
  let avg := decide (bits v 48 16 ≠ 0)
  (if bit v 7 && (odd || avg) then [48, 7, 0] else if avg && odd then [48, 0] else []) ++
    (if bit v 6 && decide (mode = 1 ∨ mode = 2) then [6, 4] else [])

/-- CAP_CMD (R266, R268, R273, R275, R276): FLCLR at once; the commands in the order of their bits. -/
def capCmdWrite (b : Block) (f v : Nat) : Block :=
  let b := if bit v 3 then b.failClear f else b
  if v % 8 ≠ 0 ∧ b.seqHeld (16 * f + 4) then b.fault (272 + f) 0
  else
    let b := if bit v 0 then b.capHost f 1 else b
    let b := if bit v 1 then b.capHost f 2 else b
    if bit v 2 then b.capHost f 3 else b

/-- DIG_CMD (R259, R260). -/
def digCmdWrite (b : Block) (f v : Nat) : Block :=
  let b := if bit v 0 then b.digHost f else if bit v 1 then b else b.faultIf (!b.digHostOk f) (272 + f) 0
  if bit v 1 then
    if b.digHostOk f then (if b.get (FLD f) DIG_STAT.STATE = 2 then b.capFlushAvg f else b).digAbort f else b.faultIf (!bit v 0) (272 + f) 0
  else b

/-- A register of a field block but the indirect ones (R50, R115, R137, R160, R226, R245, R248, R256, R263, R276). -/
def fieldRegWrite (b : Block) (f base : Nat) (d : RegDef) (v : Nat) : Block :=
  let a := base + d.off
  let w := b.plainWrite base d v
  let quiet := decide (b.get (FLD f) CAP_STAT.STATE = 0 ∨ b.get (FLD f) CAP_STAT.STATE = 5)
  if idleOnly d.off then b.ifAllowed (b.idle f) a (w [])
  else if d.off = LA_STAT.REARM.off then
    (if bit v 8 then (b.set base LA_STAT.SLACK_MIN 0xFFFFFF).set base LA_STAT.LA_MIN 2 else b)
  else if d.off = TS_CHK.RUN.off then (if bit v 63 then b.tsRun f else b)
  else if d.off = TIA_FCHAIN.EN.off then b.fchainWrite f v
  else if d.off = DDS_CTRL.STEP_SRC.off then
    b.ifAllowed (b.ddsHostOk f && b.get base DDS_STAT.STATE == 0) a (w (b.ddsCtrlKeep base v))
  else if d.off = DDS_LIST.FIRST.off then
    b.ifAllowed (b.ddsHostOk f && b.get base DDS_STAT.STATE == 0) a (w (b.ddsListKeep base v))
  else if d.off = DDS_OUT.BUS.off then
    b.ifAllowed (b.ddsHostOk f && (List.range 4).all (fun m => !bit v (16 + m) || b.haspOwner (16 * f + 7 + m) != 0)) a (w [])
  else if d.off = DDS_CMD.CMD.off then
    (if bits v 0 2 = 0 then b.ifAllowed (b.ddsHostOk f) a b else b.ddsHost f (bits v 0 2) (bits v 32 12))
  else if d.off = DIG_CFG.MODE.off then b.ifAllowed (b.digHostOk f) a (w [])
  else if d.off = DIG_CMD.START.off then b.digCmdWrite f v
  else if d.off = CAP_CFG.SRC.off then b.ifAllowed quiet a (w (b.capCfgKeep base v))
  else if d.off = CAP_LEN.PRE.off ∨ d.off = CAP_TRG.TSRC.off ∨ d.off = CAP_MSKB.LO.off then b.ifAllowed quiet a (w [])
  else if d.off = CAP_MSKA.START.off then b.ifAllowed quiet a (w (b.capMaskKeep base v))
  else if d.off = CAP_CMD.ARM.off then b.capCmdWrite f v
  else if d.off = CAP_SPILL.EN.off then b.spillAttach f v
  else w []

/-- A register of a slice block (R78, R86, R105, R242). -/
def sliceWrite (b : Block) (s base : Nat) (d : RegDef) (v : Nat) : Block :=
  if b.slcRole s = 1 ∨ b.slcRole s = 3 then b.fault s 0
  else if d.off = CLR_LVL.CODE.off then b.slcClearWrite s ((base - SLC s) / 8) v
  else if d.off = CLR_FV.CODE.off then b.slcClearWrite s 7 v
  else if d.off = CLR_FI.CODE.off then b.slcClearWrite s 8 v
  else if d.off = WM_CLR_TH.LO.off then b.slcClearWrite s 9 v
  else if d.off = WM_STAT.CLEAR.off then
    let b := b.plainWrite base d v []
    if bit v 12 then b.wmClear (.slice (Fin.ofNat 272 s)) else b
  else if d.off = TIA_FCTL.START.off then
    let b := b.plainWrite base d v []
    if bit v 63 then b.fctlStart s else b
  else b.plainWrite base d v []

/-- A register of a regulator block (R109, R278, R284, R290, R291). -/
def dpsWrite (b : Block) (r base : Nat) (d : RegDef) (v : Nat) : Block :=
  let role := b.get (DPS r) DPS_ID.ROLE
  if role = 1 ∨ role = 3 then b.fault (322 + r) 0
  else if d.off = DPS_CLR.CODE.off then b.dpsClearWrite r 0 v
  else if d.off = DPS_LIM.CODE.off then b.dpsClearWrite r 1 v
  else if d.off = DPS_WM_CLR_TH.LO.off then b.dpsClearWrite r 2 v
  else if d.off = DPS_BOOST.RSH.off then b.ifAllowed (!b.flag base DPS_CTRL.EN) (base + d.off) (b.plainWrite base d v [])
  else if d.off = DPS_WM_STAT.CLEAR.off then
    let b := b.plainWrite base d v []
    if bit v 12 then b.wmClear (.dps (Fin.ofNat 34 r)) else b
  else if d.off = DPS_WM_CHK.START.off then
    let b := b.plainWrite base d v []
    if bit v 63 then b.chkRequest r else b
  else b.plainWrite base d v []

/-- A discarded write is counted (R356, R357). -/
def badWrite (b : Block) (a : Nat) : Block := (b.count 0 HQ_BADWR.COUNT 1).set 0 HQ_BADWR.OFFSET a

end Block

/-- An aligned 8-byte write of `v` at offset `a` of BAR0 (R5 to R8, R224, R356). -/
def regWrite (st : State) (a v : Nat) : State :=
  if !inBlock a then st.on (fun b => b.badWrite a)
  else
    match regAt a with
    | none => st
    | some (base, d) =>
      if a < 0x100000 then st.on (fun b => b.moduleWrite base d v)
      else if a < 0x200000 then
        let f := (a - 0x100000) / 0x10000
        if d.off = SEQ_PMD.DATA.off then seqWordAccess st f (.prog (st.blk.phys f)) SEQ_PMA.ADDR 32768 (some v)
        else if d.off = SEQ_DSD.DATA.off then seqWordAccess st f (.data (st.blk.phys f)) SEQ_DSA.ADDR 1024 (some v)
        else if d.off = SOW_DCD.DATA.off then dictAccess st f (some v)
        else if d.off = DDS_LD.DATA.off then ddsListAccess st f (some v)
        else st.on (fun b => b.fieldRegWrite f base d v)
      else if a < 0x310000 then st.on (fun b => b.sliceWrite ((a - 0x200000) / 0x1000) base d v)
      else if a < 0x422000 then st.on (fun b => b.dpsWrite ((a - 0x400000) / 0x1000) base d v)
      else st

/-- A write of BAR0 of any length (R357): every other than an aligned one of 8 bytes is discarded, counted and reported. -/
def bar0Write (st : State) (a len v : Nat) : State :=
  if len = 8 ∧ a % 8 = 0 then regWrite st a v else st.on (fun b => (b.badWrite a).fault 400 0)

namespace Block

/-! ### Reads -/

/-- A register in the timing tables, or SOW_HEAD, reads the values in force where VIEW selects them (R137, R226). -/
def viewed (b : Block) (base : Nat) (F : Fld) : Bool :=
  decide (0x100000 ≤ base + F.off ∧ base + F.off < 0x200000) && b.flag (base / 0x10000 * 0x10000) TS_CTRL.VIEW

/-- A field whose value follows from others: HASP_ENT.STATE, IC_VEC.NVALID and NEXT, SITE_ACC0.MAPPED, DDS_STAT.LOOP, SOW_STAT.RESIDENT, RB_STAT.AGE
and STATE; every other one as it is held (R28, R390, R307, R247, R218, R100). -/
def fieldNow (b : Block) (base : Nat) (F : Fld) : Nat :=
  let a := base + F.off
  if 0x100000 ≤ a ∧ a < 0x200000 then
    let f := (a - 0x100000) / 0x10000
    if F.off = DDS_STAT.LOOP.off ∧ F.lo = DDS_STAT.LOOP.lo then b01 (b.ddsLoop f)
    else if F.off = SOW_STAT.RESIDENT.off ∧ F.lo = SOW_STAT.RESIDENT.lo then b.residentPages f
    else if F.off = RB_STAT.AGE.off ∧ F.lo = RB_STAT.AGE.lo then b.rbAge f
    else if F.off = RB_STAT.STATE.off ∧ F.lo = RB_STAT.STATE.lo then b.rbState f
    else b.get base F
  else if F.off = HASP_ENT.STATE.off ∧ F.lo = HASP_ENT.STATE.lo then b.haspState (base / 8)
  else if F.off = SITE_ACC0.MAPPED.off ∧ F.lo = SITE_ACC0.MAPPED.lo then b01 (b.siteMapped (base / 16))
  else if F.off = IC_VEC.NVALID.off ∧ F.lo = IC_VEC.NVALID.lo then b01 ((b.icNext (18 + base / 8)).isSome)
  else if F.off = IC_VEC.NEXT.off ∧ F.lo = IC_VEC.NEXT.lo then (b.icNext (18 + base / 8)).getD 0
  else b.get base F

/-- What a field reads as, by its access code (R5). -/
def fieldRead (b : Block) (base : Nat) (F : Fld) : Nat :=
  match F.acc with
  | .wo => 0
  | .rws => if b.viewed base F then b.get base F else b.getSh base F
  | .ro => b.fieldNow base F
  | .rw | .w1c | .rc => b.get base F

/-- The 64-bit word of a register. -/
def regWord (b : Block) (base : Nat) (d : RegDef) : Nat := d.flds.foldl (fun w F => w + b.fieldRead base F * 2 ^ F.lo) 0

/-- The RC fields of which a read of bits `lo` to `hi` covers any bit clear (R357), to the value that says that nothing was counted. -/
def rcClear (b : Block) (base : Nat) (d : RegDef) (lo hi : Nat) : Block :=
  d.flds.foldl (fun b F => if F.acc = .rc ∧ lo < F.lo + F.w ∧ F.lo ≤ hi then b.set base F (F.rst (base + F.off)) else b) b

/-- Before READY only the identity and host-queue blocks can be read (R353); a directory row that cannot be read has no content (R218). -/
def unreadable (b : Block) (a : Nat) : Bool :=
  !inBlock a || (!b.flag 0 HQ_STAT.READY && decide (0x10000 ≤ a)) ||
    (decide (0x1000000 ≤ a) && b.hbm.badRows.contains ((a - 0x1000000) / 256))

/-- The word that the last read of the block answered. -/
def answer (b : Block) : Nat := b.host.lastRead.getD 0 0

end Block

/-- The state after an access that answers in `lastRead`, and that answer. -/
def answered (st : State) : State × Nat := (st, st.blk.answer)

/-- A read of the register at the aligned offset `a` that covers its bits `lo` to `hi`: the state after it, and the register's 64-bit word. -/
def regRead (st : State) (a lo hi : Nat) : State × Nat :=
  let b := st.blk
  if b.unreadable a then (st, 2 ^ 64 - 1)
  else
    match regAt a with
    | none => (st, 0)
    | some (base, d) =>
      let plain := (st.on (fun b => b.rcClear base d lo hi), b.regWord base d)
      if a < 0x100000 then
        if d.off = HBM_REFQ.PAGE.off then answered (st.on Block.refqPop)
        else if d.off = HBM_LOST.PAGE.off then answered (st.on Block.lostPop)
        else if d.off = PTP_NOW_S.SEC.off then answered (st.on Block.ptpNowRead)
        else if d.off = PTM_STAT.OFS.off then (if lo = 0 ∧ hi = 63 then answered (st.on Block.ptmRead) else plain)
        else if d.off = PTM_TICK.VALUE.off then (st, (b.host.ptmLatch.map Prod.fst).getD (b.get 0 PTM_TICK.VALUE))
        else if d.off = PTM_HOST.VALUE.off then (st, (b.host.ptmLatch.map Prod.snd).getD (b.get 0 PTM_HOST.VALUE))
        else if d.off = KP_RD.DATA.off then
          let r := b.kpRead false
          ({ st with blk := r.1 }, r.2)
        else plain
      else if a < 0x200000 then
        let f := (a - 0x100000) / 0x10000
        if d.off = SEQ_PMD.DATA.off then answered (seqWordAccess st f (.prog (b.phys f)) SEQ_PMA.ADDR 32768 none)
        else if d.off = SEQ_DSD.DATA.off then answered (seqWordAccess st f (.data (b.phys f)) SEQ_DSA.ADDR 1024 none)
        else if d.off = SOW_DCD.DATA.off then answered (dictAccess st f none)
        else if d.off = DDS_LD.DATA.off then answered (ddsListAccess st f none)
        else if d.off = CAP_MD.DATA.off then answered (st.on (fun b => b.capMdRead f))
        else plain
      else if a < 0x310000 then
        let s := (a - 0x200000) / 0x1000
        if d.off = TIA_POP.STAMP.off then answered (st.on (fun b => b.tiaPop s))
        else if d.off = TIA_EVCNT.LOST.off then (plain.1.on (fun b => b.updTia s (fun t => { t with lostSignalled := false })), plain.2)
        else plain
      else plain

/-- A read of 4 or 8 aligned bytes of BAR0 (R357): the half or the whole of the register's word. -/
def bar0Read (st : State) (a len : Nat) : State :=
  let back := fun (r : State × Nat) (v : Nat) => r.1.on (fun b => { b with host := { b.host with lastRead := [v] } })
  if len = 8 ∧ a % 8 = 0 then
    let r := regRead st a 0 63
    back r r.2
  else if len = 4 ∧ a % 4 = 0 then
    let lo := 8 * (a % 8)
    let r := regRead st (a / 8 * 8) lo (lo + 31)
    back r (r.2 / 2 ^ lo % 2 ^ 32)
  else st

/-- `n` consecutive words of READ_REGS from offset `a` (R369, R370), with the number read from within the block that ends at `e`. -/
def regsRead (e : Nat) : Nat → State → Nat → State × List Nat × Nat
  | 0, st, _ => (st, [], 0)
  | n + 1, st, a =>
    if a < e then
      let r := regRead st a 0 63
      let t := regsRead e n r.1 (a + 8)
      (t.1, r.2 :: t.2.1, t.2.2 + 1)
    else (st, List.replicate (n + 1) (2 ^ 64 - 1), 0)

/-- READ_REGS on queue pair `q` (R364, R369, R370). -/
def readRegs (st : State) (q : Nat) : State :=
  match st.blk.cmdOf q 0x01 with
  | none => st
  | some ws =>
    let n := bits (ws.getD 1 0) 32 10
    if n = 0 ∨ 512 < n then st.on (fun b => b.complete q 0 0x02)
    else
      let a := bits (ws.getD 1 0) 0 25
      let kept := st.blk.host.lastRead
      let r := regsRead ((blockEnd a).getD 0) n st a
      r.1.on (fun b =>
        let b := { b with host := { b.host with lastRead := kept } }
        (b.hostWrite (ws.getD 2 0) r.2.1).complete q r.2.2 (if r.2.2 < n then 0x0A else 0))

/-! ### The commands -/

/-- REGISTER_WRITE (R5). -/
def execRegisterWrite (a len : Nat) (v : Word) (st : State) : Host.Outcome State Fault Refusal := .next (bar0Write st a len v.toNat)
/-- REGISTER_READ (R357). -/
def execRegisterRead (a len : Nat) (st : State) : Host.Outcome State Fault Refusal := .next (bar0Read st a len)
/-- BAR0_UNSUPPORTED_REQUEST (R357): the request completes with Unsupported Request, and the block is as before. -/
def execBar0UnsupportedRequest (_a _len : Nat) (st : State) : Host.Outcome State Fault Refusal := .next st
/-- READ_REGS (R369). -/
def execReadRegs (q : Fin 64) (st : State) : Host.Outcome State Fault Refusal := .next (readRegs st q)

end Sys2Proof.Machine
end

