-- ==== Sys2Proof/Machine/Dispatch.lean ====
section
/-! DEFINITION. The dispatch: one arm for each command, each a direct call of its meaning. -/
namespace Sys2Proof.Machine

/-- The effect of a command on everything but the queue. -/
def exec (i : Instr) (s : State) : Host.Outcome State Fault Refusal :=
  match i with
  | .registerWrite a len v => Sys2Proof.Machine.execRegisterWrite a len v s
  | .bar0UnsupportedRequest a len => Sys2Proof.Machine.execBar0UnsupportedRequest a len s
  | .bar2Write a data => Sys2Proof.Machine.execBar2Write a data s
  | .bar2Read a len => Sys2Proof.Machine.execBar2Read a len s
  | .startStep q => Sys2Proof.Machine.execStartStep q s
  | .fieldDone f => Sys2Proof.Machine.execFieldDone f s
  | .stepComplete q => Sys2Proof.Machine.execStepComplete q s
  | .boundaryWorkStart w => Sys2Proof.Machine.execBoundaryWorkStart w s
  | .tickBoundary => Sys2Proof.Machine.execTickBoundary s
  | .frameComplete f => Sys2Proof.Machine.execFrameComplete f s
  | .laRearm f => Sys2Proof.Machine.execLaRearm f s
  | .refLoss => Sys2Proof.Machine.execRefLoss s
  | .warmChange level => Sys2Proof.Machine.execWarmChange level s
  | .pllUnlock p => Sys2Proof.Machine.execPllUnlock p s
  | .tickRestart => Sys2Proof.Machine.execTickRestart s
  | .pmuConversion sl vcode icode clampI clampV => Sys2Proof.Machine.execPmuConversion sl vcode icode clampI clampV s
  | .wmSample m uv hi lo => Sys2Proof.Machine.execWmSample m uv hi lo s
  | .slewStep d => Sys2Proof.Machine.execSlewStep d s
  | .bucketDrain n => Sys2Proof.Machine.execBucketDrain n s
  | .driverLimitEntry sl => Sys2Proof.Machine.execDriverLimitEntry sl s
  | .driverOverload sl => Sys2Proof.Machine.execDriverOverload sl s
  | .clampEntry sl volt => Sys2Proof.Machine.execClampEntry sl volt s
  | .pathRangeDrop sl => Sys2Proof.Machine.execPathRangeDrop sl s
  | .pathSwitchChangeover sl => Sys2Proof.Machine.execPathSwitchChangeover sl s
  | .pathHoldEnd sl => Sys2Proof.Machine.execPathHoldEnd sl s
  | .boltSwitchOpen sl => Sys2Proof.Machine.execBoltSwitchOpen sl s
  | .sliceSubstitution sl => Sys2Proof.Machine.execSliceSubstitution sl s
  | .substWornRetire f => Sys2Proof.Machine.execSubstWornRetire f s
  | .substSpareConnect f => Sys2Proof.Machine.execSubstSpareConnect f s
  | .substSpareRestore f => Sys2Proof.Machine.execSubstSpareRestore f s
  | .clrNAssert => Sys2Proof.Machine.execClrNAssert s
  | .clrNDeassert => Sys2Proof.Machine.execClrNDeassert s
  | .clrRel => Sys2Proof.Machine.execClrRel s
  | .clearReleaseApply => Sys2Proof.Machine.execClearReleaseApply s
  | .generatorStart g => Sys2Proof.Machine.execGeneratorStart g s
  | .generatorStep g => Sys2Proof.Machine.execGeneratorStep g s
  | .readbackSlot f uv => Sys2Proof.Machine.execReadbackSlot f uv s
  | .readbackOverdue f => Sys2Proof.Machine.execReadbackOverdue f s
  | .wmClear m => Sys2Proof.Machine.execWmClear m s
  | .dpsWmChkStart r => Sys2Proof.Machine.execDpsWmChkStart r s
  | .dpsSelfcheckAutoStart r => Sys2Proof.Machine.execDpsSelfcheckAutoStart r s
  | .vectorStart f upTo within after => Sys2Proof.Machine.execVectorStart f upTo within after s
  | .vectorJudged f => Sys2Proof.Machine.execVectorJudged f s
  | .tsChkRun f => Sys2Proof.Machine.execTsChkRun f s
  | .tsChkDone f => Sys2Proof.Machine.execTsChkDone f s
  | .nop f e => Sys2Proof.Machine.execNop f e s
  | .endI f e => Sys2Proof.Machine.execEndI f e s
  | .jmp f e => Sys2Proof.Machine.execJmp f e s
  | .callI f e => Sys2Proof.Machine.execCallI f e s
  | .ret f e => Sys2Proof.Machine.execRet f e s
  | .rete f e => Sys2Proof.Machine.execRete f e s
  | .loopI f e => Sys2Proof.Machine.execLoopI f e s
  | .ldl f e => Sys2Proof.Machine.execLdl f e s
  | .waitev f e => Sys2Proof.Machine.execWaitev f e s
  | .waitevTimeout x => Sys2Proof.Machine.execWaitevTimeout x s
  | .syncf f e => Sys2Proof.Machine.execSyncf f e s
  | .waitt f e => Sys2Proof.Machine.execWaitt f e s
  | .tickWaitEnd x => Sys2Proof.Machine.execTickWaitEnd x s
  | .add f e => Sys2Proof.Machine.execAdd f e s
  | .subI f e => Sys2Proof.Machine.execSubI f e s
  | .addi f e => Sys2Proof.Machine.execAddi f e s
  | .mul f e => Sys2Proof.Machine.execMul f e s
  | .andI f e => Sys2Proof.Machine.execAndI f e s
  | .orI f e => Sys2Proof.Machine.execOrI f e s
  | .xorI f e => Sys2Proof.Machine.execXorI f e s
  | .shl f e => Sys2Proof.Machine.execShl f e s
  | .shr f e => Sys2Proof.Machine.execShr f e s
  | .sar f e => Sys2Proof.Machine.execSar f e s
  | .cmp f e => Sys2Proof.Machine.execCmp f e s
  | .cmpi f e => Sys2Proof.Machine.execCmpi f e s
  | .mov f e => Sys2Proof.Machine.execMov f e s
  | .movi f e => Sys2Proof.Machine.execMovi f e s
  | .movhi f e => Sys2Proof.Machine.execMovhi f e s
  | .ext f e => Sys2Proof.Machine.execExt f e s
  | .mfs f e => Sys2Proof.Machine.execMfs f e s
  | .mts f e => Sys2Proof.Machine.execMts f e s
  | .ldd f e => Sys2Proof.Machine.execLdd f e s
  | .std f e => Sys2Proof.Machine.execStd f e s
  | .ldh f e => Sys2Proof.Machine.execLdh f e s
  | .hbmDataArrival x => Sys2Proof.Machine.execHbmDataArrival x s
  | .tseli f e => Sys2Proof.Machine.execTseli f e s
  | .tselr f e => Sys2Proof.Machine.execTselr f e s
  | .play f e => Sys2Proof.Machine.execPlay f e s
  | .fallow f e => Sys2Proof.Machine.execFallow f e s
  | .sjmp f e => Sys2Proof.Machine.execSjmp f e s
  | .sjmpApply f => Sys2Proof.Machine.execSjmpApply f s
  | .syncs f e => Sys2Proof.Machine.execSyncs f e s
  | .setlvl f e => Sys2Proof.Machine.execSetlvl f e s
  | .setpmu f e => Sys2Proof.Machine.execSetpmu f e s
  | .setslc f e => Sys2Proof.Machine.execSetslc f e s
  | .setslew f e => Sys2Proof.Machine.execSetslew f e s
  | .setgen f e => Sys2Proof.Machine.execSetgen f e s
  | .setwm f e => Sys2Proof.Machine.execSetwm f e s
  | .setdps f e => Sys2Proof.Machine.execSetdps f e s
  | .meas f e => Sys2Proof.Machine.execMeas f e s
  | .verd f e => Sys2Proof.Machine.execVerd f e s
  | .verdall f e => Sys2Proof.Machine.execVerdall f e s
  | .limit f e => Sys2Proof.Machine.execLimit f e s
  | .fmask f e => Sys2Proof.Machine.execFmask f e s
  | .tiastamp f e => Sys2Proof.Machine.execTiastamp f e s
  | .freq f e => Sys2Proof.Machine.execFreq f e s
  | .freqrd f e => Sys2Proof.Machine.execFreqrd f e s
  | .carm f e => Sys2Proof.Machine.execCarm f e s
  | .ctrig f e => Sys2Proof.Machine.execCtrig f e s
  | .cstop f e => Sys2Proof.Machine.execCstop f e s
  | .trgout f e => Sys2Proof.Machine.execTrgout f e s
  | .ddsrun f e => Sys2Proof.Machine.execDdsrun f e s
  | .ddsstep f e => Sys2Proof.Machine.execDdsstep f e s
  | .ddsstop f e => Sys2Proof.Machine.execDdsstop f e s
  | .digacq f e => Sys2Proof.Machine.execDigacq f e s
  | .hconn f e => Sys2Proof.Machine.execHconn f e s
  | .result f e => Sys2Proof.Machine.execResult f e s
  | .binI f e => Sys2Proof.Machine.execBinI f e s
  | .signalI f e => Sys2Proof.Machine.execSignalI f e s
  | .evack f e => Sys2Proof.Machine.execEvack f e s
  | .hclaim f e => Sys2Proof.Machine.execHclaim f e s
  | .hrel f e => Sys2Proof.Machine.execHrel f e s
  | .sweep f e => Sys2Proof.Machine.execSweep f e s
  | .searchI f e => Sys2Proof.Machine.execSearchI f e s
  | .measall f e => Sys2Proof.Machine.execMeasall f e s
  | .bmove f e => Sys2Proof.Machine.execBmove f e s
  | .eventService x => Sys2Proof.Machine.execEventService x s
  | .scrubRead p store ua err replayErr => Sys2Proof.Machine.execScrubRead p store ua err replayErr s
  | .sequencerTakeover f => Sys2Proof.Machine.execSequencerTakeover f s
  | .takeoverDone f ok => Sys2Proof.Machine.execTakeoverDone f ok s
  | .seqPmdAccess f w => Sys2Proof.Machine.execSeqPmdAccess f w s
  | .seqDsdAccess f w => Sys2Proof.Machine.execSeqDsdAccess f w s
  | .sowerExpand f dictErr => Sys2Proof.Machine.execSowerExpand f dictErr s
  | .pageFetchComplete f dirErr => Sys2Proof.Machine.execPageFetchComplete f dirErr s
  | .segAlloc q dirErr => Sys2Proof.Machine.execSegAlloc q dirErr s
  | .segSeal q dirErr => Sys2Proof.Machine.execSegSeal q dirErr s
  | .segUnseal q dirErr => Sys2Proof.Machine.execSegUnseal q dirErr s
  | .segFree q dirErr => Sys2Proof.Machine.execSegFree q dirErr s
  | .segFreeDone k => Sys2Proof.Machine.execSegFreeDone k s
  | .sowDcdAccess f w => Sys2Proof.Machine.execSowDcdAccess f w s
  | .tiaEdge sl uv ofs => Sys2Proof.Machine.execTiaEdge sl uv ofs s
  | .stampWrite f => Sys2Proof.Machine.execStampWrite f s
  | .stampFlush f => Sys2Proof.Machine.execStampFlush f s
  | .tiaFchainWrite f v => Sys2Proof.Machine.execTiaFchainWrite f v s
  | .stampChainDetach f => Sys2Proof.Machine.execStampChainDetach f s
  | .tiaPop sl => Sys2Proof.Machine.execTiaPop sl s
  | .tiaCalibration sl one two => Sys2Proof.Machine.execTiaCalibration sl one two s
  | .dllLock sl => Sys2Proof.Machine.execDllLock sl s
  | .dllLockDone sl => Sys2Proof.Machine.execDllLockDone sl s
  | .freqGateOpen sl => Sys2Proof.Machine.execFreqGateOpen sl s
  | .freqGateEnd sl => Sys2Proof.Machine.execFreqGateEnd sl s
  | .freqResult sl => Sys2Proof.Machine.execFreqResult sl s
  | .tiaFctlStart sl => Sys2Proof.Machine.execTiaFctlStart sl s
  | .ddsCmdRun f entry => Sys2Proof.Machine.execDdsCmdRun f entry s
  | .ddsCmdStep f => Sys2Proof.Machine.execDdsCmdStep f s
  | .ddsCmdStop f => Sys2Proof.Machine.execDdsCmdStop f s
  | .ddsRunApply f => Sys2Proof.Machine.execDdsRunApply f s
  | .ddsStepApply f => Sys2Proof.Machine.execDdsStepApply f s
  | .ddsStopApply f => Sys2Proof.Machine.execDdsStopApply f s
  | .ddsTickCountStep f => Sys2Proof.Machine.execDdsTickCountStep f s
  | .ddsLdAccess f w => Sys2Proof.Machine.execDdsLdAccess f w s
  | .digCmdStart f => Sys2Proof.Machine.execDigCmdStart f s
  | .digCmdAbort f => Sys2Proof.Machine.execDigCmdAbort f s
  | .digAcqStart f => Sys2Proof.Machine.execDigAcqStart f s
  | .digResults f codes level n => Sys2Proof.Machine.execDigResults f codes level n s
  | .capCmdArm f => Sys2Proof.Machine.execCapCmdArm f s
  | .capCmdTrig f => Sys2Proof.Machine.execCapCmdTrig f s
  | .capCmdStop f => Sys2Proof.Machine.execCapCmdStop f s
  | .capCmdFlclr f => Sys2Proof.Machine.execCapCmdFlclr f s
  | .captureArmApply f => Sys2Proof.Machine.execCaptureArmApply f s
  | .captureEntry f code => Sys2Proof.Machine.execCaptureEntry f code s
  | .captureTrigger f => Sys2Proof.Machine.execCaptureTrigger f s
  | .captureAutoTimeout f => Sys2Proof.Machine.execCaptureAutoTimeout f s
  | .captureStopApply f => Sys2Proof.Machine.execCaptureStopApply f s
  | .spillWrite f => Sys2Proof.Machine.execSpillWrite f s
  | .capMdRead f => Sys2Proof.Machine.execCapMdRead f s
  | .dpsConnect r => Sys2Proof.Machine.execDpsConnect r s
  | .dpsDisconnect r => Sys2Proof.Machine.execDpsDisconnect r s
  | .dpsConversion r vcode icode clamp => Sys2Proof.Machine.execDpsConversion r vcode icode clamp s
  | .dpsSenseOpen r => Sys2Proof.Machine.execDpsSenseOpen r s
  | .dpsClampEntry x => Sys2Proof.Machine.execDpsClampEntry x s
  | .dpsOverload r => Sys2Proof.Machine.execDpsOverload r s
  | .dpsGateLimit r => Sys2Proof.Machine.execDpsGateLimit r s
  | .dpsBoltGroup => Sys2Proof.Machine.execDpsBoltGroup s
  | .dpsSubstitution r => Sys2Proof.Machine.execDpsSubstitution r s
  | .ringWrite => Sys2Proof.Machine.execRingWrite s
  | .notificationEnqueue => Sys2Proof.Machine.execNotificationEnqueue s
  | .resConsWrite v => Sys2Proof.Machine.execResConsWrite v s
  | .resCtrlWrite v => Sys2Proof.Machine.execResCtrlWrite v s
  | .waferOpen q => Sys2Proof.Machine.execWaferOpen q s
  | .waferSign q => Sys2Proof.Machine.execWaferSign q s
  | .waferSignDone k => Sys2Proof.Machine.execWaferSignDone k s
  | .skewCal q => Sys2Proof.Machine.execSkewCal q s
  | .skewCalDone k pairs => Sys2Proof.Machine.execSkewCalDone k pairs s
  | .syncIssue => Sys2Proof.Machine.execSyncIssue s
  | .syncLocal => Sys2Proof.Machine.execSyncLocal s
  | .syncPulseSample isLocal wide => Sys2Proof.Machine.execSyncPulseSample isLocal wide s
  | .syncB0 => Sys2Proof.Machine.execSyncB0 s
  | .autoLocalPulse => Sys2Proof.Machine.execAutoLocalPulse s
  | .trgOutCmd n c => Sys2Proof.Machine.execTrgOutCmd n c s
  | .trigOutPulseEnd n => Sys2Proof.Machine.execTrigOutPulseEnd n s
  | .trigInEdge n rising x => Sys2Proof.Machine.execTrigInEdge n rising x s
  | .commit q => Sys2Proof.Machine.execCommit q s
  | .commitReadiness => Sys2Proof.Machine.execCommitReadiness s
  | .holdRelease => Sys2Proof.Machine.execHoldRelease s
  | .holdSample high => Sys2Proof.Machine.execHoldSample high s
  | .commitApply => Sys2Proof.Machine.execCommitApply s
  | .ethFrameRx p fr => Sys2Proof.Machine.execEthFrameRx p fr s
  | .ethFrameForward p res => Sys2Proof.Machine.execEthFrameForward p res s
  | .followUpTimeout p => Sys2Proof.Machine.execFollowUpTimeout p s
  | .ethLinkChange p up => Sys2Proof.Machine.execEthLinkChange p up s
  | .ptpAnnounceRx p m => Sys2Proof.Machine.execPtpAnnounceRx p m s
  | .ptpSyncRx p m => Sys2Proof.Machine.execPtpSyncRx p m s
  | .ptpFollowUpRx p m => Sys2Proof.Machine.execPtpFollowUpRx p m s
  | .ptpDelayRespRx p m => Sys2Proof.Machine.execPtpDelayRespRx p m s
  | .ptpStep => Sys2Proof.Machine.execPtpStep s
  | .ptpHoldover => Sys2Proof.Machine.execPtpHoldover s
  | .ptpRelock => Sys2Proof.Machine.execPtpRelock s
  | .ptpNowRead => Sys2Proof.Machine.execPtpNowRead s
  | .hbmGrant p bad err => Sys2Proof.Machine.execHbmGrant p bad err s
  | .pageRetireSwitch x => Sys2Proof.Machine.execPageRetireSwitch x s
  | .pageRefetch q => Sys2Proof.Machine.execPageRefetch q s
  | .pageRefetchDone page data ok => Sys2Proof.Machine.execPageRefetchDone page data ok s
  | .hbmLatencyFault port => Sys2Proof.Machine.execHbmLatencyFault port s
  | .refreshInterval p => Sys2Proof.Machine.execRefreshInterval p s
  | .hbmTempReadout t => Sys2Proof.Machine.execHbmTempReadout t s
  | .hbmTrain q => Sys2Proof.Machine.execHbmTrain q s
  | .hbmRetrain => Sys2Proof.Machine.execHbmRetrain s
  | .hbmTrainDone eyes => Sys2Proof.Machine.execHbmTrainDone eyes s
  | .pcEvacuated p => Sys2Proof.Machine.execPcEvacuated p s
  | .hbmCmdQuiet => Sys2Proof.Machine.execHbmCmdQuiet s
  | .hbmCmdWake => Sys2Proof.Machine.execHbmCmdWake s
  | .quietEntered => Sys2Proof.Machine.execQuietEntered s
  | .quietExited => Sys2Proof.Machine.execQuietExited s
  | .hbmRefqPop => Sys2Proof.Machine.execHbmRefqPop s
  | .hbmLostPop => Sys2Proof.Machine.execHbmLostPop s
  | .perstAssert => Sys2Proof.Machine.execPerstAssert s
  | .perstDeassert b => Sys2Proof.Machine.execPerstDeassert b s
  | .bootReady ms => Sys2Proof.Machine.execBootReady ms s
  | .linkDown => Sys2Proof.Machine.execLinkDown s
  | .linkUp gen width => Sys2Proof.Machine.execLinkUp gen width s
  | .sqDoorbell q v => Sys2Proof.Machine.execSqDoorbell q v s
  | .cqDoorbell q v => Sys2Proof.Machine.execCqDoorbell q v s
  | .sqFetch q entry bad => Sys2Proof.Machine.execSqFetch q entry bad s
  | .cqWrite q bad => Sys2Proof.Machine.execCqWrite q bad s
  | .qCfgWrite q v => Sys2Proof.Machine.execQCfgWrite q v s
  | .readRegs q => Sys2Proof.Machine.execReadRegs q s
  | .progLoad q img => Sys2Proof.Machine.execProgLoad q img s
  | .haspClaim q => Sys2Proof.Machine.execHaspClaim q s
  | .haspRelease q => Sys2Proof.Machine.execHaspRelease q s
  | .pageDma q => Sys2Proof.Machine.execPageDma q s
  | .pageDmaDone k data bad => Sys2Proof.Machine.execPageDmaDone k data bad s
  | .longOpStart k => Sys2Proof.Machine.execLongOpStart k s
  | .opstatFree k => Sys2Proof.Machine.execOpstatFree k s
  | .ptmReq => Sys2Proof.Machine.execPtmReq s
  | .ptmAuto => Sys2Proof.Machine.execPtmAuto s
  | .ptmExchangeDone host ofs => Sys2Proof.Machine.execPtmExchangeDone host ofs s
  | .ptmStatRead => Sys2Proof.Machine.execPtmStatRead s
  | .d3hotEnter => Sys2Proof.Machine.execD3hotEnter s
  | .d0Return => Sys2Proof.Machine.execD0Return s
  | .l1Enter => Sys2Proof.Machine.execL1Enter s
  | .l1Exit => Sys2Proof.Machine.execL1Exit s
  | .icRaise v => Sys2Proof.Machine.execIcRaise v s
  | .icPendClear idx v => Sys2Proof.Machine.execIcPendClear idx v s
  | .icEnSet idx v => Sys2Proof.Machine.execIcEnSet idx v s
  | .icEnClr idx v => Sys2Proof.Machine.execIcEnClr idx v s
  | .icRouteWrite n v => Sys2Proof.Machine.execIcRouteWrite n v s
  | .icHostidleSet v => Sys2Proof.Machine.execIcHostidleSet v s
  | .icHostidleClr v => Sys2Proof.Machine.execIcHostidleClr v s
  | .moderationStep => Sys2Proof.Machine.execModerationStep s
  | .msixMaskWrite v mask => Sys2Proof.Machine.execMsixMaskWrite v mask s
  | .fcRecover v => Sys2Proof.Machine.execFcRecover v s
  | .recoveryApply => Sys2Proof.Machine.execRecoveryApply s
  | .fcCfgWrite n v => Sys2Proof.Machine.execFcCfgWrite n v s
  | .fcStickyClear idx v => Sys2Proof.Machine.execFcStickyClear idx v s
  | .aliveToggle => Sys2Proof.Machine.execAliveToggle s
  | .heartbeatLoss => Sys2Proof.Machine.execHeartbeatLoss s
  | .rmCmd v => Sys2Proof.Machine.execRmCmd v s
  | .laneRepair d out => Sys2Proof.Machine.execLaneRepair d out s
  | .d2dParityError d lane replays persistent => Sys2Proof.Machine.execD2dParityError d lane replays persistent s
  | .repairMapSave => Sys2Proof.Machine.execRepairMapSave s
  | .repairMapSaveDone ok => Sys2Proof.Machine.execRepairMapSaveDone ok s
  | .tempSample f t => Sys2Proof.Machine.execTempSample f t s
  | .calTaskStart refOk => Sys2Proof.Machine.execCalTaskStart refOk s
  | .calTaskEnd m => Sys2Proof.Machine.execCalTaskEnd m s
  | .calRun q => Sys2Proof.Machine.execCalRun q s
  | .calRunDone k => Sys2Proof.Machine.execCalRunDone k s
  | .patchLoad q img => Sys2Proof.Machine.execPatchLoad q img s
  | .patchActivate => Sys2Proof.Machine.execPatchActivate s
  | .patchLoadDone k stuck => Sys2Proof.Machine.execPatchLoadDone k stuck s
  | .flashJobStart => Sys2Proof.Machine.execFlashJobStart s
  | .flashJobDone ok a => Sys2Proof.Machine.execFlashJobDone ok a s
  | .krChallenge q nonce => Sys2Proof.Machine.execKrChallenge q nonce s
  | .krLogin q resp => Sys2Proof.Machine.execKrLogin q resp s
  | .krLogout q => Sys2Proof.Machine.execKrLogout q s
  | .nonceExpiry q => Sys2Proof.Machine.execNonceExpiry q s
  | .lockoutExpiry co => Sys2Proof.Machine.execLockoutExpiry co s
  | .krProvision q co user kek => Sys2Proof.Machine.execKrProvision q co user kek s
  | .krProvisionDone k => Sys2Proof.Machine.execKrProvisionDone k s
  | .krKeyImport q key => Sys2Proof.Machine.execKrKeyImport q key s
  | .krStreamImport q keyTag plen => Sys2Proof.Machine.execKrStreamImport q keyTag plen s
  | .krStreamImportDone k plain => Sys2Proof.Machine.execKrStreamImportDone k plain s
  | .krKeyClear q => Sys2Proof.Machine.execKrKeyClear q s
  | .krAttest q => Sys2Proof.Machine.execKrAttest q s
  | .krAttestDone k => Sys2Proof.Machine.execKrAttestDone k s
  | .krZeroise q => Sys2Proof.Machine.execKrZeroise q s
  | .krZeroiseDone k => Sys2Proof.Machine.execKrZeroiseDone k s
  | .krSelftest q => Sys2Proof.Machine.execKrSelftest q s
  | .krSelftestDone k ok => Sys2Proof.Machine.execKrSelftestDone k ok s
  | .entropyFail => Sys2Proof.Machine.execEntropyFail s
  | .fwUpdate q img => Sys2Proof.Machine.execFwUpdate q img s
  | .fwUpdateDone k => Sys2Proof.Machine.execFwUpdateDone k s
  | .clrStore q img => Sys2Proof.Machine.execClrStore q img s
  | .clrStoreDone k => Sys2Proof.Machine.execClrStoreDone k s
  | .returnPrep q => Sys2Proof.Machine.execReturnPrep q s
  | .returnPrepDone k => Sys2Proof.Machine.execReturnPrepDone k s
  | .krCertRead q => Sys2Proof.Machine.execKrCertRead q s
  | .krUnlock q tok => Sys2Proof.Machine.execKrUnlock q tok s
  | .krUnlockDone k => Sys2Proof.Machine.execKrUnlockDone k s
  | .sspNop a d => Sys2Proof.Machine.execSspNop a d s
  | .sspRead a d ramErr => Sys2Proof.Machine.execSspRead a d ramErr s
  | .sspReadNext a d ramErr => Sys2Proof.Machine.execSspReadNext a d ramErr s
  | .sspWrite a d => Sys2Proof.Machine.execSspWrite a d s
  | .sspBoltArm a d => Sys2Proof.Machine.execSspBoltArm a d s
  | .sspBolt a d => Sys2Proof.Machine.execSspBolt a d s
  | .sspFrameDiscard edges soon => Sys2Proof.Machine.execSspFrameDiscard edges soon s
  | .kpRdAccess w ramErr => Sys2Proof.Machine.execKpRdAccess w ramErr s
  | .keeperServe n => Sys2Proof.Machine.execKeeperServe n s
  | .vauxPowerUp => Sys2Proof.Machine.execVauxPowerUp s
  | .vauxLoss => Sys2Proof.Machine.execVauxLoss s
  | .mainValid => Sys2Proof.Machine.execMainValid s
  | .railFault rail => Sys2Proof.Machine.execRailFault rail s
  | .railOrderViolation rail => Sys2Proof.Machine.execRailOrderViolation rail s
  | .peLocalBolt d => Sys2Proof.Machine.execPeLocalBolt d s
  | .pllLock => Sys2Proof.Machine.execPllLock s
  | .driverLimitExit sl => Sys2Proof.Machine.execDriverLimitExit sl s
  | .clampExit sl volt => Sys2Proof.Machine.execClampExit sl volt s
  | .dpsClampExit r => Sys2Proof.Machine.execDpsClampExit r s
  | .registerRead a len => Sys2Proof.Machine.execRegisterRead a len s
  | .illegalOpcode f e => Sys2Proof.Machine.execIllegalOpcode f e s
  | .coreReset => Sys2Proof.Machine.execCoreReset s
  | .laneRepairDone x => Sys2Proof.Machine.execLaneRepairDone x s

end Sys2Proof.Machine
end

