-- ==== Sys2Proof/Safety.lean ====
section
/-!
DEFINITION. What a run must not do, in the terms in which statements speak of it.
-/
namespace Sys2Proof.Machine

/-- The invariant of the block's memories: the canonical form (rising addresses, no listed zero byte), so that equal contents are equal data. -/
def Inv (s : State) : Prop := Memory.wf s.mem

/-- The outcome is a next state. -/
def Runs (o : Host.Outcome State Fault Refusal) : Prop := ∃ t, o = .next t

/-- The outcome is a next state with the property `P`. -/
def Yields (o : Host.Outcome State Fault Refusal) (P : State → Prop) : Prop := ∃ t, o = .next t ∧ P t

/-- The queue of waiting commands and every byte of memory are as before. -/
def SameStore (s t : State) : Prop := t.pending = s.pending ∧ t.mem = s.mem

/-- Every register field but those with the listed keys is as before. -/
def SameRegsBut (ks : List Nat) (s t : State) : Prop :=
  ∀ base F, fkey base F ∉ ks → t.blk.get base F = s.blk.get base F

/-- The microword with which field `f` starts what stands at PC, of opcode `op`, reads well: the scrub has not found it bad (R195, R198). -/
def FirstReads (s : State) (f op : Nat) : Prop :=
  (s.blk.uWalk (s.blk.phys f) (s.blk.firstWord f op) false .none).check = none

/-- Field `f` is about to execute `h`, an instruction of opcode `op`: a step runs there, its frame is open, no wait holds the sequencer,
no event service is due, the microword that starts it reads well, and the word at PC reads as `h` (R140 to R142, R145, R152, R198). -/
def Ready (s : State) (f op : Nat) (h : Halyr) : Prop :=
  s.blk.seqLive f = true ∧ (s.blk.seq f).opened = true ∧ (s.blk.seq f).wait = none ∧ s.blk.dueLine f = none ∧ FirstReads s f op ∧
    bits (s.instrWord f) 56 8 = op ∧ decodeWord (s.instrWord f) = .ok h

/-- The state after an instruction of field `f` that has done `g` in `n` core cycles and goes on at the next address: the end of an
instruction (R145, R146) follows. -/
def executed (s : State) (f n : Nat) (g : Block → Block) : State :=
  s.on (fun b => (((g b).spend f n).pcNext f).seqEpilogue f)

/-- The state after an instruction of field `f` that has done `g`, PC and cycles included. -/
def carriedOut (s : State) (f : Nat) (g : Block → Block) : State := s.on (fun b => (g b).seqEpilogue f)

/-- The state after the program fault `cause` of field `f` (R158). -/
def faulted (s : State) (f cause : Nat) : State := s.on (fun b => b.progFault f cause)

/-- The memories and the microcode show no error but one of the directory, which the instruction itself judges (R218). -/
def cleanErr : SeqErr → Bool
  | .none => true
  | .dir _ => true
  | _ => false

/-- The failed directory reads that error `e` shows, 4 for a persistent one (R218). -/
def dirErr : SeqErr → Nat
  | .dir n => n
  | _ => 0

/-- The rows of the sequencer's instructions: the opcode, the row with the error that its memories and microwords show, and the effect. -/
def seqRows (f : Fin 16) : List (Nat × (SeqErr → Instr) × Effect) :=
  [(0x00, .nop f, nopEffect f), (0x01, .endI f, endEffect f), (0x02, .jmp f, jmpEffect f), (0x03, .callI f, callEffect f),
    (0x04, .ret f, retEffect f), (0x05, .rete f, reteEffect f), (0x06, .loopI f, loopEffect f), (0x07, .ldl f, ldlEffect f),
    (0x08, .waitev f, waitevEffect f), (0x09, .syncf f, syncfEffect f), (0x0A, .waitt f, waittEffect f), (0x20, .add f, aluEffect f),
    (0x21, .subI f, aluEffect f), (0x22, .addi f, addiEffect f), (0x23, .mul f, aluEffect f), (0x24, .andI f, aluEffect f),
    (0x25, .orI f, aluEffect f), (0x26, .xorI f, aluEffect f), (0x27, .shl f, shiftEffect f), (0x28, .shr f, shiftEffect f),
    (0x29, .sar f, shiftEffect f), (0x2A, .cmp f, cmpEffect f), (0x2B, .cmpi f, cmpiEffect f), (0x2C, .mov f, movEffect f),
    (0x2D, .movi f, moviEffect f), (0x2E, .movhi f, movhiEffect f), (0x2F, .ext f, extEffect f), (0x30, .mfs f, mfsEffect f),
    (0x31, .mts f, mtsEffect f), (0x32, .ldd f, lddEffect f), (0x33, .std f, stdEffect f), (0x34, .ldh f, ldhEffect f .none),
    (0x40, .tseli f, tseliEffect f), (0x41, .tselr f, tselrEffect f), (0x42, .play f, playEffect f .none),
    (0x43, .fallow f, fallowEffect f), (0x44, .sjmp f, sjmpEffect f .none), (0x45, .syncs f, syncsEffect f),
    (0x60, .setlvl f, settingEffect f), (0x61, .setpmu f, settingEffect f), (0x62, .setslc f, settingEffect f),
    (0x63, .setslew f, settingEffect f), (0x64, .setgen f, settingEffect f), (0x65, .setwm f, settingEffect f),
    (0x66, .setdps f, settingEffect f), (0x80, .meas f, measEffect f), (0x81, .verd f, verdEffect f),
    (0x82, .verdall f, verdallEffect f), (0x83, .limit f, limitEffect f), (0x84, .fmask f, fmaskEffect f),
    (0x85, .tiastamp f, tiastampEffect f), (0x86, .freq f, freqEffect f), (0x87, .freqrd f, freqrdEffect f),
    (0xA0, .carm f, carmEffect f), (0xA1, .ctrig f, ctrigEffect f), (0xA2, .cstop f, cstopEffect f), (0xA3, .trgout f, trgoutEffect f),
    (0xB0, .ddsrun f, ddsrunEffect f), (0xB1, .ddsstep f, ddsstepEffect f), (0xB2, .ddsstop f, ddsstopEffect f),
    (0xB3, .digacq f, digacqEffect f), (0xB4, .hconn f, hconnEffect f), (0xC0, .result f, resultEffect f), (0xC1, .binI f, binEffect f),
    (0xD0, .signalI f, signalEffect f), (0xD1, .evack f, evackEffect f), (0xD2, .hclaim f, hclaimEffect f),
    (0xD3, .hrel f, hrelEffect f), (0xE0, .sweep f, sweepEffect f), (0xE1, .searchI f, searchEffect f),
    (0xE2, .measall f, measallEffect f), (0xE3, .bmove f, bmoveEffect f .none)]

/-- The commands that may write a byte of one of the memories: host writes, loads and transfers, the engines that fill pages, zeroising ends, a
takeover, resets, and the instructions that store. -/
def mayStore : Instr → Bool
  | .registerWrite .. | .bar2Write .. | .seqPmdAccess .. | .seqDsdAccess .. | .sowDcdAccess .. | .ddsLdAccess .. => true
  | .progLoad .. | .pageDmaDone .. | .segFreeDone .. | .pageRefetchDone .. | .hbmGrant .. | .takeoverDone .. => true
  | .spillWrite .. | .stampWrite .. | .stampFlush .. | .pageRetireSwitch .. | .coreReset | .vauxLoss => true
  | .krStreamImportDone .. | .krZeroiseDone .. | .returnPrepDone .. => true
  | .std .. | .measall .. | .bmove .. | .tickWaitEnd .. | .hbmDataArrival .. => true
  | _ => false

/-- Offsets of the module registers whose write does more than their access codes say (R362, R363, R367, R375, R379 to R389, R91, R393, R397,
R403, R404, R457, R34, R312, R310, R330, R350, R407, R294, R304). -/
def moduleActs : List Nat :=
  [Q_CFG.EN.off, Q_SQBASE.ADDR.off, Q_CQBASE.ADDR.off, Q_SQDB.INDEX.off, Q_CQDB.INDEX.off, OPSTAT.FREE.off, PTM_CTRL.REQ.off,
    IC_PEND.BITS.off, IC_EN.BITS.off, IC_EN_SET.BITS.off, IC_EN_CLR.BITS.off, IC_RAISE.SRC.off, IC_HOSTIDLE_SET.BITS.off,
    IC_HOSTIDLE_CLR.BITS.off, IC_ROUTE.TARGET.off, FC_STICKY.BITS.off, FC_RECOVER.GO.off, FC_CFG.BASE.off, CLR_REL.REL.off, KP_RD.DATA.off,
    FC_CTRL.ALIVE_SCOPE.off, TB_CTRL.COLD_BLOCK.off, SYNC_CMD.ISSUE.off, TRG_OUT_CFG.SRC.off, PTP_CTRL.OC_EN.off, PTP_CMD.RELOCK.off,
    HBM_CMD.QUIET.off, RM_CMD.GO.off, RES_CTRL.EN.off, RES_CONS.COUNT.off, RES_RING_BASE.ADDR.off, RES_RING_SIZE.LOG2.off, SITE_CH.SITE.off]

/-- Offsets of the memory windows of a field block (R160, R208, R251). -/
def fieldWindows : List Nat := [SEQ_PMD.DATA.off, SEQ_DSD.DATA.off, SOW_DCD.DATA.off, DDS_LD.DATA.off]

/-- Offsets of the other field registers whose write does more than their access codes say (R50, R137, R160, R226, R245, R248, R256, R263,
R276). -/
def fieldActs : List Nat :=
  [SEQ_ENTRY.ENTRY.off, SEQ_EVBASE.BASE.off, SEQ_EVM.EVM.off, SEQ_TSEL.SET.off, SEQ_G.VALUE.off, SEQ_L.COUNT.off, EV_SRC.SRC.off,
    SOW_CTRL.POLICY.off, SOW_DTAG.TAG.off, SOW_DCA.ADDR.off, LA_STAT.REARM.off, TS_CHK.RUN.off, TIA_FCHAIN.EN.off, DDS_CTRL.STEP_SRC.off,
    DDS_LIST.FIRST.off, DDS_OUT.BUS.off, DDS_CMD.CMD.off, DIG_CFG.MODE.off, DIG_CMD.START.off, CAP_CFG.SRC.off, CAP_LEN.PRE.off,
    CAP_TRG.TSRC.off, CAP_MSKB.LO.off, CAP_MSKA.START.off, CAP_CMD.ARM.off, CAP_SPILL.EN.off]

/-- The same of a slice block (R86, R105, R242) and of a regulator block (R109, R284, R290). -/
def sliceActs : List Nat := [CLR_LVL.CODE.off, CLR_FV.CODE.off, CLR_FI.CODE.off, WM_CLR_TH.LO.off, WM_STAT.CLEAR.off, TIA_FCTL.START.off]
def dpsActs : List Nat :=
  [DPS_CLR.CODE.off, DPS_LIM.CODE.off, DPS_WM_CLR_TH.LO.off, DPS_BOOST.RSH.off, DPS_WM_STAT.CLEAR.off, DPS_WM_CHK.START.off]

/-- Offsets of the module, field and slice registers whose read does more than answer their word (R351, R331, R375, R457, R275, R232). -/
def moduleReads : List Nat :=
  [HBM_REFQ.PAGE.off, HBM_LOST.PAGE.off, PTP_NOW_S.SEC.off, PTM_STAT.OFS.off, PTM_TICK.VALUE.off, PTM_HOST.VALUE.off, KP_RD.DATA.off]
def fieldReads : List Nat := CAP_MD.DATA.off :: fieldWindows
def sliceReads : List Nat := [TIA_POP.STAMP.off, TIA_EVCNT.LOST.off]

end Sys2Proof.Machine
end

