-- ==== Sys2Proof/Certificates/Slice0/Obligations.lean ====
section
/-!
DEFINITION. What is stated of the YH-256: results, completions and frames of its commands by family, its whole-machine rules, and the
invariants that every step keeps.
-/
open Sys2Proof Sys2Proof.Machine

/-- ADD, SUB, ADDI, MUL, AND, OR and XOR complete with their result in D and Z, N and C of it (07_instruction_reference.md, R167). For
every state in which field f is ready for the instruction: ADD, SUB, ADDI, MUL, AND, OR and XOR answer the next state in which D
holds the 64-bit result, Z, N and C are those of the result (carry, borrow, a product beyond 64 bits, or 0) and the other flags are
as before, 1 core cycle (MUL 4) is spent, PC has moved on, and the end of an instruction follows; nothing else changes, no memory
among it. -/
def Obligations.ArithmeticInstructionsWriteTheirResults : Prop :=
  ∀ (s : State) (f : Fin 16) (d a b : Reg) (i : Imm),
    let x := s.blk.greg f a
    let y := s.blk.greg f b
    let z := sext41 i
    let put := fun (n v : Nat) (c : Bool) =>
      executed s f n (fun k => (k.setG f d v).setFlags f (znc (s.blk.flags f) v c))
    (Ready s f 0x20 (.alu .add d a b) →
      exec (.add f .none) s = .next (put 1 ((x + y) % 2 ^ 64) (decide (2 ^ 64 ≤ x + y)))) ∧
    (Ready s f 0x21 (.alu .sub d a b) →
      exec (.subI f .none) s = .next (put 1 ((x + 2 ^ 64 - y) % 2 ^ 64) (decide (x < y)))) ∧
    (Ready s f 0x22 (.addi d a i) →
      exec (.addi f .none) s = .next (put 1 ((x + z) % 2 ^ 64) (decide (2 ^ 64 ≤ x + z)))) ∧
    (Ready s f 0x23 (.alu .mul d a b) →
      exec (.mul f .none) s = .next (put 4 ((x * y) % 2 ^ 64) (decide (2 ^ 64 ≤ x * y)))) ∧
    (Ready s f 0x24 (.alu .and d a b) → exec (.andI f .none) s = .next (put 1 (x &&& y) false)) ∧
    (Ready s f 0x25 (.alu .or d a b) → exec (.orI f .none) s = .next (put 1 (x ||| y) false)) ∧
    (Ready s f 0x26 (.alu .xor d a b) → exec (.xorI f .none) s = .next (put 1 (x ^^^ y) false))

/-- SHL, SHR, SAR, CMP, CMPI, MOV, MOVI, MOVHI and EXT complete with the results of their table (07_instruction_reference.md, R167). For
every state in which field f is ready for the instruction, in each operand form: a shift by n (an immediate, or bits 5 to 0 of Gb)
writes Ga moved by n and the last bit shifted out to C; CMP and CMPI write only the flags of the difference; MOV, MOVI and MOVHI
write D and no flag; EXT writes the field, zero- or sign-extended, with Z and N of it and C 0. One core cycle is spent, PC moves on,
and nothing else changes but the end of an instruction. -/
def Obligations.ShiftsComparesAndMovesWriteTheirResults : Prop :=
  ∀ (s : State) (f : Fin 16) (d a b : Reg) (n lsb msb : Fin 64) (i : Imm) (h : Fin (2 ^ 23)) (sg : Bool),
    let x := s.blk.greg f a
    let y := s.blk.greg f b
    let fl := s.blk.flags f
    let put := fun (v : Nat) (c : Bool) => executed s f 1 (fun k => (k.setG f d v).setFlags f (znc fl v c))
    let left := fun (n : Nat) => put (x * 2 ^ n % 2 ^ 64) (n != 0 && bit x (64 - n))
    let right := fun (n : Nat) => put (x / 2 ^ n) (n != 0 && bit x (n - 1))
    let arith := fun (n : Nat) => put (x / 2 ^ n + (if bit x 63 then 2 ^ 64 - 2 ^ (64 - n) else 0)) (n != 0 && bit x (n - 1))
    (Ready s f 0x27 (.shift .shl d a (.imm n)) → exec (.shl f .none) s = .next (left n)) ∧
    (Ready s f 0x27 (.shift .shl d a (.reg b)) → exec (.shl f .none) s = .next (left (y % 64))) ∧
    (Ready s f 0x28 (.shift .shr d a (.imm n)) → exec (.shr f .none) s = .next (right n)) ∧
    (Ready s f 0x28 (.shift .shr d a (.reg b)) → exec (.shr f .none) s = .next (right (y % 64))) ∧
    (Ready s f 0x29 (.shift .sar d a (.imm n)) → exec (.sar f .none) s = .next (arith n)) ∧
    (Ready s f 0x29 (.shift .sar d a (.reg b)) → exec (.sar f .none) s = .next (arith (y % 64))) ∧
    (Ready s f 0x2A (.cmp a b) → exec (.cmp f .none) s =
      .next (executed s f 1 (fun k => k.setFlags f (znc fl ((x + 2 ^ 64 - y) % 2 ^ 64) (decide (x < y)))))) ∧
    (Ready s f 0x2B (.cmpi a i) → exec (.cmpi f .none) s =
      .next (executed s f 1 (fun k => k.setFlags f (znc fl ((x + 2 ^ 64 - sext41 i) % 2 ^ 64) (decide (x < sext41 i)))))) ∧
    (Ready s f 0x2C (.mov d a) → exec (.mov f .none) s = .next (executed s f 1 (fun k => k.setG f d x))) ∧
    (Ready s f 0x2D (.movi d i) → exec (.movi f .none) s = .next (executed s f 1 (fun k => k.setG f d (sext41 i)))) ∧
    (Ready s f 0x2E (.movhi d h) → exec (.movhi f .none) s =
      .next (executed s f 1 (fun k => k.setG f d (h * 2 ^ 41 + s.blk.greg f d % 2 ^ 41)))) ∧
    (Ready s f 0x2F (.ext d a lsb msb sg) → exec (.ext f .none) s = .next (put (extRun x lsb msb sg) false))

/-- MFS, MTS, LDD, STD and LDH complete with what the special registers, the store and the pages hold (06_sequencer_model.md, R138,
07_instruction_reference.md, R167). For every state in which field f is ready: MFS writes the special register's value to D in 2
cycles; MTS writes Ga to a special register that can be written and takes the value; LDD writes the store word at Ga + sext(IMM)
below 1,024 to D; STD writes Gb there and every byte of memory outside that word is as before; LDH on a readable page whose
directory row is read, after clean replays at most, asks the pattern memory for the page after 4 cycles and waits for data; where
the row cannot be read it is a PAGE fault. Nothing else changes but the end of an instruction. -/
def Obligations.SpecialRegistersAndTheDataStore : Prop :=
  ∀ (s : State) (f : Fin 16) (d a b sr : Reg) (i : Imm) (w : Fin 4096),
    let at_ := (s.blk.greg f a + sext41 i) % 2 ^ 64
    (∀ v, Ready s f 0x30 (.mfs d sr) → specialRead s.blk f sr = some v →
      exec (.mfs f .none) s = .next (executed s f 2 (fun k => k.setG f d v))) ∧
    (∀ t, Ready s f 0x31 (.mts sr a) → specialWrite s.blk f sr (s.blk.greg f a) = .ok t →
      exec (.mts f .none) s = .next (executed s f 2 (fun _ => t))) ∧
    (Ready s f 0x32 (.ldd d a i) → at_ < 1024 →
      exec (.ldd f .none) s = .next (executed s f 2 (fun k => k.setG f d (s.store f at_)))) ∧
    (Ready s f 0x33 (.std a b i) → at_ < 1024 →
      exec (.std f .none) s = .next (executed (s.setStore f at_ (s.blk.greg f b)) f 2 id) ∧
      (s.setStore f at_ (s.blk.greg f b)).store f at_ = s.blk.greg f b % 2 ^ 64 ∧
      ∀ c, (c < (Ram.data (s.blk.phys f)).base + 8 * at_ ∨ (Ram.data (s.blk.phys f)).base + 8 * at_ + 8 ≤ c) →
        Memory.byte (s.setStore f at_ (s.blk.greg f b)).mem c = Memory.byte s.mem c) ∧
    (∀ e t r, Ready s f 0x34 (.ldh d a w) → cleanErr e = true → (s.blk.spend f 4).pageReadable (s.blk.greg f a) = true →
      (s.blk.spend f 4).dirRead (s.blk.greg f a) (dirErr e) = (t, r) →
      exec (.ldh f e) s = .next (carriedOut s f (fun _ => if r then (t.hbmReq 6 (s.blk.greg f a) f).waitData f else t.progFault f 6)))

/-- NOP, END, JMP, CALL, RET, RETE, LOOP and LDL complete as their table says (06_sequencer_model.md, R148 to R150, R153, R157,
07_instruction_reference.md, R165). For every state in which field f is ready: NOP spends a cycle; END moves PC on and stops the
program with STATE 6; JMP and CALL go to their target where the condition holds (3 and 4 cycles, CALL pushing PC + 1 on a stack
below 16 entries) and to the next instruction in 1 cycle where it does not; RET pops a call's entry and RETE a service's; LOOP
counts its register down and branches while it was 2 or more; LDL writes a loop counter. Nothing else changes but the end of an
instruction. -/
def Obligations.FlowInstructionsMoveThePc : Prop :=
  ∀ (s : State) (f : Fin 16) (c : Fin 14) (t : Fin 32768) (l : Fin 8) (v : Fin (2 ^ 32)) (ab : Bool) (x : RetEntry) (rest : List RetEntry),
    let b := s.blk
    (Ready s f 0x00 .nop → exec (.nop f .none) s = .next (executed s f 1 id)) ∧
    (Ready s f 0x01 .endI → exec (.endI f .none) s =
      .next (carriedOut s f (fun k => ((k.spend f 1).pcNext f).stopProgram f 6))) ∧
    (Ready s f 0x02 (.jmp c t) → exec (.jmp f .none) s = .next (if condHolds (b.flags f) c then
      carriedOut s f (fun k => (k.spend f 3).setPc f t) else executed s f 1 id)) ∧
    (Ready s f 0x03 (.callI c t) → condHolds (b.flags f) c = false → exec (.callI f .none) s = .next (executed s f 1 id)) ∧
    (Ready s f 0x03 (.callI c t) → condHolds (b.flags f) c = true → (b.seq f).stack.length < 16 → exec (.callI f .none) s =
      .next (carriedOut s f (fun k => ((((k.updSeq f (fun q => { q with stack := { addr := (b.pc f + 1) % 32768 } :: q.stack })).depthSync
        f).spend f 4).setPc f t)))) ∧
    (Ready s f 0x04 .ret → (b.seq f).stack = x :: rest → x.svc = false → exec (.ret f .none) s =
      .next (carriedOut s f (fun k => (((k.updSeq f (fun q => { q with stack := rest })).depthSync f).spend f 4).setPc f x.addr))) ∧
    (Ready s f 0x05 (.rete ab) → (b.seq f).stack = x :: rest → x.svc = true → exec (.rete f .none) s =
      .next (carriedOut s f (fun k => leaveService k f x rest ab))) ∧
    (Ready s f 0x06 (.loopI l t) → exec (.loopI f .none) s = .next (if 2 ≤ b.lreg f l then
      carriedOut s f (fun k => ((k.setL f l (b.lreg f l - 1)).spend f 4).setPc f t)
      else executed s f 2 (fun k => k.setL f l (b.lreg f l - 1)))) ∧
    (Ready s f 0x07 (.ldl l v) → exec (.ldl f .none) s = .next (executed s f 1 (fun k => k.setL f l v)))

/-- WAITEV, SYNCF and WAITT go on at once or enter their wait (06_sequencer_model.md, R155, 07_instruction_reference.md, R165, R166).
For every state in which field f is ready: WAITEV with a pending line or foreign source writes its code to D and goes on; with none
pending it sleeps with PC on the next address, for ever with Ga = 0, and to B(n + t - 2) with t = Ga: where that boundary is past
already, the late frame is filled and it completes with the code of what is pending then, or 65. SYNCF with every issued vector
judged sets P to NOT F and goes on, else waits for that vector. WAITT with k = 0 goes on, else waits for frame n + k. Each spends 4
cycles and nothing else changes but the end of an instruction. -/
def Obligations.WaitInstructionsCompleteOrWait : Prop :=
  ∀ (s : State) (f : Fin 16) (d a : Reg) (k : Fin 65536),
    let b := (s.blk.spend f 4).pcNext f
    (∀ v, Ready s f 0x08 (.waitev d a) → b.eventCode f = some v →
      exec (.waitev f .none) s = .next (carriedOut s f (fun _ => b.setG f d v))) ∧
    (Ready s f 0x08 (.waitev d a) → b.eventCode f = none →
      let t := s.blk.greg f a
      let due := (b.seq f).frame + t - 2
      let w := b.waitFor f (.ev d (if t = 0 then none else some due))
      exec (.waitev f .none) s = .next (carriedOut s f (fun _ =>
        if t ≠ 0 ∧ due ≤ w.time.ticks then (w.fillWait f).endWaitev f d (((w.fillWait f).eventCode f).getD 65) else w))) ∧
    (Ready s f 0x09 .syncf → ((s.blk.spend f 4).seq f).issued ≤ ((s.blk.spend f 4).seq f).judged →
      exec (.syncf f .none) s = .next (carriedOut s f (fun k =>
        let k := k.spend f 4
        (k.setFlags f (putP (k.flags f) (!bit (k.flags f) 3))).pcNext f))) ∧
    (Ready s f 0x09 .syncf → ((s.blk.spend f 4).seq f).judged < ((s.blk.spend f 4).seq f).issued →
      exec (.syncf f .none) s = .next (carriedOut s f (fun k => (k.spend f 4).waitFor f (.judged ((k.spend f 4).seq f).issued)))) ∧
    (Ready s f 0x0A (.waitt (.imm k)) → exec (.waitt f .none) s = .next (if k.val = 0 then executed s f 4 id else
      carriedOut s f (fun b => (b.spend f 4).waitFor f (.frame (((b.spend f 4).seq f).frame + k))))) ∧
    (Ready s f 0x0A (.waitt (.reg a)) → exec (.waitt f .none) s = .next (if s.blk.greg f a = 0 then executed s f 4 id else
      carriedOut s f (fun b => (b.spend f 4).waitFor f (.frame (((b.spend f 4).seq f).frame + s.blk.greg f a)))))

/-- TSELI, TSELR, PLAY, FALLOW, SJMP and SYNCS complete (06_sequencer_model.md, R147, 07_instruction_reference.md, R168 to R170). For
every state in which field f is ready: TSELI and TSELR (a value below 64) set TSEL in 1 cycle; PLAY of a head page whose checks pass
appends the segment with the TSEL in force after 12 cycles where the play queue has room, else it counts QFULL and waits as for
data; FALLOW appends its vectors in 4; SJMP of such a page with room, or with plays that the jump discards, cuts the stream at the
jump point and plays from it, else it waits as PLAY does; SYNCS fills the stream to the next boundary. A PLAY or SJMP whose
directory row cannot be read, replays spent, is a PAGE fault. Nothing else changes but the end of an instruction. -/
def Obligations.StreamInstructionsIssueVectors : Prop :=
  ∀ (s : State) (f : Fin 16) (a : Reg) (t : Fin 64) (n : Fin (2 ^ 32)) (x : Block) (good : Bool) (e : SeqErr),
    let p := s.blk.greg f a
    (Ready s f 0x40 (.tseli t) → exec (.tseli f .none) s = .next (executed s f 1 (fun b => b.set (FLD f) SEQ_TSEL.SET t))) ∧
    (Ready s f 0x41 (.tselr a) → p < 64 → exec (.tselr f .none) s = .next (executed s f 1 (fun b => b.set (FLD f) SEQ_TSEL.SET p))) ∧
    (Ready s f 0x42 (.play a) → cleanErr e = true → headCheck s.mem (s.blk.spend f 12) f p e = (x, good) →
      exec (.play f e) s = .next (carriedOut s f (fun _ => if good = false then x.progFault f 6 else
        if x.playCount f < 32 then (x.pushPlay f p (x.get (FLD f) SEQ_TSEL.SET) (segCounts s.mem p)).pcNext f
        else (x.waitData f).count (FLD f) SOW_EVCNT.QFULL 1))) ∧
    (Ready s f 0x43 (.fallow (.imm n)) → exec (.fallow f .none) s = .next (executed s f 4 (fun b => b.pushFallow f n))) ∧
    (Ready s f 0x43 (.fallow (.reg a)) → exec (.fallow f .none) s = .next (executed s f 4 (fun b => b.pushFallow f (p % 2 ^ 32)))) ∧
    (Ready s f 0x44 (.sjmp a) → cleanErr e = true → headCheck s.mem (s.blk.spend f 12) f p e = (x, good) →
      exec (.sjmp f e) s = .next (carriedOut s f (fun _ => if good = false then x.progFault f 6 else
        if x.playCount f < 32 ∨ x.jumpHeads s.mem f (x.seq f).frame ≠ [] then
          (x.segJump s.mem f p (x.get (FLD f) SEQ_TSEL.SET) (x.seq f).frame).pcNext f
        else (x.waitData f).count (FLD f) SOW_EVCNT.QFULL 1))) ∧
    (Ready s f 0x45 .syncs → exec (.syncs f .none) s = .next (executed s f 4 (fun b => b.fillTo f (b.syncsTo f))))

/-- SETLVL, SETPMU, SETSLC, SETSLEW, SETGEN, SETWM, SETDPS and TIASTAMP queue their setting, or take the program fault of R172
(06_sequencer_model.md, R142, R143, 07_instruction_reference.md, R163, R171, R172, R174). For every state in which field f is ready,
in each form of mask and value: each of the seven settings whose mask has no bit above 15 (SETDPS above 1) and whose value keeps the
valid range and encodings of its selector spends 6 cycles and queues its action for B(n) of the frame under construction, none for
an empty mask; TIASTAMP with SEL below 4 and VALUE 0 does so for a field that holds its stamp-chain hasp. No flag changes, and
nothing else but the end of an instruction. A mask or value that is not accepted is an OPERAND fault with no other effect, and a
TIASTAMP without the hasp a HASP fault. -/
def Obligations.SettingsAreQueuedForTheirBoundary : Prop :=
  ∀ (s : State) (f : Fin 16) (sel : Fin 32) (mask : Src 65536) (value : Src (2 ^ 18)),
    let m := match mask with
      | .imm v => v.val
      | .reg a => s.blk.greg f a
    let v := match value with
      | .imm v => v.val
      | .reg a => s.blk.greg f a
    let queued := fun (op v : Nat) => executed s f 6 (fun b => if m = 0 then b else b.act f (.set op sel m v))
    let does := fun (op : SetOp) => (.next (if setValueOk op sel v = true ∧ m < 65536 ∧ (op = .dps → m < 4) then queued op.code v
      else faulted s f 2) : Host.Outcome State Fault Refusal)
    (Ready s f 0x60 (.setting .lvl sel mask value) → exec (.setlvl f .none) s = does .lvl) ∧
    (Ready s f 0x61 (.setting .pmu sel mask value) → exec (.setpmu f .none) s = does .pmu) ∧
    (Ready s f 0x62 (.setting .slc sel mask value) → exec (.setslc f .none) s = does .slc) ∧
    (Ready s f 0x63 (.setting .slew sel mask value) → exec (.setslew f .none) s = does .slew) ∧
    (Ready s f 0x64 (.setting .gen sel mask value) → exec (.setgen f .none) s = does .gen) ∧
    (Ready s f 0x65 (.setting .wm sel mask value) → exec (.setwm f .none) s = does .wm) ∧
    (Ready s f 0x66 (.setting .dps sel mask value) → exec (.setdps f .none) s = does .dps) ∧
    (Ready s f 0x85 (.tiastamp sel mask value) → exec (.tiastamp f .none) s = .next (
      if 65536 ≤ m ∨ 4 ≤ sel.val ∨ v ≠ 0 then faulted s f 2
      else if s.blk.holds f (16 * f + 5) = true then queued 0x85 0 else faulted s f 10))

/-- MEAS, VERD, VERDALL, LIMIT, FMASK, FREQ and FREQRD complete or wait for their tick or gate (07_instruction_reference.md, R164, R174,
R175). For every state in which field f is ready: MEAS, VERD and VERDALL of a tick whose result is there write its word to D and Z,
after 3, 3 and 4 cycles; of a later tick they wait for it. LIMIT judges Ga between two store words into D and P in 4 cycles; FMASK
reads, and with IMM[0] clears, the fail mask in 2; FREQ with a gate of 10 to 10,000,000 us queues its start in 6; FREQRD writes 0
and Z = 1 with no measurement started, the result where it is there, else waits. Nothing else changes but the end of an instruction. -/
def Obligations.MeasurementsReturnTheirWords : Prop :=
  ∀ (s : State) (f : Fin 16) (d a : Reg) (x : TickSel) (ch : Fin 16) (t : Fin 1024) (clear : Bool) (g : Fin (2 ^ 24)),
    let m := tickOf s.blk f x
    let meas := fun (n : Nat) (fin : Block → Block) => carriedOut s f (fun b =>
      if tickReady (b.spend f n) m then fin (b.spend f n) else (b.spend f n).waitFor f (.meas m.toNat))
    let r := limitRun (s.blk.greg f a) (s.store f t) (s.store f (t + 1))
    (Ready s f 0x80 (.meas d x ch) → exec (.meas f .none) s = .next (meas 3 (fun b =>
      let w := conversionOf b (b.chSlice f ch) m
      ((b.setG f d w).setFlags f (putZ (b.flags f) (!convClean w))).pcNext f))) ∧
    (Ready s f 0x81 (.verd d x ch) → exec (.verd f .none) s = .next (meas 3 (fun b =>
      let w := verdictWord b (b.chSlice f ch) m
      ((b.setG f d w).setFlags f (putZ (b.flags f) (tickOld b m || w % 8 == 2))).pcNext f))) ∧
    (Ready s f 0x82 (.verdall d x) → exec (.verdall f .none) s = .next (meas 4 (verdallEnd f d m))) ∧
    (Ready s f 0x83 (.limit d a t) → t.val < 1023 → exec (.limit f .none) s =
      .next (executed s f 4 (fun b => (b.setG f d r).setFlags f (putP (b.flags f) (r == 0))))) ∧
    (Ready s f 0x84 (.fmask d clear) → exec (.fmask f .none) s = .next (executed s f 2 (fun b =>
      let b := b.setG f d (b.seq f).fmask
      if clear then b.updSeq f (fun q => { q with fmask := 0 }) else b))) ∧
    (Ready s f 0x86 (.freq ch g) → 10 ≤ g.val → g.val ≤ 10000000 → exec (.freq f .none) s = .next (executed s f 6 (fun b =>
      (b.act f (.freq ch g)).updSeq f (fun q => { q with freqs := setBit q.freqs ch })))) ∧
    (Ready s f 0x87 (.freqrd d ch) → exec (.freqrd f .none) s = .next (carriedOut s f (fun b =>
      let b := b.spend f 3
      if !bit (b.seq f).freqs ch then ((b.setG f d 0).setFlags f (putZ (b.flags f) true)).pcNext f
      else if freqReady b f ch then freqrdEnd f d ch b
      else b.waitFor f (.gate ch))))

/-- CARM, CTRIG, CSTOP, TRGOUT, DDSRUN, DDSSTEP, DDSSTOP, DIGACQ and HCONN complete for a field that holds their hasp
(07_instruction_reference.md, R176, 12_capture_and_trigger.md, R266). For every state in which field f is ready and its sequencer
holds the hasp of R176 (with CAP_CFG.STREAM 1, CARM needs 16f+6 as well): CARM writes its result to D, and asks the engine to arm at
B(n) where the result is 0, else leaves it in CAP_STAT.ARMRES: 2 while an ARM of the program waits, else what the engine would
answer now; CTRIG and CSTOP ask for a trigger and a stop; TRGOUT and HCONN queue their action for B(n); DDSRUN of an entry between
FIRST and LAST, DDSSTEP and DDSSTOP ask the source, a DDSRUN of another entry is an OPERAND fault; DIGACQ takes an idle digitiser
into its acquisition with D = 0 and answers 2 for a busy one. No flag changes, and nothing else but the end of an instruction.
Without the hasp each is a HASP fault with no other effect. -/
def Obligations.UnitInstructionsActOnTheirUnits : Prop :=
  ∀ (s : State) (f : Fin 16) (d : Reg) (line : Fin 8) (act : Fin 3) (e : Fin 4096) (k : Fin 17),
    let given := fun (i : Nat) (t : State) => (.next (if s.blk.holds f i = true then t else faulted s f 10) : Host.Outcome State Fault Refusal)
    let ask := fun (n code : Nat) => executed s f n (fun b =>
      b.updCap f (fun c => { c with prog := c.prog ++ [(code, (b.seq f).frame, b.seqOwner f)] }))
    let source := fun (n code entry : Nat) => executed s f n (fun b =>
      b.updDds f (fun x => { x with prog := x.prog ++ [(code, entry, (b.seq f).frame)] }))
    (Ready s f 0xA0 (.carm d) → exec (.carm f .none) s = given (16 * f + 4)
      (if s.blk.flag (FLD f) CAP_CFG.STREAM = true ∧ s.blk.holds f (16 * f + 6) = false then faulted s f 10
       else executed s f 6 (fun b =>
        let r := if (b.cap f).prog.any (fun r => r.1 == 1) then 2 else b.capArmResult f (b.seqOwner f)
        let b := b.setG f d r
        if r = 0 then b.updCap f (fun c => { c with prog := c.prog ++ [(1, (b.seq f).frame, b.seqOwner f)] })
        else b.set (FLD f) CAP_STAT.ARMRES r))) ∧
    (Ready s f 0xA1 .ctrig → exec (.ctrig f .none) s = given (16 * f + 4) (ask 4 2)) ∧
    (Ready s f 0xA2 .cstop → exec (.cstop f .none) s = given (16 * f + 4) (ask 4 3)) ∧
    (Ready s f 0xA3 (.trgout line act) →
      exec (.trgout f .none) s = given (256 + line) (executed s f 4 (fun b => b.act f (.trg line act)))) ∧
    (Ready s f 0xB0 (.ddsrun e) → exec (.ddsrun f .none) s = given (16 * f + 2)
      (if s.blk.get (FLD f) DDS_LIST.FIRST ≤ e.val ∧ e.val ≤ s.blk.get (FLD f) DDS_LIST.LAST then source 6 1 e else faulted s f 2)) ∧
    (Ready s f 0xB1 .ddsstep → exec (.ddsstep f .none) s = given (16 * f + 2) (source 4 2 0)) ∧
    (Ready s f 0xB2 .ddsstop → exec (.ddsstop f .none) s = given (16 * f + 2) (source 4 3 0)) ∧
    (Ready s f 0xB3 (.digacq d) → exec (.digacq f .none) s = given (16 * f + 3) (executed s f 6 (fun b =>
      if b.get (FLD f) DIG_STAT.STATE ≠ 0 then b.setG f d 2
      else ((b.setG f d 0).set (FLD f) DIG_STAT.STATE 1).updDig f (fun x => { x with
        prog := some (b.seq f).frame, startReq := none, t0 := none, owner := b.seqOwner f })))) ∧
    (Ready s f 0xB4 (.hconn k) → exec (.hconn f .none) s = given (16 * f) (executed s f 6 (fun b => b.act f (.hconn k))))

/-- RESULT, BIN, SIGNAL, EVACK, HCLAIM and HREL complete (07_instruction_reference.md, R177 to R179). For every state in which field f
is ready: RESULT and BIN of a site that the field serves issue their record, with PC on the next address, while the queue has room:
of type 1 with test, kind and channel, P for kinds 0 and 1, and Ga for 1 and 4, kinds 2 and 3 once the vectors issued are judged; of
type 2 with the bin. With no room they wait as for data, QWAITS counting. A site that serves no channel of the field is an OPERAND
fault, after its channels were looked through. SIGNAL of a source from 658 on raises it at once, or queues it for B(n) with ANCHOR;
EVACK clears the source's pending bit, Z telling whether it was 0, by number or by a valid line; a lower source or a line that is
not valid is an OPERAND fault; HCLAIM writes the code, and the owner on a conflict, to D, and Z = 1 where the claim was granted;
HREL likewise for a release. Nothing else changes but the end of an instruction. -/
def Obligations.RecordAndEventInstructionsComplete : Prop :=
  ∀ (s : State) (f : Fin 16) (a d : Reg) (site : Fin 256) (test : Fin 65536) (k : Fin 16) (kind : Fin 5) (bin : Fin 64) (anchor : Bool)
      (n : Fin 1024) (l : Fin 64) (i : Fin 512) (tag : Fin 65536),
    let signal := fun (n : Nat) => if n < 658 then faulted s f 2 else
      executed s f 3 (fun b => if anchor then b.act f (.signal n) else b.arrive n)
    let record := fun (n : Nat) (go : Block → Block) => carriedOut s f (fun b =>
      if b.siteHere f site = false then (b.siteScan f).progFault f 2
      else if (b.spend f n).recRoom then (go (b.spend f n)).pcNext f
      else ((b.spend f n).waitData f).count 0 RES_STAT.QWAITS 1)
    let ack := fun (n : Nat) => executed s f 3 (fun b => (b.icClear n).setFlags f (putZ (b.flags f) (!b.icPend n)))
    (Ready s f 0xC0 (.result a site test k kind) → exec (.result f .none) s = .next (record 8 (fun b =>
      b.issueRec f 1 site test k kind (if kind.val < 2 then b01 (bit (b.flags f) 4) else 0) 0
        (if kind.val = 1 ∨ kind.val = 4 then b.greg f a else 0) (if kind.val = 2 ∨ kind.val = 3 then some (b.seq f).issued else none)))) ∧
    (Ready s f 0xC1 (.binI site bin) → exec (.binI f .none) s = .next (record 6 (fun b => b.issueRec f 2 site 0 0 0 0 bin 0 none))) ∧
    (Ready s f 0xD0 (.signalI anchor (.imm n)) → exec (.signalI f .none) s = .next (signal n)) ∧
    (Ready s f 0xD0 (.signalI anchor (.reg a)) → exec (.signalI f .none) s = .next (signal (s.blk.greg f a % 1024))) ∧
    (Ready s f 0xD1 (.evackSrc n) → exec (.evack f .none) s = .next (ack n)) ∧
    (Ready s f 0xD1 (.evackLine l) → exec (.evack f .none) s = .next (
      if s.blk.flag (FLD f + 8 * l.val) EV_SRC.VALID = true then ack (s.blk.get (FLD f + 8 * l.val) EV_SRC.SRC) else faulted s f 2)) ∧
    (Ready s f 0xD2 (.hclaim d i tag) → exec (.hclaim f .none) s = .next (executed s f 20 (fun b =>
      let r := b.haspClaim (b.seqOwner f) i tag
      (r.1.setG f d (r.2.1 + 256 * r.2.2)).setFlags f (putZ (b.flags f) (r.2.1 == 0))))) ∧
    (Ready s f 0xD3 (.hrel d i) → exec (.hrel f .none) s = .next (executed s f 20 (fun b =>
      let r := b.haspRelease (b.seqOwner f) i false
      (r.1.setG f d r.2).setFlags f (putZ (b.flags f) (r.2 == 0)))))

/-- SWEEP, SEARCH, MEASALL and BMOVE start, go on from their restart points and complete (07_instruction_reference.md, R181 to R186).
For every state in which field f is ready: with none of its kind under way, SWEEP whose points fit the store and whose codes are
valid records itself in SEQ_PROG, spends 6 cycles and goes to its first point, else completes if it has none; SEARCH with lo < hi,
both valid codes, does so too, lo and hi adjacent completing with D = hi; MEASALL whose results (and limits) fit the store spends 4
cycles and, where its tick is there, goes to the restart point before its first masked channel (with none it completes), else waits
for it. From such a restart point MEASALL stores and judges one channel, and goes to the next or completes. BMOVE with DIR 1 whose
ranges fit, from its start or a restart point, copies the next 8 words, or what is left, in ascending order in 4 cycles, and
completes after the last; with DIR 0, from words of one page that may be read, it asks for the page and waits for data. SWEEP,
SEARCH and BMOVE with DIR 0 go on from a restart point as from their start: to their next point or request, or to their end; a page
that may no longer be read is a PAGE fault. -/
def Obligations.LongInstructionsStartWithinTheirBounds : Prop :=
  ∀ (s : State) (f : Fin 16) (d a b : Reg) (mask ofs : Fin 65536) (sel : Fin 10) (count : Fin 1024) (dwell mch k : Fin 16) (judge : Fin 4)
      (dwell8 : Fin 8) (taddr : Fin 1024) (lim : Bool) (n : Fin 2048) (l : LongSt) (c : Nat) (e : SeqErr),
    let gd := s.blk.greg f d
    let ga := s.blk.greg f a
    let gb := s.blk.greg f b
    let pc := s.blk.pc f
    let sweepOn := fun (l : LongSt) (t : State) => t.on (fun x => if count.val ≤ l.done then x.longEnd f
      else x.point f l mask sel (ofSigned 64 (toSigned 64 l.ga + Int.ofNat l.done * toSigned 64 l.gb)) dwell)
    let searchOn := fun (l : LongSt) (t : State) => t.on (fun x => if l.gb ≤ l.ga + 1 then (x.setG f d l.gb).longEnd f
      else x.point f l (2 ^ k.val) sel (l.ga + (l.gb - l.ga) / 2) dwell8)
    let copy := fun (l : LongSt) (t : State) =>
      let m := min 8 (n - l.done)
      (storeCopy f (l.ga + l.done) (l.gd + l.done) m t).on (fun x =>
        let x := (x.spend f 4).setLong f { l with done := l.done + m }
        if n ≤ l.done + m then x.longEnd f else x)
    (Ready s f 0xE0 (.sweep d a b mask sel count dwell mch) → s.resumed f 0xE0 = none → gd + count ≤ 1024 →
      (∀ i < count.val, dacCodeOk sel (toSigned 64 ga + Int.ofNat i * toSigned 64 gb) = true) →
      let l : LongSt := { op := 0xE0, pc := pc, gd := gd, ga := ga, gb := gb }
      exec (.sweep f .none) s = .next (carriedOut (sweepOn l (s.on (fun x => x.longStart f 6 l))) f id)) ∧
    (Ready s f 0xE0 (.sweep d a b mask sel count dwell mch) → s.resumed f 0xE0 = some l →
      exec (.sweep f .none) s = .next (carriedOut (sweepOn l s) f id)) ∧
    (Ready s f 0xE1 (.searchI d a b k sel judge dwell8 taddr) → s.resumed f 0xE1 = none → toSigned 64 ga < toSigned 64 gb →
      dacCodeOk sel (toSigned 64 ga) = true → dacCodeOk sel (toSigned 64 gb) = true →
      let l : LongSt := { op := 0xE1, pc := pc, ga := ga, gb := gb }
      exec (.searchI f .none) s = .next (carriedOut (searchOn l (s.on (fun x => x.longStart f 6 l))) f id)) ∧
    (Ready s f 0xE1 (.searchI d a b k sel judge dwell8 taddr) → s.resumed f 0xE1 = some l →
      exec (.searchI f .none) s = .next (carriedOut (searchOn l s) f id)) ∧
    (Ready s f 0xE2 (.measall d b mask ofs lim) → s.resumed f 0xE2 = none → gd + 16 ≤ 1024 → (lim = true → gb + 32 ≤ 1024) →
      let m := tickOf s.blk f (.rel ofs)
      let l : LongSt := { op := 0xE2, pc := pc, gd := gd, ga := ofSigned 64 m, gb := gb }
      let t := s.on (fun x => x.longStart f 4 l)
      exec (.measall f .none) s = .next (carriedOut (if tickReady t.blk m then measallStop f mask lim l t
        else t.on (fun x => x.waitFor f (.meas m.toNat))) f id)) ∧
    (Ready s f 0xE2 (.measall d b mask ofs lim) → s.resumed f 0xE2 = some l → measallNext mask l.done = some c →
      let r := measallChan f l.gd l.gb lim (toSigned 64 l.ga) (s, l.failed) c
      exec (.measall f .none) s = .next (carriedOut (measallStop f mask lim { l with done := c + 1, failed := r.2 } r.1) f id)) ∧
    (Ready s f 0xE2 (.measall d b mask ofs lim) → s.resumed f 0xE2 = some l → measallNext mask l.done = none →
      exec (.measall f .none) s = .next (carriedOut s f (fun x =>
        (if lim then x.setFlags f (putP (x.flags f) (!l.failed)) else x).longEnd f))) ∧
    (Ready s f 0xE3 (.bmove d a b n true) → s.resumed f 0xE3 = none → gd + n ≤ 1024 → ga + n ≤ 1024 →
      let l : LongSt := { op := 0xE3, pc := pc, gd := gd, ga := ga, gb := gb % 4096 }
      exec (.bmove f .none) s = .next (carriedOut (copy l (s.on (fun x => x.longStart f 0 l))) f id)) ∧
    (Ready s f 0xE3 (.bmove d a b n true) → s.resumed f 0xE3 = some l → exec (.bmove f .none) s = .next (carriedOut (copy l s) f id)) ∧
    (Ready s f 0xE3 (.bmove d a b n false) → cleanErr e = true → s.resumed f 0xE3 = none → gd + n ≤ 1024 → gb % 4096 + n ≤ 4096 →
      s.blk.pageReadable ga = true →
      let r := s.blk.dirRead ga (dirErr e)
      let x := if r.2 then (r.1.hbmReq 6 ga f).waitData f else r.1.progFault f 6
      exec (.bmove f e) s = .next (carriedOut s f (fun _ => if x.seqLive f then (x.longStart f 0 { op := 0xE3, pc := pc, gd := gd, ga := ga, gb := gb % 4096 }).waitData f else x))) ∧
    (Ready s f 0xE3 (.bmove d a b n false) → s.resumed f 0xE3 = some l → exec (.bmove f .none) s = .next (carriedOut s f (fun x =>
      if n.val ≤ l.done then x.longEnd f else if x.pageReadable l.ga then (x.hbmReq 6 l.ga f).waitData f else x.progFault f 6)))

/-- A failed check is a program fault with no other effect; an error of program memory, data store or microcode does what R160 and R195
to R197 say (06_sequencer_model.md, R140, R142, R149, R158, R160, 07_instruction_reference.md, R167 to R186, 08_microcode.md, R195
to R197). For every state in which field f is ready and the instruction's check fails, the next state is that of the program fault
alone, with the cause of R160: a full stack (3), an empty one (4), a return of the wrong kind (11), a store address beyond 1,023,
LIMIT at 1,023 or a block beyond the store (5), a page that cannot be read or played (6), a read-only special register (7), an
operand out of range (2), a hasp not held (10); for every instruction whatever cause its effect gives, and the cause with which its
word does not decode. For every instruction an uncorrected program-memory error is cause 8, an uncorrected data-store error cause 9
where it reads the store and nothing else where it does not; clean replays of its microwords are counted and paid before its effect;
a machine check before the effect leaves the effect out, and one after it stops the sequencer in place of the instruction's end.
ILLEGAL_OPCODE, an opcode that is not assigned, is cause 1. -/
def Obligations.RefusedInstructionsTakeTheirProgramFault : Prop :=
  ∀ (s : State) (f : Fin 16) (c : Fin 14) (t : Fin 32768) (d a b sr : Reg) (i : Imm) (x : RetEntry) (rest : List RetEntry) (ab anchor : Bool)
      (ch : Fin 16) (g : Fin (2 ^ 24)) (n : Fin 1024) (site : Fin 256) (bin : Fin 64) (mask : Fin 65536) (sel : Fin 10) (count : Fin 1024)
      (dwell : Fin 16) (judge : Fin 4) (dwell8 : Fin 8) (taddr : Fin 1024),
    let stack := (s.blk.seq f).stack
    let ga := s.blk.greg f a
    let fault := fun (cause : Nat) => (.next (faulted s f cause) : Host.Outcome State Fault Refusal)
    (Ready s f 0x03 (.callI c t) → condHolds (s.blk.flags f) c = true → 16 ≤ stack.length → exec (.callI f .none) s = fault 3) ∧
    (Ready s f 0x04 .ret → stack = [] → exec (.ret f .none) s = fault 4) ∧
    (Ready s f 0x05 (.rete ab) → stack = [] → exec (.rete f .none) s = fault 4) ∧
    (Ready s f 0x04 .ret → stack = x :: rest → x.svc = true → exec (.ret f .none) s = fault 11) ∧
    (Ready s f 0x05 (.rete ab) → stack = x :: rest → x.svc = false → exec (.rete f .none) s = fault 11) ∧
    (Ready s f 0x32 (.ldd d a i) → 1024 ≤ storeAddr s.blk f a i → exec (.ldd f .none) s = fault 5) ∧
    (Ready s f 0x33 (.std a b i) → 1024 ≤ storeAddr s.blk f a i → exec (.std f .none) s = fault 5) ∧
    (Ready s f 0x83 (.limit d a 1023) → exec (.limit f .none) s = fault 5) ∧
    (Ready s f 0x34 (.ldh d a 0) → (s.blk.spend f 4).pageReadable ga = false → exec (.ldh f .none) s = fault 6) ∧
    (Ready s f 0x31 (.mts sr a) → (sr = 0 ∨ sr = 4 ∨ sr = 5 ∨ sr = 6) → exec (.mts f .none) s = fault 7) ∧
    (Ready s f 0x30 (.mfs d sr) → specialRead s.blk f sr = none → exec (.mfs f .none) s = fault 2) ∧
    (Ready s f 0x41 (.tselr a) → 64 ≤ ga → exec (.tselr f .none) s = fault 2) ∧
    (Ready s f 0x86 (.freq ch g) → (g.val < 10 ∨ 10000000 < g.val) → exec (.freq f .none) s = fault 2) ∧
    (Ready s f 0xD0 (.signalI anchor (.imm n)) → n.val < 658 → exec (.signalI f .none) s = fault 2) ∧
    (Ready s f 0xC1 (.binI site bin) → s.blk.siteHere f site = false → exec (.binI f .none) s =
      .next (carriedOut s f (fun k => (k.siteScan f).progFault f 2))) ∧
    (Ready s f 0xA1 .ctrig → s.blk.holds f (16 * f + 4) = false → exec (.ctrig f .none) s = fault 10) ∧
    (Ready s f 0xE0 (.sweep d a b mask sel count dwell ch) → s.resumed f 0xE0 = none → 1024 < s.blk.greg f d + count → exec (.sweep f .none) s = fault 5) ∧
    (Ready s f 0xE1 (.searchI d a b ch sel judge dwell8 taddr) → s.resumed f 0xE1 = none →
      toSigned 64 (s.blk.greg f b) ≤ toSigned 64 ga → exec (.searchI f .none) s = fault 2) ∧
    (∀ h, Ready s f 0x00 h → exec (.nop f .pmem) s = fault 8) ∧
    (∀ p ∈ seqRows f, ∀ h, Ready s f p.1 h →
      (∀ cause, p.2.2 h s = .error cause → exec (p.2.1 .none) s = fault cause) ∧
      exec (p.2.1 .pmem) s = fault 8 ∧
      exec (p.2.1 .dstore) s = (if h.readsStore then fault 9 else exec (p.2.1 .none) s) ∧
      ∀ ws late,
        let w := s.blk.uWalk (s.blk.phys f) (s.blk.firstWord f p.1) false (.micro ws late)
        let paid := s.on (fun k => k.uPay f (k.phys f) (.micro ws late) w)
        let long := (s.blk.seq f).long
        (w.check = none → exec (p.2.1 (.micro ws late)) s = .next (match p.2.2 h paid with
          | .error cause => faulted paid f cause
          | .ok t => t.on (fun k => k.seqEpilogue f))) ∧
        (∀ at_, w.check = some at_ → late = false → exec (p.2.1 (.micro ws late)) s = .next
          (paid.on (fun k => k.machineCheck f at_ (paid.restartProgress f long)))) ∧
        (∀ at_, w.check = some at_ → late = true → exec (p.2.1 (.micro ws late)) s = .next (match p.2.2 h paid with
          | .error cause => faulted paid f cause
          | .ok t => t.on (fun k => k.machineCheck f at_ (t.restartProgress f long))))) ∧
    (s.blk.seqLive f = true → (s.blk.seq f).opened = true → (s.blk.seq f).wait = none → s.blk.dueLine f = none →
      (∀ p ∈ seqRows f, FirstReads s f p.1 → bits (s.instrWord f) 56 8 = p.1 → ∀ cause, decodeWord (s.instrWord f) = .error cause →
        exec (p.2.1 .none) s = fault cause) ∧
      (FirstReads s f (bits (s.instrWord f) 56 8) → opAssigned (bits (s.instrWord f) 56 8) = false → exec (.illegalOpcode f .none) s = fault 1))

/-- TICK_WAIT_END, HBM_DATA_ARRIVAL, WAITEV_TIMEOUT and EVENT_SERVICE act where what they wait for is there (06_sequencer_model.md,
R146, R149, R151, R152, R154, R155, 07_instruction_reference.md, R162, 08_microcode.md, R195 to R197, R199). For every state with a
step running in field f and its frame open, whatever the microwords show: a tick wait that is over ends, and the instruction that
waited at PC completes or goes on; a WAITEV that was woken writes what is pending, else 66, to its register. A data wait whose data
is there ends with its cycles counted. A WAITEV whose timeout has come completes with what is pending, or 65. A due line of a
sequencer that stands at an instruction or restart point, or in a tick wait other than WAITEV, is served in 12 cycles: the return
entry with wait and long instruction goes onto a stack that has room, INSVC is set, PC is EVBASE plus the line, the progress of a
long instruction goes to G31 and SEQ_PROG with SUSP; a full stack is cause 3. Clean replays count and cost first; a machine check
before the effect leaves it out, one after it takes the place of the instruction's end; a SEARCH that judges by an uncorrected store
word is cause 9. -/
def Obligations.WaitsEndAndServiceIsEntered : Prop :=
  ∀ (s : State) (f : Fin 16) (h : Halyr) (w : Wait) (e : SeqErr), s.blk.seqLive f = true → (s.blk.seq f).opened = true →
    let x := s.blk.uWalk (s.blk.phys f) none false e
    let long := (s.blk.seq f).long
    let paid := s.on (fun b => b.uPay f (b.phys f) e x)
    let early := x.check ≠ none ∧ lateCheck e = false
    let checked := fun (at_ : Nat × Bool) => (.next (paid.on (fun b => b.machineCheck f at_ (paid.restartProgress f long))) :
      Host.Outcome State Fault Refusal)
    (∀ t, (s.blk.seq f).wait = some (.data t) → decodeWord (s.instrWord f) = .ok h → dataReady s.blk f h = true →
      (∀ at_, x.check = some at_ → lateCheck e = false → exec (.hbmDataArrival ⟨f, e⟩) s = checked at_) ∧
      (¬ early → exec (.hbmDataArrival ⟨f, e⟩) s = .next ((dataFinish f h (paid.on (fun b =>
        (b.spend f (20 * b.time.now - t)).updSeq f (fun q => { q with wait := none })))).microEnd f x none))) ∧
    ((s.blk.seq f).wait = some w → s.blk.waitOver f w = true →
      (∀ at_, x.check = some at_ → lateCheck e = false → exec (.tickWaitEnd ⟨f, e⟩) s = checked at_) ∧
      (¬ early → ∀ d, w = .woken d → exec (.tickWaitEnd ⟨f, e⟩) s = .next ((paid.on (fun b =>
        b.endWaitev f d ((b.eventCode f).getD 66))).microEnd f x none)) ∧
      (¬ early → (∀ d, w ≠ .woken d) → decodeWord (s.instrWord f) = .ok h → ¬ (e = .dstore ∧ h.judgesByStore = true) →
        exec (.tickWaitEnd ⟨f, e⟩) s = .next ((tickFinish f w h (paid.on (fun b =>
          b.updSeq f (fun q => { q with wait := none })))).microEnd f x none)) ∧
      ((∀ d, w ≠ .woken d) → decodeWord (s.instrWord f) = .ok h → e = .dstore → h.judgesByStore = true →
        exec (.tickWaitEnd ⟨f, e⟩) s = .next (faulted s f 9))) ∧
    (∀ d i, (s.blk.seq f).wait = some (.ev d (some i)) → i ≤ s.blk.time.ticks →
      (∀ at_, x.check = some at_ → lateCheck e = false → exec (.waitevTimeout ⟨f, e⟩) s = checked at_) ∧
      (¬ early → exec (.waitevTimeout ⟨f, e⟩) s = .next ((paid.on (fun b =>
        b.endWaitev f d ((b.eventCode f).getD 65))).microEnd f x none))) ∧
    (∀ i, s.blk.dueLine f = some i → (∀ d t, (s.blk.seq f).wait ≠ some (.ev d t)) → (∀ d, (s.blk.seq f).wait ≠ some (.woken d)) →
      (∀ t, (s.blk.seq f).wait ≠ some (.data t)) →
      let x := s.blk.uWalk (s.blk.phys f) (s.blk.firstWord f (bits (s.instrWord f) 56 8)) true e
      let paid := s.on (fun b => b.uPay f (b.phys f) e x)
      (∀ at_, x.check = some at_ → exec (.eventService ⟨f, e⟩) s =
        .next (paid.on (fun b => b.machineCheck f at_ (paid.restartProgress f long)))) ∧
      (x.check = none → exec (.eventService ⟨f, e⟩) s = .next (paid.on (fun b =>
        let q := b.seq f
        let b := match q.long with
          | some l => ((b.setG f 31 (Block.longWord l)).set (FLD f) SEQ_PROG.PROGRESS (Block.longWord l)).setFlag (FLD f) SEQ_PROG.SUSP true
          | none => b
        let e : RetEntry := { svc := true, addr := b.pc f, flags := b.flags f, wait := q.wait, long := q.long }
        if 16 ≤ (b.seq f).stack.length then b.progFault f 3
        else
          let b := (b.updSeq f (fun q => { q with stack := e :: q.stack })).depthSync f
          let b := (b.setFlag (FLD f) SEQ_STAT.INSVC true).setPc f (b.get (FLD f) SEQ_EVBASE.BASE + i)
          ((b.updSeq f (fun q => { q with wait := none, long := none })).spend f 12).seqEpilogue f))))

/-- START_STEP, FIELD_DONE and STEP_COMPLETE do what R15, R156, R157 and R365 say, and a refused START_STEP completes with its code
(01_architecture.md, R15, 06_sequencer_model.md, R156, R157, 18_host_interface.md, R365, R366). For every state: START_STEP whose
command word is 0x10 and that nothing refuses records the step with its queue pair, mask and start tick, holds the pair, and starts
each named field for its start tick: at PC = SEQ_ENTRY, with FLAGS 0, DEPTH 0, INSVC 0, an empty stack, no wait and no long
instruction, nothing issued and no fail. Refused, it completes with RESULT TICKNO[15:0] in [63:48] and the code of the refusal, and
in Quiet it starts the exit. FIELD_DONE of a field whose program has ended and whose stream is empty marks it done, stops its
stamping, and sets STATE 6 unless it is 5. STEP_COMPLETE of a step that is over makes its completion entry due with the code and
RESULT of R365. A step or field for which this does not hold is left as it is. Queue of commands and memories stay. -/
def Obligations.StepsStartEndAndComplete : Prop :=
  ∀ (s : State) (q : Fin 64) (f : Fin 16) (ws : List Nat) (x : StepRec),
    let b := s.blk
    let mask := bits (ws.getD 1 0) 0 16
    let S := ws.getD 2 0
    (b.cmdOf q 0x10 = some ws → b.stepRefusal mask S = 0 →
      exec (.startStep q) s = .next (s.on (fun _ =>
        let h := b.holdQueue q
        ((List.range 16).filter (bit mask)).foldl (fun b f => (b.fieldStart f (s.blk.tickIdx S)).seqSync f)
          { h with steps := h.steps ++ [{ queue := q, mask := mask, start := s.blk.tickIdx S }] }))) ∧
    (let t := b.fieldStart f (b.tickIdx S);
      (t.seq f).stack = [] ∧ (t.seq f).wait = none ∧ (t.seq f).long = none ∧ (t.seq f).issued = 0 ∧ (t.seq f).fmask = 0 ∧
      (t.sow f).queue = [] ∧ (t.sow f).cur = none ∧ (t.sow f).judge = []) ∧
    (b.cmdOf q 0x10 = some ws → b.stepRefusal mask S ≠ 0 →
      exec (.startStep q) s = .next (s.on (fun b =>
        let x := if b.get 0 HBM_STAT.STATE = 4 then (b.set 0 HBM_STAT.STATE 5).set 0 HBM_STAT.TICK b.tick16 else b
        x.complete q (b.tick16 * 2 ^ 48) (b.stepRefusal mask S)))) ∧
    (b.cmdOf q 0x10 = none → exec (.startStep q) s = .next s) ∧
    (b.inStep f = true → (b.seq f).ended = true → (b.seq f).done = false → b.streamEmpty f = true →
      exec (.fieldDone f) s = .next (s.on (fun b =>
        let b := ((b.updSeq f (fun q => { q with done := true })).updStep f (fun s => { s with done := setBit s.done f })).tiaStop f
        if b.get (FLD f) SEQ_STAT.STATE = 5 then b else b.set (FLD f) SEQ_STAT.STATE 6))) ∧
    (b.steps.find? (fun y => y.queue == q.val && !y.closed) = some x → b.stepOver x = true →
      exec (.stepComplete q) s = .next (s.on (fun b =>
        ({ b with steps := b.steps.map (fun (y : StepRec) => if y.queue = q.val then { y with closed := true } else y) }).complete q
          (({ b with steps := b.steps.map (fun (y : StepRec) => if y.queue = q.val then { y with closed := true } else y) }).stepResult x)
          (Block.stepCode x)))) ∧
    (¬ (b.inStep f = true ∧ (b.seq f).ended = true ∧ (b.seq f).done = false ∧ b.streamEmpty f = true) → exec (.fieldDone f) s = .next s) ∧
    ((∀ y, b.steps.find? (fun y => y.queue == q.val && !y.closed) = some y → b.stepOver y = false) → exec (.stepComplete q) s = .next s)

/-- TICK_BOUNDARY, REF_LOSS, WARM_CHANGE, PLL_UNLOCK, PLL_LOCK and TICK_RESTART act on the tick generator (02_tick_and_lookahead.md, R33
to R38, R42). For every state: with the tick generator running, TICK_BOUNDARY moves the clock to the next boundary, publishes the
ended tick's results, advances the counters, passes the complete frames and, unless a commit is due, judges underruns, applies the
programs' settings, and lets each field, the calibration and the trigger lines act; TICKNO is one more, modulo 2^64. Without it
nothing happens. REF_LOSS with a good reference clears REF_OK, counts, stops the generator (and its lead, its waiting local pulses
and a release of HOLD_N) and raises source 395; PLL_UNLOCK of a locked PLL likewise with source 396, PLL_TIM taking the DLLs of the
slices with it. PLL_LOCK with a clock missing sets the five bits, starts the 10 ms, has the DLLs calibrated where PLL_TIM was one of
them, and starts tick 0 at power-up; TICK_RESTART after them sets WAIT. WARM_CHANGE sets the pin and WARM_IN, COLD and COLD_ENTRIES
follow; open gates see a reference that turns cold. -/
def Obligations.TicksAdvanceAndTheReferenceIsWatched : Prop :=
  ∀ (s : State) (p : Fin 4) (level : Bool) (t : Nat),
    let b := s.blk
    (b.flag 0 TB_STAT.TICK_RUN = true →
      exec .tickBoundary s = .next (s.on (fun b =>
        let c := (b.tickMove.tickResults b.tick).tickCounters.framesPass
        if c.commitDue then c
        else ((List.range 16).foldl Block.tickField (Block.underruns c c).progBoundary).calSync.trgTick)) ∧
      b.tickMove.tick = (b.tick + 1) % 2 ^ 64 ∧ b.tickMove.time.ticks = b.time.ticks + 1 ∧
      b.tickMove.time.now = max b.time.now (b.time.lastB + b.k) ∧ b.tickMove.time.lastB = max b.time.now (b.time.lastB + b.k)) ∧
    (b.flag 0 TB_STAT.REF_OK = true → exec .refLoss s = .next (s.on (fun b =>
      (((b.setFlag 0 TB_STAT.REF_OK false).count 0 TB_EVCNT.REF_LOSS 1).tickStop).fault 395 0))) ∧
    (let z := b.tickStop;
      z.flag 0 TB_STAT.TICK_RUN = false ∧ z.flag 0 SYNC_STAT.WAIT = false ∧ z.flag 0 SYNC_STAT.LEAD_RUN = false ∧ z.flag 0 SYNC_STAT.HOLD_REL = false ∧
      z.time.lockSince = none ∧ z.time.waitSync = (b.time.waitSync || b.flag 0 TB_STAT.TICK_RUN) ∧ z.sync.b0At = none ∧ z.sync.locals = []) ∧
    (b.flag 0 TB_STAT.TICK_RUN = false → exec .tickBoundary s = .next s) ∧
    (b.flag 0 (Block.lockBit p) = true → exec (.pllUnlock p) s = .next (s.on (fun b =>
      let b : Block := if p = 1 then (List.range 272).foldl (fun b s =>
        (b.setFlag (SLC s) TIA_STAT.DLL_LOCK false).updTia s (fun t => { t with dllAt := none })) b else b
      (((b.setFlag 0 (Block.lockBit p) false).count 0 TB_EVCNT.UNLOCK 1).tickStop).fault 396 0))) ∧
    (b.clocksGood = false → exec .pllLock s = .next (s.on (fun b =>
      let tim := b.flag 0 TB_STAT.TIM_LOCK
      let b := ([TB_STAT.REF_OK, TB_STAT.CORE_LOCK, TB_STAT.TIM_LOCK, TB_STAT.D2D_LOCK, TB_STAT.HBM_LOCK]).foldl
        (fun b F => b.setFlag 0 F true) b
      let b : Block := { b with time := { b.time with lockSince := some b.time.now } }
      let b : Block := if tim then b else (List.range 272).foldl (fun b s => b.updTia s (fun t => { t with dllDue := true })) b
      if b.time.waitSync ∨ b.flag 0 TB_STAT.TICK_RUN then b
      else (({ b with time := { b.time with lastB := b.time.now, zero := b.time.now } } : Block).setFlag 0 TB_STAT.TICK_RUN true).set 0 TICKNO.TICKNO 0))) ∧
    (b.time.lockSince = some t → b.time.waitSync = true → b.clocksGood = true → t + 1000000 ≤ b.time.now →
      b.flag 0 TB_STAT.TICK_RUN = false → exec .tickRestart s = .next (s.on (fun b => b.setFlag 0 SYNC_STAT.WAIT true))) ∧
    exec (.warmChange level) s = .next (s.on (fun b =>
      let b : Block := { b with time := { b.time with warmPin := level } }
      let warm := level != b.flag 0 TB_CTRL.WARM_POL
      let cold := !warm && !b.flag 0 TB_CTRL.WARM_IGNORE
      let t := (b.setFlag 0 TB_STAT.WARM_IN warm).setFlag 0 TB_STAT.COLD cold
      if cold && !b.cold then (t.count 0 TB_EVCNT.COLD_ENTRIES 1).gatesCold else if b.cold && !cold then t.mark 2 0 else t))

/-- FRAME_COMPLETE, LA_REARM, VECTOR_START, VECTOR_JUDGED, SOWER_EXPAND, PAGE_FETCH_COMPLETE, SJMP_APPLY and the TS_CHK rows act
(02_tick_and_lookahead.md, R44, R50, 05_edge_timing.md, R117, R131, 07_instruction_reference.md, R166, 09_sower_and_segments.md,
R207, R219, R221). For every state: FRAME_COMPLETE passes the frames that are complete, at most eight, and brings LA_NOW and LA_MIN
up; LA_REARM sets SLACK_MIN to 0xFFFFFF and LA_MIN to 2. VECTOR_START of a due vector places its edges and strobes on every channel,
takes it from the stream, has a played one judged 400 ns after its last strobe with its fails, soft fails and capture word, and
pulses its markers; VECTOR_JUDGED of a due vector counts it as judged, adds its fails to FMASK, sets F where it was issued since F
was last cleared, logs it, accounts it to its sites, resolves the records that waited and offers its word to an engine that captures
vectors. SOWER_EXPAND acts with two words and four vectors for a cycle, and then waits for a page that it needs or shows what it is
at; with up to 4 fallow vectors waiting and room it emits them. PAGE_FETCH_COMPLETE with the page there makes it resident, unless
its directory row cannot be read; SJMP_APPLY ends the plays of due jumps and counts them; TS_CHK_RUN starts a check of the staged
table unless one runs, and TS_CHK_DONE reports it. Where nothing is due nothing changes. -/
def Obligations.FieldFramesVectorsAndSower : Prop :=
  ∀ (s : State) (f : Fin 16) (upTo within after : List (List Int)) (r : OutRun) (rest : List OutRun) (j : JudgeVec) (js : List JudgeVec) (n i p : Nat)
      (e : Fin 5) (x : Block) (de : Bool),
    let b := s.blk
    (exec (.frameComplete f) s = .next (s.on (fun b => (b.completeN 8 f).laSync f))) ∧
    (exec (.laRearm f) s = .next (s.on (fun b => (b.set (FLD f) LA_STAT.SLACK_MIN 0xFFFFFF).set (FLD f) LA_STAT.LA_MIN 2))) ∧
    ((b.sow f).out = r :: rest → r.start < (b.time.now + 1) * 20000 →
      exec (.vectorStart f upTo within after) s = .next (s.on (fun b =>
        let x := (List.range 16).foldl (Block.vecChan f r.set r.start r.sym (nodeTraces upTo within after)) ⟨b, none, 0, 0, false, 0⟩
        let num := (b.sow f).vnum
        let j : JudgeVec := {
          num := num, start := r.start, fails := x.fails, soft := x.soft
          due := match x.last with
            | some l => l + 800000
            | none => r.start + 1
          word := (x.fails ||| x.soft) * 2 ^ 48 + x.pairs * 2 ^ 16 + r.set * 2 ^ 10 + r.mks * 2 ^ 6 + b01 x.moved }
        (List.range 4).foldl (fun b m => if bit r.mks m then b.sowerMarker f m r.start else b) (x.b.updSow f (fun y => { y with
          out := if r.count ≤ 1 then rest else { r with start := r.start + r.per, count := r.count - 1, mks := 0 } :: rest
          vnum := if r.kind = 0 then num + 1 else num
          judge := if r.kind = 0 then y.judge ++ [j] else y.judge }))))) ∧
    (((b.sow f).out = [] ∨ ((b.sow f).out = r :: rest ∧ (b.time.now + 1) * 20000 ≤ r.start)) → exec (.vectorStart f upTo within after) s = .next s) ∧
    ((b.sow f).judge = j :: js → j.due ≤ b.time.lastB * 20000 →
      exec (.vectorJudged f) s = .next (s.on (fun b =>
        let b := (b.updSow f (fun s => { s with judge := js })).updSeq f (fun q => { q with judged := j.num + 1, fmask := q.fmask ||| j.fails })
        let b := if j.fails ≠ 0 ∧ (b.seq f).fFrom ≤ j.num then b.setFlags f (setBit (b.flags f) 3) else b
        let soft := if b.flag (FLD f) CAP_CFG.LOG_RO then j.soft else 0
        let b := ((b.failLog f j.num (j.fails ||| soft)).siteVector f j.num j.fails).resolveRecs f (j.num + 1)
        if b.get (FLD f) CAP_CFG.SRC = 0 then b.capOffer f j.word j.start (j.fails ||| soft) else b))) ∧
    (((b.sow f).judge = [] ∨ ((b.sow f).judge = j :: js ∧ b.time.lastB * 20000 < j.due)) → exec (.vectorJudged f) s = .next s) ∧
    (exec (.sowerExpand f de) s = .next (s.on (fun b =>
      let lim := b.bHalf (b.time.ticks + 3)
      let b := (sowRun s.mem f lim false de 64 { b := b, words := 2, vecs := 4 }).b
      if b.sowBlocked f lim then b.sowWait f
      else if (b.seq f).headland then b.set (FLD f) SOW_STAT.STATE 3
      else if (b.sow f).cur.isNone ∧ (b.sow f).queue.isEmpty then b.set (FLD f) SOW_STAT.STATE 0
      else b))) ∧
    (exec (.sjmpApply f) s = .next (s.on (fun b =>
      let due := fun (a : Nat × Nat × Act) => decide (a.1 ≤ b.time.ticks) && (match a.2.2 with
        | .sjmp _ => true
        | _ => false)
      let x := b.updSeq f (fun q => { q with acts := q.acts.filter (fun a => !due a) })
      (((b.seq f).acts.filter due).foldl (fun b a => match a.2.2 with
        | .sjmp hs => (hs.foldl Block.playFinish b).count (FLD f) SOW_EVCNT.JUMPS 1
        | _ => b) x).sowSync f))) ∧
    (((b.sow f).fetch = none ∨ ((b.sow f).fetch = some p ∧ (b.hbmWaits 0 p f = true ∨ b.pageHeld p = true))) →
      exec (.pageFetchComplete f e) s = .next s) ∧
    ((b.sow f).fetch = some p → b.hbmWaits 0 p f = false → b.pageHeld p = false → b.dirRead p e = (x, false) →
      exec (.pageFetchComplete f e) s = .next (s.on (fun _ => x))) ∧
    ((b.sow f).fetch = some p → b.hbmWaits 0 p f = false → b.pageHeld p = false → b.dirRead p e = (x, true) →
      exec (.pageFetchComplete f e) s = .next (s.on (fun _ =>
        ((x.updSow f (fun s => { s with res := s.res ++ [p], fetch := none })).sowSync f).prefetch f))) ∧
    ((b.sow f).cur = none → (b.sow f).queue = [.fallow i n] → (b.seq f).headland = false → 1 ≤ n → n ≤ 4 →
      n ≤ b.sowRoom f (b.bHalf (b.time.ticks + 3)) (b.period f (b.headSet f)) →
      exec (.sowerExpand f de) s = .next (s.on (fun b =>
        ((((b.sowPut f i n symX (b.headSet f) (b.period f (b.headSet f)) 0 1).updSow f (fun s => { s with queue := [] })).set (FLD f)
          SOW_STAT.STATE 4).set (FLD f) SOW_STAT.STATE 0)))) ∧
    ((b.seq f).acts = [(i, n, .sjmp [])] → i ≤ b.time.ticks →
      exec (.sjmpApply f) s = .next (s.on (fun b =>
        ((b.updSeq f (fun q => { q with acts := [] })).count (FLD f) SOW_EVCNT.JUMPS 1).sowSync f))) ∧
    ((b.ts f).running = false →
      exec (.tsChkRun f) s = .next (s.on (fun b =>
        let y := (Block.tsFirst b.getSh f).getD (0, 0, 0)
        (b.set (FLD f) TS_CHK.STATE 3).setTs f
          { running := true, set := y.1, chan := y.2.1, rule := y.2.2, gen := b.get 0 MODE_GEN.GEN + 1 }))) ∧
    ((b.ts f).running = true → exec (.tsChkRun f) s = .next s) ∧
    ((b.ts f).running = false → exec (.tsChkDone f) s = .next s) ∧
    ((b.ts f).running = true →
      exec (.tsChkDone f) s = .next (s.on (fun b =>
        let t := b.ts f
        (b.tsReport f t.gen (if t.rule = 0 then none else some (t.set, t.chan, t.rule))).setTs f {})))

/-- PMU_CONVERSION writes the measurement word of the tick; limit and clamp entries and exits set and clear their flags once
(03_channel_slice.md, R62, R64, R66 to R69, R79, R80). For every state: a PMU_CONVERSION of a connected PMU that has not converted
this tick holds the word of R66 and R68 for the quantity that its mode measures (TICKNO, bleed, valid, path, settled, clamps,
overrange, range, kind, code) for PMU_MEAS; OVR is 1 for a voltage code below 13,108 or above 249,036, and for a current code at
either end of its 18 bits. A PMU that is off or retired, or has converted this tick, converts nothing. DRIVER_LIMIT_ENTRY of a
driver not in limit sets DRV_OVL and its live bit, counts it and raises the slice's arrival; after 1 us (100 sub-ticks)
DRIVER_OVERLOAD raises the fault of the slice with cause 1, once; DRIVER_LIMIT_EXIT clears DRV_OVL. CLAMP_ENTRY of a clamp that does
not act sets its flag, counts it and raises the arrival where CLAMP_IRQ is 1; CLAMP_EXIT clears the flag. Each leaves the state as
it was where the driver or the clamp is there already. -/
def Obligations.PmuConversionsClampsAndDriverLimits : Prop :=
  ∀ (s : State) (i : Fin 272) (vc ic t0 : Nat) (clI clV volt : Bool),
    let b := s.blk
    let m := b.get (SLC i) PMU_CFG.MODE
    let c := (if m = 1 ∨ m = 4 then ic else vc) % 2 ^ 18
    let ovr := if m = 1 ∨ m = 4 then c = 131071 ∨ c = 131072 else c < 13108 ∨ 249036 < c
    (m ≠ 0 → b.slcRole i ≠ 3 → (b.slc i).measNext = none →
      exec (.pmuConversion i vc ic clI clV) s = .next (s.on (fun b => b.updSlc i (fun x => { x with measNext := some (
        b.tick16 * 2 ^ 48 + b.get (SLC i) SLC_STAT.BLEED_ACT * 2 ^ 44 + 2 ^ 43 + b01 (b.get (SLC i) SLC_STAT.PATH != 0 || b.inSubst i) * 2 ^ 42 +
        b01 (b.notSettled i) * 2 ^ 41 + b01 (clI || b.flag (SLC i) SLC_STAT.CLAMP_I) * 2 ^ 40 +
        b01 (clV || b.flag (SLC i) SLC_STAT.CLAMP_V) * 2 ^ 39 + b01 (decide ovr) * 2 ^ 38 + b.get (SLC i) SLC_STAT.IRANGE_ACT * 2 ^ 35 +
        b01 (m == 1 || m == 4) * 2 ^ 34 + c) })))) ∧
    (m = 0 ∨ b.slcRole i = 3 ∨ (b.slc i).measNext ≠ none → exec (.pmuConversion i vc ic clI clV) s = .next s) ∧
    (b.flag (SLC i) SLC_STAT.DRV_OVL = false →
      exec (.driverLimitEntry i) s = .next (s.on (fun b =>
        let b := ((b.setFlag (SLC i) SLC_STAT.DRV_OVL true).count (SLC i) SLC_EVCNT.DRV_OVL 1).setLive i true
        (b.updSlc i (fun x => { x with limitAt := some b.time.now, limitRaised := false })).arrive i)) ∧
      exec (.driverLimitExit i) s = .next s ∧ exec (.driverOverload i) s = .next s) ∧
    (b.flag (SLC i) SLC_STAT.DRV_OVL = true →
      exec (.driverLimitExit i) s = .next (s.on (fun b => ((b.setFlag (SLC i) SLC_STAT.DRV_OVL false).setLive i false).updSlc i
        (fun x => { x with limitAt := none, limitRaised := false }))) ∧
      exec (.driverLimitEntry i) s = .next s ∧
      ((b.slc i).limitAt = some t0 → (b.slc i).limitRaised = false → t0 + 100 ≤ b.time.now →
        exec (.driverOverload i) s = .next (s.on (fun b => (b.updSlc i (fun x => { x with limitRaised := true })).fault i 1))) ∧
      ((b.slc i).limitAt = none ∨ ((b.slc i).limitAt = some t0 ∧ ((b.slc i).limitRaised = true ∨ b.time.now < t0 + 100)) →
        exec (.driverOverload i) s = .next s)) ∧
    (b.flag (SLC i) (Block.clampFld volt) = false →
      exec (.clampEntry i volt) s = .next (s.on (fun b => ((b.setFlag (SLC i) (Block.clampFld volt) true).count (SLC i) SLC_EVCNT.CLAMP 1).arriveIf
        (b.flag (SLC i) SLC_CTRL.CLAMP_IRQ) i))) ∧
    (b.flag (SLC i) (Block.clampFld volt) = true → exec (.clampEntry i volt) s = .next s) ∧
    exec (.clampExit i volt) s = .next (s.on (fun b => b.setFlag (SLC i) (Block.clampFld volt) false))

/-- PATH_RANGE_DROP, PATH_SWITCH_CHANGEOVER, PATH_HOLD_END and BOLT_SWITCH_OPEN take a slice through its path (03_channel_slice.md, R69,
R71 to R74, R76, 04_levels_and_window_monitors.md, R85, R89, R92, 21_calibration.md, R417). For every state, outside a slice that
waits in a substitution: at a tick boundary after the ramp down PATH_RANGE_DROP sets PATH 2 and the range in force 0;
PATH_SWITCH_CHANGEOVER moves the switch to the newest mode (to OFF on the way to calibration), takes the force DAC to its safe value
in a forcing mode, and ends and counts the path otherwise, where calibration opens the series disconnect; PATH_HOLD_END at a
boundary brings the new range into force and starts the ramp up (PATH 3), or ends the path, counted, where there is nothing to ramp,
settling from now. BOLT_SWITCH_OPEN at a boundary after the bolt ramp opens the PMU switch, ends the path and puts the force DAC at
the FV clear code; a bad complement raises the slice's fault with cause 4. While clearing holds the output it stays at the clear
code of the mode. Before its time each changes nothing. -/
def Obligations.SafeValuePathsRunTheirFourPhases : Prop :=
  ∀ (s : State) (i : Fin 272),
    let b := s.blk
    let path := b.get (SLC i) SLC_STAT.PATH
    let drop := path = 1 ∧ (b.slc i).downDone = true ∧ b.atBoundary = true ∧ b.substHolds i = false
    let change := path = 2 ∧ (b.slc i).dropped = true ∧ (b.slc i).changed = false
    let hold := path = 2 ∧ (b.slc i).changed = true ∧ b.atBoundary = true ∧ b.substHolds i = false
    let bolt := path = 4 ∧ (b.slc i).downDone = true ∧ b.atBoundary = true
    (drop → exec (.pathRangeDrop i) s = .next (s.on (fun b => (((b.set (SLC i) SLC_STAT.PATH 2).set (SLC i) SLC_STAT.IRANGE_ACT 0).updSlc i
        (fun x => { x with dropped := true, changed := false })).slcSync i))) ∧
    (¬ drop → exec (.pathRangeDrop i) s = .next s) ∧
    (change → exec (.pathSwitchChangeover i) s = .next (s.on (fun b =>
        let m := if (b.slc i).cal = 1 then 0 else b.get (SLC i) PMU_CFG.MODE
        let b := (b.updSlc i (fun x => { x with swMode := m, changed := true, dropped := false })).setFlag (SLC i) SLC_STAT.PMU_SW (m != 0)
        if forcing m then ((b.forceAt i (safeCode m)).forceHeld i).slcSync i
        else
          let b := ((b.set (SLC i) SLC_STAT.PATH 0).count (SLC i) SLC_EVCNT.PATHS 1).forceHeld i
          ((b.updSlc i (fun x => { x with cal := if x.cal = 1 then 2 else x.cal })).slcSync i).pathOver i))) ∧
    (¬ change → exec (.pathSwitchChangeover i) s = .next s) ∧
    (hold → exec (.pathHoldEnd i) s = .next (s.on (fun b =>
        let b := ((b.set (SLC i) SLC_STAT.PATH 3).set (SLC i) SLC_STAT.IRANGE_ACT (b.get (SLC i) PMU_CFG.IRANGE)).slcSync i
        if (b.slc i).forcePos = b.get (SLC i) PMU_FORCE.CODE then b.rampUpEnd i else b.forceMove i true))) ∧
    (b.get (SLC i) SLC_STAT.PATH = 3 → b.rampUpEnd i =
      (((((b.set (SLC i) SLC_STAT.PATH 0).count (SLC i) SLC_EVCNT.PATHS 1).forceMove i false).updSlc i
        (fun x => { x with rampEnd := some b.time.now })).slcSync i).pathOver i) ∧
    (¬ hold → exec (.pathHoldEnd i) s = .next s) ∧
    (bolt → exec (.boltSwitchOpen i) s = .next (s.on (fun b =>
        let b := ((b.set (SLC i) SLC_STAT.PATH 0).set (SLC i) SLC_STAT.IRANGE_ACT 0).setFlag (SLC i) SLC_STAT.PMU_SW false
        let b := (b.updSlc i (fun x => { x with swMode := 0, downDone := false })).forceMove i false
        (((((b.forceAt i (b.fvClear i).1).forceHeld i).slcSync i).pathOver i).faultIf (!(b.fvClear i).2) i 4).endReaction))) ∧
    (¬ bolt → exec (.boltSwitchOpen i) s = .next s)

/-- SLICE_SUBSTITUTION, SUBST_WORN_RETIRE, SUBST_SPARE_CONNECT and SUBST_SPARE_RESTORE carry out R76 (01_architecture.md, R13, R26,
03_channel_slice.md, R73, R76 to R78, 04_levels_and_window_monitors.md, R90, R108, 10_time_interval_analyser.md, R243,
20_faults_and_repair.md, R408, 21_calibration.md, R426). For every state: due, at a boundary of an idle field with its spare usable,
SLICE_SUBSTITUTION takes the field's first two resources for the repair manager and begins with the ramp down of the worn slice.
When that is done (or the worn slice is bolted with no ramp left), at a boundary, SUBST_WORN_RETIRE copies the settings to the
spare, selects the constants of the channel's hinge path and retires the worn slice with its TIA off; SUBST_SPARE_CONNECT makes the
spare the substitute of the channel with its bus tie open, the channel map pointing to it, and what the channel's last ticks, edges
and strobes have left; SUBST_SPARE_RESTORE at the next boundary lets the settings of the spare take effect, its monitor and TIA
start afresh: a spare off its path completes the substitution (RM_LAST, source 610, boundary work over), another ends the hold of
its path. Where its phase is not there each changes nothing. -/
def Obligations.SubstitutionThroughTheHingeBus : Prop :=
  ∀ (s : State) (w : Fin 272) (f : Fin 16) (c : Nat),
    let b := s.blk
    let x := b.subst f
    let p := 17 * f.val + 16
    let g := w.val / 17
    let start := b.flt.due.contains (0, w.val) = true ∧ b.slcRole w = 0 ∧ b.slcRole (17 * g + 16) = 1 ∧ b.slcBolted w = false ∧
      b.slcBolted (17 * g + 16) = false ∧ (b.subst g).phase = 0 ∧ b.idle g = true ∧ b.boundaryBusy g = false ∧ b.atBoundary = true
    let retire := x.phase = 1 ∧ ((b.slc x.worn).downDone = true ∨ (b.slcBolted x.worn = true ∧ b.get (SLC x.worn) SLC_STAT.PATH = 0)) ∧
      b.atBoundary = true
    (b.slcChan w = some c → start →
      exec (.sliceSubstitution w) s = .next (s.on (fun b =>
        let displaced := b.get (8 * (16 * g)) HASP_ENT.OWNER
        let b := (b.haspTake (16 * g)).haspTake (16 * g + 1)
        let b := { b with flt := { b.flt with due := b.flt.due.filter (fun e => e != (0, w.val)) } }
        let b := ((b.workStart (some g) 1 w).setSubst g { worn := w, chan := c, phase := 1, displaced := displaced }).slcGenStop w 2
        let m := (b.slc w).swMode
        let b := b.updSlc w (fun x => { x with substHold := true })
        let b := b.updSlc w (fun x => { x with downDone := !forcing m || x.forcePos == safeCode m })
        (if forcing m then (b.set (SLC w) SLC_STAT.PATH 1).forceMove w (!(b.slc w).downDone) else b).slcSync w))) ∧
    ((b.slcChan w = none ∨ ¬ start) → exec (.sliceSubstitution w) s = .next s) ∧
    (retire → exec (.substWornRetire f) s = .next (s.on (fun b =>
        let w := x.worn
        let b := if b.flt.degraded.any (fun d => d.1 == w) then b.mark 1 (32 + x.chan) else b
        let b := ((b.gateDrop w).copyUnit sliceRegs (SLC w) (SLC p)).calSelect f (x.chan % 16)
        let b := if b.flag (FLD f) TIA_FCHAIN.EN then b
          else ((b.updTia w (fun t => { t with fifo := [] })).set (SLC w) TIA_STAT.LEVEL 0).count (SLC p) TIA_EVCNT.LOST (b.tia w).fifo.length
        let b := ((b.tiaOff w).set (SLC w) SLC_ID.ROLE 3).set (SLC w) SLC_ID.CHAN 0x1FF
        let b := ((b.set (SLC w) SLC_STAT.PATH 0).set (SLC w) SLC_STAT.IRANGE_ACT 0).setFlag (SLC w) SLC_STAT.PMU_SW false
        let b := (b.forceMove w false).setBoth (SLC w) SLC_CTRL.BLEED 1
        let b := ((b.updSlc w (fun y => { y with swMode := 0, substHold := false })).forceHeld w).slcSync w
        let b := b.updSlc p (fun y => { y with substHold := true, swMode := 0, rampEnd := none })
        let b := ((((b.set (SLC p) SLC_STAT.IRANGE_ACT 0).forceTargetSync p).lvlRamp p).thTouch p).slcSync p
        ((b.set (SLC p) WM_STAT.RAW 0).set (SLC p) WM_STAT.VERDICT 0).setSubst f { x with phase := 2 }))) ∧
    (¬ retire → exec (.substWornRetire f) s = .next s) ∧
    (x.phase = 2 →
      exec (.substSpareConnect f) s = .next (s.on (fun b =>
        let m := b.get (SLC p) PMU_CFG.MODE
        let b := (b.set (SLC p) SLC_ID.ROLE 2).set (SLC p) SLC_ID.CHAN x.chan
        let b := if forcing m then
            let b := (b.updSlc p (fun y => { y with swMode := m, changed := true, dropped := false })).setFlag (SLC p) SLC_STAT.PMU_SW true
            ((b.forceAt p (safeCode m)).forceHeld p).set (SLC p) SLC_STAT.PATH 2
          else b
        let o := b.slc x.worn
        let b := b.updSlc p (fun y => { y with
          meas := o.meas, drvOn := o.drvOn, drvHigh := o.drvHigh, lastData := o.lastData, lastEdge := o.lastEdge, lastStrobe := o.lastStrobe })
        let b := b.updWm p (fun y => { y with hist := (b.wm x.worn).hist })
        let b := (b.setFlag (8 * f) RM_CHMAP.SUB true).set (8 * f) RM_CHMAP.K (x.chan % 16)
        let b := (b.set 0 RM_STAT.SPARE_SLC (b.get 0 RM_STAT.SPARE_SLC - 1)).setFlag (FLD f) DDS_STAT.SKEW_OLD true
        (({ b with buses := Sparse.set 0 f 0 b.buses }).slcSync p).setSubst f { x with phase := 3 }))) ∧
    (x.phase ≠ 2 → exec (.substSpareConnect f) s = .next s) ∧
    (x.phase = 3 → b.atBoundary = true →
      exec (.substSpareRestore f) s = .next (s.on (fun b =>
        let m := b.get (SLC p) PMU_CFG.MODE
        let b := b.updSlc p (fun y => { y with substHold := false })
        let b := if b.flag (SLC p) WM_CTRL.EN then (b.set (SLC p) WM_STAT.RAW 1).set (SLC p) WM_STAT.VERDICT 1 else b
        let b := (b.set (SLC p) TIA_STAT.MODE_ACT (b.get (SLC p) TIA_CTRL.MODE)).set (SLC p) TIA_STAT.SRC_ACT (b.get (SLC p) TIA_CTRL.SRC)
        let b := b.updTia p (fun t => { t with stamping := b.get (SLC p) TIA_CTRL.MODE != 0, stampFrom := none })
        let b := b.setSubst f { x with phase := 4 }
        if b.get (SLC p) SLC_STAT.PATH = 0 then
          (((b.updSlc p (fun y => { y with swMode := m })).setFlag (SLC p) SLC_STAT.PMU_SW (m != 0)).slcSync p).substComplete f
        else (b.slcSync p).holdEnd p))) ∧
    ((x.phase ≠ 3 ∨ b.atBoundary = false) → exec (.substSpareRestore f) s = .next s)

/-- SLEW_STEP moves a ramping DAC by one step; CLR_N_ASSERT, CLR_N_DEASSERT, CLR_REL and CLEAR_RELEASE_APPLY hold and release the DACs
(04_levels_and_window_monitors.md, R84, R85, R88 to R92, 13_device_power_supplies.md, R286, R289, R290). For every state: on its
interval SLEW_STEP moves a ramping level DAC STEP codes towards its target and there ends its ramp; off its interval, or with no
ramp, it changes nothing. For a force DAC it takes 4,096 codes towards the clear code while clearing ramps it there, then, while the
slew limiter moves, STEP codes towards its destination: the safe value in a ramp down or a bolt, whose end lets the range drop or
the switch open, else the target, whose end ends the ramp up. A supply DAC takes 64 codes towards its clear code, and STEP codes
towards code 0 while it is bolted or being disabled, else towards its target. CLR_N_ASSERT with CLR_IN 0 sets CLR_IN and HELD,
counts, cancels a waiting release, starts every slice and every regulator towards its clear codes, stops DDS sources and reports bad
clear codes; with CLR_IN 1 it changes nothing. CLR_N_DEASSERT clears CLR_IN. CLR_REL is refused while CLR_N is low, waits for the
next boundary while HELD is 1, and else does nothing (the model's choice, log entry 160). At that boundary CLEAR_RELEASE_APPLY ends
HELD and lets the DACs ramp to their targets; before it, it changes nothing. -/
def Obligations.SlewStepsClearingAndItsRelease : Prop :=
  ∀ (s : State) (i : Fin 272) (j : Fin 7) (r : Fin 34),
    let b := s.blk
    let ramp := b.get (SLC i) LVL_ACT1.RAMP
    let lvl := bit ramp j = true ∧ onGrid b 0 (b.get (SLC i) LVL_SLEW.INTV) = true
    let released := b.flt.relPend = true ∧ b.flag 0 CLR_STAT.HELD = true ∧ b.atBoundary = true
    (lvl → exec (.slewStep (.level i j)) s = .next (s.on (fun b =>
        let v := slewTo (b.get (SLC i) LVL_SLEW.STEP) (b.get (SLC i) (lvlAct j)) (b.get (SLC i) (lvlTarget j))
        let b := (b.set (SLC i) (lvlAct j) v).touch i j
        if v = b.get (SLC i) (lvlTarget j) then b.set (SLC i) LVL_ACT1.RAMP (clrBit ramp j) else b))) ∧
    (¬ lvl → exec (.slewStep (.level i j)) s = .next s) ∧
    exec (.slewStep (.force i)) s = .next (s.on (fun b =>
        let b := if (b.slc i).clrRamp = true then
            let c := (b.forceClear i (b.slc i).swMode).1
            let v := slewTo 4096 (b.get (SLC i) FORCE_ACT.OUT) c
            let b := b.forceOut i v
            if v = c then (b.updSlc i (fun x => { x with clrRamp := false, rampEnd := some b.time.now })).forceRampSync i else b
          else b
        let ph := b.get (SLC i) SLC_STAT.PATH
        if (b.slc i).moving = true ∧ onGrid b (if ph = 4 then (b.slc i).rampFrom else 0) (b.get (SLC i) FORCE_SLEW.INTV) = true then
          let dest := if ph = 1 ∨ ph = 4 then safeCode (b.slc i).swMode else b.get (SLC i) PMU_FORCE.CODE
          let v := slewTo (b.get (SLC i) FORCE_SLEW.STEP) (b.slc i).forcePos dest
          let b := b.forceAt i v
          if v ≠ dest then b
          else if ph = 1 ∨ ph = 4 then ((b.forceMove i false).updSlc i (fun x => { x with downDone := true })).endReaction
          else b.rampUpEnd i
        else b)) ∧
    exec (.slewStep (.dps r)) s = .next (s.on (fun b =>
        let b := if (b.dps r).clrRamp = true then
            let c := (b.dpsClear r).1
            let v := slewTo 64 (b.dps r).out c
            let b := b.dpsOut r v
            if v = c then (b.updDps r (fun d => { d with clrRamp := false })).dpsRampSync r else b
          else b
        if (b.dps r).moving = true ∧ onGrid b (if (b.dps r).bolt = 2 then (b.dps r).rampFrom else 0) (b.get (DPS r) DPS_SLEW.INTV) = true then
          let dest := if (b.dps r).bolt = 2 ∨ (b.dps r).ending = true then 0 else b.get (DPS r) DPS_V.CODE
          let v := slewTo (b.get (DPS r) DPS_SLEW.STEP) (b.dps r).pos dest
          let b := b.dpsAt r v
          if v = dest then (b.dpsMove r false).endReaction else b
        else b)) ∧
    (b.flag 0 CLR_STAT.CLR_IN = false → exec .clrNAssert s = .next (s.on (fun b =>
      let badS := (List.range 272).filter (fun s => !b.slcClearOk s)
      let badR := (List.range 34).filter (fun r => !((b.dpsClear r).2 && (b.dpsThClear r).2.2))
      let b := if b.flt.relPend then b.setFlag 0 CLR_STAT.REL_REFUSED true else b
      let b := { b with flt := { b.flt with relPend := false } }
      let b := ((b.setFlag 0 CLR_STAT.CLR_IN true).setFlag 0 CLR_STAT.HELD true).count 0 CLR_STAT.ASSERTS 1
      let b := (List.range 272).foldl (fun b s =>
        ((((b.lvlToClear s).slcGenStop s 4).forceClrStart s).setFlag (SLC s) WM_STAT.CLR_HELD true).thTouch s) b
      let b := (List.range 34).foldl (fun b r =>
        (((b.dpsGenStop r 4).setFlag (DPS r) DPS_WM_STAT.CLR_HELD true).dpsThTouch r).dpsClrStart r) b
      let b := (List.range 16).foldl Block.ddsStop b
      badR.foldl (fun b r => b.fault (322 + r) 7) (badS.foldl (fun b s => b.fault s 4) b)))) ∧
    (b.flag 0 CLR_STAT.CLR_IN = true → exec .clrNAssert s = .next s) ∧
    exec .clrNDeassert s = .next (s.on (fun b => b.setFlag 0 CLR_STAT.CLR_IN false)) ∧
    exec .clrRel s = .next (s.on (fun b =>
      if b.flag 0 CLR_STAT.CLR_IN = true then b.setFlag 0 CLR_STAT.REL_REFUSED true
      else if b.flag 0 CLR_STAT.HELD = true then { b.setFlag 0 CLR_STAT.REL_REFUSED false with flt := { b.flt with relPend := true } }
      else b)) ∧
    (released → exec .clearReleaseApply s = .next (s.on (fun b =>
      let b := { b.setFlag 0 CLR_STAT.HELD false with flt := { b.flt with relPend := false } }
      ((List.range 34).foldl Block.dpsUnclear ((List.range 272).foldl Block.slcUnclear b)).mark 3 0))) ∧
    (¬ released → exec .clearReleaseApply s = .next s)

/-- GENERATOR_START, GENERATOR_STEP, READBACK_SLOT, READBACK_OVERDUE, WM_SAMPLE, WM_CLEAR and the self-check starts do what chapter 4
says (03_channel_slice.md, R487, 04_levels_and_window_monitors.md, R88, R93, R94, R97 to R106, R109, 11_dds_and_digitiser.md, R261,
13_device_power_supplies.md, R288, R290). For every state: GENERATOR_START under R93's conditions loads the noise register and
starts at the target, and else changes nothing. GENERATOR_STEP of a running generator on its interval gives the next point about the
target, replaced by the nearest valid code and counted where it is none; a VMAX that fails its complement raises the regulator's
fault instead; off the interval, or stopped, it changes nothing. READBACK_SLOT of an enabled list whose slot was not discarded
judges the entry chosen at its start: with its code changed the entry stays to be taken again; within tolerance the list moves on;
else a mismatch is recorded; passing the end of the list by skipping completes a cycle; where every entry is skipped nothing is
judged; then the next entry is chosen. A disabled list, or a discarded slot, changes nothing. AGE above MAXAGE raises the field's
overdue source once. WM_SAMPLE of a disabled slice monitor changes nothing; enabled, it skips and counts, or gives RAW, with 5
(INVALID) where TH_HI is not above TH_LO, 3 above +7 V and 4 below -2 V; a regulator's sample is a step of a running self-check,
else judged and guarded. WM_CLEAR makes VERDICT RAW. A requested or periodic self-check starts once, where none runs. -/
def Obligations.GeneratorsReadbackAndMonitors : Prop :=
  ∀ (s : State) (u : Unit2) (f : Fin 16) (i : Fin 272) (r : Fin 34) (uv : Int) (hi lo : Bool),
    let b := s.blk
    let g := Block.genRegs u
    let start := b.flag g.base g.run = true ∧ b.flag g.base g.act = false ∧ b.genQuiet u = true ∧ b.held = false ∧
      (b.gen g.unit).needOff = false ∧ b.atBoundary = true
    let point := b.flag g.base g.act = true ∧ onGrid b 0 (b.get g.base g.gintv) = true
    let t := b.time.now - 240
    let slot := b.flag (FLD f) RB_CTRL.EN = true ∧ b.rbFits f t = true ∧ (b.rb f).used ≤ t
    let n := if (b.rb f).selAt = t then (b.rb f).sel else b.rbNext f t (Block.rbLen f) (b.rb f).pos
    let m := monSlice i
    let auto := b.get (DPS r) DPS_WM_CHK.INTV ≠ 0 ∧ b.tick % b.get (DPS r) DPS_WM_CHK.INTV = 0 ∧ (b.wm (272 + r)).chk = 0 ∧ b.atBoundary = true
    (start → exec (.generatorStart u) s = .next (s.on (fun b =>
        let b := b.updGen g.unit (fun x => { x with lfsr := b.get g.base g.seed, leg := 0, pos := 0, offs := 0 })
        (b.setFlag g.base g.act true).set g.base g.out (b.get g.base g.target)))) ∧
    (¬ start → exec (.generatorStart u) s = .next s) ∧
    (point → b.genLimitOk u = true → exec (.generatorStep u) s = .next (s.on (fun b =>
        let b := b.genBase u
        let x := genNext (b.get g.base g.wave) (b.get g.base g.ampl) (b.get g.base g.gstep) (b.gen g.unit)
        let b := b.updGen g.unit (fun _ => x)
        let v : Int := Int.ofNat (b.get g.base g.target) + x.offs
        if v < Int.ofNat (b.genRange u).1 then (b.set g.base g.out (b.genRange u).1).count g.base g.clips 1
        else if Int.ofNat (b.genRange u).2 < v then (b.set g.base g.out (b.genRange u).2).count g.base g.clips 1
        else b.set g.base g.out v.toNat))) ∧
    (point → b.genLimitOk u = false → exec (.generatorStep u) s = .next (s.on (fun b => b.fault (Block.unitSource u) 7))) ∧
    (¬ point → exec (.generatorStep u) s = .next s) ∧
    (slot → n = none → exec (.readbackSlot f uv) s = .next (s.on (fun b => b.rbChoose f))) ∧
    (∀ k, slot → n = some k → exec (.readbackSlot f uv) s = .next (s.on (fun b =>
        let b := if k < Block.rbLen f then b else b.rbCycle f
        let p := k % Block.rbLen f
        let e := Block.rbEntry f p
        let b := if p = (b.rb f).pos then b else b.updRb f (fun x => { x with pos := p, miss := 0 })
        (if b.rbChanged t e.1 e.2 = true then b
         else if b.rbWithin f e.1 e.2 uv = true then b.rbAdvance f p
         else b.rbMismatch f p e.1 e.2).rbChoose f))) ∧
    (¬ slot → exec (.readbackSlot f uv) s = .next s) ∧
    exec (.readbackOverdue f) s = .next (s.on (fun b =>
      if b.rbAge f ≤ b.get (FLD f) RB_CTRL.MAXAGE then b.updRb f (fun x => { x with overdue := false })
      else if (b.rb f).overdue then b else (b.updRb f (fun x => { x with overdue := true })).fault (272 + f) 1)) ∧
    (b.flag m.base m.en = true → exec (.wmSample (.slice i) uv hi lo) s = .next (s.on (fun b =>
        if b.wmSkips m = true then b.count m.base m.skips 1
        else
          let th := b.wmThresholds m
          b.wmTake m (if th.1 ≤ th.2 then 5 else if 7000000 < uv then 3 else if uv < -2000000 then 4
            else rawOf (b.get m.base m.raw) uv (-2500000) th.1 th.2 (b.get m.base m.hys))))) ∧
    (b.flag m.base m.en = false → exec (.wmSample (.slice i) uv hi lo) s = .next s) ∧
    ((b.wm (272 + r)).chk ≠ 0 → exec (.wmSample (.dps r) uv hi lo) s = .next (s.on (fun b => b.chkStep r (b01 hi * 2 + b01 lo)))) ∧
    ((b.wm (272 + r)).chk = 0 → exec (.wmSample (.dps r) uv hi lo) s = .next (s.on (fun b =>
      (b.wmSample (monDps r) (fun p hi lo h => rawOf p uv (-500000) hi lo h)).dpsGuard r))) ∧
    exec (.wmClear (.slice i)) s = .next (s.on (fun b => b.setVerdict (monSlice i) (b.get (SLC i) WM_STAT.RAW))) ∧
    exec (.wmClear (.dps r)) s = .next (s.on (fun b => (b.setVerdict (monDps r) (b.get (DPS r) DPS_WM_STAT.RAW)).dpsGuard r)) ∧
    ((b.wm (272 + r)).chk = 0 → exec (.dpsWmChkStart r) s = .next (s.on (fun b => b.updWm (272 + r) (fun w => { w with chkReq := true })))) ∧
    ((b.wm (272 + r)).chk ≠ 0 → exec (.dpsWmChkStart r) s = .next s) ∧
    (auto → exec (.dpsSelfcheckAutoStart r) s = .next (s.on (fun b =>
        (b.updWm (272 + r) (fun w => { w with chk := 1, chkReq := false })).set (DPS r) DPS_WM_CHK.TICK b.tick))) ∧
    (¬ auto → exec (.dpsSelfcheckAutoStart r) s = .next s)

/-- DPS_CONNECT, DISCONNECT, CONVERSION, SENSE_OPEN, CLAMP_ENTRY, CLAMP_EXIT, OVERLOAD, GATE_LIMIT and BOLT_GROUP act on a regulator
(13_device_power_supplies.md, R279, R281 to R283, R285 to R287, R289, R290, R292, 14_sites_and_results.md, R299 to R301). For every
state: after its wait, at a boundary, DPS_CONNECT closes the output switch, drives the gate land in booster mode, and ramps the DAC,
while clearing holds it to its clear code. At code 0, at a boundary, DPS_DISCONNECT of a regulator that is bolted or being disabled
opens it, closes the discharge and takes DAC and gate land to 0. DPS_CONVERSION of a connected regulator that has not converted in
this tick holds the word of R287 for DPS_MEAS, OVR 1 at a limit of the voltage or the current code. DPS_SENSE_OPEN while enabled
sets SENSE_OPEN, counts, and raises source 322 + r with cause 1; DPS_OVERLOAD of a clamp that has acted for more than 10 ms cause 2,
once; DPS_GATE_LIMIT of a connected booster cause 3. DPS_CLAMP_ENTRY with a load at the clamp in force sets CLAMP, counts and raises
the arrival; DPS_CLAMP_EXIT clears CLAMP. At a boundary DPS_BOLT_GROUP starts each next group whose predecessors have ended their
ramp. Where its condition does not hold each changes nothing. -/
def Obligations.SuppliesConnectConvertAndAreWatched : Prop :=
  ∀ (s : State) (r : Fin 34) (vc ic load t0 : Nat) (clamp : Bool),
    let b := s.blk
    let connect := b.flag (DPS r) DPS_STAT.WAIT = true ∧ (b.dps r).waitLeft = 0 ∧ b.atBoundary = true
    let opens := ((b.dps r).ending = true ∨ (b.dps r).bolt = 2) ∧ (b.dps r).pos = 0 ∧ b.atBoundary = true
    let convert := b.flag (DPS r) DPS_STAT.OUT_SW = true ∧ (b.dps r).measNext = none
    let sense := b.flag (DPS r) DPS_CTRL.EN = true ∧ b.flag (DPS r) DPS_STAT.SENSE_OPEN = false
    let enters := b.flag (DPS r) DPS_STAT.CLAMP = false ∧ b.dpsClamp r ≤ load
    let v := vc % 2 ^ 18
    let c := ic % 2 ^ 18
    let gate := b.flag (DPS r) DPS_CTRL.BOOST = true ∧ b.flag (DPS r) DPS_STAT.OUT_SW = true
    (connect → exec (.dpsConnect r) s = .next (s.on (fun b =>
        let b := (b.setFlag (DPS r) DPS_STAT.WAIT false).setFlag (DPS r) DPS_STAT.OUT_SW true
        let b := b.updDps r (fun d => { d with gateHeld := !b.flag (DPS r) DPS_CTRL.BOOST })
        (if b.held then b.dpsClrStart r else b.dpsRamp r).dpsSync r))) ∧
    (¬ connect → exec (.dpsConnect r) s = .next s) ∧
    (opens → exec (.dpsDisconnect r) s = .next (s.on (fun b =>
        let b := b.setFlag (DPS r) DPS_STAT.OUT_SW false
        let b := b.updDps r (fun d => { d with ending := false, bolt := if d.bolt = 2 then 0 else d.bolt, clrRamp := false, gateHeld := true })
        let b := (if (b.dps r).out = 0 then b else b.dpsOut r 0).dpsMove r false
        ((b.setFlag (DPS r) DPS_STAT.GATE_LIM false).dpsSync r).endReaction))) ∧
    (¬ opens → exec (.dpsDisconnect r) s = .next s) ∧
    (convert → exec (.dpsConversion r vc ic clamp) s = .next (s.on (fun b => b.updDps r (fun d => { d with measNext := some (
        b.tick16 * 2 ^ 48 + 2 ^ 47 + b01 (clamp || b.flag (DPS r) DPS_STAT.CLAMP) * 2 ^ 46 +
        b01 (b.flag (DPS r) DPS_STAT.RAMP || decide (b.sampleAt (b.get (DPS r) DPS_TIME.OFS) < (b.dps r).rangeUntil)) * 2 ^ 45 +
        b01 (v == 0 || v == 262143 || c == 131071 || c == 131072) * 2 ^ 44 +
        b.get (DPS r) DPS_CTRL.IRANGE * 2 ^ 42 + v * 2 ^ 18 + c) })))) ∧
    (¬ convert → exec (.dpsConversion r vc ic clamp) s = .next s) ∧
    (sense → exec (.dpsSenseOpen r) s = .next (s.on (fun b =>
        let b := (b.setFlag (DPS r) DPS_STAT.SENSE_OPEN true).count (DPS r) DPS_EVCNT.SENSE_OPEN 1
        ((b.dpsSync r).setLive (322 + r) true).fault (322 + r) 1))) ∧
    (¬ sense → exec (.dpsSenseOpen r) s = .next s) ∧
    (enters → exec (.dpsClampEntry ⟨r, load⟩) s = .next (s.on (fun b =>
      let b := (b.setFlag (DPS r) DPS_STAT.CLAMP true).count (DPS r) DPS_EVCNT.CLAMP 1
      let b := b.updDps r (fun d => { d with clampAt := some b.time.now, clampRaised := false })
      b.arriveIf (b.flag (DPS r) DPS_CTRL.CLAMP_IRQ) (400 + r)))) ∧
    (¬ enters → exec (.dpsClampEntry ⟨r, load⟩) s = .next s) ∧
    exec (.dpsClampExit r) s = .next (s.on (fun b =>
      (b.setFlag (DPS r) DPS_STAT.CLAMP false).updDps r (fun d => { d with clampAt := none, clampRaised := false }))) ∧
    ((b.dps r).clampAt = some t0 → exec (.dpsOverload r) s = .next (s.on (fun b =>
      if b.flag (DPS r) DPS_STAT.CLAMP = true ∧ (b.dps r).clampRaised = false ∧ t0 + 1000000 < b.time.now then
        (b.updDps r (fun d => { d with clampRaised := true })).fault (322 + r) 2
      else b))) ∧
    ((b.dps r).clampAt = none → exec (.dpsOverload r) s = .next s) ∧
    (gate → exec (.dpsGateLimit r) s = .next (s.on (fun b => (b.setFlag (DPS r) DPS_STAT.GATE_LIM true).fault (322 + r) 3))) ∧
    (¬ gate → exec (.dpsGateLimit r) s = .next s) ∧
    (b.atBoundary = true → exec .dpsBoltGroup s = .next (s.on (fun b => ((List.range 34).foldl (fun b r =>
      if (b.dps r).bolt = 1 ∧ (List.range 34).all (fun q => !((b.dps q).boltId == (b.dps r).boltId && (b.dps q).bolt == 2 && (b.dps q).pos != 0))
      then b.groupStart (b.dps r).boltId else b) b).endReaction))) ∧
    (b.atBoundary = false → exec .dpsBoltGroup s = .next s)

/-- SEG_ALLOC, SEG_SEAL, SEG_UNSEAL, SEG_FREE, SEG_FREE_DONE and SOW_DCD_ACCESS, with the codes of R214 where refused
(09_sower_and_segments.md, R208, R211 to R218, 18_host_interface.md, R364). For every state. SEG_ALLOC, SEG_SEAL, SEG_UNSEAL and
SEG_FREE of a fetched command whose directory row cannot be read complete with 0x36; otherwise: SEG_ALLOC takes the first n free
pages from the hint on, links them as a FILLING chain and completes with its head page, or with fewer free pages completes with
0x30. SEG_SEAL that passes every check of R214 makes the chain READY, SEG_UNSEAL takes a READY chain back to FILLING, SEG_FREE frees
an unprotected chain at once and gives a protected one to an operation slot; each completes with its code, 0 where it is done, and
DIR_LAST records it; a refusal changes no page. Without a fetched command each changes nothing. SEG_FREE_DONE zero-fills and frees a
protected chain, or ends with the code that bars it. A read of SOW_DCD gives the word at SOW_DCA, a write of symbols to an idle
field stores it, and the address moves on; any other write raises the field's configuration error. -/
def Obligations.SegmentCommandsChangeTheDirectory : Prop :=
  ∀ (s : State) (q : Fin 64) (e : Fin 5) (k : Fin 256) (f : Fin 16) (ws : List Nat) (w : Word),
    let b := s.blk
    let w1 := ws.getD 1 0
    let p := bits w1 0 20
    let hint := bits (ws.getD 2 0) 0 20
    let n := bits w1 24 17
    let a := b.get (FLD f) SOW_DCA.ADDR
    let sp := b.slotWord k 1 % 2 ^ 20
    (b.cmdOf q 0x20 = some ws → exec (.segAlloc q e) s = .next (s.on (fun b =>
        let r := b.dirRead hint e
        let ps := r.1.freePages 1048576 n hint
        if r.2 = false then (r.1.dirLast hint (0x20 + q) 0x36).complete q 0 0x36
        else if ps.length < n then (r.1.dirLast hint (0x20 + q) 0x30).complete q 0 0x30
        else ((r.1.chainAlloc (bits w1 0 4) (bits w1 4 4) ps).dirLast (ps.headD 0) (0x20 + q) 0).complete q (ps.headD 0) 0))) ∧
    (b.cmdOf q 0x21 = some ws → exec (.segSeal q e) s = .next (s.on (fun b =>
        let r := b.dirRead p e
        let c := if r.2 = false then 0x36 else (r.1.chainRefuse p).getD (if r.1.pgOwner p ≠ 1 then 0x35 else if r.1.pgState p ≠ 1 then 0x32
          else if headerOk s.mem p = false then 0x33 else if headerPages s.mem p ≠ (r.1.chain p).length then 0x34 else 0)
        ((if c = 0 then r.1.chainSet 2 p else r.1).dirLast p (0x20 + q) c).complete q 0 c))) ∧
    (b.cmdOf q 0x22 = some ws → exec (.segUnseal q e) s = .next (s.on (fun b =>
        let r := b.dirRead p e
        let c := if r.2 = false then 0x36 else (r.1.chainRefuse p).getD (if r.1.pgOwner p ≠ 1 then 0x35 else if r.1.pgState p ≠ 2 then 0x32 else 0)
        ((if c = 0 then r.1.chainSet 1 p else r.1).dirLast p (0x20 + q) c).complete q 0 c))) ∧
    (b.cmdOf q 0x23 = some ws → exec (.segFree q e) s = .next (s.on (fun b =>
        let r := b.dirRead p e
        let c := if r.2 = false then 0x36 else r.1.freeCode p
        if c ≠ 0 then (r.1.dirLast p (0x20 + q) c).complete q 0 c
        else if r.1.pgProt p then (r.1.dirLast p (0x20 + q) (if r.1.freeSlot.isNone then 0x03 else 0)).takeSlot q []
        else ((r.1.chainFree p).dirLast p (0x20 + q) 0).complete q 0 0))) ∧
    (b.cmdOf q 0x20 = none → exec (.segAlloc q e) s = .next s) ∧ (b.cmdOf q 0x21 = none → exec (.segSeal q e) s = .next s) ∧
    (b.cmdOf q 0x22 = none → exec (.segUnseal q e) s = .next s) ∧ (b.cmdOf q 0x23 = none → exec (.segFree q e) s = .next s) ∧
    (b.slotRuns k 0x23 = true → b.freeCode sp = 0 → exec (.segFreeDone k) s = .next { s with
        blk := (b.chainFree sp).slotEnd k 0
        mem := (b.chain sp).foldl zeroPage s.mem }) ∧
    (b.slotRuns k 0x23 = true → b.freeCode sp ≠ 0 → exec (.segFreeDone k) s = .next { s with
        blk := (b.dirLast sp (Block.queueOwner (b.slot k).queue) (b.freeCode sp)).slotEnd k (b.freeCode sp) }) ∧
    (b.slotRuns k 0x23 = false → exec (.segFreeDone k) s = .next s) ∧
    exec (.sowDcdAccess f none) s = .next (s.on (fun b =>
      ({ b with host := { b.host with lastRead := [dictWord s.mem f a] } }).set (FLD f) SOW_DCA.ADDR ((a + 1) % 4096))) ∧
    (b.idle f = true → symbolsOk w.toNat = true → exec (.sowDcdAccess f (some w)) s = .next { s with
      blk := b.set (FLD f) SOW_DCA.ADDR ((a + 1) % 4096)
      mem := setDictWord s.mem f a w.toNat }) ∧
    (b.idle f = false ∨ symbolsOk w.toNat = false → exec (.sowDcdAccess f (some w)) s = .next (s.on (fun b => b.fault (272 + f) 0)))

/-- BAR2_WRITE stores exactly its bytes on writable pages, BAR2_READ returns them, SEG_FREE_DONE zeroes the chain, nothing else changes
(09_sower_and_segments.md, R216, R217, 18_host_interface.md, R355). For every state and every access inside the 32 GiB window, once
start-up is over and the memory trained: BAR2_WRITE ends in a next state in which each byte of the data whose page is a FILLING,
unprotected pattern page stands at its address, and every other byte of memory is as before; BAR2_READ changes no memory and returns
for each address 0xFF on a protected page, the stored byte on a page with a frame. Before that a write reaches no page and leaves
the state as it was, and a read changes no memory and gives no stated value (the model's choice, log entry 157). Past the window
both fault with outsideWindow. After SEG_FREE_DONE of a chain that may be freed every byte of its pages is zero and every other byte
is as before; a chain that may not keeps every byte. -/
def Obligations.PageWindowReadsAndWritesItsBytes : Prop :=
  ∀ (s : State) (a n : Nat) (data : List Byte) (k : Fin 256),
    let p := s.blk.slotWord k 1 % 2 ^ 20
    let ready := s.blk.flag 0 HQ_STAT.READY = true ∧ s.blk.get 0 HBM_STAT.STATE ≠ 0
    (ready → a + data.length ≤ 2 ^ 35 → Yields (exec (.bar2Write a data) s) (fun t =>
      (∀ i (h : i < data.length), bar2Writable s.blk ((a + i) / 32768) = true → Memory.byte t.mem (a + i) = data[i]) ∧
      (∀ i, i < data.length → bar2Writable s.blk ((a + i) / 32768) = false → Memory.byte t.mem (a + i) = Memory.byte s.mem (a + i)) ∧
      (∀ x, x < a ∨ a + data.length ≤ x → Memory.byte t.mem x = Memory.byte s.mem x))) ∧
    (¬ ready → a + data.length ≤ 2 ^ 35 → exec (.bar2Write a data) s = .next s) ∧
    (2 ^ 35 < a + data.length → exec (.bar2Write a data) s = .fault .outsideWindow) ∧
    (ready → a + n ≤ 2 ^ 35 → Yields (exec (.bar2Read a n) s) (fun t => t.mem = s.mem ∧ t.blk.host.lastRead.length = n ∧
      ∀ i, i < n → (s.blk.pgProt ((a + i) / 32768) = true → t.blk.host.lastRead.getD i 0 = 0xFF) ∧
        (s.blk.pgProt ((a + i) / 32768) = false → s.blk.pgState ((a + i) / 32768) ≠ 4 →
          t.blk.host.lastRead.getD i 0 = (Memory.byte s.mem (a + i)).toNat))) ∧
    (¬ ready → a + n ≤ 2 ^ 35 → Yields (exec (.bar2Read a n) s) (fun t => t.mem = s.mem ∧ t.blk.host.lastRead.length = n)) ∧
    (2 ^ 35 < a + n → exec (.bar2Read a n) s = .fault .outsideWindow) ∧
    (s.blk.slotRuns k 0x23 = true → s.blk.freeCode p = 0 → Yields (exec (.segFreeDone k) s) (fun t =>
      (∀ x, x / 32768 ∈ s.blk.chain p → Memory.byte t.mem x = 0) ∧
      (∀ x, x / 32768 ∉ s.blk.chain p → Memory.byte t.mem x = Memory.byte s.mem x))) ∧
    (s.blk.slotRuns k 0x23 = false ∨ s.blk.freeCode p ≠ 0 → Yields (exec (.segFreeDone k) s) (fun t => t.mem = s.mem))

/-- HASP_CLAIM, HASP_RELEASE, TRG_OUT_CMD, TRIG_OUT_PULSE_END, TRIG_IN_EDGE, FLASH_JOB_START and FLASH_JOB_DONE (01_architecture.md, R19
to R24, R28, 15_multi_module_sync.md, R316, R317, 22_security_and_boot.md, R432). For every state: HASP_CLAIM of a fetched command
refuses an index that names no resource with 0x22 and one no queue may claim with 0x23; one held by the pair takes the tag; a free
one goes to the pair with its tag, GEN moving on; each completes with 0; of one held by another it counts a conflict, records it,
and completes with 0x21 and the holder in RESULT. HASP_RELEASE refuses with 0x22, with 0x25 what is free (0 with FORCE) or held by
another without FORCE, with 0x23 what may not be claimed, or forced from the block itself, with 0x24 what is active or whose
sequencer is not idle, and else frees the resource. Without a fetched command both change nothing. TRG_OUT_CMD of a line no
sequencer holds waits for its boundary, a command of 0 does nothing, held it is a configuration error of source 404. At a pulse's
end the line goes low and waiting commands act. TRIG_IN_EDGE that is wide enough, at its land's instant plus DLY, sets the level; of
the set polarity it counts, triggers the engines and raises source 562 + n; too short, or before that instant, it changes nothing. A
flash job starts when none runs; its end is recorded, and a failure is counted with its address and raises source 603. -/
def Obligations.HaspsLinesAndFlashJobs : Prop :=
  ∀ (s : State) (q : Fin 64) (n : Fin 8) (c : Fin 4) (ws : List Nat) (rising wide ok : Bool) (a : Nat) (j : Nat × Nat) (t : List (Nat × Nat)),
    let b := s.blk
    let i := bits (ws.getD 1 0) 0 9
    let tag := bits (ws.getD 1 0) 16 16
    let force := bit (ws.getD 1 0) 63 = true
    let w := b.haspOwner i
    let me := 0x20 + q.val
    let pulse := b.sync.pulses.any (fun p => p.1 == n.val && decide (p.2 < (b.time.now + 1) * 20000)) = true
    let at_ := a + b.get (8 * (1 + n.val)) LINE_CAL.DLY
    (b.cmdOf q 0x18 = some ws → exec (.haspClaim q) s = .next (s.on (fun b =>
        if haspExists i = false then b.complete q 0 0x22
        else if haspOpen i = false then b.complete q 0 0x23
        else if w = me then (b.set (8 * i) HASP_ENT.TAG tag).complete q 0 0
        else if w = 0 then
          ((((b.set (8 * i) HASP_ENT.OWNER me).set (8 * i) HASP_ENT.TAG tag).set (8 * i) HASP_ENT.STATE 1).bump (8 * i)
            HASP_ENT.GEN).complete q 0 0
        else
          let k := (b.count 0 HASP_CONFLICTS.COUNT 1).set 0 HASP_LAST.REQUESTER me
          (((k.set 0 HASP_LAST.OWNER w).set 0 HASP_LAST.INDEX i).set 0 HASP_LAST.TICK k.tick16).complete q (w * 256) 0x21))) ∧
    (b.cmdOf q 0x18 = none → exec (.haspClaim q) s = .next s) ∧
    (b.cmdOf q 0x19 = some ws → exec (.haspRelease q) s = .next (s.on (fun b =>
        if haspExists i = false then b.complete q 0 0x22
        else if w = 0 then b.complete q 0 (if force then 0 else 0x25)
        else if haspOpen i = false ∨ (force ∧ 0x60 ≤ w) then b.complete q 0 0x23
        else if w ≠ me ∧ ¬ force then b.complete q 0 0x25
        else if b.haspActive i = true ∨ (w ≠ me ∧ w ≤ 0x11 ∧ b.idle (b.ownerField w) = false) then b.complete q 0 0x24
        else (((b.set (8 * i) HASP_ENT.OWNER 0).set (8 * i) HASP_ENT.TAG 0).set (8 * i) HASP_ENT.STATE 0).complete q 0 0))) ∧
    (b.cmdOf q 0x19 = none → exec (.haspRelease q) s = .next s) ∧
    (b.seqHeld (256 + n.val) = false → exec (.trgOutCmd n c) s = .next (s.on (fun b =>
      if c.val = 0 then b else { b with sync := { b.sync with cmds := b.sync.cmds ++ [(n.val, c.val, b.time.now)] } }))) ∧
    (b.seqHeld (256 + n.val) = true → exec (.trgOutCmd n c) s = .next (s.on (fun b => b.fault 404 0))) ∧
    (pulse → exec (.trigOutPulseEnd n) s = .next (s.on (fun b =>
        let mine := b.sync.waits.filter (fun w => w.1 == n.val)
        let b := { b with sync := { b.sync with
          pulses := b.sync.pulses.filter (fun p => p.1 != n.val), waits := b.sync.waits.filter (fun w => w.1 != n.val) } }
        mine.foldl (fun b w => b.trgDrive n w.2 (b.time.now * 20000)) (b.set (8 * n) TRG_OUT_CFG.LEVEL 0)))) ∧
    (¬ pulse → exec (.trigOutPulseEnd n) s = .next s) ∧
    (wide = true → at_ < (b.time.now + 1) * 20000 → exec (.trigInEdge n rising ⟨wide, a⟩) s = .next (s.on (fun b =>
      let b := b.setFlag (8 * n) TRG_IN_CFG.LEVEL rising
      if rising = b.flag (8 * n) TRG_IN_CFG.POL then b
      else ((List.range 16).foldl (fun b f => b.capMarker 3 f n at_) (b.count (8 * n) TRG_IN_CFG.EDGES 1)).arrive (562 + n)))) ∧
    (wide = false ∨ (b.time.now + 1) * 20000 ≤ at_ → exec (.trigInEdge n rising ⟨wide, a⟩) s = .next s) ∧
    (b.flash.running = none → b.flash.queue = j :: t → exec .flashJobStart s = .next (s.on (fun b =>
      ({ b with flash := { b.flash with queue := t, running := some j } }).flashSync))) ∧
    (b.flash.running ≠ none ∨ b.flash.queue = [] → exec .flashJobStart s = .next s) ∧
    (b.flash.running = some j → exec (.flashJobDone ok a) s = .next (s.on (fun b =>
        let ended := if j.1 = 6 then b.flash.ended else b.flash.ended ++ [(j.1, j.2, ok)]
        let b := ({ b with flash := { b.flash with running := none, ended := ended } }).flashSync
        if ok then b else ((b.count 0 BF_STAT.ERRORS 1).set 0 BF_STAT.ADDR a).arrive 603))) ∧
    (b.flash.running = none → exec (.flashJobDone ok a) s = .next s)

/-- TIA_EDGE takes, loses or misses a stamp; STAMP_WRITE, STAMP_FLUSH, TIA_FCHAIN_WRITE, STAMP_CHAIN_DETACH and TIA_POP move stamps on
(10_time_interval_analyser.md, R227 to R235, R239, R240, R245, 03_channel_slice.md, R60). For every state: TIA_EDGE brings the
comparator outputs up to the node; where the output of the source in force does not change nothing else happens. Where it changes,
an open gate counts a rising edge; an edge that is selected or gated, less than 400 ps (800 units) after the last stamp, counts
MISSED if selected; else it joins the gate's fit, and, if selected, is LOST with a full FIFO or appends its word. STAMP_WRITE of a
running chain appends the oldest stamp of the next FIFO, an epoch word first where one is due, and stops at the end of the chain; in
a memory that takes no request it only wakes it. STAMP_FLUSH pads the page in progress with zero words once the FIFOs are empty, in
an idle field, at the end of a field's step, or for a detach. TIA_FCHAIN_WRITE in a busy field, or without a host queue that holds
hasp 16f+5, or of EN with a head that is no FILLING stamps chain of the field, is a configuration error; else it attaches the chain,
or asks for a detach. STAMP_CHAIN_DETACH clears EN after the flush. TIA_POP returns the oldest stamp, of an empty FIFO or one with a
chain a zero word. Not due, each changes nothing. -/
def Obligations.StampsAreTakenWrittenAndRead : Prop :=
  ∀ (s : State) (i : Fin 272) (f : Fin 16) (uv : Int) (ofs j : Nat) (v : Word) (x : Nat × Nat × Nat) (rest : List (Nat × Nat × Nat)),
    let b := s.blk
    let t := b.time.lastB * subHalf + ofs
    let pick := fun (c : Bool × Bool) => if b.flag (SLC i) TIA_STAT.SRC_ACT then c.2 else c.1
    let new := b.cmpStep i (b.tia i).cmp uv
    let slice := 17 * f.val + j
    let chain := b.flag (FLD f) TIA_FCHAIN.EN = true ∧ b.flag (FLD f) TIA_FSTAT.TRUNC = false
    let left := b.get (FLD f) TIA_FSTAT.WORDS % 4096
    let flush := chain ∧ b.hbmTakes = true ∧ b.nextFifo f = none ∧ left ≠ 0 ∧
      ((b.chainSt f).detach = true ∨ (b.seq f).done = true ∨ b.idle f = true)
    let head := v.toNat % 2 ^ 20
    let mine := b.idle f = true ∧ b.hostHeld (16 * f + 5) = true
    let good := b.pgHead head = true ∧ b.pgOwner head = 3 ∧ b.pgUnit head = f ∧ b.pgState head = 1
    let detach := (b.chainSt f).detach = true ∧ (b.flag (FLD f) TIA_FSTAT.TRUNC = true ∨ (left = 0 ∧ b.nextFifo f = none))
    (pick (b.tia i).cmp = pick new → exec (.tiaEdge i uv ofs) s = .next (s.on (fun b => b.updTia i (fun x => { x with cmp := new })))) ∧
    (pick (b.tia i).cmp ≠ pick new → exec (.tiaEdge i uv ofs) s = .next (s.on (fun b =>
        let b := b.updTia i (fun x => { x with cmp := new })
        let rising := pick new
        let sel := (b.tia i).stamping && bit (b.get (SLC i) TIA_STAT.MODE_ACT) (if rising then 0 else 1) &&
          (b.tia i).stampFrom.all (fun u => decide (u * subHalf ≤ t))
        let live := rising && (b.tia i).gate.any (fun g => g.opened && decide (g.opensAt * subHalf ≤ t ∧ t < g.endsAt * subHalf)) &&
          !(b.tia i).lateGate
        let b := if live then b.gateEdge i (fun g => { g with edges := g.edges + 1 }) else b
        if sel = false ∧ live = false then b
        else if (b.tia i).lastStamp.any (fun l => decide (t < l + 800)) = true then
          if sel then (b.count (SLC i) TIA_EVCNT.MISSED 1).updTia i (fun x => { x with gap := true }) else b
        else
          let full := decide (64 ≤ (b.tia i).fifo.length)
          let b := if live then (b.gateEdge i (fun g => Block.gateStamp g t)).updTia i (fun x => { x with lastStamp := some t }) else b
          if sel = false then b
          else if full then
            let b := (b.count (SLC i) TIA_EVCNT.LOST 1).updTia i (fun t => { t with gap := true })
            if (b.tia i).lostSignalled then b
            else (b.updTia i (fun t => { t with lostSignalled := true })).arriveIf (b.flag (SLC i) TIA_CTRL.IRQ) i
          else
            (b.updTia i (fun x => { x with
              fifo := x.fifo ++ [(b.epochKey, t, b.stampWord i rising ofs)], gap := false, lastStamp := some t })).tiaLevel i))) ∧
    (chain → b.hbmTakes = true → b.nextFifo f = some j → (b.tia slice).fifo = x :: rest →
      exec (.stampWrite f) s = .next (
        let u := if (b.chainSt f).epoch = some x.1 then s else
            (chainAppend s f (Block.epochWord (b.chainSt f).syncs x.1)).on (fun b =>
              b.updChain f (fun c => { c with epoch := some x.1, syncs := x.1 / 2 ^ 40 }));
        if u.blk.flag (FLD f) TIA_FSTAT.TRUNC = true then u
        else
          let k := u.blk.slcK slice
          (chainAppend (u.on (fun b => ((b.updTia slice (fun t => { t with fifo := rest })).tiaLevel slice).updChain f
            (fun c => { c with last := j }))) f x.2.2).on (fun b => b.capStamp f k x))) ∧
    (chain → b.hbmTakes = false → exec (.stampWrite f) s = .next (s.on (fun b => if b.nextFifo f = none then b else b.hbmKnock))) ∧
    (¬ chain ∨ (b.hbmTakes = true ∧ b.nextFifo f = none) → exec (.stampWrite f) s = .next s) ∧
    (flush → exec (.stampFlush f) s = .next (chainPad f (4096 - left) s)) ∧
    (¬ flush → exec (.stampFlush f) s = .next s) ∧
    (¬ mine ∨ (bit v.toNat 20 = true ∧ ¬ good) → exec (.tiaFchainWrite f v) s = .next (s.on (fun b => b.fault (272 + f) 0))) ∧
    (mine → bit v.toNat 20 = true → good → exec (.tiaFchainWrite f v) s = .next (s.on (fun b =>
        let b := (b.set (FLD f) TIA_FCHAIN.HEAD head).setFlag (FLD f) TIA_FCHAIN.EN true
        let b := (b.setFlag (FLD f) TIA_FCHAIN.FULL_SIG (bit v.toNat 21)).setFlag (FLD f) TIA_FSTAT.TRUNC false
        ((b.set (FLD f) TIA_FSTAT.PAGE head).set (FLD f) TIA_FSTAT.WORDS 0).updChain f
          (fun c => { c with epoch := none, detach := false })))) ∧
    (mine → bit v.toNat 20 = false → exec (.tiaFchainWrite f v) s = .next (s.on (fun b =>
        let b := (b.setFlag (FLD f) TIA_FCHAIN.FULL_SIG (bit v.toNat 21)).set (FLD f) TIA_FCHAIN.HEAD head
        if b.flag (FLD f) TIA_FCHAIN.EN then b.updChain f (fun c => { c with detach := true }) else b))) ∧
    (detach → exec (.stampChainDetach f) s = .next (s.on (fun b =>
        (b.setFlag (FLD f) TIA_FCHAIN.EN false).updChain f (fun c => { c with detach := false })))) ∧
    (¬ detach → exec (.stampChainDetach f) s = .next s) ∧
    ((b.tia i).fifo = [] ∨ b.flag (FLD (i / 17)) TIA_FCHAIN.EN = true →
      exec (.tiaPop i) s = .next (s.on (fun b => { b with host := { b.host with lastRead := [0] } }))) ∧
    ((b.tia i).fifo = x :: rest → b.flag (FLD (i / 17)) TIA_FCHAIN.EN = false →
      exec (.tiaPop i) s = .next (s.on (fun b =>
        let b := (b.updTia i (fun t => { t with fifo := rest })).tiaLevel i
        { b with host := { b.host with lastRead := [x.2.2] } })))

/-- TIA_CALIBRATION, DLL_LOCK, DLL_LOCK_DONE, FREQ_GATE_OPEN, FREQ_GATE_END, FREQ_RESULT and TIA_FCTL_START do what R236 to R242 say
(10_time_interval_analyser.md, R236 to R242, R245). For every state: TIA_CALIBRATION writes TICK, GAIN and OFS and CAL_OK says
whether the gain lies within 896 to 1152; a start that waited for it begins now and counts LATE, its gate marked SHORT; a failed one
makes the open gate invalid, the DLL due, and raises the slice with cause 3. DLL_LOCK of an unlocked DLL starts its 200 us, of a
locked one that is due it is boundary work of an idle field; DLL_LOCK_DONE sets DLL_LOCK. A gate opens at its boundary and, once
ended, closes with its fitted line, the result waiting for the first boundary 2 us later, where FREQ_RESULT writes TIA_FRES and
TIA_FINFO, the oldest first. TIA_FCTL.START in an idle field opens a gate of GATE us at the next tick, late less than 1 us before
it, counting RESTARTS where one was open; in a busy field it is a configuration error, and of a bolted slice it does nothing. Not
due, each changes nothing. -/
def Obligations.InterpolatorsCalibrateAndGatesMeasure : Prop :=
  ∀ (s : State) (i : Fin 272) (one two : Nat),
    let b := s.blk
    let x := b.tia i
    let relock := b.flag (SLC i) TIA_STAT.DLL_LOCK = true ∧ x.dllDue = true ∧ b.idle (i / 17) = true ∧ b.atBoundary = true
    let opens := x.gate.any (fun g => !g.opened && decide (g.opensAt ≤ b.time.now)) = true
    exec (.tiaCalibration i one two) s = .next (s.on (fun b =>
        let ok := decide (896 ≤ two - one ∧ two - one ≤ 1152)
        let b := (b.set (SLC i) TIA_CAL.TICK b.tick16).set (SLC i) TIA_CAL.GAIN (two - one)
        let b := (b.set (SLC i) TIA_CAL.OFS (ofSigned 16 (2 * Int.ofNat one - Int.ofNat two))).setFlag (SLC i) TIA_STAT.CAL_OK ok
        let late := (b.tia i).lateStamp || (b.tia i).lateGate
        let b := if (b.tia i).lateStamp then b.updTia i (fun t => { t with lateStamp := false, stamping := true, stampFrom := some b.time.now }) else b
        let b := if (b.tia i).lateGate then b.updTia i (fun t => { t with lateGate := false, gate := t.gate.map (fun g => { g with
            short := true, opensAt := max g.opensAt b.time.now }) }) else b
        let b := if late then b.count (SLC i) TIA_EVCNT.LATE 1 else b
        if ok then b else ((b.gateBad i).updTia i (fun t => { t with dllDue := true })).fault i 3)) ∧
    (x.dllAt = none → b.flag (SLC i) TIA_STAT.DLL_LOCK = false →
      exec (.dllLock i) s = .next (s.on (fun b => b.updTia i (fun t => { t with dllAt := some b.time.now, dllDue := false })))) ∧
    (x.dllAt = none → relock → exec (.dllLock i) s = .next (s.on (fun b => (((b.setFlag (SLC i) TIA_STAT.DLL_LOCK false).gateBad i).updTia i
        (fun t => { t with dllAt := some b.time.now, dllDue := false })).workStart (some (i / 17)) 8 i))) ∧
    (x.dllAt ≠ none ∨ (b.flag (SLC i) TIA_STAT.DLL_LOCK = true ∧ ¬ relock) → exec (.dllLock i) s = .next s) ∧
    (x.dllAt ≠ none → exec (.dllLockDone i) s = .next (s.on (fun b =>
      ((b.setFlag (SLC i) TIA_STAT.DLL_LOCK true).updTia i (fun t => { t with dllAt := none })).workEnd 8 i))) ∧
    (x.dllAt = none → exec (.dllLockDone i) s = .next s) ∧
    (opens → exec (.freqGateOpen i) s = .next (s.on (fun b => (b.setFlag (SLC i) TIA_STAT.GATE true).updTia i (fun t => { t with
        gate := t.gate.map (fun g => { g with opened := true, cold := b.cold, bad := g.bad || b.uncal i }) })))) ∧
    (¬ opens → exec (.freqGateOpen i) s = .next s) ∧
    (∀ g, x.gate = some g → g.opened = true → g.endsAt ≤ b.time.now →
      exec (.freqGateEnd i) s = .next (s.on (fun b => ((b.setFlag (SLC i) TIA_STAT.GATE false).updTia i (fun t => { t with
        gate := none, lateGate := false, results := t.results ++ [(g.endsAt + 200, (b.gateFit g).1, (b.gateFit g).2)] })).freed))) ∧
    ((∀ g, x.gate = some g → g.opened = false ∨ b.time.now < g.endsAt) → exec (.freqGateEnd i) s = .next s) ∧
    (∀ t r c rest, x.results = (t, r, c) :: rest → t ≤ b.time.lastB →
      exec (.freqResult i) s = .next (s.on (fun b => ((b.setFres i r c).updTia i (fun x => { x with
        results := rest, resultOwed := !rest.isEmpty || x.gate.isSome })).arriveIf (b.flag (SLC i) TIA_CTRL.IRQ) i))) ∧
    ((∀ t r c rest, x.results = (t, r, c) :: rest → b.time.lastB < t) → exec (.freqResult i) s = .next s) ∧
    (b.idle (i / 17) = false → exec (.tiaFctlStart i) s = .next (s.on (fun b => b.fault (272 + i / 17) 0))) ∧
    (b.idle (i / 17) = true → b.slcBolted i = true → exec (.tiaFctlStart i) s = .next s) ∧
    (b.idle (i / 17) = true → b.slcBolted i = false →
      exec (.tiaFctlStart i) s = .next (s.on (fun b =>
        let n := b.time.lastB + b.k
        let g := b.get (SLC i) TIA_FCTL.GATE
        let late := decide (n < b.time.now + 100)
        let b := if (b.tia i).gate.any (fun g => g.opened) then b.count (SLC i) TIA_EVCNT.RESTARTS 1 else b
        (b.setFlag (SLC i) TIA_STAT.GATE false).updTia i (fun t => { t with
          gate := some { opensAt := n, endsAt := n + 100 * g }, resultOwed := true, lateGate := late }))))

/-- DDS_CMD_RUN, STEP, STOP, their APPLYs, DDS_TICK_COUNT_STEP, DDS_LD_ACCESS, DIG_CMD_START, ABORT, DIG_ACQ_START and DIG_RESULTS
(11_dds_and_digitiser.md, R248, R251 to R256, R258 to R261, R263). For every state: a host DDS or DIG command while a sequencer
holds the resource, a RUN outside FIRST to LAST, a DIG START in a busy field and a refused write of DDS_LD are configuration errors
of the field; else RUN, and STEP and STOP of a running source, wait for their boundary. There the first request is taken: RUN brings
its entry into force, STOP sets STATE 0 at 0 V; STEP moves on by one entry per request (several at one list boundary count one
merge); with no request left the entry that has come into force emits its markers. The tick count asks for a step at its multiples.
DDS_LD reads and writes the word at DDS_LA and moves on. DIG START of an idle digitiser waits, DIG_ACQ_START runs it at t0 with
NSAMP, DIG_RESULTS one boundary after the last sample publishes the sum, the minimum and the maximum of its samples, COUNT, VALID
and OVR and raises the source; ABORT ends it without valid results, COUNT the samples taken. Not due, or of a source or digitiser
that is stopped, each changes nothing. -/
def Obligations.SourcesAndDigitisersFollowTheirCommands : Prop :=
  ∀ (s : State) (f : Fin 16) (entry level n : Nat) (codes : List Nat) (w : Word),
    let b := s.blk
    let st := b.get (FLD f) DDS_STAT.STATE
    let i := b.get (FLD f) DDS_LA.INDEX
    let l := b.get (FLD f) DDS_LA.LIST
    let ask := fun (c e : Nat) => s.on (fun b => b.updDds f (fun d => { d with cmds := d.cmds ++ [(c, e, b.time.now)] }))
    let err := s.on (fun b => b.fault (272 + f) 0)
    let inList := b.get (FLD f) DDS_LIST.FIRST ≤ entry % 4096 ∧ entry % 4096 ≤ b.get (FLD f) DDS_LIST.LAST
    let d : Int := Int.ofNat b.tick - Int.ofNat (b.dds f).runTick
    let count := b.get (FLD f) DDS_CTRL.STEP_SRC = 3 ∧ st ≠ 0 ∧ b.atBoundary = true ∧ d ≠ 0 ∧
      d % Int.ofNat (b.get (FLD f) DDS_CTRL.NTICK) = 0 ∧ (b.dds f).tickStep ≠ b.time.ticks + 1
    let listOk := b.ddsHostOk f = true ∧ st = 0 ∧ (l = 0 → w.toNat % 2 ^ 48 ≤ ftwMax)
    let ds := b.get (FLD f) DIG_STAT.STATE
    let results := ds = 2 ∧ b.atBoundary = true ∧ b.ripe (b.dig f).lastAt = true ∧ codes.length + n = (b.dig f).nsamp
    (b.ddsHostOk f = false → exec (.ddsCmdRun f entry) s = .next err ∧ exec (.ddsCmdStep f) s = .next err ∧
      exec (.ddsCmdStop f) s = .next err) ∧
    (b.ddsHostOk f = true →
      (inList → exec (.ddsCmdRun f entry) s = .next (ask 1 (entry % 4096))) ∧ (¬ inList → exec (.ddsCmdRun f entry) s = .next err) ∧
      (st ≠ 0 → exec (.ddsCmdStep f) s = .next (ask 2 0) ∧ exec (.ddsCmdStop f) s = .next (ask 3 0)) ∧
      (st = 0 → exec (.ddsCmdStep f) s = .next s ∧ exec (.ddsCmdStop f) s = .next s)) ∧
    (∀ e rest, b.ddsDue f = (1, e) :: rest → exec (.ddsRunApply f) s = .next (s.on (fun b =>
      let b := b.ddsPop f
      let b := (b.set (FLD f) DDS_STAT.STATE 1).updDds f (fun d => { d with silent := false, runTick := b.tick })
      (((b.ddsSub f).ddsTook f 1).ddsEnter f e).ddsSettle s.mem f))) ∧
    (∀ e rest, b.ddsDue f = (3, e) :: rest → exec (.ddsStopApply f) s = .next (s.on (fun b =>
      (((b.ddsPop f).set (FLD f) DDS_STAT.STATE 0).updDds f (fun d => { d with
        silent := true, offset := 16384, steps := [], fresh := none })).ddsSettle s.mem f))) ∧
    ((b.ddsDue f).head?.map Prod.fst ≠ some 1 → exec (.ddsRunApply f) s = .next s) ∧
    ((b.ddsDue f).head?.map Prod.fst ≠ some 3 → exec (.ddsStopApply f) s = .next s) ∧
    exec (.ddsStepApply f) s = .next (s.on (fun b =>
      let n := b.ddsSteps f
      let b := (Block.ddsPopN f n.1 b).updDds f (fun d => { d with steps := d.steps.filter (fun t => !decide (t ≤ b.time.now)) })
      if n.1 + n.2 = 0 then b
      else if b.get (FLD f) DDS_STAT.STATE = 0 then b.ddsSettle s.mem f
      else
        let r := Block.ddsStepN f (n.1 + n.2) b (b.get (FLD f) DDS_STAT.INDEX) false 0
        let b := if r.2.2.2 = 0 then r.1 else r.1.ddsTook f r.2.2.2
        (if r.2.2.1 then b.ddsEnter f r.2.1 else b).ddsSettle s.mem f)) ∧
    (count → exec (.ddsTickCountStep f) s = .next (s.on (fun b =>
        b.updDds f (fun x => { x with steps := x.steps ++ [b.time.now], tickStep := b.time.ticks + 1 })))) ∧
    (¬ count → exec (.ddsTickCountStep f) s = .next s) ∧
    exec (.ddsLdAccess f none) s = .next (s.on (fun b =>
      ({ b with host := { b.host with lastRead := [Memory.word s.mem (.dds f l) i] } }).set (FLD f) DDS_LA.INDEX ((i + 1) % 4096))) ∧
    (listOk → exec (.ddsLdAccess f (some w)) s = .next { s with
      blk := b.set (FLD f) DDS_LA.INDEX ((i + 1) % 4096)
      mem := Memory.setWord s.mem (.dds f l) i (if l = 0 then w.toNat % 2 ^ 52 else w.toNat % 2 ^ 16) }) ∧
    (¬ listOk → exec (.ddsLdAccess f (some w)) s = .next err) ∧
    (b.digHostOk f = false ∨ b.idle f = false → exec (.digCmdStart f) s = .next err) ∧
    (b.digHostOk f = false → exec (.digCmdAbort f) s = .next err) ∧
    (b.digHostOk f = true → b.idle f = true → exec (.digCmdStart f) s = .next (s.on (fun b =>
        if ds ≠ 0 then b else (b.set (FLD f) DIG_STAT.STATE 1).updDig f (fun d => { d with
        startReq := some b.time.now, t0 := none, prog := none, owner := b.haspOwner (16 * f + 3) })))) ∧
    (b.digHostOk f = true → exec (.digCmdAbort f) s = .next (s.on (fun b =>
      let b := if ds = 2 then b.capFlushAvg f else b
      if b.get (FLD f) DIG_STAT.STATE = 0 ∧ (b.dig f).startReq = none then b
      else
        let b := if b.get (FLD f) DIG_STAT.STATE = 2 then b.updRb f (fun r => { r with used := b.time.now }) else b
        let b := ((b.set (FLD f) DIG_STAT.COUNT (b.digTaken f)).set (FLD f) DIG_STAT.STATE 0).setFlag (FLD f) DIG_STAT.VALID false
        (b.setFlag (FLD f) DIG_STAT.ABORT true).updDig f (fun d => { d with startReq := none, t0 := none, prog := none })))) ∧
    (∀ t0, (b.dig f).t0 = some t0 → exec (.digAcqStart f) s = .next (s.on (fun b =>
      if ds = 1 ∧ t0 ≤ b.time.now then
        let n := b.get (FLD f) DIG_CFG.NSAMP
        (b.set (FLD f) DIG_STAT.STATE 2).updDig f (fun d => { d with
          nsamp := n, taken := 0, seen := [], lastAt := t0 + ceilDiv ((n - 1) * b.digPeriod f) 20000 })
      else b))) ∧
    ((b.dig f).t0 = none → exec (.digAcqStart f) s = .next s) ∧
    (results → exec (.digResults f codes level n) s = .next (s.on (fun b =>
        let cs := b.digCodes f codes level n
        let b := b.capFlushAvg f
        let b := (b.set (FLD f) DIG_SUM.SUM (cs.foldl (fun n c => n + c.1) 0)).set (FLD f) DIG_MM.MIN (cs.foldl (fun n c => min n c.1) 262143)
        let b := (b.set (FLD f) DIG_MM.MAX (cs.foldl (fun n c => max n c.1) 0)).set (FLD f) DIG_STAT.COUNT (b.dig f).nsamp
        let b := ((b.set (FLD f) DIG_STAT.TICK b.tick16).setFlag (FLD f) DIG_STAT.OVR (cs.any (fun c => c.2))).setFlag (FLD f) DIG_STAT.ABORT false
        let b := ((b.setFlag (FLD f) DIG_STAT.VALID true).set (FLD f) DIG_STAT.STATE 0).updDig f (fun d => { d with t0 := none })
        (b.updRb f (fun r => { r with used := b.time.now })).arrive (272 + 8 * f + 7)))) ∧
    (¬ results → exec (.digResults f codes level n) s = .next s)

/-- CAP_CMD_ARM, TRIG, STOP, FLCLR, CAPTURE_ARM_APPLY, ENTRY, TRIGGER, AUTO_TIMEOUT, STOP_APPLY, SPILL_WRITE and CAP_MD_READ
(12_capture_and_trigger.md, R264, R266 to R271, R273, R275, R276). For every state: a host ARM, TRIG or STOP waits with its instant
and owner, and is a configuration error while a sequencer holds the capture SRAM, an ARM of a streaming record also while one holds
the spill chain; FLCLR clears the fail log. At its boundary each waiting ARM sets ARMRES, and accepted starts a fresh record in PRE
(FULL where the pre-trigger part is empty). CAPTURE_ENTRY of an active engine takes the next digitiser sample, with its code, or the
oldest entry offered; in POST, in buffer mode with no mask and no trigger left, a vector entry stands at its place in the slot and
is counted. CAPTURE_TRIGGER decides the triggers that name the next entry: before the pre-trigger part is full EARLY_TRIG counts,
during re-arm REARM_MISS, else the record passes to POST with CAP_LAST and its source. In auto mode a trigger is forced TOUT ticks
after full; a stop at its boundary ends the record. SPILL_WRITE stores what a stopped record left, else the waiting words on the
chain's page, in a memory that takes no request only wakes it; CAP_MD_READ returns the word at ADDR and moves on. Not due, each
changes nothing. -/
def Obligations.CaptureEnginesArmTakeAndEndRecords : Prop :=
  ∀ (s : State) (f : Fin 16) (code : Nat),
    let b := s.blk
    let c := b.cap f
    let pre := b.get (FLD f) CAP_LEN.PRE
    let off := c.entry - c.trigEntry
    let err := s.on (fun b => b.fault (272 + f) 0)
    let ask := fun (n : Nat) => s.on (fun b => b.updCap f (fun c => { c with reqs := c.reqs ++ [(n, b.time.now, b.haspOwner (16 * f + 4))] }))
    let active := b.capActive f = true ∧ c.ending = 0
    let stream := b.flag (FLD f) CAP_CFG.STREAM = true
    let spilled := c.waiting = [] ∧ c.tail = []
    (b.seqHeld (16 * f + 4) = false → exec (.capCmdTrig f) s = .next (ask 2) ∧ exec (.capCmdStop f) s = .next (ask 3) ∧
      exec (.capCmdArm f) s = .next (if stream ∧ b.seqHeld (16 * f + 6) = true then err else ask 1)) ∧
    (b.seqHeld (16 * f + 4) = true → exec (.capCmdArm f) s = .next err ∧ exec (.capCmdTrig f) s = .next err ∧
      exec (.capCmdStop f) s = .next err) ∧
    exec (.capCmdFlclr f) s = .next (s.on (fun b =>
      let b := (List.range 16).foldl (fun b k => b.set (FLD f + 8 * k) CAP_FCNT.COUNT 0) b
      (b.set (FLD f) CAP_FF.FAIL 0).set (FLD f) CAP_FF.VNUM (2 ^ 48 - 1))) ∧
    (b.capDue f 1 = [] → exec (.captureArmApply f) s = .next s) ∧
    (b.capDue f 1 ≠ [] → exec (.captureArmApply f) s = .next (s.on (fun b => (b.capDue f 1).foldl (fun b o =>
      let r := b.capArmResult f o
      let b := b.set (FLD f) CAP_STAT.ARMRES r
      if r ≠ 0 then b
      else
        let empty := b.get (FLD f) CAP_LEN.PRE == 0
        let b := ((b.set (FLD f) CAP_STAT.KEPT 0).set (FLD f) CAP_STAT.CAUSE 0).set (FLD f) CAP_STAT.SLOT 0
        let at_ := b.time.lastB * 20000
        (b.set (FLD f) CAP_STAT.STATE (if empty then 2 else 1)).updCap f (fun c => { c with
          entry := 0, recStart := 0, seq := 0, slot := 0, trigEntry := 0, trigTick := 0, forced := false, viol := false, first := true
          trigs := c.trigs.filter (fun t => decide (at_ ≤ t.1)), fullTick := if empty then some b.time.ticks else none
          avg := [], prev := [], feed := [], waiting := [], page := b.spillStart f, word := 0, epoch := none, syncs := (b.chainSt f).syncs, owner := o
          armAt := at_, ending := 0 })) (b.capDone f 1)))) ∧
    (active → b.get (FLD f) CAP_CFG.SRC = 1 → ∀ i t, b.digNext f = some (i, t) → exec (.captureEntry f code) s = .next (s.on (fun b =>
      let d := b.digCode f code
      (b.updDig f (fun x => { x with taken := i + 1, seen := Sparse.set 0 i (d.1 + 1) x.seen })).capRaw f
        (b.tickAt t % 65536 * 2 ^ 48 + b01 d.2 * 2 ^ 18 + d.1) t 0))) ∧
    (active → b.get (FLD f) CAP_CFG.SRC ≠ 1 → ∀ e rest, c.feed = e :: rest → exec (.captureEntry f code) s = .next (s.on (fun b =>
      (b.updCap f (fun c => { c with feed := rest })).capRaw f e.1 e.2.1 e.2.2)) ∧
      (b.get (FLD f) CAP_CFG.SRC = 0 → b.get (FLD f) CAP_STAT.STATE = 3 → b.get (FLD f) CAP_TRG.TSRC ≠ 5 →
        b.flag (FLD f) CAP_CFG.MASK_EN = false → ¬ stream → c.trigs = [] → off + 1 ≠ b.get (FLD f) CAP_LEN.POST →
        exec (.captureEntry f code) s = .next (s.on (fun b =>
          let b := b.updCap f (fun c => { c with feed := rest })
          ((b.sramSet f (c.slot * b.slotLen f + 1 + pre + off) e.1).set (FLD f) CAP_STAT.KEPT (pre + off + 1)).updCap f
            (fun c => { c with entry := c.entry + 1 }))))) ∧
    (¬ active ∨ (b.get (FLD f) CAP_CFG.SRC = 1 ∧ b.digNext f = none) ∨ (b.get (FLD f) CAP_CFG.SRC ≠ 1 ∧ c.feed = []) →
      exec (.captureEntry f code) s = .next s) ∧
    (b.capActive f = true → ∀ t, b.capNextTime f = some t → exec (.captureTrigger f) s = .next (s.on (fun b =>
      let due := c.trigs.filter (fun x => decide (x.1 ≤ t))
      if due = [] then b
      else
        let b := b.updCap f (fun c => { c with trigs := c.trigs.filter (fun x => !decide (x.1 ≤ t)) })
        let st := b.get (FLD f) CAP_STAT.STATE
        if (st = 1 ∨ st = 2) ∧ pre ≤ c.entry - c.recStart then
          let tk := b.tickAt t
          let ring := if stream then b.ringWords f else []
          let b := (b.set (FLD f) CAP_STAT.STATE 3).updCap f (fun x => { x with
            trigEntry := c.entry, trigTick := tk, forced := due.all (fun x => x.2), fullTick := none, waiting := c.waiting ++ ring })
          ((b.set (FLD f) CAP_LAST.ENTRY c.entry).set (FLD f) CAP_LAST.TICK (tk % 65536)).arrive (272 + 8 * f + 4)
        else if st = 1 then b.count (FLD f) CAP_EVCNT.EARLY_TRIG 1
        else if st = 4 then b.count (FLD f) CAP_EVCNT.REARM_MISS 1
        else b))) ∧
    (b.capActive f = false ∨ b.capNextTime f = none → exec (.captureTrigger f) s = .next s) ∧
    (∀ t, c.fullTick = some t → exec (.captureAutoTimeout f) s = .next (s.on (fun b =>
        if b.get (FLD f) CAP_CFG.MODE = 2 ∧ b.get (FLD f) CAP_STAT.STATE = 2 ∧ b.atBoundary = true ∧ t + b.get (FLD f) CAP_TRG.TOUT ≤ b.time.ticks then
          ((b.updCap f (fun c => { c with fullTick := none })).capTrig f (b.time.lastB * 20000) true).count (FLD f) CAP_EVCNT.FORCED 1
        else b))) ∧
    (c.fullTick = none → exec (.captureAutoTimeout f) s = .next s) ∧
    (b.capDue f 3 ≠ [] → exec (.captureStopApply f) s = .next (s.on (fun b => (b.capDone f 3).capEnd f 2))) ∧
    (b.capDue f 3 = [] → exec (.captureStopApply f) s = .next s) ∧
    (b.hbmTakes = false → exec (.spillWrite f) s = .next (s.on (fun b => if spilled then b else b.hbmKnock))) ∧
    (b.hbmTakes = true → c.tail ≠ [] → exec (.spillWrite f) s = .next { s with
        blk := (((c.tail.map (fun x => x.1 / 4096)).eraseDups.foldl (fun b p => b.hbmReq 1 p f) b).updCap f (fun c => { c with tail := [] })).spillNext f
        mem := placeWords s.mem c.tail }) ∧
    (b.hbmTakes = true → c.tail = [] → ¬ stream → exec (.spillWrite f) s = .next s) ∧
    (b.hbmTakes = true → c.tail = [] → stream → c.page = none → exec (.spillWrite f) s = .next (s.on (fun b => b.spillNext f))) ∧
    (b.hbmTakes = true → c.tail = [] → stream → ∀ p, c.page = some p → exec (.spillWrite f) s = .next (
        let ws := c.waiting.take (4096 - c.word)
        { s with
          blk := ((if ws = [] then b else (b.hbmReq 1 p f).set (FLD f) CAP_STAT.KEPT (b.get (FLD f) CAP_STAT.KEPT + ws.length)).updCap f
            (fun c => { c with waiting := c.waiting.drop ws.length, word := c.word + ws.length })).spillNext f
          mem := Memory.setWords s.mem .pages (p * 4096 + c.word) ws })) ∧
    exec (.capMdRead f) s = .next (s.on (fun b =>
      let a := b.get (FLD f) CAP_MA.ADDR
      let b := b.set (FLD f) CAP_MA.ADDR ((a + 1) % 131072)
      { b with host := { b.host with lastRead := [Sparse.get 0 a (b.cap f).sram] } }))

/-- RING_WRITE, RES_CONS_WRITE, RES_CTRL_WRITE, WAFER_OPEN, WAFER_SIGN and WAFER_SIGN_DONE act on the result ring
(14_sites_and_results.md, R301, R302, R304 to R306, 18_host_interface.md, R366, R368). For every state: RING_WRITE with EN and a
free slot takes the next record that may go, sets QLEVEL and writes it: words 1 to 3, then word 0 with its PHASE, and RES_PROD one
more; while a wafer is open the digest takes the record and its site's account moves on; with EN 0, no free slot or no record that
may go nothing moves. A write of RES_CONS above RES_PROD while EN is 1 is a configuration error of source 411, else it is taken.
Setting EN resets both counts (setting it again changes nothing); clearing it with records queued is a configuration error.
WAFER_OPEN in an idle module with an empty queue clears every site's account and completes with 0, else with 0x04. WAFER_SIGN
completes with the code of a refused role, with 0x63 without an attestation key, with 0x0D without an open wafer, with 0x04 in a
busy module or with records queued, else takes a slot with the summary and, where there is one, closes the wafer. Without a fetched
command both change nothing. WAFER_SIGN_DONE of such a slot writes summary and signature and ends it, of any other it changes
nothing. -/
def Obligations.ResultsReachTheRingAndWafersAreSigned : Prop :=
  ∀ (s : State) (q : Fin 64) (k : Fin 256) (v : Word) (r : QRec) (rest : List QRec) (ws : List Nat),
    let b := s.blk
    let free := b.flag 0 RES_CTRL.EN = true ∧ b.get 0 RES_PROD.COUNT - b.get 0 RES_CONS.COUNT < b.ringSize
    let quiet := b.moduleIdle = true ∧ b.res.queue = []
    (free → Block.ringNext [] b.res.queue = some (r, rest) → exec .ringWrite s = .next (s.on (fun b =>
        let b := ({ b with res := { b.res with queue := rest } }).set 0 RES_STAT.QLEVEL rest.length
        let n := b.get 0 RES_PROD.COUNT
        let a := b.get 0 RES_RING_BASE.ADDR * 32 + n % b.ringSize * 32
        let w0 := (1 - n / b.ringSize % 2) * 2 ^ 63 + r.w0
        let b := ((b.hostWrite (a + 8) [r.w1, r.w2, r.w3]).hostWrite a [w0]).set 0 RES_PROD.COUNT (n + 1)
        (if b.flag 0 RES_STAT.WAFER = true then
          ({ b with res := { b.res with
            digest := Block.digestWords (sha256 (b.res.digest.flatMap (bytesBE · 8) ++ [w0, r.w1, r.w2, r.w3].flatMap (bytesLE · 8)))
            digested := b.res.digested + 1 } }).siteAccount r
         else b).endReaction))) ∧
    (¬ free ∨ Block.ringNext [] b.res.queue = none → exec .ringWrite s = .next s) ∧
    exec (.resConsWrite v) s = .next (s.on (fun b =>
      if b.flag 0 RES_CTRL.EN = true ∧ b.get 0 RES_PROD.COUNT < v.toNat then b.fault 411 0 else b.set 0 RES_CONS.COUNT v.toNat)) ∧
    (bit v.toNat 0 = true → exec (.resCtrlWrite v) s = .next (s.on (fun b =>
      if b.flag 0 RES_CTRL.EN = true then b else ((b.set 0 RES_CTRL.EN 1).set 0 RES_PROD.COUNT 0).set 0 RES_CONS.COUNT 0))) ∧
    (bit v.toNat 0 = false → exec (.resCtrlWrite v) s = .next (s.on (fun b =>
      if b.flag 0 RES_CTRL.EN = true ∧ b.res.queue ≠ [] then b.fault 411 0 else b.set 0 RES_CTRL.EN 0))) ∧
    (b.cmdOf q 0x30 = some ws → quiet → exec (.waferOpen q) s = .next (s.on (fun b =>
      let b := (List.range 256).foldl (fun b s =>
        let b := (b.set (16 * s) SITE_ACC0.BINNED 0).set (16 * s) SITE_ACC0.BIN 0
        let b := (b.set (16 * s) SITE_ACC0.FLAGS 0).set (16 * s) SITE_ACC0.RECORDS 0
        (b.set (16 * s) SITE_ACC1.PFAIL 0).set (16 * s) SITE_ACC1.VFAIL 0) b
      let b := { b with res := { b.res with waferId := ws.getD 1 0, waferTick := b.tick, digested := 0, digest := [0, 0, 0, 0] } }
      ((b.set 0 RES_WAFER.ID (ws.getD 1 0)).set 0 RES_STAT.WAFER 1).complete q 0 0))) ∧
    (b.cmdOf q 0x30 = some ws → ¬ quiet → exec (.waferOpen q) s = .next (s.on (fun b => b.complete q 0 0x04))) ∧
    (b.cmdOf q 0x30 = none → exec (.waferOpen q) s = .next s) ∧
    (b.cmdOf q 0x31 = some ws → exec (.waferSign q) s = .next (s.on (fun b =>
      if b.krRefuse q 0x31 1 ≠ 0 then b.complete q 0 (b.krRefuse q 0x31 1)
      else if b.kr.att = none then b.complete q 0 0x63
      else if b.flag 0 RES_STAT.WAFER = false then b.complete q 0 0x0D
      else if ¬ quiet then b.complete q 0 0x04
      else if b.freeSlot = none then b.takeSlot q b.waferBody
      else (b.takeSlot q b.waferBody).set 0 RES_STAT.WAFER 0))) ∧
    (b.cmdOf q 0x31 = none → exec (.waferSign q) s = .next s) ∧
    (b.slotRuns k 0x31 = true → exec (.waferSignDone k) s = .next (s.on (fun b =>
      let body := (b.slot k).aux
      let b := b.hostWrite (b.slotWord k 2) (body ++ (List.range 2136).map (Config.signature body))
      ((b.opres k 0 (body.getD 7 0)).npart k 1).slotEnd k 0))) ∧
    (b.slotRuns k 0x31 = false → exec (.waferSignDone k) s = .next s)

/-- IC_PEND_CLEAR, IC_EN_SET, IC_EN_CLR and the IC_HOSTIDLE writes change exactly the named bits; IC_RAISE and IC_ROUTE_WRITE refuse the
rest (19_events_and_interrupts.md, R379 to R381, R383, R386, R387, R389). For every state: IC_PEND_CLEAR, IC_EN_CLR and
IC_HOSTIDLE_CLR clear in their word each bit written as 1 and keep the others, IC_HOSTIDLE_SET sets them, and no other register
field changes. IC_EN_SET writes to word i the or of old and written bits, counts one arrival at the vector of each pending source
that it newly enables, and wakes. IC_RAISE of a source from 658 on is an arrival there, of any other a configuration error of source
401. IC_ROUTE_WRITE of a target below 82 gives the source that target (a retired sequencer becomes 16), counts an arrival where a
pending, enabled source comes to a vector, and wakes; any other target is a configuration error. A mask write changes the mask of
one vector, or of the function, and nothing else. -/
def Obligations.InterruptWordsChangeBitByBit : Prop :=
  ∀ (s : State) (i : Fin 16) (n : Fin 1024) (v : Word) (x : Fin 64) (m : Bool),
    let b := s.blk
    let old := b.get (8 * i) IC_PEND.BITS
    let en := b.get (8 * i) IC_EN.BITS
    let idle := b.get 0 IC_HOSTIDLE.BITS
    let target := v.toNat % 128
    Yields (exec (.icPendClear i v) s) (fun t => t.blk.get (8 * i) IC_PEND.BITS = old &&& (2 ^ 64 - 1 - v.toNat) ∧
      SameRegsBut [fkey (8 * i) IC_PEND.BITS] s t ∧ SameStore s t) ∧
    Yields (exec (.icEnClr i v) s) (fun t => t.blk.get (8 * i) IC_EN.BITS = en &&& (2 ^ 64 - 1 - v.toNat) ∧
      SameRegsBut [fkey (8 * i) IC_EN.BITS] s t ∧ SameStore s t) ∧
    exec (.icEnSet i v) s = .next (s.on (fun b =>
      ((List.range 64).foldl (fun b k => let n := 64 * i.val + k;
        if bit (en ||| v.toNat) k = true ∧ bit en k = false ∧ b.icPend n = true ∧ 18 ≤ b.icRoute n then b.icArr (b.icRoute n - 18) else b)
        (b.set (8 * i) IC_EN.BITS (en ||| v.toNat))).wakeAll)) ∧
    Yields (exec (.icHostidleClr v) s) (fun t => t.blk.get 0 IC_HOSTIDLE.BITS = idle &&& (2 ^ 64 - 1 - v.toNat) ∧
      SameRegsBut [fkey 0 IC_HOSTIDLE.BITS] s t ∧ SameStore s t) ∧
    Yields (exec (.icHostidleSet v) s) (fun t => t.blk.get 0 IC_HOSTIDLE.BITS = (idle ||| v.toNat) % 2 ^ 64 ∧
      SameRegsBut [fkey 0 IC_HOSTIDLE.BITS] s t ∧ SameStore s t) ∧
    (658 ≤ v.toNat % 1024 → exec (.icRaise v) s = .next (s.on (fun b => b.arrive (v.toNat % 1024)))) ∧
    (v.toNat % 1024 < 658 → exec (.icRaise v) s = .next (s.on (fun b => b.fault 401 0))) ∧
    (82 ≤ target → exec (.icRouteWrite n v) s = .next (s.on (fun b => b.fault 401 0))) ∧
    (target < 82 → exec (.icRouteWrite n v) s = .next (s.on (fun b =>
      let t := if target < 17 ∧ b.seqRetired target = true then 16 else target
      let c := b.set (8 * n) IC_ROUTE.TARGET t
      (if t ≠ b.icRoute n ∧ 18 ≤ t ∧ c.icPend n = true ∧ c.icEn n = true then c.icArr (t - 18) else c).wakeAll))) ∧
    exec (.msixMaskWrite none m) s = .next (s.on (fun b => { b with host := { b.host with fnMask := m } })) ∧
    exec (.msixMaskWrite (some x) true) s = .next (s.on (fun b =>
      { b with host := { b.host with unmasked := b.host.unmasked.filter (· != x.val) } })) ∧
    Yields (exec (.msixMaskWrite (some x) false) s) (fun t => x.val ∈ t.blk.host.unmasked ∧
      (∀ y, y ≠ x.val → (y ∈ t.blk.host.unmasked ↔ y ∈ s.blk.host.unmasked)) ∧
      t = s.on (fun b => { b with host := { b.host with unmasked := t.blk.host.unmasked } }))

/-- SKEW_CAL, SKEW_CAL_DONE, SYNC_ISSUE, SYNC_LOCAL, AUTO_LOCAL_PULSE, SYNC_PULSE_SAMPLE and SYNC_B0 align a module
(02_tick_and_lookahead.md, R36 to R38, 15_multi_module_sync.md, R310 to R315, 16_network_time.md, R331, 18_host_interface.md, R366,
R367). For every state: a fetched SKEW_CAL completes with 0x04 in a busy module, with 0x21 while a trigger line is claimed, else
takes a slot. Its end writes each pair's STATE, RTT, SPREAD and DLY, and is DONE when all nine passed, else FAILED. SYNC_ISSUE in
the sync master commands a pulse of 40 ns 1 us later, SYNC_LOCAL a local one, AUTO_LOCAL_PULSE one while the module waits,
AUTO_LOCAL is 1 and none is under way. A pulse wide enough, or a local one that is due, is sampled: with no step, no lead, and ticks
running or 10 ms of good clocks behind (the model's reading, log entry 153), it is counted and starts the lead; else it sets
REFUSED, counts, clears SYNCED and raises source 571. At its B(0), with good clocks, TICKNO becomes 0 with all that a boundary does,
network time takes its step, running sources take RESYNC, a pending commit is discarded, SYNCED is set, and source 570 is raised.
Not due, each changes nothing. -/
def Obligations.SkewCalibrationAndSyncPulses : Prop :=
  ∀ (s : State) (q : Fin 64) (k : Fin 256) (pairs : List LineMeas) (ws : List Nat),
    let b := s.blk
    let sampled := fun (loc : Bool) (b : Block) =>
      if b.steps = [] ∧ b.sync.b0At = none ∧ (b.flag 0 TB_STAT.TICK_RUN = true ∨
          (b.clocksGood = true ∧ b.time.lockSince.any (fun t => decide (t + 1000000 ≤ b.time.now)) = true)) then
        let b := b.count 0 SYNC_EVCNT.PULSES 1
        let b := { b with sync := { b.sync with b0At := some (b.time.now + b.get 0 SYNC_CTRL.LEAD) } }
        ((b.setFlag 0 SYNC_STAT.LEAD_RUN true).setFlag 0 SYNC_STAT.SRC_LOCAL loc).setFlag 0 SYNC_STAT.REFUSED false
      else (((b.setFlag 0 SYNC_STAT.REFUSED true).count 0 SYNC_EVCNT.REFUSED 1).setFlag 0 SYNC_STAT.SYNCED false).arrive 571
    let localPulse := fun (b : Block) => { b with sync := { b.sync with locals := b.sync.locals ++ [b.time.now + 100] } }
    let auto := b.flag 0 SYNC_STAT.WAIT = true ∧ b.flag 0 SYNC_CTRL.AUTO_LOCAL = true ∧ b.sync.locals = [] ∧ b.sync.b0At = none
    let b0 := b.clocksGood = true ∧ ∃ t, b.sync.b0At = some t ∧ t ≤ b.time.now
    (b.cmdOf q 0x38 = some ws → exec (.skewCal q) s = .next (s.on (fun b =>
      if b.moduleIdle = false then b.complete q 0 0x04
      else if (List.range 16).any (fun i => b.haspOwner (256 + i) != 0) = true then b.complete q 0 0x21
      else b.takeSlot q []))) ∧
    (b.cmdOf q 0x38 = none → exec (.skewCal q) s = .next s) ∧
    (b.slotRuns k 0x38 = true → exec (.skewCalDone k pairs) s = .next (s.on (fun b =>
      let b := ((pairs.take 9).zipIdx).foldl (fun b x =>
        if x.1.loop = false then b.set (8 * x.2) LINE_CAL.STATE 2
        else
          let b := (b.set (8 * x.2) LINE_CAL.RTT x.1.rtt).set (8 * x.2) LINE_CAL.SPREAD (min 255 x.1.spread)
          let target := (2 * b.get 0 SYNC_CTRL.TGT + 1) * 5000
          if 2 * target < x.1.rtt then b.set (8 * x.2) LINE_CAL.STATE 3
          else (b.set (8 * x.2) LINE_CAL.STATE 1).set (8 * x.2) LINE_CAL.DLY (target - x.1.rtt / 2)) b
      if (List.range 9).any (fun i => b.get (8 * i) LINE_CAL.STATE != 1) = true then b.slotFail k else b.slotEnd k 0))) ∧
    (b.slotRuns k 0x38 = false → exec (.skewCalDone k pairs) s = .next s) ∧
    (b.flag 0 SYNC_CTRL.SOUT = true → exec .syncIssue s = .next (s.on (fun b =>
      let e := b.time.now + 100
      (({ b with sync := { b.sync with issues := b.sync.issues ++ [e] } }).outEdge 0 (e * 20000) true).outEdge 0 ((e + 4) * 20000) false))) ∧
    (b.flag 0 SYNC_CTRL.SOUT = false → exec .syncIssue s = .next s) ∧
    exec .syncLocal s = .next (s.on localPulse) ∧
    (auto → exec .autoLocalPulse s = .next (s.on localPulse)) ∧
    (¬ auto → exec .autoLocalPulse s = .next s) ∧
    exec (.syncPulseSample false true) s = .next (s.on (sampled false)) ∧
    exec (.syncPulseSample false false) s = .next s ∧
    (∀ t rest wide, b.sync.locals = t :: rest → exec (.syncPulseSample true wide) s = .next (s.on (fun b =>
      if t ≤ b.time.now then sampled true { b with sync := { b.sync with locals := rest } } else b))) ∧
    (∀ wide, b.sync.locals = [] → exec (.syncPulseSample true wide) s = .next s) ∧
    (b0 → exec .syncB0 s = .next (s.on (fun b =>
      let b := { b with sync := { b.sync with b0At := none } }
      let run := b.flag 0 TB_STAT.TICK_RUN
      let n := b.tick
      let b := { b with time := { b.time with lastB := b.time.now, ticks := b.time.ticks + 1, waitSync := false } }
      let b := (b.set 0 TICKNO.TICKNO 0).setFlag 0 TB_STAT.TICK_RUN true
      let b := (if run then b.tickResults n else b).tickCounters.framesPass.boundaryRest
      let b := b.ptpStep
      let b := { b with time := { b.time with syncs := b.time.syncs + 1, zero := b.time.now } }
      let b := (List.range 16).foldl (fun b f =>
        if b.get (FLD f) DDS_STAT.STATE = 0 then b else b.setFlag (FLD f) DDS_STAT.RESYNC true) b
      let b := (((b.commitDiscard 2).setFlag 0 SYNC_STAT.SYNCED true).setFlag 0 SYNC_STAT.LEAD_RUN false).setFlag 0 SYNC_STAT.WAIT false
      ((b.ptpPulse).setFlag 0 PTM_STAT.VALID false).arrive 570))) ∧
    (¬ b0 → exec .syncB0 s = .next s)

/-- COMMIT, COMMIT_READINESS, HOLD_RELEASE, HOLD_SAMPLE and COMMIT_APPLY take a staged generation through HOLD_N (06_sequencer_model.md,
R144, 09_sower_and_segments.md, R210, 15_multi_module_sync.md, R318 to R323, 18_host_interface.md, R365). For every state: a COMMIT
nothing refuses holds its pair and stands as the pending commit with STATE 1, else it completes with the code of R318. 100 ns after
the tick before its target, COMMIT_READINESS judges it once: WHY names the first cause that keeps it back. A ready, shared commit
releases HOLD_N 200 ns after the boundary. HOLD_SAMPLE takes the level of the line into HOLD_IN; from 200 ns before the target it
decides a judged commit: a local one by its own readiness; a shared one by the line, after which a module that takes part drives it
low again; low or not ready it slips by one tick, and after RETRY_MAX slips is discarded with CAUSE 1; driven low and read high it
is stuck. At B(T) COMMIT_APPLY brings every value of the generation into force, lays streams with new periods out anew, carries out
underruns, the programs' settings and the fields' part of the boundary, MODE_GEN becomes G, the command completes with TICKNO and
source 575 is raised. Without a pending commit, or before its instant, each of them changes nothing (HOLD_SAMPLE only HOLD_IN). -/
def Obligations.CommitsAreJudgedHeldAndApplied : Prop :=
  ∀ (s : State) (q : Fin 64) (ws : List Nat) (high : Bool),
    let b := s.blk
    let w1 := ws.getD 1 0
    let g := bits w1 0 16
    let L := ws.getD 2 0
    let why := b.commitRefusal g L (!bit w1 16)
    let run := b.flag 0 TB_STAT.TICK_RUN = true
    (b.cmdOf q 0x11 = some ws → why ≠ 0 → exec (.commit q) s = .next (s.on (fun b => b.complete q 0 why))) ∧
    (b.cmdOf q 0x11 = some ws → why = 0 → exec (.commit q) s = .next (s.on (fun b =>
      let b := b.holdQueue q
      let b := { b with sync := { b.sync with commit := some { gen := g, target := L, writes := bits w1 32 32, shared := !bit w1 16, queue := q } } }
      (((b.set 0 COMMIT_STAT.STATE 1).set 0 COMMIT_STAT.SLIPS 0).set 0 COMMIT_STAT.LTICK L).kPendSync))) ∧
    (b.cmdOf q 0x11 = none → exec (.commit q) s = .next s) ∧
    (b.sync.commit = none → exec .commitReadiness s = .next s ∧ exec .holdRelease s = .next s ∧ exec .commitApply s = .next s ∧
      exec (.holdSample high) s = .next (s.on (fun b => b.setFlag 0 SYNC_STAT.HOLD_IN high))) ∧
    (∀ c, b.sync.commit = some c →
      let goOn := fun (b : Block) => { b with sync := { b.sync with commit := some { c with apply := true } } }
      let judge := c.judged = false ∧ c.target ≤ b.tick + 1 ∧ b.time.lastB + 10 ≤ b.time.now ∧ run
      let release := c.judged = true ∧ c.ready = true ∧ c.shared = true ∧ b.time.lastB + 20 ≤ b.time.now ∧ run
      let sample := c.judged = true ∧ c.apply = false ∧ b.time.lastB + b.k - 20 ≤ b.time.now ∧ run
      let apply := c.apply = true ∧ b.atBoundary = true ∧ c.target ≤ b.tick
      (judge → exec .commitReadiness s = .next (s.on (fun b =>
        let r := b.tablesCheck c.gen
        let why := if b.get 0 COMMIT_STAT.WCNT ≠ c.writes then 1 else if !r.2 then 2 else if b.stepHolds c.gen then 3
          else if b.leadRuns then 5 else 0
        let b := r.1.set 0 COMMIT_STAT.WHY why
        { b with sync := { b.sync with commit := some { c with judged := true, ready := why == 0 } } }))) ∧
      (¬ judge → exec .commitReadiness s = .next s) ∧
      (release → exec .holdRelease s = .next (s.on (fun b => b.setFlag 0 SYNC_STAT.HOLD_REL true))) ∧
      (¬ release → exec .holdRelease s = .next s) ∧
      (sample → exec (.holdSample high) s = .next (s.on (fun b =>
        let b := b.setFlag 0 SYNC_STAT.HOLD_IN high
        if c.shared = false then (if c.ready = true then goOn b else b.commitSlip c)
        else if b.holdDriven = true ∧ high = true then b.holdStuck
        else
          let b := b.setFlag 0 SYNC_STAT.HOLD_REL false
          let b := if b.holdDriven = true then b.setFlag 0 SYNC_STAT.HOLD_IN false else b
          if high = true then goOn b else (if c.ready = true then b.set 0 COMMIT_STAT.WHY 4 else b).commitSlip c))) ∧
      (¬ sample → exec (.holdSample high) s = .next (s.on (fun b => b.setFlag 0 SYNC_STAT.HOLD_IN high))) ∧
      (apply → exec .commitApply s = .next (s.on (fun b =>
        let old := b
        let ks := b.tagged c.gen
        let x := ks.foldl Block.tagApply (b, ({} : Block.Touched))
        let b := x.1.set 0 TICK_K_ACT.K (x.1.get 0 TICK_K.K)
        let b := (List.range 16).foldl (fun b f => if b.inStep f && Block.periodsTagged f ks then b.restream f else b) b
        let b := Block.underruns old b
        let y := (List.range 16).foldl (fun y f => Block.progWrites y.1 f y.2) (b, x.2)
        let b := ((List.range 16).foldl Block.progActs (Block.latchUnits old y.1 y.2)).tickFields
        let b := { b with sync := { b.sync with commit := none } }
        let b := (((b.set 0 MODE_GEN.GEN c.gen).set 0 COMMIT_STAT.WCNT 0).set 0 COMMIT_STAT.STATE 2).set 0 COMMIT_STAT.LTICK b.tick
        ((b.kPendSync).complete c.queue b.tick 0).arrive 575))) ∧
      (¬ apply → exec .commitApply s = .next s))

/-- ETH_FRAME_RX, ETH_FRAME_FORWARD, FOLLOW_UP_TIMEOUT, ETH_LINK_CHANGE, PTP_STEP, PTP_HOLDOVER, PTP_RELOCK and PTP_NOW_READ
(16_network_time.md, R325, R326, R328, R330, R333). For every state: on a port that is up a good frame that fits waits in its
direction (a two-step Sync makes it forget an earlier one of its identity); a bad one, an uncorrectable one (source 586) and one
that finds the 64 KiB full (source 587) are counted and discarded, one over 9,216 bytes is discarded; on a port that is down nothing
happens. ETH_FRAME_FORWARD sends the next frame (event messages first, then the oldest not held) through the other port, if that is
up, with its residence time; a Follow_Up 1 s old leaves as it is and is counted. ETH_LINK_CHANGE sets UP, raises source 584 + p, and
with both ports down a LOCKED clock enters HOLDOVER. PTP_STEP at the boundary after its exchange corrects the clock, counts, raises
source 578 and latches an anchor that waits; PTP_HOLDOVER without ports, Announce or Sync messages takes LOCKED to HOLDOVER;
PTP_RELOCK of a running clock listens anew; PTP_NOW_READ latches seconds and nanoseconds and returns the seconds. Not due, each
changes nothing. -/
def Obligations.FramesPassAndLinksComeAndGo : Prop :=
  ∀ (s : State) (p : Fin 2) (fr : EthFrame) (res : Nat) (up : Bool),
    let b := s.blk
    let next := (match (b.eth p).queue.find? (fun x => Block.ethEvent (Block.ethKindOf x.1)) with
      | some x => some x
      | none => (b.eth p).queue.find? (fun x => b.ethReady p x.1))
    let old := (b.eth p).queue.find? (fun x =>
      Block.ethKindOf x.1 == .followUp && !b.ethReady p x.1 && decide (x.2 + 100000000 ≤ b.time.now))
    (b.ethUp p = false → exec (.ethFrameRx p fr) s = .next s) ∧
    (b.ethUp p = true → exec (.ethFrameRx p fr) s = .next (s.on (fun b =>
      if fr.bad.val = 1 then b.count (8 * p) ETH_STAT.BAD_FCS 1
      else if fr.bad.val = 2 then (b.count (8 * p) ETH_STAT.FEC_UNCORR 1).arrive 586
      else if 9216 < fr.len then b
      else if 65536 < b.ethQueued p + fr.len then (b.count (8 * p) ETH_STAT.DROPS 1).arrive 587
      else b.updEth p (fun d => { d with
        left := if Block.ethKindOf fr = .sync true then d.left.filter (fun x => x.1 != fr.ident) else d.left
        queue := d.queue ++ [(fr, b.time.now)] })))) ∧
    (∀ x, b.ethUp (1 - p) = true → next = some x → exec (.ethFrameForward p res) s = .next (s.on (fun b =>
      let r := (b.updEth p (fun d => { d with queue := d.queue.erase x })).ethCorrect p x.1 res
      { r.1 with ptp := { r.1.ptp with out := r.1.ptp.out ++ [(1 - p.val, r.2)] } }))) ∧
    (b.ethUp (1 - p) = false ∨ next = none → exec (.ethFrameForward p res) s = .next s) ∧
    (∀ x, b.ethUp (1 - p) = true → old = some x → exec (.followUpTimeout p) s = .next (s.on (fun b =>
      let b := b.updEth p (fun d => { d with queue := d.queue.erase x })
      ({ b with ptp := { b.ptp with out := b.ptp.out ++ [(1 - p.val, x.1)] } }).count 0 PTP_EVCNT.FU_UNMATCHED 1))) ∧
    (b.ethUp (1 - p) = false ∨ old = none → exec (.followUpTimeout p) s = .next s) ∧
    (b.ethUp p = up → exec (.ethLinkChange p up) s = .next s) ∧
    (b.ethUp p ≠ up → exec (.ethLinkChange p up) s = .next (s.on (fun b =>
      let b := (b.setFlag (8 * p) ETH_STAT.UP up).setFlag 0 (if p = 0 then PTP_STAT.LINK_A else PTP_STAT.LINK_B) up
      let b := b.arrive (584 + p)
      if b.ethUp 0 = false ∧ b.ethUp 1 = false then b.ptpHold else b))) ∧
    (∀ ofs t, b.ptp.step = some (ofs, t) → exec .ptpStep s = .next (s.on (fun b =>
      if b.atBoundary = true ∧ t < b.time.lastB then
        let b := { b with ptp := { b.ptp with step := none } }
        let b := ((b.ptpSet (b.ptpClock - ofs * 2 ^ 16)).count 0 PTP_EVCNT.STEPS 1).arrive 578
        if (b.ptp.t0Due || (b.ptp.relocked && b.flag 0 PTP_T0_S.VALID)) = true then
          b.anchorLatch (b.ptpClock - Int.ofNat (b.time.now - b.time.zero) * 10 * 2 ^ 32)
        else { b with ptp := { b.ptp with relocked := false } }
      else b))) ∧
    (b.ptp.step = none → exec .ptpStep s = .next s) ∧
    (∀ m n, b.ptp.master = some (m, n) → exec .ptpHoldover s = .next (s.on (fun b =>
      let ann := (b.ptp.heard.filter (fun x => x.2.1.sender == m.sender)).foldl (fun n x => max n x.2.2) 0
      if (ann + 3 * m.interval ≤ b.time.now ∨ b.ptp.lastSync + 4 * b.ptp.syncIntv ≤ b.time.now ∨ (b.ethUp 0 = false ∧ b.ethUp 1 = false)) ∧
          b.get 0 PTP_STAT.STATE = 2 then
        ((b.set 0 PTP_STAT.STATE 3).count 0 PTP_EVCNT.HOLDOVERS 1).arrive 579
      else b))) ∧
    (b.ptp.master = none → exec .ptpHoldover s = .next s) ∧
    (b.get 0 PTP_STAT.STATE ≠ 0 → exec .ptpRelock s = .next (s.on (fun b =>
      ({ b with ptp := { b.ptp with step := none, exchs := [], relocked := true, crossed := false } }).set 0 PTP_STAT.STATE 1))) ∧
    (b.get 0 PTP_STAT.STATE = 0 → exec .ptpRelock s = .next s) ∧
    exec .ptpNowRead s = .next (s.on (fun b =>
      let ns := (b.ptpClock / 2 ^ 32).toNat
      let b := (b.set 0 PTP_NOW_S.SEC (ns / 10 ^ 9)).set 0 PTP_NOW_NS.NS (ns % 10 ^ 9)
      { b with host := { b.host with lastRead := [b.get 0 PTP_NOW_S.SEC] } }))

/-- PTP_ANNOUNCE_RX, PTP_SYNC_RX, PTP_FOLLOW_UP_RX and PTP_DELAY_RESP_RX select a master and complete an exchange (16_network_time.md,
R329, R330). For every state in which the clock runs and the message is of its domain on a port that is up: an Announce is
remembered and the best master heard comes into use. A Sync of the master in use is noted with its time and interval, and unless the
last Delay_Req is less than 62.5 ms old sends one and begins an exchange with its reception time. A Follow_Up adds t1 and its
correction to the first exchange under way with its sequence number and no t1, a Delay_Resp adds t4 to the first one with its
request. Once an exchange has all four times it is done, and leaves with those before it: MPD and OFS are written; LISTENING becomes
LOCKED with a step due, else the rate changes; HOLDOVER becomes LOCKED with source 580; OFS beyond OFS_THR raises source 582 once.
Any other message, and one to a stopped clock, changes nothing. The comparison of masters is the model's (log entry 38), the rate
after a later exchange a free value (log entry 37). -/
def Obligations.ThePtpClockFollowsItsMaster : Prop :=
  ∀ (s : State) (p : Fin 2) (m : PtpMaster) (y : PtpSync) (z : PtpFollowUp) (d : PtpDelayResp),
    let b := s.blk
    let settle := fun (before : List PtpExch) (x : PtpExch) (after : List PtpExch) (b : Block) =>
      (match x.t1, x.t4 with
      | some t1, some t4 =>
        let ms := x.t2 - t1 - x.corr
        let sm := t4 - x.t3
        let mpd := (ms + sm) / 2
        let ofs := ms - mpd
        let b := { b with ptp := { b.ptp with exchs := after } }
        let b := (b.set 0 PTP_OFS.MPD (min (2 ^ 32 - 1) (mpd / 2 ^ 16).toNat)).set 0 PTP_OFS.OFS (Block.satNs 32 ofs)
        let st := b.get 0 PTP_STAT.STATE
        let b : Block := if st = 1 then { b.set 0 PTP_STAT.STATE 2 with ptp := { b.ptp with step := some (ofs, b.time.now) } }
          else (b.ptpSetRate (Int.ofNat (b.free % 1717987) - 858993)).freed
        let b := if st = 3 then (b.set 0 PTP_STAT.STATE 2).arrive 580 else b
        let big := decide (b.get 0 PTP_CTRL.OFS_THR < (ofs / 2 ^ 16).natAbs)
        let b := b.arriveIf (big && !b.ptp.crossed) 582
        { b with ptp := { b.ptp with crossed := big } }
      | _, _ => { b with ptp := { b.ptp with exchs := before ++ x :: after } })
    let sync := b.fromMaster p y.sender y.domain = true
    let req := b.ptp.lastReq.all (fun t => decide (t + 6250000 ≤ b.time.now)) = true
    let heardSync := fun (b : Block) => { b with ptp := { b.ptp with lastSync := b.time.now, syncIntv := y.interval } }
    (b.ptpHears p m.domain = true → exec (.ptpAnnounceRx p m) s = .next (s.on (fun b =>
      let rest := b.ptp.heard.filter (fun x => !(x.1 == p.val && x.2.1.sender == m.sender) && decide (b.time.now < x.2.2 + 3 * x.2.1.interval))
      let n := if b.ptp.master.isNone then b.time.now else b.ptp.lastSync
      ({ b with ptp := { b.ptp with heard := rest ++ [(p.val, m, b.time.now)], lastSync := n } }).masterUse))) ∧
    (b.ptpHears p m.domain = false → exec (.ptpAnnounceRx p m) s = .next s) ∧
    (¬ sync → exec (.ptpSyncRx p y) s = .next s) ∧
    (sync → ¬ req → exec (.ptpSyncRx p y) s = .next (s.on heardSync)) ∧
    (sync → req → exec (.ptpSyncRx p y) s = .next (s.on (fun b =>
      let n := b.ptp.reqSeq
      let t2 := b.ptpNow16 + y.fine
      let b := heardSync b
      let b := ({ b with ptp := { b.ptp with lastReq := some b.time.now, reqSeq := (n + 1) % 65536 } }).ethSend p
        { len := 64, bad := 0, dst := 0x011B19000000, tags := [], etype := 0x88F7, kind := .delayReq, ident := n, corr := 0 }
      { b with ptp := { b.ptp with exchs := b.ptp.exchs ++
        [{ seq := y.seq, t1 := if y.twoStep then none else some y.t1, corr := y.corr, t2 := t2, reqSeq := some n, t3 := b.ptpNow16 }] } }))) ∧
    (b.fromMaster p z.sender z.domain = false ∨ (∀ x ∈ b.ptp.exchs, x.seq ≠ z.seq ∨ x.t1 ≠ none) → exec (.ptpFollowUpRx p z) s = .next s) ∧
    (∀ before x after, b.fromMaster p z.sender z.domain = true → b.ptp.exchs = before ++ x :: after →
      (∀ w ∈ before, w.seq ≠ z.seq ∨ w.t1 ≠ none) → x.seq = z.seq → x.t1 = none → exec (.ptpFollowUpRx p z) s = .next (s.on (fun b =>
        settle before { x with t1 := some z.t1, corr := x.corr + z.corr } after b))) ∧
    (b.fromMaster p d.sender d.domain = false ∨ (∀ x ∈ b.ptp.exchs, x.reqSeq ≠ some d.seq) → exec (.ptpDelayRespRx p d) s = .next s) ∧
    (∀ before x after, b.fromMaster p d.sender d.domain = true → b.ptp.exchs = before ++ x :: after →
      (∀ w ∈ before, w.reqSeq ≠ some d.seq) → x.reqSeq = some d.seq → exec (.ptpDelayRespRx p d) s = .next (s.on (fun b =>
        settle before { x with t4 := some (d.t4 - d.corr) } after b)))

/-- HBM_GRANT, PAGE_RETIRE_SWITCH, PAGE_REFETCH and its end, HBM_LATENCY_FAULT, REFRESH_INTERVAL, PC_EVACUATED, HBM_REFQ_POP,
HBM_LOST_POP (17_hbm_controller.md, R334 to R343, R348, R350, R351, 18_host_interface.md, R364, R366, R367, 20_faults_and_repair.md,
R408, R409). For every state: with the controller in operation HBM_GRANT serves, after refresh, the request that pick names, records
its latency and takes it from the list; with none only refresh happens. Replays of a read word count; at RPLY_MAX the page is
retired; a persistent error retires and damages it, its word all ones where nothing will bring it back. Out of operation it changes
nothing. PAGE_RETIRE_SWITCH of a copied page moves its entry to the new frame, of the next page of an evacuating pseudo-channel to a
spare frame or to RETIRED; words that the copy found unreadable damage the page. PAGE_REFETCH takes a slot and names its page, with
no slot it completes with 0x03; its end with clean data writes the page and ends the slot with one result, failed it ends it with
0x09, of a page protected meanwhile with 0x32. A Sower or capture request beyond four targets raises source 392 once. A refresh
interval is one more owed, but in Quiet or of a retired pseudo-channel; an evacuating pseudo-channel with no page left is retired
and recorded. HBM_REFQ and HBM_LOST return and take their oldest entry, empty ones return 0. -/
def Obligations.GrantsRetirementAndRefetchOfPages : Prop :=
  ∀ (s : State) (p : Fin 32) (bad : Nat) (err : Fin 5) (page : Fin 1048576) (bads : List Nat) (q : Fin 64) (data : List Word) (ok : Bool)
    (port : Fin 7) (ws : List Nat),
    let b := s.blk
    let hit := fun r : HReq => r.port == port.val && !r.late && decide (4 * b.get (8 * port) HBM_PORT.TARGET < b.time.now - r.at_)
    let pg := bits (ws.getD 1 0) 0 20
    let busy := b.hbm.refBusy.contains page.val = true
    let mayRef := b.get 0 HBM_STAT.STATE ≠ 4 ∧ b.get (16 * p) HBM_PC.STATE ≠ 3
    let empty := b.get (16 * p) HBM_PC.STATE = 2 ∧ b.backedBy p = 0
    let refetched := fun (b : Block) => { b with hbm := { b.hbm with
      refetch := b.hbm.refetch.filter (· != page.val), refBusy := b.hbm.refBusy.filter (· != page.val)
      refq := b.hbm.refq.filter (· != page.val), refWait := b.hbm.refWait.filter (· != page.val) } }
    (b.get 0 HBM_STAT.STATE ≠ 1 → exec (.hbmGrant p bad err) s = .next s) ∧
    (b.get 0 HBM_STAT.STATE = 1 → (b.refresh p).pick p = none → exec (.hbmGrant p bad err) s = .next (s.on (fun b => b.refresh p))) ∧
    (∀ r, b.get 0 HBM_STAT.STATE = 1 → (b.refresh p).pick p = some r → exec (.hbmGrant p bad err) s = .next (
      let b := (b.refresh p).grantLatency r
      let b := { b with hbm := { b.hbm with
        grants := Sparse.set 0 p ((Sparse.get 0 p b.hbm.grants + 1) % 16) b.hbm.grants, reqs := Block.reqTake r b.hbm.reqs } }
      if err.val = 0 ∨ Block.readPort r.port = false then { s with blk := b }
      else
        let b := b.replays p r.page (min err 3)
        if err.val = 4 then { s with
          blk := (b.pageRetire r.page).pageDamaged r.page
          mem := if b.fillsOnes r.page = true then Memory.setBytes s.mem (r.page * 32768 + 4 * (bad % 8192)) (2 ^ 32 - 1) 4 else s.mem }
        else if b.get 0 HBM_CTRL.RPLY_MAX ≤ b.get (16 * r.page) DIR_ENT0.RPLY then { s with blk := b.pageRetire r.page }
        else { s with blk := b })) ∧
    (bads = [] ∨ b.pageMoves page = false → exec (.pageRetireSwitch ⟨page, bads⟩) s = .next (s.on (fun b => b.retireSwitch page))) ∧
    (bads ≠ [] → b.pageMoves page = true → exec (.pageRetireSwitch ⟨page, bads⟩) s = .next { s with
      blk := ((b.replays (b.pgPc page) page (3 * bads.length)).pageDamaged page).retireSwitch page
      mem := if b.fillsOnes page = true then bads.foldl (fun m w => Memory.setBytes m (page * 32768 + 4 * (w % 8192)) (2 ^ 32 - 1) 4) s.mem else s.mem }) ∧
    (∀ c, b.hbm.copying.find? (fun c => c.1 == page.val) = some c → b.retireSwitch page =
      (let b := (b.pageMove page c.2.1 c.2.2).mapChanged
       { b with hbm := { b.hbm with copying := b.hbm.copying.filter (fun x => x.1 != page.val) } })) ∧
    (b.hbm.copying.find? (fun c => c.1 == page.val) = none → b.retireSwitch page =
      if b.get (16 * b.pgPc page) HBM_PC.STATE = 2 ∧ b.evacTurn page = true then
        (match b.sparePc (b.pgPc page) with
        | none => (b.count 0 HBM_EVCNT.PG_RET 1).pageGone page
        | some pc => let r := (b.count 0 HBM_EVCNT.PG_RET 1).takeFrame pc; (r.1.pageMove page pc r.2).mapChanged).arrive (514 + b.pgPc page)
      else b) ∧
    (b.cmdOf q 0x24 = some ws → b.freeSlot ≠ none → exec (.pageRefetch q) s = .next (s.on (fun b =>
      { b.takeSlot q [] with hbm := { b.hbm with refBusy := b.hbm.refBusy ++ [pg] } }))) ∧
    (b.cmdOf q 0x24 = some ws → b.freeSlot = none → exec (.pageRefetch q) s = .next (s.on (fun b => b.complete q 0 0x03))) ∧
    (b.cmdOf q 0x24 = none → exec (.pageRefetch q) s = .next s) ∧
    (¬ busy → exec (.pageRefetchDone page data ok) s = .next s) ∧
    (busy → b.pgProt page = true → exec (.pageRefetchDone page data ok) s = .next (s.on (fun b =>
      match b.refetchSlot page with
      | some k => (refetched b).slotEnd k 0x32
      | none => refetched b))) ∧
    (busy → b.pgProt page = false → exec (.pageRefetchDone page data true) s = .next { s with
        blk := (match b.refetchSlot page with
          | some k => (((refetched b).npart k 1).opres k 0 32768).slotEnd k 0
          | none => refetched b)
        mem := Memory.setWords s.mem .pages (page * 4096) ((List.range 4096).map (fun i => (data.map (fun x => x.toNat)).getD i 0)) } ∧
      exec (.pageRefetchDone page data false) s = .next (s.on (fun b =>
        match b.refetchSlot page with
        | some k => ({ b with hbm := { b.hbm with refBusy := b.hbm.refBusy.filter (· != page.val) } }).slotEnd k 0x09
        | none => b))) ∧
    (port.val ≤ 1 → b.hbm.reqs.any hit = true → exec (.hbmLatencyFault port) s = .next (s.on (fun b =>
      ({ b with hbm := { b.hbm with reqs := b.hbm.reqs.map (fun r => if hit r then { r with late := true } else r) } }).fault 392 0))) ∧
    (2 ≤ port.val ∨ b.hbm.reqs.any hit = false → exec (.hbmLatencyFault port) s = .next s) ∧
    (mayRef → exec (.refreshInterval p) s = .next (s.on (fun b =>
      ({ b with hbm := { b.hbm with owed := Sparse.set 0 p (b.owed p + 1) b.hbm.owed } }).refresh p))) ∧
    (¬ mayRef → exec (.refreshInterval p) s = .next s) ∧
    (empty → exec (.pcEvacuated p) s = .next (s.on (fun b =>
      ((((b.set (16 * p) HBM_PC.STATE 3).setFlag (16 * p) HBM_PC.RT_DUE false).hbmCounts).rmRecord 6 0 0 p 0).mapChanged))) ∧
    (¬ empty → exec (.pcEvacuated p) s = .next s) ∧
    (b.hbm.refq = [] → exec .hbmRefqPop s = .next (s.on (fun b => { b with host := { b.host with lastRead := [0] } }))) ∧
    (∀ n rest, b.hbm.refq = n :: rest → exec .hbmRefqPop s = .next (s.on (fun b =>
      let t := rest ++ b.hbm.refWait.take 1
      { b with
        hbm := { b.hbm with refq := t, refWait := b.hbm.refWait.drop 1 }
        host := { b.host with lastRead := [2 ^ 63 + t.length * 2 ^ 20 + n] } }))) ∧
    exec .hbmLostPop s = .next (s.on (fun b => { b with
      hbm := { b.hbm with lost := b.hbm.lost.drop 1 }, host := { b.host with lastRead := [b.hbm.lost.headD 0] } }))

/-- HBM_TEMP_READOUT, HBM_TRAIN, HBM_RETRAIN, HBM_TRAIN_DONE, HBM_CMD_QUIET, HBM_CMD_WAKE, QUIET_ENTERED and QUIET_EXITED
(17_hbm_controller.md, R343, R345 to R347, R350, R351, 18_host_interface.md, R366, R367). For every state: a temperature readout
stores value and tick, keeps the highest, moves HOT above 85 and down to 83 degrees, marks the pseudo-channels (not retired) due for
retraining, and above 95 raises source 393 once per crossing. HBM_TRAIN at a module idle boundary, in operation, takes a slot and
starts the boundary work (with no slot it completes with 0x03), else completes with 0x04; HBM_RETRAIN starts it at an idle boundary
in operation when a pseudo-channel is due; the end of training judges each pseudo-channel, takes state 1 and ends the slot. QUIET is
entered from operation at a module idle boundary with nothing waiting, else it sets QREF; WAKE in Quiet starts the exit; the entry
ends in Quiet, or in the exit where a request has come; the exit ends in operation, or in training where the temperature has moved.
Not due, each changes nothing. -/
def Obligations.PatternMemoryTrainsAndRests : Prop :=
  ∀ (s : State) (q : Fin 64) (t : Int) (eyes : List (Nat × Nat)) (ws : List Nat),
    let b := s.blk
    let st := b.get 0 HBM_STAT.STATE
    let goTo := fun (b : Block) (st : Nat) => (b.set 0 HBM_STAT.STATE st).set 0 HBM_STAT.TICK b.tick16
    let retrain := b.trainDue = true ∧ b.moduleIdle = true ∧ b.bwork = [] ∧ b.atBoundary = true ∧ st = 1
    let quiet := st = 1 ∧ b.moduleIdle = true ∧ b.hbm.reqs = [] ∧ b.hbm.refetch = [] ∧ b.bwork = [] ∧
      (∀ p, p < 32 → b.get (16 * p) HBM_PC.STATE ≠ 2)
    exec (.hbmTempReadout t) s = .next (s.on (fun b =>
      let b := (b.set 0 HBM_TEMP.NOW (ofSigned 8 t)).set 0 HBM_TEMP.TICK b.tick16
      let b := if toSigned 8 (b.get 0 HBM_TEMP.MAX) < t then b.set 0 HBM_TEMP.MAX (ofSigned 8 t) else b
      let b := if 85 < t then b.setFlag 0 HBM_STAT.HOT true else if t ≤ 83 then b.setFlag 0 HBM_STAT.HOT false else b
      let b := (List.range 32).foldl (fun b p =>
        if b.get (16 * p) HBM_PC.STATE ≠ 3 ∧
            Int.ofNat (b.get 0 HBM_CTRL.RT_DT) < 4 * (t - toSigned 8 (b.get (16 * p) HBM_PC.TTEMP)).natAbs then
          b.setFlag (16 * p) HBM_PC.RT_DUE true else b) b
      if t ≤ 95 then { b with hbm := { b.hbm with hotOver := false } }
      else if b.hbm.hotOver = true then b else ({ b with hbm := { b.hbm with hotOver := true } }).fault 393 0)) ∧
    (b.cmdOf q 0x28 = none → exec (.hbmTrain q) s = .next s) ∧
    (b.cmdOf q 0x28 = some ws → b.moduleIdle = false ∨ st ≠ 1 → exec (.hbmTrain q) s = .next (s.on (fun b => b.complete q 0 0x04))) ∧
    (b.cmdOf q 0x28 = some ws → b.moduleIdle = true → st = 1 → b.freeSlot = none →
      exec (.hbmTrain q) s = .next (s.on (fun b => b.complete q 0 0x03))) ∧
    (∀ k, b.cmdOf q 0x28 = some ws → b.moduleIdle = true → st = 1 → b.freeSlot = some k → exec (.hbmTrain q) s = .next (s.on (fun b =>
      let b := (b.takeSlot q []).workStart none 7 0
      { b with hbm := { b.hbm with trainSlot := some k } }))) ∧
    (retrain → exec .hbmRetrain s = .next (s.on (fun b => (goTo b 2).workStart none 7 0))) ∧
    (¬ retrain → exec .hbmRetrain s = .next s) ∧
    (st = 0 ∨ st = 2 → exec (.hbmTrainDone eyes) s = .next (s.on (fun b =>
      let b := (List.range 32).foldl (fun b p => Block.trainResult (st == 0) (eyes.getD p (0, 0)) b p) b
      let b := (goTo b.hbmCounts 1).workEnd 7 0
      match b.hbm.trainSlot with
      | some k => ({ b with hbm := { b.hbm with trainSlot := none } }).slotEnd k 0
      | none => b))) ∧
    (st ≠ 0 → st ≠ 2 → exec (.hbmTrainDone eyes) s = .next s) ∧
    (quiet → exec .hbmCmdQuiet s = .next (s.on (fun b => (goTo b 3).setFlag 0 HBM_STAT.QREF false))) ∧
    (¬ quiet → exec .hbmCmdQuiet s = .next (s.on (fun b => b.setFlag 0 HBM_STAT.QREF true))) ∧
    (st = 4 → exec .hbmCmdWake s = .next (s.on (fun b => goTo b 5))) ∧
    (st ≠ 4 → exec .hbmCmdWake s = .next s) ∧
    (st = 3 → exec .quietEntered s = .next (s.on (fun b => goTo b (if b.hbm.reqs = [] then 4 else 5)))) ∧
    (st ≠ 3 → exec .quietEntered s = .next s) ∧
    (st = 5 → exec .quietExited s = .next (s.on (fun b =>
      if (List.range 32).any (fun p => b.get (16 * p) HBM_PC.STATE != 3 && decide (b.get 0 HBM_CTRL.RT_DT <
        4 * (toSigned 8 (b.get 0 HBM_TEMP.NOW) - toSigned 8 (b.get (16 * p) HBM_PC.TTEMP)).natAbs)) = true
      then (goTo b 2).workStart none 7 0 else goTo b 1))) ∧
    (st ≠ 5 → exec .quietExited s = .next s)

/-- BUCKET_DRAIN, FC_CFG_WRITE, FC_STICKY_CLEAR, FC_RECOVER, RECOVERY_APPLY, ALIVE_TOGGLE, HEARTBEAT_LOSS and NOTIFICATION_ENQUEUE
(14_sites_and_results.md, R303, 20_faults_and_repair.md, R391, R393, R394, R396, R397, R400, R403, R404). For every state: a bucket
whose drain counter has reached WIN loses one event; else nothing happens. An FC_CFG write whose upper half is no exact complement
raises 402 and stores nothing; rows 419 to 422 ignore writes; any other write stores its fields, NCFG their complement, a reserved
SCOPE or WIN keeping its field and raising 402. Each sticky bit written as 1 clears, and a Degraded hold of its source ends while
the live bit is 0. FC_RECOVER stores scope and unit, and GO asks for recovery. At a boundary RESULT takes the first reason that
applies (Grave 6, no such bolt 5, not idle 2, live fault 3, complement 4), else 1: the bolt ends, the units that no other bolt
covers leave the bolted state, their holds end, 633 is raised. ALIVE toggles while no stop holds. 2 ms without a heartbeat clear HB
and raise 423. A waiting notification enters the queue when an entry is free, a reserved one only when the others are full. -/
def Obligations.FaultCollectionDrainsConfiguresAndRecovers : Prop :=
  ∀ (s : State) (n : Fin 640) (i : Fin 10) (v : Word),
    let b := s.blk
    let low := v.toNat % 2 ^ 32
    let good := low + v.toNat / 2 ^ 32 = 2 ^ 32 - 1
    let drained := b.get (8 * n) FC_STATE.BUCKET ≠ 0 ∧ b.drainWin n ≤ Sparse.get 0 n b.flt.drain
    let lost := b.flag 0 FC_ALIVE.HB = true ∧ b.flt.heartbeat + 200000 ≤ b.time.now
    let own := fun x : BoltRec => x.scope = b.get 0 FC_RECOVER.SCOPE ∧ (x.scope = 3 ∨ x.unit = b.get 0 FC_RECOVER.UNIT);
    (drained → exec (.bucketDrain n) s = .next (s.on (fun b =>
        let b := if b.fcCfgOk n then b else b.fault 419 0
        ({ b with flt := { b.flt with drain := Sparse.set 0 n 0 b.flt.drain } }).set (8 * n) FC_STATE.BUCKET (b.get (8 * n) FC_STATE.BUCKET - 1)))) ∧
    (¬ drained → exec (.bucketDrain n) s = .next (s.on id)) ∧
    (b.drainWin n = if b.fcCfgOk n then b.get (8 * n) FC_CFG.WIN else fcWin n) ∧
    (¬ good → exec (.fcCfgWrite n v) s = .next (s.on (fun b => b.fault 402 0))) ∧
    (good → 419 ≤ n.val ∧ n.val ≤ 422 → exec (.fcCfgWrite n v) s = .next (s.on id)) ∧
    (good → ¬ (419 ≤ n.val ∧ n.val ≤ 422) → exec (.fcCfgWrite n v) s = .next (s.on (fun b =>
      let b := ((b.set (8 * n) FC_CFG.BASE (bits low 0 2)).set (8 * n) FC_CFG.PROMO (bits low 2 2)).set (8 * n) FC_CFG.N (bits low 8 8)
      let b := if bits low 4 2 = 3 then b else b.set (8 * n) FC_CFG.SCOPE (bits low 4 2)
      let b := if bits low 16 16 = 0 then b else b.set (8 * n) FC_CFG.WIN (bits low 16 16)
      let b := b.set (8 * n) FC_CFG.NCFG (2 ^ 32 - 1 - (b.get (8 * n) FC_CFG.BASE + 4 * b.get (8 * n) FC_CFG.PROMO + 16 * b.get (8 * n) FC_CFG.SCOPE +
        256 * b.get (8 * n) FC_CFG.N + 65536 * b.get (8 * n) FC_CFG.WIN))
      if (bits low 4 2 == 3 || bits low 16 16 == 0) = true then b.fault 402 0 else b))) ∧
    exec (.fcStickyClear i v) s = .next (s.on (fun b => (List.range 64).foldl (fun b k =>
      let src := 64 * i.val + k
      let c := b.set (8 * (src / 64)) FC_STICKY.BITS (clrBit (b.get (8 * (src / 64)) FC_STICKY.BITS) (src % 64))
      if bit v.toNat k = false then b
      else if (c.flt.degraded.any (fun x => x.1 == src) && !c.flag (8 * src) FC_STATE.LIVE) = true then
        let d := { c with flt := { c.flt with degraded := c.flt.degraded.filter (fun y => y.1 != src) } }
        (if d.get (8 * src) FC_STATE.HELD = 1 then d.set (8 * src) FC_STATE.HELD 0 else d).degradedEnd (d.faultUnit src)
      else c) b)) ∧
    (b.flt.degraded = [] → Yields (exec (.fcStickyClear i v) s) (fun t =>
      (∀ k, k < 64 → bit (t.blk.get (8 * i) FC_STICKY.BITS) k = (bit (b.get (8 * i) FC_STICKY.BITS) k && !bit v.toNat k)) ∧
      SameRegsBut [fkey (8 * i) FC_STICKY.BITS] s t ∧ SameStore s t)) ∧
    exec (.fcRecover v) s = .next (s.on (fun b =>
      let b := (b.set 0 FC_RECOVER.SCOPE (bits v.toNat 48 2)).set 0 FC_RECOVER.UNIT (bits v.toNat 32 9)
      if bit v.toNat 63 = true then { b with flt := { b.flt with recover := true } } else b)) ∧
    ((b.flt.recover && b.atBoundary) = false → exec .recoveryApply s = .next (s.on id)) ∧
    (b.flt.recover = true → b.atBoundary = true → exec .recoveryApply s = .next (s.on (fun b =>
      let code := if b.flt.grave then 6 else match b.recoverTarget with
        | none => 5
        | some r => if !b.scopeIdle (r.scope, r.unit) then 2 else if r.srcs.any (fun s => b.flag (8 * s) FC_STATE.LIVE) then 3
          else if !b.scopeValuesOk (r.scope, r.unit) then 4 else 1
      let c := ({ b with flt := { b.flt with recover := false } }).set 0 FC_RECOVER.RESULT code
      match b.recoverTarget with
      | some r =>
        if code = 1 then
          let c := { c with flt := { c.flt with bolts := c.flt.bolts.filter (fun x => x != r) } }
          let c := (c.scopeSlices (r.scope, r.unit)).foldl Block.slcRecover c
          let c := (c.scopeRegs (r.scope, r.unit)).foldl Block.dpsRecover c
          (r.srcs.foldl (fun c s => c.set (8 * s) FC_STATE.HELD 0) c).aliveSync.arrive 633
        else c
      | none => c))) ∧
    (∀ r, b.recoverTarget = some r → r ∈ b.flt.bolts ∧ own r) ∧ (b.recoverTarget = none → ∀ x ∈ b.flt.bolts, ¬ own x) ∧
    (b.get 0 FC_ALIVE.STATE = 0 → exec .aliveToggle s = .next (s.on (fun b => b.setFlag 0 FC_ALIVE.LEVEL (!b.flag 0 FC_ALIVE.LEVEL)))) ∧
    (b.get 0 FC_ALIVE.STATE ≠ 0 → exec .aliveToggle s = .next (s.on id)) ∧
    (lost → exec .heartbeatLoss s = .next (s.on (fun b => ((b.setFlag 0 FC_ALIVE.HB false).aliveSync).fault 423 0))) ∧
    (¬ lost → exec .heartbeatLoss s = .next (s.on id)) ∧
    exec .notificationEnqueue s = .next (s.on (fun b =>
      match b.res.waiting with
      | [] => b
      | x :: rest =>
        if 4032 ≤ b.queueUsed ∧ 64 ≤ b.reservedUsed then b
        else (({ b with res := { b.res with waiting := rest } }).enqueueNotif x (decide (4032 ≤ b.queueUsed))).endReaction))

/-- RM_CMD, LANE_REPAIR, LANE_REPAIR_DONE, D2D_PARITY_ERROR, REPAIR_MAP_SAVE, its end, and DPS_SUBSTITUTION act as R406 to R409 and R291
say (01_architecture.md, R11, 13_device_power_supplies.md, R291, 20_faults_and_repair.md, R406 to R409). For every state: RM_CMD
with GO asks for the substitution of the unit of its kind; KIND 3 raises source 410, with or without GO. A due lane repair at a
module idle boundary starts while a spare lane of its direction is left, else RM_LAST records that none was; its end writes the
link's eye, uses the spare, clears the lane counts, records the repair and raises 616. Each faulty die-to-die transfer counts on its
lane and in ERR, WORST follows, and each raises source 388 + d. A changed repair map starts a save as a flash job with MAPSEQ one
more; its end clears SAVE_PEND and raises 614 or 615. DPS_SUBSTITUTION at an idle boundary, its worn regulator off, moves settings,
land, calibration set, results and map to the spare and raises 610; on or ramping, it records the deferral and raises 611. Whatever
is not due leaves the block as it was. -/
def Obligations.TheRepairManagerReplacesAndSaves : Prop :=
  ∀ (s : State) (v : Word) (d : Fin 4) (out good : Bool) (lane eye : Nat) (rp : Fin 4) (pe : Bool) (r : Fin 34),
    let b := s.blk
    let u := bits v.toNat 32 9
    let kind := bits v.toNat 48 2
    let go := bit v.toNat 63
    let laneNow := (b.flt.laneDue.contains d.val && b.moduleIdle && b.bwork.isEmpty && b.atBoundary) = true
    let landOf := b.dpsLand r
    let sub := match landOf with
      | none => false
      | some l => b.flt.due.contains (1, r.val) && b.idle (l / 2) && !b.boundaryBusy (l / 2) && b.atBoundary &&
        b.get (DPS (if l < 16 then 32 else 33)) DPS_ID.ROLE == 1 && !b.flag (DPS (if l < 16 then 32 else 33)) DPS_STAT.BOLTED
    let worn := b.flag (DPS r) DPS_CTRL.EN || b.flag (DPS r) DPS_STAT.RAMP || b.flag (DPS r) DPS_STAT.OUT_SW;
    (kind = 3 → exec (.rmCmd v) s = .next (s.on (fun b => b.fault 410 0))) ∧
    (kind ≠ 3 → go = false → exec (.rmCmd v) s = .next (s.on id)) ∧
    (kind ≠ 3 → go = true → exec (.rmCmd v) s = .next (s.on (fun b =>
      if kind = 0 ∧ u < 272 then b.substDue u else if kind = 1 ∧ u < 34 then b.substDue (272 + u)
      else if kind = 2 ∧ u < 17 then b.substDue (306 + u) else b))) ∧
    (laneNow → exec (.laneRepair d out) s = .next (s.on (fun b =>
      let c := { b with flt := { b.flt with laneDue := b.flt.laneDue.filter (· != d.val) } }
      if b.get (8 * d) (Block.spareLanes out) < 4 then
        ({ c with flt := { c.flt with laneBusy := c.flt.laneBusy ++ [(d.val, out)] } }).workStart none 5 d
      else c.rmRecord 5 2 0 (b.worstLane d) 0))) ∧
    (¬ laneNow → exec (.laneRepair d out) s = .next (s.on id)) ∧
    exec (.laneRepairDone ⟨d, eye⟩) s = .next (s.on (fun b =>
      match b.flt.laneBusy.find? (fun x => x.1 == d.val) with
      | none => b
      | some x =>
        let b := b.set (8 * d) RM_D2D.EYE (min 255 eye)
        let lane := b.worstLane d
        let b := { b with flt := { b.flt with
          laneBusy := b.flt.laneBusy.filter (fun y => y.1 != d.val), laneErr := b.flt.laneErr.filter (fun y => y.1 / 68 != d.val) } }
        let b := (b.bump (8 * d) (Block.spareLanes x.2)).set (8 * d) RM_D2D.TICK b.tick
        (((b.rmRecord 5 0 0 lane (b.get (8 * d) (Block.spareLanes x.2))).mapChanged).workEnd 5 d).arrive 616)) ∧
    exec (.d2dParityError d lane rp pe) s = .next (s.on (fun b =>
      let n := if pe then 4 else rp.val
      let key := d.val * 68 + lane % 68
      let b := { b with flt := { b.flt with laneErr := Sparse.set 0 key (Sparse.get 0 key b.flt.laneErr + n) b.flt.laneErr } }
      let b := b.count (8 * d) RM_D2D.ERR n
      let b := b.set (8 * d) RM_D2D.WORST (b.worstLane d)
      (List.range n).foldl (fun b _ => b.fault (388 + d) 0) b)) ∧
    ((b.flt.mapDirty && !b.flag 0 RM_STAT.SAVE_PEND) = true → exec .repairMapSave s = .next (s.on (fun b =>
      let b := { b with flt := { b.flt with mapDirty := false }, keeper := { b.keeper with mirror := b.keeper.mirror + 1 } }
      ((b.setFlag 0 RM_STAT.SAVE_PEND true).bump 0 RM_STAT.MAPSEQ).flashAsk 0 0))) ∧
    ((b.flt.mapDirty && !b.flag 0 RM_STAT.SAVE_PEND) = false → exec .repairMapSave s = .next (s.on id)) ∧
    exec (.repairMapSaveDone good) s = .next (s.on (fun b =>
      match b.flashOutcome 0 0 with
      | none => b
      | some wrote =>
        let ok := wrote && good
        let b := ((b.flashForget 0 0).setFlag 0 RM_STAT.SAVE_PEND false).setFlag 0 RM_STAT.SAVE_FAIL (!ok)
        let b := { b with flt := { b.flt with saves := if ok then b.get 0 RM_STAT.MAPSEQ else b.flt.saves } }
        b.arrive (if ok then 614 else 615))) ∧
    (sub = false → exec (.dpsSubstitution r) s = .next (s.on id)) ∧
    (∀ l, landOf = some l → sub = true → exec (.dpsSubstitution r) s = .next (s.on (fun b =>
      let sp := if l < 16 then 32 else 33
      if worn then (b.rmRecord 1 1 0 r sp).arrive 611
      else
        let displaced := b.get (8 * (272 + (sp - 32))) HASP_ENT.OWNER
        let old := b
        let b := (b.haspTake (272 + (sp - 32))).copyUnit dpsRegs (DPS r) (DPS sp)
        let b := (b.set (DPS r) DPS_ID.ROLE 3).set (DPS r) DPS_ID.LAND 0x3F
        let b := (b.set (DPS sp) DPS_ID.ROLE 2).set (DPS sp) DPS_ID.LAND l
        let b := if sp = 32 then (b.setFlag 0 RM_DPSMAP.SUB32 true).set 0 RM_DPSMAP.LAND32 l
          else (b.setFlag 0 RM_DPSMAP.SUB33 true).set 0 RM_DPSMAP.LAND33 l
        let b := b.set 0 RM_STAT.SPARE_DPS (b.get 0 RM_STAT.SPARE_DPS - 1)
        let b := b.updDps sp (fun d => { d with calSet := l, meas := (b.dps r).meas })
        let b := b.updWm (272 + sp) (fun w => { w with hist := (b.wm (272 + r)).hist })
        let b := if old.flt.degraded.any (fun d => d.1 == 322 + r.val) then b.mark 1 (300 + l / 2) else b
        let b := { b with flt := { b.flt with due := b.flt.due.filter (fun e => e != (1, r.val)) } }
        (((b.dpsSync r).dpsSync sp).rmRecord 1 0 displaced r sp).mapChanged.arrive 610)))

/-- REGISTER_WRITE, REGISTER_READ, BAR0_UNSUPPORTED_REQUEST and READ_REGS: which accesses take effect, what they answer and count
(00_scope.md, R5 to R8, 18_host_interface.md, R356, R357, R369, R370). For every state, offset and value: a write that is not an
aligned one of 8 bytes is discarded, counted with its offset and reported as 400; one outside every block is discarded and counted;
one without a register, or to a read-only block, changes nothing. Any other register takes an aligned write by its access codes: RW
fields take their bits at once, RWS fields are staged with STAGE_GEN's tag, W1C bits written as 1 clear, all others stay; a reserved
encoding keeps its field and is reported; a register that a pending commit of another generation staged is left alone and reported.
Registers whose write does more (listed) are written by the operation or command that does it; a slice or regulator that serves
nothing or is retired refuses. A read answers all ones where nothing can be read, 0 where no register stands, else the word by the
access codes, and clears the RC fields that it covers; a read of 4 bytes does so with its half; registers whose read does more are
read by their command. Unsupported requests change nothing. READ_REGS with a count outside 1 to 512 completes with 0x02; else it
reads upwards what 8-byte reads would, writes the words to the host buffer and completes with the number read, 0x0A where the block
ended before. -/
def Obligations.Bar0AccessesFollowTheAccessCodes : Prop :=
  ∀ (s : State) (a len : Nat) (v : Word) (base : Nat) (d : RegDef),
    let b := s.blk
    let n := v.toNat
    let here := a % 8 = 0 ∧ inBlock a = true ∧ regAt a = some (base, d)
    let reserved := fun F : Fld => (F.acc == .rw || F.acc == .rws || F.acc == .wo) && !F.ok (bits n F.lo F.w)
    let plain := s.on (fun (b : Block) =>
      let gen := b.get 0 STAGE_GEN.GEN
      let other := match b.sync.commit with
        | none => false
        | some c => gen != c.gen && d.flds.any (fun (F : Fld) => F.acc == Acc.rws && Sparse.get 0 (fkey base F) b.tags == c.gen + 1)
      if other then b.fault (Block.cfgSource (base + d.off)) 0
      else
        let w := d.flds.foldl (fun (b : Block) (F : Fld) =>
          match F.acc with
          | .rw => if reserved F then b else b.set base F (bits n F.lo F.w)
          | .rws => if reserved F then b
            else { b.setSh base F (bits n F.lo F.w) with tags := Sparse.set 0 (fkey base F) (gen + 1) b.tags }
          | .w1c => b.set base F (b.get base F &&& (2 ^ F.w - 1 - bits n F.lo F.w))
          | _ => b) b
        let w := if d.flds.any (fun (F : Fld) => F.acc == Acc.rws) && !d.flds.any reserved && gen == (w.get 0 MODE_GEN.GEN + 1) % 65536 then
            w.count 0 COMMIT_STAT.WCNT 1 else w
        if d.flds.any reserved then w.kPendSync.fault (Block.cfgSource (base + d.off)) 0 else w.kPendSync)
    let word := d.flds.foldl (fun (w : Nat) (F : Fld) => w + (match F.acc with
      | .wo => 0
      | .rws => if b.viewed base F then b.get base F else b.getSh base F
      | .ro => b.fieldNow base F
      | _ => b.get base F) * 2 ^ F.lo) 0
    let cleared := fun (lo hi : Nat) (b : Block) => d.flds.foldl (fun (b : Block) (F : Fld) =>
      if F.acc = .rc ∧ lo < F.lo + F.w ∧ F.lo ≤ hi then b.set base F (F.rst (base + F.off)) else b) b
    let answers := fun (x : Nat) (b : Block) => { b with host := { b.host with lastRead := [x] } }
    let slice := 0x200000 ≤ a ∧ a < 0x310000
    let regulator := 0x400000 ≤ a ∧ a < 0x422000
    let field := 0x100000 ≤ a ∧ a < 0x200000
    let readable := here ∧ b.unreadable a = false
    let acts := (a < 0x100000 ∧ d.off ∈ moduleReads) ∨ (field ∧ d.off ∈ fieldReads) ∨ (slice ∧ d.off ∈ sliceReads);
    (¬ (len = 8 ∧ a % 8 = 0) → exec (.registerWrite a len v) s = .next (s.on (fun b =>
      ((b.count 0 HQ_BADWR.COUNT 1).set 0 HQ_BADWR.OFFSET a).fault 400 0))) ∧
    (a % 8 = 0 → inBlock a = false → exec (.registerWrite a 8 v) s = .next (s.on (fun b =>
      (b.count 0 HQ_BADWR.COUNT 1).set 0 HQ_BADWR.OFFSET a))) ∧
    (a % 8 = 0 → inBlock a = true → regAt a = none → exec (.registerWrite a 8 v) s = .next s) ∧
    (here → (0xC0000 ≤ a ∧ a < 0x100000) ∨ 0x422000 ≤ a → exec (.registerWrite a 8 v) s = .next s) ∧
    (here → a < 0xC0000 → d.off ∉ moduleActs → exec (.registerWrite a 8 v) s = .next plain) ∧
    (here → a < 0xC0000 → d.off ∈ moduleActs → exec (.registerWrite a 8 v) s = .next (s.on (fun b => b.moduleWrite base d n))) ∧
    (here → a < 0xC0000 →
      (∀ q : Fin 64, base = 32 * q.val → d.off = Q_CFG.EN.off → exec (.registerWrite a 8 v) s = exec (.qCfgWrite q v) s) ∧
      (∀ q : Fin 64, base = 16 * q.val → d.off = Q_SQDB.INDEX.off → exec (.registerWrite a 8 v) s = exec (.sqDoorbell q v) s) ∧
      (∀ q : Fin 64, base = 16 * q.val → d.off = Q_CQDB.INDEX.off → exec (.registerWrite a 8 v) s = exec (.cqDoorbell q v) s) ∧
      (∀ i : Fin 16, base = 8 * i.val → d.off = IC_PEND.BITS.off → exec (.registerWrite a 8 v) s = exec (.icPendClear i v) s) ∧
      (∀ i : Fin 16, base = 8 * i.val → d.off = IC_EN_SET.BITS.off → exec (.registerWrite a 8 v) s = exec (.icEnSet i v) s) ∧
      (∀ i : Fin 16, base = 8 * i.val → d.off = IC_EN_CLR.BITS.off → exec (.registerWrite a 8 v) s = exec (.icEnClr i v) s) ∧
      (∀ i : Fin 1024, base = 8 * i.val → d.off = IC_ROUTE.TARGET.off → exec (.registerWrite a 8 v) s = exec (.icRouteWrite i v) s) ∧
      (∀ i : Fin 640, base = 8 * i.val → d.off = FC_CFG.BASE.off → exec (.registerWrite a 8 v) s = exec (.fcCfgWrite i v) s) ∧
      (∀ i : Fin 10, base = 8 * i.val → d.off = FC_STICKY.BITS.off → exec (.registerWrite a 8 v) s = exec (.fcStickyClear i v) s) ∧
      (d.off = FC_RECOVER.GO.off → exec (.registerWrite a 8 v) s = exec (.fcRecover v) s) ∧
      (d.off = RM_CMD.GO.off → exec (.registerWrite a 8 v) s = exec (.rmCmd v) s) ∧
      (d.off = RES_CTRL.EN.off → exec (.registerWrite a 8 v) s = exec (.resCtrlWrite v) s) ∧
      (d.off = KP_RD.DATA.off → exec (.registerWrite a 8 v) s = exec (.kpRdAccess (some v) false) s)) ∧
    (here → ∀ f : Fin 16, a / 0x10000 = 0x10 + f →
      (d.off ∉ fieldActs → d.off ∉ fieldWindows → exec (.registerWrite a 8 v) s = .next plain) ∧
      (d.off ∈ fieldActs → exec (.registerWrite a 8 v) s = .next (s.on (fun b => b.fieldRegWrite f base d n))) ∧
      (d.off = SEQ_PMD.DATA.off → exec (.registerWrite a 8 v) s = exec (.seqPmdAccess f (some v)) s) ∧
      (d.off = SEQ_DSD.DATA.off → exec (.registerWrite a 8 v) s = exec (.seqDsdAccess f (some v)) s) ∧
      (d.off = SOW_DCD.DATA.off → exec (.registerWrite a 8 v) s = exec (.sowDcdAccess f (some v)) s) ∧
      (d.off = DDS_LD.DATA.off → exec (.registerWrite a 8 v) s = exec (.ddsLdAccess f (some v)) s)) ∧
    (here → slice →
      let i := (a - 0x200000) / 0x1000
      (b.slcRole i = 1 ∨ b.slcRole i = 3 → exec (.registerWrite a 8 v) s = .next (s.on (fun b => b.fault i 0))) ∧
      (¬ (b.slcRole i = 1 ∨ b.slcRole i = 3) → d.off ∉ sliceActs → exec (.registerWrite a 8 v) s = .next plain) ∧
      (d.off ∈ sliceActs → exec (.registerWrite a 8 v) s = .next (s.on (fun b => b.sliceWrite i base d n)))) ∧
    (here → regulator →
      let r := (a - 0x400000) / 0x1000
      let idle := b.get (DPS r) DPS_ID.ROLE = 1 ∨ b.get (DPS r) DPS_ID.ROLE = 3
      (idle → exec (.registerWrite a 8 v) s = .next (s.on (fun b => b.fault (322 + r) 0))) ∧
      (¬ idle → d.off ∉ dpsActs → exec (.registerWrite a 8 v) s = .next plain) ∧
      (d.off ∈ dpsActs → exec (.registerWrite a 8 v) s = .next (s.on (fun b => b.dpsWrite r base d n)))) ∧
    (a % 8 = 0 → b.unreadable a = true → exec (.registerRead a 8) s = .next (s.on (answers (2 ^ 64 - 1)))) ∧
    (a % 8 = 0 → b.unreadable a = false → regAt a = none → exec (.registerRead a 8) s = .next (s.on (answers 0))) ∧
    (readable → ¬ acts → exec (.registerRead a 8) s = .next (s.on (fun b => answers word (cleared 0 63 b)))) ∧
    (readable → ¬ acts → exec (.registerRead a 4) s = .next (s.on (fun b => answers (word % 2 ^ 32) (cleared 0 31 b)))) ∧
    (readable → ¬ acts → exec (.registerRead (a + 4) 4) s = .next (s.on (fun b => answers (word / 2 ^ 32 % 2 ^ 32) (cleared 32 63 b)))) ∧
    (readable → a < 0x100000 →
      (d.off = HBM_REFQ.PAGE.off → exec (.registerRead a 8) s = exec .hbmRefqPop s) ∧
      (d.off = HBM_LOST.PAGE.off → exec (.registerRead a 8) s = exec .hbmLostPop s) ∧
      (d.off = PTP_NOW_S.SEC.off → exec (.registerRead a 8) s = exec .ptpNowRead s) ∧
      (d.off = PTM_STAT.OFS.off → exec (.registerRead a 8) s = exec .ptmStatRead s) ∧
      (d.off = PTM_TICK.VALUE.off → exec (.registerRead a 8) s = .next (s.on (answers ((b.host.ptmLatch.map Prod.fst).getD (b.get 0 PTM_TICK.VALUE))))) ∧
      (d.off = PTM_HOST.VALUE.off → exec (.registerRead a 8) s = .next (s.on (answers ((b.host.ptmLatch.map Prod.snd).getD (b.get 0 PTM_HOST.VALUE))))) ∧
      (d.off = KP_RD.DATA.off → exec (.registerRead a 8) s = exec (.kpRdAccess none false) s)) ∧
    (readable → ∀ f : Fin 16, a / 0x10000 = 0x10 + f →
      (d.off = SEQ_PMD.DATA.off → exec (.registerRead a 8) s = exec (.seqPmdAccess f none) s) ∧
      (d.off = SEQ_DSD.DATA.off → exec (.registerRead a 8) s = exec (.seqDsdAccess f none) s) ∧
      (d.off = SOW_DCD.DATA.off → exec (.registerRead a 8) s = exec (.sowDcdAccess f none) s) ∧
      (d.off = DDS_LD.DATA.off → exec (.registerRead a 8) s = exec (.ddsLdAccess f none) s) ∧
      (d.off = CAP_MD.DATA.off → exec (.registerRead a 8) s = exec (.capMdRead f) s)) ∧
    (readable → ∀ i : Fin 272, slice → (a - 0x200000) / 0x1000 = i →
      (d.off = TIA_POP.STAMP.off → exec (.registerRead a 8) s = exec (.tiaPop i) s) ∧
      (d.off = TIA_EVCNT.LOST.off → exec (.registerRead a 8) s = .next (s.on (fun b =>
        answers word ((cleared 0 63 b).updTia i (fun t => { t with lostSignalled := false })))))) ∧
    (¬ (len = 8 ∧ a % 8 = 0) → ¬ (len = 4 ∧ a % 4 = 0) → exec (.registerRead a len) s = .next s) ∧
    exec (.bar0UnsupportedRequest a len) s = .next s ∧
    (∀ (q : Fin 64), exec (.readRegs q) s = .next (match b.cmdOf q 0x01 with
      | none => s
      | some ws =>
        let m := bits (ws.getD 1 0) 32 10
        let r := regsRead ((blockEnd (bits (ws.getD 1 0) 0 25)).getD 0) m s (bits (ws.getD 1 0) 0 25)
        if m = 0 ∨ 512 < m then s.on (fun b => b.complete q 0 0x02)
        else r.1.on (fun b =>
          let b := { b with host := { b.host with lastRead := s.blk.host.lastRead } }
          (b.hostWrite (ws.getD 2 0) r.2.1).complete q r.2.2 (if r.2.2 < m then 0x0A else 0)))) ∧
    (a % 8 = 0 → exec (.registerRead a 8) s = .next ((regRead s a 0 63).1.on (answers (regRead s a 0 63).2))) ∧
    (∀ e m, regsRead e 0 s a = (s, [], 0) ∧ (e ≤ a → regsRead e (m + 1) s a = (s, List.replicate (m + 1) (2 ^ 64 - 1), 0)) ∧
      (a < e → regsRead e (m + 1) s a =
        let r := regRead s a 0 63
        let t := regsRead e m r.1 (a + 8)
        (t.1, r.2 :: t.2.1, t.2.2 + 1))) ∧
    exec (.registerWrite 0x60000 8 v) s = .next (s.on (fun b =>
      let b := b.set 0 CAL_CTRL.TWARN (bits n 56 8)
      let b := if bits n 32 16 = 0 then b else b.set 0 CAL_CTRL.DRIFT_LIM (bits n 32 16)
      let b := if bits n 8 8 < 8 then b else b.set 0 CAL_CTRL.CAL_DT (bits n 8 8)
      ((b.set 0 CAL_CTRL.AUTO (bits n 0 1)).kPendSync).faultIf (decide (bits n 32 16 = 0 ∨ bits n 8 8 < 8)) 406 0))

/-- SQ_DOORBELL, CQ_DOORBELL, SQ_FETCH, CQ_WRITE, Q_CFG_WRITE, LONG_OP_START and OPSTAT_FREE (18_host_interface.md, R353, R358 to R363,
R365 to R368, R374, R377, 20_faults_and_repair.md, R402). For every state: before READY doorbells are ignored and nothing is
fetched. With READY a submission index is taken, one past the queue's end stops the pair as error 1; a completion index frees the
entries up to it. A fetch of an idle pair with entries waiting moves SQ_HEAD on and makes the pair busy with the entry's command; an
unassigned opcode completes at once with 0x01, an operand outside its table with 0x02, in a Grave state all but READ_REGS and
RETURN_PREP with 0x53, and an entry that could not be read is error 2. A completion entry that waits is written, RESULT first and
then word 1 with its phase, raising 434 + q; a full queue makes the pair wait, a failed write is error 3, an ERROR pair loses it.
Q_CFG sizes and enables a disabled pair with its indices at 0, or disables an idle one with the sizes written and drops its roles; a
reserved size keeps its field with source 400, as does a change of an enabled pair. A QUEUED operation runs when its work starts (a
Keyring one not during a self-test, a self-test not during zeroisation): training begins, DMA and seed import ask for pages, a
self-test tests, what is to be stored asks for flash. A finished slot is freed and reads zero. -/
def Obligations.QueuePairsFetchCompleteAndReport : Prop :=
  ∀ (s : State) (q : Fin 64) (k : Fin 256) (v : Word) (entry : List Word) (bad : Bool),
    let b := s.blk
    let o := 32 * q.val
    let ready := b.flag 0 HQ_STAT.READY
    let ws := (List.range 8).map (fun i => (entry.map (fun w => w.toNat)).getD i 0)
    let opc := bits (ws.getD 0 0) 56 8
    let fetchable := ready && b.linkOpen && b.qState q == 1 && b.get o Q_STAT.SQ_HEAD != b.get (16 * q) Q_SQDB.INDEX
    let sizes := fun b : Block =>
      let c := if 4 ≤ bits v.toNat 8 5 ∧ bits v.toNat 8 5 ≤ 16 then b.set o Q_CFG.SQ_LOG2 (bits v.toNat 8 5) else b
      let c := if 4 ≤ bits v.toNat 16 5 ∧ bits v.toNat 16 5 ≤ 16 then c.set o Q_CFG.CQ_LOG2 (bits v.toNat 16 5) else c
      if (4 ≤ bits v.toNat 8 5 ∧ bits v.toNat 8 5 ≤ 16) ∧ (4 ≤ bits v.toNat 16 5 ∧ bits v.toNat 16 5 ≤ 16) then c else c.fault 400 0
    let en := b.flag o Q_CFG.EN
    let same := bits v.toNat 8 5 = b.get o Q_CFG.SQ_LOG2 ∧ bits v.toNat 16 5 = b.get o Q_CFG.CQ_LOG2
    let op := b.get (8 * k) OPSTAT.OPC
    let begins := b.get (8 * k) OPSTAT.STATE = 1 ∧ ¬ (Block.keyringOp op = true ∧ b.get 0 KR_STAT.STATE = 0) ∧
      ¬ (op = 0x49 ∧ b.get 0 KR_STAT.STATE = 3);
    (ready = false → exec (.sqDoorbell q v) s = .next (s.on id) ∧ exec (.cqDoorbell q v) s = .next (s.on id)) ∧
    (ready = true → exec (.sqDoorbell q v) s = .next (s.on (fun b =>
      let b := b.set (16 * q) Q_SQDB.INDEX v.toNat
      if b.qState q ≠ 0 ∧ b.qState q ≠ 5 ∧ b.sqSize q ≤ v.toNat % 65536 then b.queueError q 1 (b.cmdCid q) else b))) ∧
    (ready = true → exec (.cqDoorbell q v) s = .next (s.on (fun b =>
      let n := b.cqSize q
      let out := Sparse.get 0 q b.host.cqOut
      let d := (v.toNat % 65536 + n - b.get (16 * q) Q_CQDB.INDEX % n) % n
      let d := if d = 0 ∧ out = n then n else d
      let b := b.set (16 * q) Q_CQDB.INDEX v.toNat
      { b with host := { b.host with cqOut := Sparse.set 0 q (out - d) b.host.cqOut } }))) ∧
    (fetchable = false → exec (.sqFetch q entry bad) s = .next (s.on id)) ∧
    (fetchable = true → exec (.sqFetch q entry true) s = .next (s.on (fun b => b.queueError q 2 0))) ∧
    (fetchable = true → exec (.sqFetch q entry false) s = .next (s.on (fun b =>
      let b := (b.set o Q_STAT.SQ_HEAD ((b.get o Q_STAT.SQ_HEAD + 1) % b.sqSize q)).set o Q_STAT.STATE 2
      let b := { b with host := { b.host with cmds := Sparse.set [] q ws b.host.cmds } }
      if (b.flt.grave && opc != 0x01 && opc != 0x4C) = true then b.complete q 0 0x53
      else match argMasks opc with
        | none => b.complete q 0 0x01
        | some m => if operandsOk opc ws m then b else b.complete q 0 0x02))) ∧
    exec (.cqWrite q bad) s = .next (s.on (fun b =>
      match b.host.comps.find? (fun c => c.queue == q.val) with
      | none => b
      | some c =>
        if b.qState q = 5 then b.compDrop q
        else if !b.linkOpen then b
        else if b.cqSize q ≤ Sparse.get 0 q b.host.cqOut then b.set o Q_STAT.STATE 4
        else if bad then (b.compDrop q).queueError q 3 (c.word1 % 65536)
        else
          let n := Sparse.get 0 q b.host.cqSeq
          let a := b.get o Q_CQBASE.ADDR * 64 + 16 * (n % b.cqSize q)
          let w := (b.hostWrite a [c.result]).hostWrite (a + 8) [(1 - n / b.cqSize q % 2) * 2 ^ 63 + c.word1]
          let w := (w.set o Q_STAT.CQ_TAIL ((n + 1) % b.cqSize q)).set o Q_STAT.LAST_CODE (bits c.word1 40 8)
          let w := { w with host := { w.host with
            cqSeq := Sparse.set 0 q (n + 1) w.host.cqSeq, cqOut := Sparse.set 0 q (Sparse.get 0 q w.host.cqOut + 1) w.host.cqOut } }
          ((w.compDrop q).set o Q_STAT.STATE 1).arrive (434 + q))) ∧
    (en = false → exec (.qCfgWrite q v) s = .next (s.on (fun b =>
      let b := sizes b
      if bit v.toNat 0 = true then
        let b := (b.setFlag o Q_CFG.EN true).set o Q_STAT.STATE 1
        let b := (((b.set o Q_STAT.SQ_HEAD 0).set o Q_STAT.CQ_TAIL 0).set (16 * q) Q_SQDB.INDEX 0).set (16 * q) Q_CQDB.INDEX 0
        { b with host := { b.host with cqOut := Sparse.set 0 q 0 b.host.cqOut, cqSeq := Sparse.set 0 q 0 b.host.cqSeq } }
      else b))) ∧
    (en = true → bit v.toNat 0 = true → same → exec (.qCfgWrite q v) s = .next (s.on id)) ∧
    (en = true → bit v.toNat 0 = true → ¬ same → exec (.qCfgWrite q v) s = .next (s.on (fun b => b.fault 400 0))) ∧
    (en = true → bit v.toNat 0 = false → b.pairIdle q = true → exec (.qCfgWrite q v) s = .next (s.on (fun b =>
      (((sizes b).setFlag o Q_CFG.EN false).set o Q_STAT.STATE 0).roleDrop q))) ∧
    (en = true → bit v.toNat 0 = false → b.pairIdle q = false → exec (.qCfgWrite q v) s = .next (s.on (fun b => b.fault 400 0))) ∧
    (¬ begins → exec (.longOpStart k) s = .next (s.on id)) ∧
    (begins → exec (.longOpStart k) s = .next (s.on (fun b =>
      let b := b.slotState k 2
      if op = 0x28 then b.hbmState 2
      else if op = 0x25 then (b.dmaPlan k).1.foldl (fun b c => b.hbmReq 4 c.1 16) b
      else if op = 0x45 then (b.chain (b.slotWord k 1 % 2 ^ 20)).foldl (fun b p => b.hbmReq 5 p 16) b
      else if op = 0x49 then b.set 0 KR_STAT.STATE 0
      else if op = 0x43 ∨ op = 0x48 then b.flashAsk 4 k
      else if op = 0x4A ∧ b.fwCode k = 0 then b.flashAsk 2 k
      else if op = 0x4B ∧ (b.slot k).aux.getD 0 0 = 0 then b.flashAsk 3 k
      else if op = 0x4C then b.flashAsk 5 k
      else b))) ∧
    (3 ≤ b.get (8 * k) OPSTAT.STATE → exec (.opstatFree k) s = .next (s.on (fun b =>
      let b := ((b.set (8 * k) OPSTAT.STATE 0).set (8 * k) OPSTAT.OPC 0).set (8 * k) OPSTAT.PCT 0
      let b := ((b.set (8 * k) OPSTAT.NPART 0).set (8 * k) OPSTAT.ERR 0).set (8 * k) OPSTAT.TICK 0
      let b := (List.range 16).foldl (fun b j => b.opres k j 0) b
      { b with host := { b.host with slots := Sparse.set {} k {} b.host.slots } }))) ∧
    (b.get (8 * k) OPSTAT.STATE < 3 → exec (.opstatFree k) s = .next s)

/-- LINK_DOWN, LINK_UP, D3HOT_ENTER, D0_RETURN, L1_ENTER, L1_EXIT, PTM_REQ, PTM_AUTO, PTM_EXCHANGE_DONE and PTM_STAT_READ
(17_hbm_controller.md, R350, 18_host_interface.md, R352, R354, R373 to R375, R377). For every state: the loss of the link is counted
and ends L1; its return, with PERST_N deasserted, sets generation and width and sends what waited, in its order. D3hot sends pending
messages with moderation bypassed, holds further writes, and asks for Quiet where it may be entered; D0 sends what waited, and every
vector with a pending source fires at its first evaluation. L1 is entered only over an open link with no completion, owed write,
record, notification or exchange outstanding and every ready vector masked. A PTM request starts an exchange over an open link; AUTO
starts one once its interval has passed; the end of an exchange sets PTM_TICK, PTM_HOST, offset, VALID and the wrapping COUNT
together; a read of PTM_STAT answers its word and latches both times. A command whose condition does not hold leaves the block as it
was, and nothing else changes. -/
def Obligations.LinkPowerStatesAndTimeExchange : Prop :=
  ∀ (s : State) (gen width host ofs : Nat),
    let b := s.blk
    let owed := fun b : Block => if b.linkOpen then { b with host := { b.host with out := b.host.out ++ b.host.owed, owed := [] } } else b
    let ask := fun b : Block => if b.linkOpen then { b with host := { b.host with ptmBusy := true } } else b
    let due := b.flag 0 PTM_CTRL.AUTO = true ∧ b.host.ptmAt + b.get 0 PTM_CTRL.INTV * 100000 ≤ b.time.now
    let quiet := b.linkOpen = true ∧ b.host.comps = [] ∧ b.host.owed = [] ∧ b.res.queue = [] ∧ b.res.waiting = [] ∧ b.host.ptmBusy = false ∧
      (∀ v < 64, b.msixReady v = true → b.masked v = true);
    (b.linkOpen = (b.host.linkUp && !b.host.d3)) ∧
    (b.host.linkUp = true → exec .linkDown s = .next (s.on (fun b =>
      ({ b with host := { b.host with linkUp := false, l1 := false } }).count 0 HQ_STAT.LINKDOWN 1))) ∧
    (b.host.linkUp = false → exec .linkDown s = .next s) ∧
    (b.host.perst = false → exec (.linkUp gen width) s = .next (s.on (fun b =>
      owed ((({ b with host := { b.host with linkUp := true } }).set 0 HQ_STAT.GEN gen).set 0 HQ_STAT.WIDTH width)))) ∧
    (b.host.perst = true → exec (.linkUp gen width) s = .next s) ∧
    (b.host.linkUp = true ∧ b.host.d3 = false → exec .d3hotEnter s = .next (s.on (fun b =>
      let b := (List.range 64).foldl Block.msixEval { b with host := { b.host with d3Entering := true, l1 := false } }
      let b := { b with host := { b.host with d3Entering := false, d3 := true } }
      if b.quietOk then b.quietWrite else b))) ∧
    (¬ (b.host.linkUp = true ∧ b.host.d3 = false) → exec .d3hotEnter s = .next s) ∧
    (b.host.d3 = true → exec .d0Return s = .next (s.on (fun b => owed { b with host := { b.host with
      d3 := false, bypass := (List.range 64).filter (fun v => (b.icNext (18 + v)).isSome) } }))) ∧
    (b.host.d3 = false → exec .d0Return s = .next s) ∧
    (quiet → exec .l1Enter s = .next (s.on (fun b => { b with host := { b.host with l1 := true } }))) ∧
    (¬ quiet → exec .l1Enter s = .next s) ∧
    exec .l1Exit s = .next (s.on (fun b => { b with host := { b.host with l1 := false } })) ∧
    exec .ptmReq s = .next (s.on ask) ∧
    (due → exec .ptmAuto s = .next (s.on (fun b => let c := ask b; { c with host := { c.host with ptmAt := b.time.now } }))) ∧
    (¬ due → exec .ptmAuto s = .next s) ∧
    (b.host.ptmBusy = true → exec (.ptmExchangeDone host ofs) s = .next (s.on (fun b =>
      let b := { b with host := { b.host with ptmBusy := false } }
      let b := ((b.set 0 PTM_TICK.VALUE b.tick).set 0 PTM_HOST.VALUE host).set 0 PTM_STAT.OFS ofs
      (b.bump 0 PTM_STAT.COUNT).setFlag 0 PTM_STAT.VALID true))) ∧
    (b.host.ptmBusy = false → exec (.ptmExchangeDone host ofs) s = .next s) ∧
    exec .ptmStatRead s = .next (s.on (fun b => { b with host := { b.host with
      ptmLatch := some (b.get 0 PTM_TICK.VALUE, b.get 0 PTM_HOST.VALUE)
      lastRead := [b.get 0 PTM_STAT.COUNT * 2 ^ 48 + b.get 0 PTM_STAT.VALID * 2 ^ 32 + b.get 0 PTM_STAT.OFS] } }))

/-- PROG_LOAD, PAGE_DMA, PAGE_DMA_DONE, SEQ_PMD_ACCESS and SEQ_DSD_ACCESS: what each writes to which memory (06_sequencer_model.md,
R138, R160, 09_sower_and_segments.md, R216, R217, 18_host_interface.md, R364, R366 to R368). For every state: PROG_LOAD of an idle
field with a readable image that fits puts its words into program memory and data store from word 0, sets the event-line sources,
ENTRY and EVBASE and completes OK; a busy field, a failed transfer or an unfit image completes with 0x08, 0x09 or 0x0C and writes
nothing. PAGE_DMA takes a slot. Its end moves the chunks of its plan in order as far as the transfer went: towards pages exactly
their words, towards the host the pages' words to the host address, no page written; it reports bytes and pages moved and ends the
slot with 0, with 0x09 where the transfer failed, or with 0x32 where a page refused it, counted where it was a write. A read of
SEQ_PMD or SEQ_DSD answers the word at the address register, which moves on; a write of an idle field stores it, one of a busy field
is reported and stores nothing. Without its command in the queue pair or its operation running in the slot nothing happens. -/
def Obligations.ProgramsAndPagesMoveIntoTheMemories : Prop :=
  ∀ (s : State) (q : Fin 64) (k : Fin 256) (f : Fin 16) (img : Option ProgImage) (data : List Word) (bad : Bool) (w : Word),
    let b := s.blk
    let kb := b.hbmKnock
    let runs := kb.slotRuns k 0x25
    let toPages := !bit (kb.slotWord k 1) 63
    let fits := fun i : ProgImage => i.readable = true ∧ i.prog.length ≤ 32768 ∧ i.data.length ≤ 1024 ∧ (∀ e ∈ i.events, e.1 < 64) ∧
      i.entry < 32768 ∧ i.evbase < 32768
    let step := fun (n : Nat) (x : State × Nat × Nat) =>
      ((kb.dmaPlan k).1.take n).foldl (fun (x : State × Nat × Nat) c =>
        let taken := (List.range (c.2.2 / 8)).map (fun j => (data.map (fun w => w.toNat)).getD (x.2.2 / 8 + j) 0)
        let given := (List.range (c.2.2 / 8)).map (fun j => pageWord x.1.mem c.1 (c.2.1 / 8 + j))
        (if toPages then { x.1 with mem := Memory.setWords x.1.mem .pages (c.1 * 4096 + c.2.1 / 8) taken }
          else { x.1 with blk := x.1.blk.hostWrite (x.1.blk.slotWord k 2 + x.2.2) given }, x.2.1 + 1, x.2.2 + c.2.2)) x
    let sum := fun n => ((kb.dmaPlan k).1.take n).foldl (fun t c => t + c.2.2) 0
    let moves := fun n => n ≤ (kb.dmaPlan k).1.length ∧ (bad = true → sum n ≤ data.length * 8) ∧
      (n < (kb.dmaPlan k).1.length → bad = true ∧ data.length * 8 < sum (n + 1));
    (b.cmdOf q 0x08 = none → exec (.progLoad q img) s = .next s) ∧
    (∀ ws, b.cmdOf q 0x08 = some ws →
      (b.idle (bits (ws.getD 1 0) 0 4) = false → exec (.progLoad q img) s = .next (s.on (fun b => b.complete q 0 0x08))) ∧
      (b.idle (bits (ws.getD 1 0) 0 4) = true → exec (.progLoad q none) s = .next (s.on (fun b => b.complete q 0 0x09))) ∧
      (b.idle (bits (ws.getD 1 0) 0 4) = true → ∀ i, ¬ fits i → exec (.progLoad q (some i)) s = .next (s.on (fun b => b.complete q 0 0x0C))) ∧
      (b.idle (bits (ws.getD 1 0) 0 4) = true → ∀ i, fits i → exec (.progLoad q (some i)) s = .next (
        let g := bits (ws.getD 1 0) 0 4
        { s with
          blk := (((i.events.foldl (fun b e => (b.set (FLD g + 8 * e.1) EV_SRC.VALID (bits e.2 15 1)).set (FLD g + 8 * e.1) EV_SRC.SRC
            (bits e.2 0 10)) b).set (FLD g) SEQ_ENTRY.ENTRY i.entry).set (FLD g) SEQ_EVBASE.BASE i.evbase).complete q 0 0
          mem := Memory.setWords (Memory.setWords s.mem (.prog (b.phys g)) 0 (i.prog.map (fun w => w.toNat))) (.data (b.phys g)) 0
            (i.data.map (fun w => w.toNat)) }))) ∧
    exec (.pageDma q) s = .next (s.on (fun b => if (b.cmdOf q 0x25).isSome then b.takeSlot q [] else b)) ∧
    (runs = false → exec (.pageDmaDone k data bad) s = .next s) ∧
    (runs = true → ∀ n, moves n → exec (.pageDmaDone k data bad) s = .next (
      let r := step n ({ s with blk := kb }, 0, 0)
      let err := if n < (kb.dmaPlan k).1.length then 0x09 else if (kb.dmaPlan k).2 then 0x32 else 0
      let c := (r.1.blk.opres k 0 r.2.2).npart k r.2.1
      { r.1 with blk := (if err = 0x32 ∧ toPages = true then c.count 0 DIR_STAT.WR_REFUSED 1 else c).slotEnd k err })) ∧
    (runs = true → toPages = false → Yields (exec (.pageDmaDone k data bad) s) (fun t => t.mem = s.mem)) ∧
    exec (.seqPmdAccess f none) s = .next (s.on (fun b =>
      let a := b.get (FLD f) SEQ_PMA.ADDR % 32768
      ({ b with host := { b.host with lastRead := [Memory.word s.mem (.prog (b.phys f)) a] } }).set (FLD f) SEQ_PMA.ADDR ((a + 1) % 32768))) ∧
    exec (.seqDsdAccess f none) s = .next (s.on (fun b =>
      let a := b.get (FLD f) SEQ_DSA.ADDR % 1024
      ({ b with host := { b.host with lastRead := [Memory.word s.mem (.data (b.phys f)) a] } }).set (FLD f) SEQ_DSA.ADDR ((a + 1) % 1024))) ∧
    (b.idle f = true →
      (let a := b.get (FLD f) SEQ_PMA.ADDR % 32768
       exec (.seqPmdAccess f (some w)) s = .next { s with
         blk := b.set (FLD f) SEQ_PMA.ADDR ((a + 1) % 32768), mem := Memory.setWord s.mem (.prog (b.phys f)) a w.toNat }) ∧
      (let a := b.get (FLD f) SEQ_DSA.ADDR % 1024
       exec (.seqDsdAccess f (some w)) s = .next { s with
         blk := b.set (FLD f) SEQ_DSA.ADDR ((a + 1) % 1024), mem := Memory.setWord s.mem (.data (b.phys f)) a w.toNat })) ∧
    (b.idle f = false → exec (.seqPmdAccess f (some w)) s = .next (s.on (fun b => b.fault (272 + f) 0)) ∧
      exec (.seqDsdAccess f (some w)) s = .next (s.on (fun b => b.fault (272 + f) 0)))

/-- PERST_N, start-up, the reset of core logic, supply events and the local bolt of a PE die (18_host_interface.md, R353, R354,
22_security_and_boot.md, R434 to R438, 23_keeper_and_supervisor_port.md, R456, R459, 24_electrical_and_package.md, R465, R466, R468
to R473). For every state: PERST_ASSERT bolts the module, ends roles and nonces, and closes the link. PERST_DEASSERT with VAUX and
the main rails runs start-up: bad fuses, a failed known-answer test, no image that passes or no identity halt it with their code and
READY stays 0; else the first image that passes runs, its stages follow in order and STAGE is 8. BOOT_READY, with no pseudo-channel
evacuating, then sets STAGE 9, READY and the boot time, makes the tasks that have not run due, raises 600 where another image runs
and lets the fused minimum follow an image with ADV. CORE_RESET, once due, leaves every register but the kept ones at its reset
value, holds clearing where CLR_N is low and the bolt of a Grave state, keeps the Keeper, and resets dictionaries and DDS lists and
no other memory. The main rails set MAIN and end a Grave state; a rail fault clears MAIN and, with PERST_N deasserted, is fault 426
and ends the link; a wrong order sets only the sticky bit of 426. A local bolt ends every slice and regulator of its die. VAUX
power-up and loss leave the Keeper at its first state, the loss also resets core logic. What is not due changes nothing. -/
def Obligations.ResetStartUpAndSupplies : Prop :=
  ∀ (s : State) (o : BootOutcome) (ms : Nat) (rail : Fin 11) (d : Fin 4),
    let b := s.blk
    let startable := b.host.perst = true ∧ b.host.perstAt = none ∧ b.keeper.vaux = true ∧ b.flag 0 SP_STAT.MAIN = true
    let awake := fun b : Block => { b with host := { b.host with perst := false } }
    let tested := fun b : Block =>
      let b := ((((awake b).set 0 KR_STAT.STATE 1).updKr (fun r => { r with drbg := true })).arrive 594)
      (b.set 0 BF_ID.ID0 (o.id0.getD 0)).set 0 BF_ID.ID1 (o.id1.getD 0)
    let halt := fun (n : Nat) (b : Block) => (b.set 0 BOOT_PROG.STAGE 15).set 0 BOOT_PROG.ERR n
    let tried := Block.bootTry o (tested b).bootOrder (tested b)
    let stages := fun b : Block =>
      let b := (((b.bootRows o).bootPatch o).bootMap o).trainDone o.eyes
      let b := (((List.range 4).foldl (fun b d => b.laneEye d (o.d2dEyes.getD d 0)) b).bootClear o).bootCal o
      ((b.bootTests o).warmInit).set 0 BOOT_PROG.STAGE 8
    let willReady := b.host.perst = false ∧ b.get 0 BOOT_PROG.STAGE = 8 ∧ b.flag 0 HQ_STAT.READY = false ∧ ∀ p < 32, b.get (16 * p) HBM_PC.STATE ≠ 2
    let due := ∃ t, b.host.perstAt = some t ∧ (b.rampsRun = false ∨ t + 1000000 ≤ b.time.now)
    let main := b.flag 0 SP_STAT.MAIN;
    (b.host.perst = false → exec .perstAssert s = .next (s.on (fun b =>
      let x := b.boltModule.krPerst
      { x with host := { x.host with perst := true, perstAt := some x.time.now, linkUp := false, l1 := false } }))) ∧
    (b.host.perst = true → exec .perstAssert s = .next s) ∧
    (¬ startable → exec (.perstDeassert o) s = .next s) ∧
    (startable → o.fuseOk = false → exec (.perstDeassert o) s = .next (s.on (fun b => halt 1 (awake b)))) ∧
    (startable → o.fuseOk = true → o.katOk = false → exec (.perstDeassert o) s = .next (s.on (fun b =>
      halt 2 ((((awake b).updKr (fun r => { r with katBad := true })).set 0 KR_STAT.STATE 2).fault 422 0)))) ∧
    (startable → o.fuseOk = true → o.katOk = true → o.id0 = none → o.id1 = none → exec (.perstDeassert o) s = .next (s.on (fun b =>
      halt 4 (tested b)))) ∧
    (startable → o.fuseOk = true → o.katOk = true → (o.id0 ≠ none ∨ o.id1 ≠ none) → tried.2 = none →
      exec (.perstDeassert o) s = .next (s.on (fun b => halt 3 (Block.bootTry o (tested b).bootOrder (tested b)).1))) ∧
    (startable → o.fuseOk = true → o.katOk = true → (o.id0 ≠ none ∨ o.id1 ≠ none) → ∀ i img, tried.2 = some (i, img) →
      exec (.perstDeassert o) s = .next (s.on (fun b =>
        stages ((Block.bootTry o (tested b).bootOrder (tested b)).1.bootFirmware i img))) ∧
      Yields (exec (.perstDeassert o) s) (fun t => t.blk.get 0 BOOT_PROG.STAGE = 8)) ∧
    (willReady → exec (.bootReady ms) s = .next (s.on (fun b =>
        let b := (b.set 0 BOOT_PROG.STAGE 9).setFlag 0 HQ_STAT.READY true
        let b := (Block.calTasks.foldl (fun b x => if b.calState x.1 x.2 = 0 then b.calMakeDue x.1 x.2 else b) (b.set 0 BOOT_STAT.TIME ms)).calSync
        let b := if b.kr.other then b.arrive 600 else b
        match b.kr.adv with
        | some n => b.set 0 BOOT_STAT.FW_SVN_MIN (max n (b.get 0 BOOT_STAT.FW_SVN_MIN))
        | none => b))) ∧
    (¬ willReady → exec (.bootReady ms) s = .next s) ∧
    (due → exec .coreReset s = .next { s with
      mem := memReset s.mem
      blk :=
        let n : Block := Block.keptFields.foldl (fun n x => n.set x.1 x.2 (b.get x.1 x.2)) ({} : Block)
        let n : Block := { n with
          time := { n.time with
            now := b.time.now, lastB := b.time.now, zero := b.time.now, ticks := b.time.ticks, warmPin := b.time.warmPin
            syncs := b.time.syncs, freeCount := b.time.freeCount }
          kr := { n.kr with co := b.kr.co, user := b.kr.user, kek := b.kr.kek, att := b.kr.att, cert := b.kr.cert }
          keeper := b.keeper
          host := { n.host with msgs := b.host.msgs, pme := b.host.pme, out := b.host.out }
          flt := { n.flt with grave := b.flt.grave, heartbeat := b.flt.heartbeat, saves := b.flt.saves } }
        let n := if main then n else n.setFlag 0 SYNC_STAT.LOCAL_SCOPE false
        let n := if n.flag 0 CLR_STAT.CLR_IN then
            (List.range 34).foldl (fun n r => n.setFlag (DPS r) DPS_WM_STAT.CLR_HELD true)
              ((List.range 272).foldl (fun n s => n.setFlag (SLC s) WM_STAT.CLR_HELD true) (n.setFlag 0 CLR_STAT.HELD true))
          else n
        if b.flt.grave then ((n.set 0 FC_FIRST.STATE 2).set 0 FC_FIRST.CLASS 3).boltModule else n }) ∧
    (due → b.flt.grave = false → b.flag 0 CLR_STAT.CLR_IN = false → Yields (exec .coreReset s) (fun t =>
      t.blk.keeper = b.keeper ∧ t.blk.host.perst = true ∧
      (∀ x ∈ Block.keptFields, t.blk.get x.1 x.2 = if fkey x.1 x.2 = fkey 0 SYNC_STAT.LOCAL_SCOPE ∧ main = false then 0 else b.get x.1 x.2 % 2 ^ x.2.w) ∧
      ∀ base F, fkey base F ∉ Block.keptFields.map (fun x => fkey x.1 x.2) → t.blk.get base F = State.reset.blk.get base F)) ∧
    (due → Yields (exec .coreReset s) (fun t => ∀ a, Memory.byte t.mem a =
      if ((Ram.dict 0).base ≤ a ∧ a < (Ram.dict 16).base) ∨ ((Ram.dds 0 0).base ≤ a ∧ a < (Ram.dds 16 0).base) then Memory.byte State.reset.mem a
      else Memory.byte s.mem a)) ∧
    (¬ due → exec .coreReset s = .next s) ∧
    (b.keeper.vaux = true ∧ main = false → exec .mainValid s = .next (s.on (fun b =>
      let b := b.setFlag 0 SP_STAT.MAIN true
      { b with flt := { b.flt with grave := false } }))) ∧
    (¬ (b.keeper.vaux = true ∧ main = false) → exec .mainValid s = .next s) ∧
    (main = true → b.host.perst = false → exec (.railFault rail) s = .next (s.on (fun b =>
      let b := (b.setFlag 0 SP_STAT.MAIN false).fault 426 0
      { b with host := { b.host with perstAt := some b.time.now, linkUp := false, l1 := false } }))) ∧
    (main = true → b.host.perst = true → exec (.railFault rail) s = .next (s.on (fun b => b.setFlag 0 SP_STAT.MAIN false))) ∧
    (main = false → exec (.railFault rail) s = .next s) ∧
    (main = false ∧ b.keeper.vaux = true → exec (.railOrderViolation rail) s = .next (s.on (fun b =>
      b.set 48 FC_STICKY.BITS (setBit (b.get 48 FC_STICKY.BITS) 42)))) ∧
    (¬ (main = false ∧ b.keeper.vaux = true) → exec (.railOrderViolation rail) s = .next s) ∧
    (exec (.peLocalBolt d) s = .next (s.on (fun b =>
      let b := (List.range 68).foldl (fun b i => b.localSlice (68 * d + i)) b
      let b := ((List.range 34).filter (fun r => dpsDie r == d)).foldl Block.localDps b
      let b := { b with flt := { b.flt with boltNext := b.flt.boltNext + 1 } }
      (if b.flt.reacting then (b.count 0 FC_FIRST.MERGED 1).arrive 630 else b).endReaction))) ∧
    (b.keeper.vaux = false → exec .vauxPowerUp s = .next (s.on (fun b => b.keeperClear true)) ∧
      Yields (exec .vauxPowerUp s) (fun t => t.blk.keeper = { vaux := true } ∧ t.blk.keeper.reply = 0x90000000)) ∧
    (b.keeper.vaux = true → exec .vauxPowerUp s = .next s) ∧
    (b.keeper.vaux = true → exec .vauxLoss s = .next { s with blk := (b.keeperClear false).coreReset, mem := memReset s.mem }) ∧
    (b.keeper.vaux = false → exec .vauxLoss s = .next s)

/-- SCRUB_READ, BOUNDARY_WORK_START, SEQUENCER_TAKEOVER, TAKEOVER_DONE, PATCH_LOAD, PATCH_ACTIVATE and PATCH_LOAD_DONE
(06_sequencer_model.md, R159, 08_microcode.md, R193 to R195, R198, R200, 09_sower_and_segments.md, R218, 22_security_and_boot.md,
R434, R435, R439, R448). For every state: the scrub of a sequencer that executes no microwords takes its next word in order; a clean
one changes nothing more, one whose replay is clean is counted, a persistent error is recorded, remembered and fault 289 + 2p (cause
2 for a patch row with no spare row left), and a patch row is then due. At an idle boundary a due patch row, or a bad directory row,
takes the next spare row, is redirected to it, recorded, saved and reported as 617; with none left only the record says so. A
takeover starts where it is due at an idle boundary and sequencer 16 is not bolted; at its end both memories stand in sequencer 16,
whose number PHYS reads, hasps and routes follow, the sequencer is retired and recorded; an abandoned one is recorded and copies
nothing. PATCH_LOAD by a Crypto Officer at a module idle boundary takes a slot and the image; an image that passes its checks and
read-back comes into force at a boundary and asks for storage; the slot ends OK once it is stored, with 0x6A where storing failed,
with the check's code where the image fails, with 0x0B where the read-back does. What is not due changes nothing. -/
def Obligations.StoresRowsTakeoverAndPatches : Prop :=
  ∀ (s : State) (p : Fin 17) (row : Fin 256) (store : Fin 3) (a drow : Nat) (stuck : List Nat) (f : Fin 16) (q : Fin 64) (k : Fin 256) (img : SignedImage) (err again : Bool),
    let b := s.blk
    let i := b.uc.scrub.getD p 0
    let ua := if i < 0x2800 then i else 0x4000 + (i - 0x2800)
    let place := if i < 0x2800 then b.uPlace p i else ua
    let bad := b.uc.bad.contains (p.val, place)
    let next := fun b : Block => { b with uc := { b.uc with scrub := b.uc.scrub.set p ((i + 1) % (0x2800 + 128)) } }
    let due := b.scrubs p = true ∧ (store.val, a) = (if i < 0x2000 then (0, i) else if i < 0x2800 then (1, i) else (2, i - 0x2800))
    let rowDue := b.atBoundary && (if p.val = 16 then !b.flag 0 RM_SEQMAP.SUB || b.idle (b.get 0 RM_SEQMAP.FIELD) else b.idle p) &&
      b.flt.rowDue.contains (p.val, row.val)
    let dirDue := b.atBoundary && b.moduleIdle && b.hbm.badRows.contains drow
    let takes := b.atBoundary && b.idle f && !b.boundaryBusy f && b.flt.due.contains (2, f.val) && b.phys f == f.val &&
      !b.flt.bolts.any (fun r => r.scope == 2 && r.unit == 16)
    let why := b.krRefuse q 0x3A 2
    let close := fun (e : Nat) (b : Block) =>
      (({ b with uc := { b.uc with load := none, active := false } }).workEnd 10 k).slotEnd k e;
    (¬ due → exec (.scrubRead p store a err again) s = .next s) ∧
    (due → bad = false → err = false → exec (.scrubRead p store a err again) s = .next (s.on next)) ∧
    (due → bad = false → err = true → again = false →
      exec (.scrubRead p store a err again) s = .next (s.on (fun b => (next b).count (8 * p) UC_SEQ.REPLAYS 1))) ∧
    (due → bad = true ∨ (err = true ∧ again = true) → exec (.scrubRead p store a err again) s = .next (s.on (fun b =>
      let b := (next b).ucRecord p ua true
      let b := if bad then b else { b with uc := { b.uc with bad := b.uc.bad ++ [(p.val, place)] } }
      if 0x2000 ≤ ua ∧ ua < 0x2800 then
        ({ b with flt := { b.flt with rowDue := b.flt.rowDue ++ [(p.val, (ua - 0x2000) / 8)] } }).fault (289 + 2 * p)
          (if b.get (8 * p) UC_SEQ.SPARE_ROWS < 64 then 8 + 1 else 2)
      else b.fault (289 + 2 * p) 1))) ∧
    (rowDue = false → exec (.boundaryWorkStart (.patchRow p row)) s = .next s) ∧
    (rowDue = true → exec (.boundaryWorkStart (.patchRow p row)) s = .next (s.on (fun b =>
      let n := b.get (8 * p) UC_SEQ.SPARE_ROWS
      let b := { b with flt := { b.flt with rowDue := b.flt.rowDue.filter (fun x => x != (p.val, row.val)) } }
      if n = 64 then b.rmRecord 3 2 0 row 0
      else
        let b := { b.set (8 * p) UC_SEQ.SPARE_ROWS (n + 1) with
          uc := { b.uc with rows := (p.val, row.val, n) :: b.uc.rows.filter (fun x => !(x.1 == p.val && x.2.1 == row.val)) } }
        ((b.rmRecord 3 0 0 row n).mapChanged).arrive 617))) ∧
    (dirDue = false → exec (.boundaryWorkStart (.directoryRow drow)) s = .next s) ∧
    (dirDue = true → exec (.boundaryWorkStart (.directoryRow drow)) s = .next (s.on (fun b =>
      let n := b.get 0 DIR_STAT.SPARE_ROWS
      if n = 128 then b.rmRecord 4 2 0 drow 0
      else
        let b := { b with hbm := { b.hbm with
          badRows := b.hbm.badRows.filter (· != drow), rowMap := (drow, n) :: b.hbm.rowMap.filter (fun x => x.1 != drow) } }
        (((b.set 0 DIR_STAT.SPARE_ROWS (n + 1)).rmRecord 4 0 0 drow n).mapChanged).arrive 617))) ∧
    (takes = false → exec (.sequencerTakeover f) s = .next s) ∧
    (takes = true → exec (.sequencerTakeover f) s = .next (s.on (fun b =>
      let c := { b with flt := { b.flt with due := b.flt.due.filter (fun x => x != (2, f.val)) } }
      if b.flag 0 RM_SEQMAP.SUB then c.markNoSpare (306 + f) else c.workStart (some f.val) 3 f))) ∧
    (b.takingOver f = false → ∀ ok, exec (.takeoverDone f ok) s = .next s) ∧
    (b.takingOver f = true → exec (.takeoverDone f true) s = .next { s with
      blk :=
        let b := b.workEnd 3 f
        let b := (List.range 274).foldl (fun b i =>
          if b.haspOwner i = f.val + 1 then (b.set (8 * i) HASP_ENT.OWNER 0x11).bump (8 * i) HASP_ENT.GEN else b) b
        let b := (List.range 1024).foldl (fun b n => if b.icRoute n = f.val then b.set (8 * n) IC_ROUTE.TARGET 16 else b) b
        let b := ((b.set (FLD f) SEQ_STAT.PHYS 16).setFlag (8 * f) UC_SEQ.RETIRED true).set 0 RM_STAT.SPARE_SEQ 0
        let b := (b.setFlag 0 RM_SEQMAP.SUB true).set 0 RM_SEQMAP.FIELD f
        ((b.rmRecord 2 0 0 f 16).mapChanged).arrive 610
      mem := copyBytes (copyBytes s.mem (Ram.prog f).base (Ram.prog 16).base (2 ^ 18)) (Ram.data f).base (Ram.data 16).base (2 ^ 13) }) ∧
    (b.takingOver f = true → exec (.takeoverDone f false) s = .next (s.on (fun b => (b.workEnd 3 f).rmRecord 2 3 0 f 16))) ∧
    (b.cmdOf q 0x3A = none → exec (.patchLoad q img) s = .next s) ∧
    (b.cmdOf q 0x3A ≠ none → exec (.patchLoad q img) s = .next (s.on (fun b =>
      if why ≠ 0 then b.complete q 0 why
      else if ¬ (b.moduleIdle = true ∧ b.bwork = []) then b.complete q 0 0x04
      else match b.freeSlot with
        | none => b.takeSlot q []
        | some k => { (b.takeSlot q []).workStart none 10 k with uc := { b.uc with load := some (k, img), active := false } }))) ∧
    exec .patchActivate s = .next (s.on (fun b =>
      match b.uc.load with
      | none => b
      | some (j, img) =>
        if (b.slotRuns j 0x3A && b.atBoundary && !b.uc.active && b.loadCode j img == 0 && b.rowsFit img) = true then
          ({ b.patchForce img with uc := { (b.patchForce img).uc with active := true } }).flashAsk 1 j
        else b)) ∧
    exec (.patchLoadDone k stuck) s = .next (s.on (fun b =>
      match b.uc.load with
      | none => b
      | some (j, img) =>
        if ¬ (j = k.val ∧ b.slotRuns k 0x3A = true) then b
        else if b.uc.active then
          match b.flashOutcome 1 k with
          | none => b
          | some good => close (if good then 0 else 0x6A) (b.flashForget 1 k)
        else if b.loadCode k img ≠ 0 then close (b.loadCode k img) (b.imageNote img (b.loadCode k img))
        else if b.rowsFit img ∧ stuck = [] then b
        else close 0x0B (b.readBackMap img)))

/-- TEMP_SAMPLE, CAL_TASK_START, CAL_TASK_END, CAL_RUN, CAL_RUN_DONE and MODERATION_STEP (11_dds_and_digitiser.md, R256,
19_events_and_interrupts.md, R382, R385, 21_calibration.md, R415, R416, R418, R419, R421 to R427, 22_security_and_boot.md, R431).
For every state: a sample sets its sensor's reading and tick and raises its maximum; a crossing of TWARN raises its die's source
once, and above 105 C the die's over-temperature fault follows. Task start acts only with READY, at a boundary, with the engine
free: of the due tasks of idle fields it skips and defers what must be and starts the one of largest AGE, lower field, lower number:
hasps are claimed, a task that opens pads takes the slices off them, the field is busy. A task's end, at a later boundary and with
no slice on its path to OFF, puts the slices back; with no path left under way it frees the engine, ends its boundary work, releases
its hasps, judges the measurement, tells every CAL_RUN that names it and logs it. CAL_RUN takes a slot, makes the named tasks due
and forced; its slot ends once every named task has ended, 0x02 with a reference missing. A sub-tick moves the clock by one,
evaluates the 64 vectors in order and brings the DDS settings of every field into force. What is not due changes nothing. -/
def Obligations.CalibrationRunsItsTasksAndTheSubTickPasses : Prop :=
  ∀ (s : State) (f : Fin 16) (t : Int) (refOk : Bool) (m : CalMeas) (q : Fin 64) (k : Fin 256),
    let b := s.blk
    let ready := b.flag 0 HQ_STAT.READY = true ∧ b.atBoundary = true ∧ b.cal.run = none
    let older := fun (b : Block) (x y : Nat × Nat) => b.get (Block.calAt x.1 x.2) CAL_TASK.AGE < b.get (Block.calAt y.1 y.2) CAL_TASK.AGE
    let judged := fun b : Block =>
      let b := (s.blk.calCandidates.filter s.blk.calSkips).foldl Block.calSkip b
      s.blk.calCandidates.foldl (fun c x => if b.calSkips x then c else c.calDefer x) b
    let left := (s.blk.calCandidates.filter (fun x => !((s.blk.calCandidates.filter s.blk.calSkips).foldl Block.calSkip b).calSkips x)).filter
      (fun x => (judged b).calState x.1 x.2 != 5)
    let warmed := fun (i src : Nat) (hotDie : Block → Bool) (b : Block) =>
      let hot : Bool := decide (16 * (b.get 0 CAL_CTRL.TWARN : Int) < t)
      let was := b.cal.warm.contains i
      let b := { b with cal := { b.cal with warm := if hot then (if was then b.cal.warm else b.cal.warm ++ [i]) else b.cal.warm.filter (· != i) } }
      let b := if hot && !was then b.arrive (551 + src) else b
      (if 1680 < t then b.fault (414 + src) 0 else b).setLive (414 + src) (hotDie b)
    let ended := b.slotRuns k 0x39 = true ∧ ∀ g < 16, bit (b.slotWord k 1) g = true → b.calFieldOver k g = true;
    exec (.tempSample none t) s = .next (s.on (fun b =>
      let b := (b.set 0 CAL_CTEMP.NOW (ofSigned 16 t)).set 0 CAL_CTEMP.TICK b.tick16
      let b := if toSigned 16 (b.get 0 CAL_CTEMP.MAX) < t then b.set 0 CAL_CTEMP.MAX (ofSigned 16 t) else b
      warmed 0 0 (fun _ => decide (1680 < t)) b)) ∧
    exec (.tempSample (some f) t) s = .next (s.on (fun b =>
      let b := (b.set (8 * f) CAL_FTEMP.NOW (ofSigned 16 t)).set (8 * f) CAL_FTEMP.TICK b.tick16
      let b := if toSigned 16 (b.get (8 * f) CAL_FTEMP.MAX) < t then b.set (8 * f) CAL_FTEMP.MAX (ofSigned 16 t) else b
      warmed (1 + f) (1 + f / 4) (fun b => (List.range 16).any (fun g =>
        g / 4 == f.val / 4 && decide (1680 < toSigned 16 (b.get (8 * g) CAL_FTEMP.NOW)))) b)) ∧
    (¬ ready → exec (.calTaskStart refOk) s = .next s) ∧
    (ready → left = [] → exec (.calTaskStart refOk) s = .next (s.on (fun b => (judged b).calSync))) ∧
    (ready → ∀ u v x, left = u ++ x :: v → (∀ y ∈ u, older (judged b) y x) → (∀ y ∈ v, ¬ older (judged b) x y) →
      exec (.calTaskStart refOk) s = .next (s.on (fun b =>
        let b := ((judged b).calHasps x.1 x.2).foldl (fun b i => (b.haspClaim 0x61 i 0).1) (judged b)
        let b := if x.2 = 0 then b.setFlag 0 CAL_STAT.REF_MISSING (!refOk) else b
        let b := if x.2 = 1 ∨ x.2 = 2 ∨ x.2 = 4 then
            let c : Block := if x.2 = 1 then b else { b with buses := Sparse.set 0 x.1 0 b.buses }
            (c.calLands x.1).foldl (fun c w =>
              let d := c.updSlc w (fun z => { z with cal := if c.calPaths w then 1 else 2 })
              (if c.calPaths w then d.pathStart w else d).slcSync w) c
          else b
        let run : CalRun := { field := x.1, task := x.2, full := b.cal.full.contains (8 * x.1 + x.2), temp := b.get (8 * x.1) CAL_FTEMP.NOW
                              since := b.time.now }
        let b := ({ b with cal := { b.cal with run := some run } }).workStart (some x.1) 9 (8 * x.1 + x.2)
        let b := ((b.set 0 CAL_STAT.TASK x.2).set 0 CAL_STAT.FIELD x.1).setFlag 0 CAL_STAT.BUSY true
        (((b.set (Block.calAt x.1 x.2) CAL_TASK.STATE 3).set (Block.calAt x.1 x.2) CAL_TASK.DEFER 0).set (Block.calAt x.1 x.2) CAL_TASK.OWNER 0).calSync))) ∧
    exec (.calTaskEnd m) s = .next (s.on (fun b =>
      match b.cal.run with
      | none => b
      | some r =>
        if ¬ (b.atBoundary = true ∧ r.since < b.time.now ∧ b.calAny r.field 1 = false) then b
        else
          let b := ((List.range 17).map (fun j => 17 * r.field + j)).foldl Block.calClose b
          if b.calAny r.field 3 then b
          else
            let fail := b.calFailed r.field r.task m
            let b := { b with cal := { b.cal with run := none } }
            let b := if r.task ≤ 4 then b.updRb r.field (fun x => { x with used := b.time.now }) else b
            let b := (b.workEnd 9 (8 * r.field + r.task)).setFlag 0 CAL_STAT.BUSY false
            let b := [0, 2, 3].foldl (fun b j => if b.haspOwner (16 * r.field + j) = 0x61 then b.haspFree (16 * r.field + j) else b) b
            let b := (b.calLast r.field r.task (b01 fail) ((b.time.now - r.since) / 100)).calResult r.field r.task r.temp m
            (b.calTell r.field r.task (if fail then 8 else 0)).flashAsk 6 0)) ∧
    exec (.calRun q) s = .next (s.on (fun b =>
      match b.cmdOf q 0x39, b.freeSlot with
      | none, _ => b
      | some _, none => b.complete q 0 0x03
      | some ws, some _ =>
        let w := ws.getD 1 0
        let named := Block.calTasks.filter (fun x => bit w x.1 && bit w (16 + x.2))
        let b := named.foldl (fun (b : Block) x => b.calMakeDue x.1 x.2) (b.takeSlot q [])
        let ids := named.map (fun x => 8 * x.1 + x.2)
        ({ b with cal := { b.cal with
          forced := b.cal.forced ++ ids.filter (fun i => !b.cal.forced.contains i)
          full := if bit w 63 then b.cal.full ++ ids.filter (fun i => !b.cal.full.contains i) else b.cal.full } }).calSync)) ∧
    (ended → exec (.calRunDone k) s = .next (s.on (fun b =>
      (b.npart k (b.calFieldsOver k)).slotEnd k (if b.flag 0 CAL_STAT.REF_MISSING then 0x02 else 0)))) ∧
    (¬ ended → exec (.calRunDone k) s = .next s) ∧
    exec .moderationStep s = .next (s.on (fun b =>
      let b := { b with time := { b.time with now := b.time.now + 1 } }
      (List.range 16).foldl Block.ddsSub ((List.range 64).foldl Block.msixEval b)))

/-- SSP_NOP, SSP_READ, SSP_READ_NEXT, SSP_WRITE, SSP_BOLT_ARM, SSP_BOLT, SSP_FRAME_DISCARD, KP_RD_ACCESS and KEEPER_SERVE
(20_faults_and_repair.md, R411, 23_keeper_and_supervisor_port.md, R456 to R464). For every state with VAUX: a frame shifts out the
reply to the frame before and leaves its own. NOP answers OK, or BAD_OP with a field set. READ answers the word at its address,
0xFFFF with ADDR_END outside every block and with RAM_PARITY where a window word keeps its error, which is fault 425; READ_NEXT does
so at the next word and never leaves its block or 0xFFF. WRITE takes SP_PAGE and the scratch area, else WRITE_REFUSED. BOLT_ARM arms
the next frame; BOLT with an arm, the main rails and its key is fault 424, without an arm or the rails BOLT_REFUSED; another key of
either has an open status; every frame but an accepted BOLT_ARM ends an arm. A discarded frame is counted by its kind. Without VAUX
no frame changes anything. The host reads KP_RD at KP_RA, which moves on, and writes the scratch area alone, else source 402. The
Keeper serves an arrival of 628, 629 or 632 that is routed to it with a journal entry and clears it. -/
def Obligations.SupervisorPortFramesAndReplies : Prop :=
  ∀ (s : State) (a : BitVec 12) (d : BitVec 16) (e : Bool) (edges : Nat) (soon : Bool) (n : Fin 1024) (v : Word),
    let b := s.blk
    let reply := fun (status a d : Nat) (armed : Bool) (b : Block) =>
      { b with keeper := { b.keeper with shifted := b.keeper.reply, reply := status % 16 * 2 ^ 28 + a % 4096 * 2 ^ 16 + d % 2 ^ 16, armed := armed } }
    let seen := fun (a : Nat) (past : Bool) (b : Block) => { b with keeper := { b.keeper with addr := a, past := past } }
    let broken := fun b : Block => (b.setFlag 0 SP_STAT.RAM_ERR true).fault 425 0
    let next := min (b.keeper.addr + 1) 0xFFF
    let gone := b.keeper.past = true ∨ b.keeper.addr = 0xFFF ∨ Block.spInBlock next = false
    (b.keeper.vaux = false → exec (.sspNop a d) s = .next s ∧ exec (.sspRead a d e) s = .next s ∧ exec (.sspReadNext a d e) s = .next s ∧
      exec (.sspWrite a d) s = .next s ∧ exec (.sspBoltArm a d) s = .next s ∧ exec (.sspBolt a d) s = .next s ∧
      exec (.sspFrameDiscard edges soon) s = .next s ∧ exec (.keeperServe n) s = .next s) ∧
    (b.keeper.vaux = true →
      exec (.sspNop 0 0) s = .next (s.on (reply 0 0 0 false)) ∧
      (a ≠ 0 ∨ d ≠ 0 → exec (.sspNop a d) s = .next (s.on (reply 4 a.toNat 0 false))) ∧
      (Block.spInBlock a.toNat = true → (e = false ∨ a.toNat < 0x800) → exec (.sspRead a 0 e) s = .next (s.on (fun b =>
        reply 0 a.toNat ((seen a.toNat false b).spWord a.toNat) false (seen a.toNat false b)))) ∧
      (Block.spInBlock a.toNat = false → exec (.sspRead a 0 e) s = .next (s.on (fun b =>
        reply 3 a.toNat 0xFFFF false (seen a.toNat true b)))) ∧
      (0x800 ≤ a.toNat → exec (.sspRead a 0 true) s = .next (s.on (fun b => reply 8 a.toNat 0xFFFF false (broken (seen a.toNat false b))))) ∧
      (d ≠ 0 → exec (.sspRead a d e) s = .next (s.on (reply 4 a.toNat 0 false))) ∧
      (¬ gone → (e = false ∨ next < 0x800) → exec (.sspReadNext 0 0 e) s = .next (s.on (fun b =>
        reply 0 next ((seen next false b).spWord next) false (seen next false b)))) ∧
      (gone → exec (.sspReadNext 0 0 e) s = .next (s.on (fun b => reply 3 next 0xFFFF false (seen next true b)))) ∧
      (¬ gone → 0x800 ≤ next → exec (.sspReadNext 0 0 true) s = .next (s.on (fun b => reply 8 next 0xFFFF false (broken (seen next false b))))) ∧
      (a ≠ 0 ∨ d ≠ 0 → exec (.sspReadNext a d e) s = .next (s.on (reply 4 a.toNat 0 false))) ∧
      exec (.sspWrite 3 d) s = .next (s.on (fun b => reply 0 3 d.toNat false (b.set 0 SP_PAGE.PAGE d.toNat))) ∧
      (0xC00 ≤ a.toNat → b.get 0 SP_PAGE.PAGE = 3 → exec (.sspWrite a d) s = .next (s.on (fun b =>
        let i := b.spRamIx a.toNat
        let w := b.krWord i
        reply 0 a.toNat d.toNat false (b.krPut i (if a.toNat % 2 = 0 then w / 2 ^ 16 * 2 ^ 16 + d.toNat else d.toNat * 2 ^ 16 + w % 2 ^ 16))))) ∧
      (a ≠ 3 → (a.toNat < 0xC00 ∨ b.get 0 SP_PAGE.PAGE ≠ 3) → exec (.sspWrite a d) s = .next (s.on (reply 5 a.toNat d.toNat false))) ∧
      exec (.sspBoltArm 0 0xB01D) s = .next (s.on (reply 0 0 0 true)) ∧
      (d ≠ 0xB01D → exec (.sspBoltArm 0 d) s = .next (s.on (fun b => reply b.free 0 0 false b.freed))) ∧
      (d ≠ 0x4FE2 → b.keeper.armed = true → b.flag 0 SP_STAT.MAIN = true → exec (.sspBolt 0 d) s = .next (s.on (fun b => reply b.free 0 0 false b.freed))) ∧
      (a ≠ 0 → exec (.sspBoltArm a d) s = .next (s.on (reply 4 a.toNat 0 false)) ∧
        exec (.sspBolt a d) s = .next (s.on (reply 4 a.toNat 0 false))) ∧
      (b.keeper.armed = true → b.flag 0 SP_STAT.MAIN = true → exec (.sspBolt 0 0x4FE2) s = .next (s.on (fun b => (reply 0 0 0 false b).fault 424 0))) ∧
      (b.keeper.armed = false ∨ b.flag 0 SP_STAT.MAIN = false → exec (.sspBolt 0 d) s = .next (s.on (reply 6 0 0 false))) ∧
      (exec (.sspFrameDiscard edges true) s = .next (s.on (fun b => reply 7 0 0 false (b.bump 0 SP_ERR.SOON)))) ∧
      (edges < 32 → exec (.sspFrameDiscard edges false) s = .next (s.on (fun b => reply 1 0 0 false (b.bump 0 SP_ERR.SHORT)))) ∧
      (32 < edges → exec (.sspFrameDiscard edges false) s = .next (s.on (fun b => reply 2 0 0 false (b.bump 0 SP_ERR.LONG)))) ∧
      (exec (.sspFrameDiscard 32 false) s = .next s) ∧
      (¬ ((n.val = 628 ∨ n.val = 629 ∨ n.val = 632) ∧ b.icHits 17 n = true) → exec (.keeperServe n) s = .next s) ∧
      ((n.val = 628 ∨ n.val = 629 ∨ n.val = 632) → b.icHits 17 n = true → exec (.keeperServe n) s = .next (s.on (fun b => (b.journal 0 n).icClear n)))) ∧
    exec (.kpRdAccess none e) s = .next (s.on (fun b =>
      let r := (if e then broken b else b).kpNext
      { r with host := { r.host with lastRead := [if e then 0xFFFFFFFF else b.krWord (b.get 0 KP_RA.ADDR)] } })) ∧
    (0xE00 ≤ b.get 0 KP_RA.ADDR → exec (.kpRdAccess (some v) e) s = .next (s.on (fun b =>
      (b.krPut (b.get 0 KP_RA.ADDR) (v.toNat % 2 ^ 32)).kpNext))) ∧
    (b.get 0 KP_RA.ADDR < 0xE00 → exec (.kpRdAccess (some v) e) s = .next (s.on (fun b => b.fault 402 0)))

/-- KR_CHALLENGE, KR_LOGIN, KR_LOGOUT, NONCE_EXPIRY, LOCKOUT_EXPIRY, KR_SELFTEST, ENTROPY_FAIL, KR_UNLOCK and their ends
(18_host_interface.md, R366, R367, 22_security_and_boot.md, R438, R439, R446, R447, R450, R454). For every state: a service waits
during a self-test or zeroisation, and is turned away with 0x6B in ERROR or 0x60 without its role. A challenge stores the pair's
nonce with its time and writes it to the host. A login with the role locked, without a valid nonce, or unprovisioned completes with
0x6E, 0x62 or 0x63; it uses the nonce up, and the response that SHA-256 gives sets the pair's role bit and clears the role's
failures; another counts, raises 596 and completes with 0x61, and the eighth in a row locks the role and raises 597. A logout drops
the pair's roles; a nonce ends 10 s after its challenge and a lock after 60 s. A self-test takes a slot; its good end makes the
Keyring operational unless a known-answer test has failed since start-up, a bad one is ERROR and fault 422. A failed entropy test is
counted and is ERROR. KR_UNLOCK takes a slot while PROV is 2, with the judgement of its token (signature, serial number, a current
nonce), else an open code; its good end blows ANALYSED, sets TESTMODE and raises 605, a bad one is counted and ends with 0x65. What
is not due changes nothing. -/
def Obligations.LoginSelfTestAndUnlock : Prop :=
  ∀ (s : State) (q : Fin 64) (nonce resp : Nat) (co : Bool) (tok : Option (Nat × Nat)) (k : Fin 256),
    let b := s.blk
    let refuse := fun (opc need : Nat) =>
      if b.get 0 KR_STAT.STATE = 2 ∧ opc ∉ [0x48, 0x49, 0x4C, 0x4D] then 0x6B
      else if (need = 1 ∧ bit (b.get 0 KR_ROLE_USER.BITS) q = false ∧ bit (b.get 0 KR_ROLE_CO.BITS) q = false) ∨
        (need = 2 ∧ bit (b.get 0 KR_ROLE_CO.BITS) q = false) then 0x60
      else 0
    let serve := fun (waits : Bool) (opc need : Nat) (f : List Nat → Block → Block) => s.on (fun b =>
      match b.cmdOf q opc with
      | none => b
      | some ws =>
        if waits = true ∧ (b.get 0 KR_STAT.STATE = 0 ∨ b.get 0 KR_STAT.STATE = 3) then b
        else if refuse opc need ≠ 0 then b.complete q 0 (refuse opc need) else f ws b)
    let fail := fun (co : Bool) (b : Block) =>
      let b := (b.count 0 KR_EVCNT.AUTH_FAIL 1).arrive 596
      let n := (if co then b.kr.failCo else b.kr.failUser) + 1
      if n < 8 then b.updKr (fun r => if co then { r with failCo := n } else { r with failUser := n })
      else
        let b := b.updKr (fun r => if co then { r with failCo := 0, lockCo := b.time.now } else { r with failUser := 0, lockUser := b.time.now })
        (b.setFlag 0 (if co then KR_STAT.LOCK_CO else KR_STAT.LOCK_USER) true).arrive 597
    let expired := ∃ m t0, Sparse.find q b.kr.nonces = some (m, t0) ∧ t0 + 1000000000 ≤ b.time.now
    let opens := b.flag 0 (if co then KR_STAT.LOCK_CO else KR_STAT.LOCK_USER) = true ∧ (if co then b.kr.lockCo else b.kr.lockUser) + 6000000000 ≤ b.time.now;
    (exec (.krChallenge q nonce) s = .next (serve true 0x40 0 (fun ws b =>
      let b := b.updKr (fun r => { r with nonces := Sparse.put q (nonce % 2 ^ 256, b.time.now) r.nonces })
      (b.hostWrite (ws.getD 2 0) ((List.range 4).map (fun i => bits nonce (64 * i) 64))).complete q 0 0))) ∧
    (exec (.krLogin q resp) s = .next (serve true 0x41 0 (fun ws b =>
      let asCo := bit (ws.getD 1 0) 0
      let role := if asCo then KR_ROLE_CO.BITS else KR_ROLE_USER.BITS
      if b.flag 0 (if asCo then KR_STAT.LOCK_CO else KR_STAT.LOCK_USER) = true then b.complete q 0 0x6E
      else match b.nonceOf q with
        | none => b.complete q 0 0x62
        | some n =>
          let b := b.updKr (fun r => { r with nonces := Sparse.del q r.nonces })
          if b.get 0 KR_STAT.PROV ≠ 1 then b.complete q 0 0x63
          else if Block.loginResponse n (if asCo then b.kr.co else b.kr.user) (b01 asCo) = bytesLE resp 32 then
            let b := b.updKr (fun r => if asCo then { r with failCo := 0 } else { r with failUser := 0 })
            (b.set 0 role (setBit (b.get 0 role) q)).complete q 0 0
          else (fail asCo b).complete q 0 0x61))) ∧
    (∀ n, b.nonceOf q = some n ↔ ∃ t0, Sparse.find q b.kr.nonces = some (n, t0) ∧ b.time.now < t0 + 1000000000) ∧
    (exec (.krLogout q) s = .next (serve true 0x42 0 (fun _ b =>
      ((b.set 0 KR_ROLE_CO.BITS (clrBit (b.get 0 KR_ROLE_CO.BITS) q)).set 0 KR_ROLE_USER.BITS (clrBit (b.get 0 KR_ROLE_USER.BITS) q)).complete q 0 0))) ∧
    (expired → exec (.nonceExpiry q) s = .next (s.on (fun b => b.updKr (fun r => { r with nonces := Sparse.del q r.nonces })))) ∧
    (¬ expired → exec (.nonceExpiry q) s = .next s) ∧
    (opens → exec (.lockoutExpiry co) s = .next (s.on (fun b => b.setFlag 0 (if co then KR_STAT.LOCK_CO else KR_STAT.LOCK_USER) false))) ∧
    (¬ opens → exec (.lockoutExpiry co) s = .next s) ∧
    (exec (.krSelftest q) s = .next (serve false 0x49 0 (fun _ b => b.takeSlot q []))) ∧
    (b.slotRuns k 0x49 = true → exec (.krSelftestDone k true) s = .next (s.on (fun b =>
      let b := if b.kr.katBad then b.set 0 KR_STAT.STATE 2 else (b.set 0 KR_STAT.STATE 1).updKr (fun r => { r with drbg := true })
      (b.arrive 594).slotEnd k 0))) ∧
    (b.slotRuns k 0x49 = true → exec (.krSelftestDone k false) s = .next (s.on (fun b =>
      ((b.updKr (fun r => { r with katBad := true })).krError.fault 422 0).slotEnd k 0x6B))) ∧
    (b.slotRuns k 0x49 = false → ∀ ok, exec (.krSelftestDone k ok) s = .next s) ∧
    exec .entropyFail s = .next (s.on (fun b =>
      let b := b.count 0 KR_EVCNT.HEALTH 1
      let b := ((b.set 0 KR_STAT.STATE 2).updKr (fun r => { r with drbg := false })).arrive 595
      b.endServices [0x31, 0x43, 0x45, 0x47, 0x4A, 0x4B, 0x4E] 0x6B)) ∧
    (exec (.krUnlock q tok) s = .next (serve false 0x4E 0 (fun _ b =>
      if b.get 0 KR_STAT.PROV = 2 then b.takeSlot q [b01 (b.tokenOk tok)] else (b.complete q 0 (1 + b.free % 255)).freed))) ∧
    (b.tokenOk tok = true ↔ ∃ i n p, tok = some (i, n) ∧ i = Config.serno % 2 ^ 64 ∧ p < 64 ∧ b.nonceOf p = some (n % 2 ^ 256)) ∧
    (b.slotRuns k 0x4E = true → exec (.krUnlockDone k) s = .next (s.on (fun b =>
      if (b.slot k).aux.getD 0 0 = 1 then (((b.setFlag 0 KR_STAT.ANALYSED true).setFlag 0 KR_STAT.TESTMODE true).arrive 605).slotEnd k 0
      else (b.count 0 KR_EVCNT.SIG_BAD 1).slotEnd k 0x65))) ∧
    (b.slotRuns k 0x4E = false → exec (.krUnlockDone k) s = .next s)

/-- KR_PROVISION, KR_KEY_IMPORT, KR_STREAM_IMPORT, KR_KEY_CLEAR, KR_ATTEST, KR_CERT_READ and their ends (09_sower_and_segments.md, R217,
18_host_interface.md, R364, R366, R367, 22_security_and_boot.md, R438, R439, R441 to R446, R454). For every state: a short service
waits during a self-test or zeroisation, and any is turned away with 0x6B in ERROR or 0x60 without its role. Provisioning takes a
slot unless analysed (0x6C), provisioned (0x64) or without a storage key left (0x6D); its end, with the key store written, makes a
new attestation key, sends the certificate, sets PROV and ends OK, and ends with 0x6A where writing failed. Unprovisioned, a key
A stream import completes with the code of the first check that fails, else takes a slot and protects its chain; its end places the
plaintext from word 0 of the head page, the rest of the chain zero, or, with another key tag or a failed tag, zeroes the chain,
raises 602 and ends with 0x68 or 0x66. KR_KEY_CLEAR empties one slot or all; KR_ATTEST takes a slot with the report formed then, or
completes with 0x63 without a key, and its end sends report and signature; KR_CERT_READ writes the certificates. What does not run
changes nothing. -/
def Obligations.KeysProvisioningAndAttestation : Prop :=
  ∀ (s : State) (q : Fin 64) (co user kek keyTag plen : Nat) (key : Option Nat) (k : Fin 256) (plain : Option (List Word)),
    let b := s.blk
    let refuse := fun (opc need : Nat) =>
      if b.get 0 KR_STAT.STATE = 2 ∧ opc ∉ [0x48, 0x49, 0x4C, 0x4D] then 0x6B
      else if (need = 1 ∧ bit (b.get 0 KR_ROLE_USER.BITS) q = false ∧ bit (b.get 0 KR_ROLE_CO.BITS) q = false) ∨
        (need = 2 ∧ bit (b.get 0 KR_ROLE_CO.BITS) q = false) then 0x60
      else 0
    let serve := fun (waits : Bool) (opc need : Nat) (f : List Nat → Block → Block) => s.on (fun b =>
      match b.cmdOf q opc with
      | none => b
      | some ws =>
        if waits = true ∧ (b.get 0 KR_STAT.STATE = 0 ∨ b.get 0 KR_STAT.STATE = 3) then b
        else if refuse opc need ≠ 0 then b.complete q 0 (refuse opc need) else f ws b)
    let w := b.slotWord k 1
    let aux := (b.slot k).aux
    let pages := b.chain (w % 2 ^ 20)
    let zeroed := pages.foldl zeroPage s.mem;
    (exec (.krProvision q co user kek) s = .next (serve false 0x43 0 (fun _ b =>
      if b.flag 0 KR_STAT.ANALYSED = true then b.complete q 0 0x6C
      else if b.get 0 KR_STAT.PROV = 1 then b.complete q 0 0x64
      else if 32 ≤ b.get 0 KR_STAT.EPOCH then b.complete q 0 0x6D
      else b.takeSlot q [co % 2 ^ 256, user % 2 ^ 256, kek % 2 ^ 256]))) ∧
    (b.slotRuns k 0x43 = true → exec (.krProvisionDone k) s = .next (s.on (fun b =>
      match b.flashOutcome 4 k with
      | none => b
      | some false => (b.flashForget 4 k).slotEnd k 0x6A
      | some true =>
        let x := (b.flashForget 4 k).freed.updKr (fun r => { r with
          co := aux.getD 0 0, user := aux.getD 1 0, kek := aux.getD 2 0, att := some b.time.freeCount, cert := Block.certWords b.time.freeCount })
        ((x.hostWrite (x.slotWord k 3) (Block.certWords b.time.freeCount)).set 0 KR_STAT.PROV 1).slotEnd k 0))) ∧
    (b.slotRuns k 0x43 = false → exec (.krProvisionDone k) s = .next s) ∧
    (exec (.krKeyImport q key) s = .next (serve true 0x44 1 (fun ws b =>
      if b.get 0 KR_STAT.PROV ≠ 1 then b.complete q 0 0x63
      else match key with
        | none => (b.count 0 KR_EVCNT.DECRYPT_BAD 1).complete q 0 0x67
        | some v =>
          let i := bits (ws.getD 1 0) 32 6
          let x := (b.updKr (fun r => { r with keys := Sparse.put i v r.keys })).set 0 KR_SLOTS.BITS (setBit (b.get 0 KR_SLOTS.BITS) i)
          ((x.set (8 * i) KR_SLOT_TAG.TAG (bits (ws.getD 1 0) 0 16)).set 0 KR_STAT.SLOTS
            ((List.range 64).filter (bit (setBit (b.get 0 KR_SLOTS.BITS) i))).length).complete q 0 0))) ∧
    (exec (.krStreamImport q keyTag plen) s = .next (serve false 0x45 1 (fun ws b =>
      let p := ws.getD 1 0 % 2 ^ 20
      let code := if bit (b.get 0 KR_SLOTS.BITS) (bits (ws.getD 1 0) 32 6) = false then 0x68
        else if ws.getD 3 0 ≠ plen + 80 then 0x6F
        else if b.pgHead p = false then 0x31
        else if b.pgOwner p ≠ 1 then 0x35
        else if b.pgState p ≠ 1 ∨ b.importing p = true then 0x32
        else if (b.chain p).length * 32768 < plen then 0x34 else 0
      if code ≠ 0 then b.complete q 0 code
      else if b.freeSlot = none then b.takeSlot q []
      else
        let b := b.takeSlot q [keyTag, plen]
        (b.chain p).foldl (fun b p => b.setFlag (16 * p) DIR_ENT0.PROT true) b))) ∧
    (b.slotRuns k 0x45 = false → exec (.krStreamImportDone k plain) s = .next s) ∧
    (b.slotRuns k 0x45 = true → exec (.krStreamImportDone k plain) s = .next (
      if aux.getD 0 0 ≠ b.get (8 * bits w 32 6) KR_SLOT_TAG.TAG then { s with blk := (b.slotEnd k 0x68).arrive 602, mem := zeroed }
      else match plain with
        | none => { s with blk := ((b.count 0 KR_EVCNT.DECRYPT_BAD 1).slotEnd k 0x66).arrive 602, mem := zeroed }
        | some l => { s with
            blk := (((b.opres k 0 (aux.getD 1 0)).opres k 1 (w % 2 ^ 20)).npart k pages.length).slotEnd k 0
            mem := pages.zipIdx.foldl (fun m x =>
              let left := aux.getD 1 0 - 32768 * x.2
              (List.range (min 4096 (ceilDiv left 8))).foldl (fun m i =>
                let v := (l.map (fun w => w.toNat)).getD (4096 * x.2 + i) 0
                setPageWord m x.1 i (if 8 * (i + 1) ≤ left then v else v % 2 ^ (8 * (left - 8 * i)))) m) zeroed })) ∧
    (exec (.krKeyClear q) s = .next (serve true 0x46 1 (fun ws b =>
      (if bit (ws.getD 1 0) 63 then (List.range 64).foldl Block.keyClear b else b.keyClear (bits (ws.getD 1 0) 0 6)).complete q 0 0))) ∧
    (∀ i < 64, let t := b.keyClear i
      Sparse.find i t.kr.keys = none ∧ (∀ j, j ≠ i → Sparse.find j t.kr.keys = Sparse.find j b.kr.keys) ∧
      t.get 0 KR_SLOTS.BITS = clrBit (b.get 0 KR_SLOTS.BITS) i % 2 ^ 64 ∧ t.get (8 * i) KR_SLOT_TAG.TAG = 0) ∧
    (exec (.krAttest q) s = .next (serve false 0x47 1 (fun ws b =>
      if b.kr.att = none then b.complete q 0 0x63 else b.takeSlot q (b.attestReport (ws.getD 1 0))))) ∧
    (b.slotRuns k 0x47 = true → exec (.krAttestDone k) s = .next (s.on (fun b =>
      (b.hostWrite (b.slotWord k 2) (aux ++ (List.range 2136).map (Config.signature aux))).slotEnd k 0))) ∧
    (b.slotRuns k 0x47 = false → exec (.krAttestDone k) s = .next s) ∧
    (exec (.krCertRead q) s = .next (serve true 0x4D 0 (fun ws b =>
      let n := match b.kr.att with | none => 0 | some n => n + 1
      (b.hostWrite (ws.getD 2 0) ((List.range 3072).map (Config.keyringWord (2 ^ 33 + n)))).complete q 0 0)))

/-- KR_ZEROISE, FW_UPDATE, CLR_STORE, RETURN_PREP and their ends: what each clears, stores and answers (09_sower_and_segments.md, R217,
18_host_interface.md, R366, R367, 22_security_and_boot.md, R432, R434, R439, R446 to R449, R454). For every state: a service is
turned away with 0x6B in ERROR (but zeroisation) or 0x60 without its role. KR_ZEROISE completes with 0x04 unless the module is idle,
else takes a slot, makes the Keyring busy, clears pattern keys, DRBG, roles and nonces and ends imports and signing with 0x70; its
end zeroes and frees every protected chain, revokes the storage key and the key store, instantiates the DRBG, sets PROV 0 and raises
598. FW_UPDATE takes a slot with its image; its end stores the image, names its slot the first to try and raises 599, or ends with
the code of the failed check or 0x6A. CLR_STORE takes a slot with the outcome of its check and ends with it, or with 0x6A where
writing failed. RETURN_PREP takes a slot for a Crypto Officer in an idle module (else 0x60, 0x04), and for anyone in a Grave state;
its end, the record written, clears as zeroisation does, sets PROV 2 and raises 604; a record that could not be written clears
nothing. What does not run, or waits for its flash job, changes nothing. -/
def Obligations.ZeroisationStoredImagesAndReturns : Prop :=
  ∀ (s : State) (q : Fin 64) (img : SignedImage) (body : Option (List Word)) (k : Fin 256),
    let b := s.blk
    let refuse := fun (opc need : Nat) =>
      if b.get 0 KR_STAT.STATE = 2 ∧ opc ∉ [0x48, 0x49, 0x4C, 0x4D] then 0x6B
      else if (need = 1 ∧ bit (b.get 0 KR_ROLE_USER.BITS) q = false ∧ bit (b.get 0 KR_ROLE_CO.BITS) q = false) ∨
        (need = 2 ∧ bit (b.get 0 KR_ROLE_CO.BITS) q = false) then 0x60
      else 0
    let serve := fun (waits : Bool) (opc need : Nat) (f : List Nat → Block → Block) => s.on (fun b =>
      match b.cmdOf q opc with
      | none => b
      | some ws =>
        if waits = true ∧ (b.get 0 KR_STAT.STATE = 0 ∨ b.get 0 KR_STAT.STATE = 3) then b
        else if refuse opc need ≠ 0 then b.complete q 0 (refuse opc need) else f ws b)
    let chains := fun s : State => s.blk.protectedHeads.foldl (fun (t : State) p =>
      { t with mem := (t.blk.chain p).foldl zeroPage t.mem, blk := t.blk.chainFree p }) s
    let erased := fun b : Block => (b.set 0 KR_STAT.EPOCH (min 32 (b.get 0 KR_STAT.EPOCH + 1))).updKr (fun r => { r with
      co := 0, user := 0, kek := 0, att := none, cert := [], drbg := true, failUser := 0, failCo := 0 })
    let keysGone := fun b : Block => ((((List.range 64).foldl Block.keyClear b).set 0 KR_ROLE_CO.BITS 0).set 0 KR_ROLE_USER.BITS 0).updKr
      (fun r => { r with drbg := false, nonces := [] })
    let forget := fun b : Block => b.updKr (fun r => { r with stored := Sparse.del k r.stored })
    let old := (b.slot k).aux.getD 0 0;
    (exec (.krZeroise q) s = .next (serve false 0x48 2 (fun _ b =>
      if b.moduleIdle = false then b.complete q 0 0x04
      else match b.freeSlot with
        | none => b.takeSlot q []
        | some n => (keysGone (((b.takeSlot q [b.get 0 KR_STAT.STATE]).workStart none 11 n).set 0 KR_STAT.STATE 3)).endServices [0x31, 0x45, 0x47] 0x70))) ∧
    (b.slotRuns k 0x48 = true → ∀ good, b.flashOutcome 4 k = some good → exec (.krZeroiseDone k) s = .next ((chains s).on (fun c =>
      let x := (erased (c.flashForget 4 k)).set 0 KR_STAT.PROV 0
      let x := x.set 0 KR_STAT.STATE (if (c.slot k).aux.getD 0 0 = 2 ∨ x.get 0 KR_STAT.STATE ≠ 3 then 2 else 1)
      ((x.workEnd 11 k).arrive 598).slotEnd k (if good then 0 else 0x6A)))) ∧
    (b.slotRuns k 0x48 = false ∨ b.flashOutcome 4 k = none → exec (.krZeroiseDone k) s = .next s) ∧
    (exec (.fwUpdate q img) s = .next (serve false 0x4A 2 (fun _ b =>
      match b.freeSlot with
      | none => b.takeSlot q []
      | some n => (b.takeSlot q []).updKr (fun r => { r with stored := Sparse.put n img r.stored })))) ∧
    (b.slotRuns k 0x4A = false → exec (.fwUpdateDone k) s = .next s) ∧
    (b.slotRuns k 0x4A = true → exec (.fwUpdateDone k) s = .next (s.on (fun b =>
      match Sparse.find k b.kr.stored with
      | none => (forget b).slotEnd k 0x6F
      | some img =>
        let code := b.imageCode img 1 (b.slotWord k 3)
        if code ≠ 0 then (forget (b.imageNote img code)).slotEnd k code
        else match b.flashOutcome 2 k with
          | none => b
          | some false => (forget (b.flashForget 2 k)).slotEnd k 0x6A
          | some true =>
            let x := forget (b.flashForget 2 k)
            let src := x.get 0 BOOT_STAT.SRC
            ((x.set 0 BOOT_STAT.NEXT (if src = 0 then 1 else if src = 1 then 0 else 1 - x.get 0 BOOT_STAT.NEXT)).arrive 599).slotEnd k 0))) ∧
    (exec (.clrStore q body) s = .next (serve false 0x4B 1 (fun ws b => b.takeSlot q [match body with
      | none => 0x09
      | some l => if ws.getD 3 0 = 22640 ∧ Block.clrImageOk (l.map (fun w => w.toNat)) = true then 0 else 0x6F]))) ∧
    (b.slotRuns k 0x4B = false → exec (.clrStoreDone k) s = .next s) ∧
    (b.slotRuns k 0x4B = true → exec (.clrStoreDone k) s = .next (s.on (fun b =>
      if old ≠ 0 then b.slotEnd k old
      else match b.flashOutcome 3 k with
        | none => b
        | some good => (b.flashForget 3 k).slotEnd k (if good then 0 else 0x6A)))) ∧
    (exec (.returnPrep q) s = .next (s.on (fun b =>
      if b.cmdOf q 0x4C = none then b
      else if b.flt.grave = true then b.takeSlot q []
      else if bit (b.get 0 KR_ROLE_CO.BITS) q = false then b.complete q 0 0x60
      else if b.moduleIdle = false then b.complete q 0 0x04 else b.takeSlot q []))) ∧
    (b.slotRuns k 0x4C = true → b.flashOutcome 5 k = some true → exec (.returnPrepDone k) s = .next
      ((chains (s.on (fun b => (keysGone b).endServices [0x31, 0x45, 0x47] 0x70))).on (fun b =>
        (((erased (b.flashForget 5 k)).set 0 KR_STAT.PROV 2).arrive 604).slotEnd k 0))) ∧
    (b.slotRuns k 0x4C = true → b.flashOutcome 5 k = some false → exec (.returnPrepDone k) s = .next (s.on (fun b =>
      (b.flashForget 5 k).slotEnd k 0x6A))) ∧
    (b.slotRuns k 0x4C = false ∨ b.flashOutcome 5 k = none → exec (.returnPrepDone k) s = .next s)

/-- A step takes the command at the front of the queue and runs it with the queue's rest; with nothing waiting the block idles
(00_scope.md, 18_host_interface.md, R360). For every state: where a command stands at the front of the queue of waiting commands, a
step is exactly that command's effect on the state whose queue is the rest; where none waits, a step answers the same state. The
queue and the idle step are the model's (log entry 1): the spec has no program of its own for the block. -/
def Obligations.AStepRunsTheFrontCommand : Prop :=
  ∀ (s : State) (c : Instr) (rest : List Instr),
    (s.pending = c :: rest → step s = exec c { s with pending := rest }) ∧
    (s.pending = [] → step s = .next s)

/-- After reset every field of every register, in force and staged, reads its table's reset value (R6). For every register instance that
stands at an offset of BAR0 and every field of it, the value in force and the staged value after reset are the reset value that the
register's table gives for that instance; so no bit is undefined. -/
def Obligations.EveryFieldResetsToItsTableValue : Prop :=
  ∀ (a base : Nat) (d : RegDef) (F : Fld), regAt a = some (base, d) → F ∈ d.flds →
    State.reset.blk.get base F = F.rst a ∧ State.reset.blk.getSh base F = F.rst a

/-- The state after reset keeps the canonical form of the memories, with no command waiting and no byte written (00_scope.md, R6,
22_security_and_boot.md, R436). After reset the memories are in canonical form with no byte listed, so every byte reads zero (log
entry 6), and no command waits. -/
def Obligations.ResetMeetsTheInvariant : Prop :=
  Inv State.reset ∧ State.reset.pending = [] ∧ ∀ a, Memory.byte State.reset.mem a = 0

/-- A sample sets RAW from the previous RAW, the node voltage and the hysteresis (R103). For every state, monitor and node voltage in
uV: where the monitor of a slice is enabled, its sample is not skipped and its high threshold lies above the low one, RAW after the
sample is ABOVE, BELOW or INSIDE by the rule: from ABOVE it stays ABOVE while v is above th_hi - h, from BELOW it stays BELOW while
v is below th_lo + h, and otherwise the plain comparisons with th_hi and th_lo decide. The same holds for the monitor of a regulator
without GUARD that runs no self-check. Codes compare on the scale of R81: 10 V in 4,096 codes from the zero of the DAC. -/
def Obligations.AWindowMonitorSampleSetsRaw : Prop :=
  ∀ (s : State) (i : Fin 272) (r : Fin 34) (uv : Int) (hi lo : Bool),
    let b := s.blk
    let above := fun (zero c : Int) => decide (c * 10000000 < (uv - zero) * 4096)
    let below := fun (zero c : Int) => decide ((uv - zero) * 4096 < c * 10000000)
    let rule := fun (zero : Int) (prev hi lo h : Nat) =>
      if prev = 3 then (if above zero (Int.ofNat hi - h) then 3 else if below zero lo then 4 else 2)
      else if prev = 4 then (if below zero (Int.ofNat lo + h) then 4 else if above zero hi then 3 else 2)
      else (if above zero hi then 3 else if below zero lo then 4 else 2)
    (b.flag (SLC i) WM_CTRL.EN = true → b.wmSkips (monSlice i) = false → (b.wmThresholds (monSlice i)).2 < (b.wmThresholds (monSlice i)).1 →
      Yields (exec (.wmSample (.slice i) uv hi lo) s) (fun t => t.blk.get (SLC i) WM_STAT.RAW =
        rule (-2500000) (b.get (SLC i) WM_STAT.RAW) (b.wmThresholds (monSlice i)).1 (b.wmThresholds (monSlice i)).2 (b.get (SLC i) WM_CTRL.HYS))) ∧
    ((b.wm (272 + r)).chk = 0 → b.flag (DPS r) DPS_CTRL.GUARD = false → b.flag (DPS r) DPS_WM_CTRL.EN = true → b.wmSkips (monDps r) = false →
      (b.wmThresholds (monDps r)).2 < (b.wmThresholds (monDps r)).1 →
      Yields (exec (.wmSample (.dps r) uv hi lo) s) (fun t => t.blk.get (DPS r) DPS_WM_STAT.RAW =
        rule (-500000) (b.get (DPS r) DPS_WM_STAT.RAW) (b.wmThresholds (monDps r)).1 (b.wmThresholds (monDps r)).2 (b.get (DPS r) DPS_WM_CTRL.HYS)))

/-- The fourteen COND codes, and the reserved ones (R148). For every value of FLAGS the condition of each code 0 to 13 holds exactly
where its table says: always; Z, not Z; N, not N; C, not C; F, not F; P, not P; O; S; F or O or S, with Z, N, C, F, P, O and S the
bits 0 to 6 of FLAGS. A JMP or CALL whose COND is 14 to 31 is no instruction: its word decodes to the OPERAND fault of R142. -/
def Obligations.BranchConditionsReadTheFlags : Prop :=
  ∀ (fl c t : Nat),
    let z := bit fl 0; let n := bit fl 1; let k := bit fl 2; let f := bit fl 3; let p := bit fl 4; let o := bit fl 5; let s := bit fl 6
    [0, 1, 2, 3, 4, 5, 6, 7, 8, 9, 10, 11, 12, 13].map (condHolds fl) = [true, z, !z, n, !n, k, !k, f, !f, p, !p, o, s, f || o || s] ∧
    (14 ≤ c → c < 32 → t < 32768 → decodeWord (0x02 * 2 ^ 56 + c * 2 ^ 36 + t) = .error causeOperand ∧
      decodeWord (0x03 * 2 ^ 56 + c * 2 ^ 36 + t) = .error causeOperand)

/-- Instruction words written out from the encoding tables, one or more of each class, decode to the instructions they stand for
(06_sequencer_model.md, R141, R142, 07_instruction_reference.md, R163, R164, R167, R171, R181). END, JMP.z to 0x123, MOVI G1 5, ADD
G3 G1 G2, PLAY G4, SETLVL of channels 0 to 3 with selector 3 and value 0x1234, MEAS G2 of channel 5 one tick back, DDSRUN of entry
0xFFF, HCLAIM G1 of entry 3 with tag 5 and the word of opcode 0x0B, which is none. -/
def Obligations.WordsReadAsTheirTablesSay : Prop :=
  decodeWord 0x0100000000000000 = .ok .endI ∧
  decodeWord 0x0200001000000123 = .ok (.jmp 1 0x123) ∧
  decodeWord 0x2D08000000000005 = .ok (.movi 1 5) ∧
  decodeWord 0x2018440000000000 = .ok (.alu .add 3 1 2) ∧
  decodeWord 0x4201000000000000 = .ok (.play 4) ∧
  decodeWord 0x600000001E0C1234 = .ok (.setting .lvl 3 (.imm 0x000F) (.imm 0x1234)) ∧
  decodeWord 0x801000FFFF000005 = .ok (.meas 2 (.rel 0xFFFF) 5) ∧
  decodeWord 0xB000000000000FFF = .ok (.ddsrun 0xFFF) ∧
  decodeWord 0xD208000000000A03 = .ok (.hclaim 1 3 5) ∧
  decodeWord 0x0B00000000000000 = .error causeIllegal

/-- No command is refused, and the only fault is an access of BAR2 past its window (09_sower_and_segments.md, R216,
18_host_interface.md, R355, R357). For every command and state the outcome is a next state, but for a BAR2 access that reaches past
the 32 GiB window, which ends in the fault outsideWindow: R355 gives no page there. No command, whatever its operands and the state,
is refused. -/
def Obligations.NothingIsRefusedAndOnlyTheWindowFaults : Prop :=
  ∀ (c : Instr) (s : State),
    (∃ t, exec c s = .next t) ∨
    (exec c s = .fault .outsideWindow ∧ ((∃ a data, c = .bar2Write a data ∧ 2 ^ 35 < a + data.length) ∨ (∃ a len, c = .bar2Read a len ∧ 2 ^ 35 < a + len)))

/-- Every command keeps the queue of waiting commands, and only the listed ones write a byte of a memory (06_sequencer_model.md, R138,
09_sower_and_segments.md, R216, R217, 11_dds_and_digitiser.md, R251). For every command and state, where the command answers a next
state its queue is the one before. Every command but the listed ones (host writes of memory windows, program load and page
transfers, freeing and refetching of pages, grants, spill and stamp writers, zeroising ends and imports, a takeover, a reset of core
logic, the switch of a retiring page, STD, MEASALL, BMOVE and the ends of a sequencer's waits) leaves every byte of program
memories, data stores, dictionaries, DDS lists and pages as it was. -/
def Obligations.CommandsKeepTheQueueAndOnlyStoresWrite : Prop :=
  ∀ (c : Instr) (s t : State), exec c s = .next t → t.pending = s.pending ∧
    (mayStore c = false → t.mem = s.mem ∧ ∀ a, Memory.byte t.mem a = Memory.byte s.mem a)

/-- The word of every well-formed instruction decodes to that instruction, with every operand at every value (06_sequencer_model.md,
R141, R142, 07_instruction_reference.md, R163, R164, R167 to R185). For every instruction of the field sequencers whose operands
keep the rules of its table, with every operand at every value that its field admits, the word that the encoding tables give it
decodes to that instruction. No operand bit of any encoding is dropped, and no two instructions share a word. -/
def Obligations.DecodingAnEncodedInstructionGivesItBack : Prop :=
  ∀ (h : Halyr), h.wf = true → decodeWord h.encode = .ok h

/-- Every step keeps the canonical form of the memories, whichever command waits in front (01_architecture.md, 06_sequencer_model.md,
R138, 09_sower_and_segments.md, R208, R215 to R217, 11_dds_and_digitiser.md, R251). For every state whose memories are in canonical
form (addresses strictly rising, no listed byte that reads as an unlisted one), a step that answers a next state answers one in
canonical form, whatever command stands at the front of the queue and whatever its operands; equal contents stay equal data. -/
def Obligations.EveryStepKeepsTheMemoriesCanonical : Prop :=
  ∀ (s t : State), Inv s → step s = .next t → Inv t
end

