-- ==== Sys2Proof/Laws/Sparse.lean ====
section
/-!
SUPPORT. Sparse data: a read after a write, writes elsewhere, and the canonical form kept by every write.
-/
namespace Sys2Proof.Machine.Sparse

variable {α : Type}

theorem find_del_self (k : Nat) (l : List (Nat × α)) : find k (del k l) = none := by
  induction l with
  | nil => rfl
  | cons x t ih =>
    obtain ⟨j, v⟩ := x
    by_cases h : j = k <;> simp [del, find, h, ih]

theorem find_del_ne {k j : Nat} (h : j ≠ k) (l : List (Nat × α)) : find j (del k l) = find j l := by
  induction l with
  | nil => rfl
  | cons x t ih =>
    obtain ⟨i, v⟩ := x
    by_cases h1 : i = k
    · have h2 : i ≠ j := fun e => h (e ▸ h1)
      simp [del, find, h1, ih, h.symm]
    · by_cases h2 : i = j <;> simp [del, find, h1, h2, ih]
      simp [find, h]

theorem find_put_self (k : Nat) (v : α) (l : List (Nat × α)) : find k (put k v l) = some v := by
  induction l with
  | nil => simp [put, find]
  | cons x t ih =>
    obtain ⟨j, w⟩ := x
    by_cases h1 : k < j
    · simp [put, find, h1]
    · by_cases h2 : k = j
      · simp [put, find, h2]
      · simp [put, find, h1, h2, ih, Ne.symm h2]

theorem find_put_ne {k j : Nat} (h : j ≠ k) (v : α) (l : List (Nat × α)) : find j (put k v l) = find j l := by
  induction l with
  | nil => simp [put, find, h.symm]
  | cons x t ih =>
    obtain ⟨i, w⟩ := x
    by_cases h1 : k < i
    · simp [put, find, h1, h.symm]
    · by_cases h2 : k = i
      · subst h2; simp [put, find, h.symm]
      · simp only [put, h1, h2, if_false, find, ih]

/-- A read of the key just written. -/
@[simp] theorem get_set_self [DecidableEq α] (d : α) (k : Nat) (v : α) (l : List (Nat × α)) : get d k (set d k v l) = v := by
  by_cases h : v = d
  · simp [set, get, h, find_del_self]
  · simp [set, get, h, find_put_self]

/-- A read of another key. The default of the read need not be that of the write. -/
theorem get_set_ne [DecidableEq α] {d e : α} {k j : Nat} (h : j ≠ k) (v : α) (l : List (Nat × α)) :
    get e j (set d k v l) = get e j l := by
  by_cases hv : v = d
  · simp [set, get, hv, find_del_ne h]
  · simp [set, get, hv, find_put_ne h]

@[simp] theorem get_nil (d : α) (k : Nat) : get d k [] = d := rfl

/-! ### The canonical form -/

theorem rising_mono {a : Nat} {b : Option Nat} (l : List (Nat × α)) (h : rising (some a) l = true)
    (hb : ∀ c, b = some c → c ≤ a) : rising b l = true := by
  cases l with
  | nil => rfl
  | cons x t =>
    obtain ⟨k, v⟩ := x
    simp only [rising, Bool.and_eq_true, decide_eq_true_eq] at h
    cases b with
    | none => exact h.2
    | some c =>
      simp only [rising, Bool.and_eq_true, decide_eq_true_eq]
      exact ⟨Nat.lt_of_le_of_lt (hb c rfl) h.1, h.2⟩

theorem rising_tail {b : Option Nat} {x : Nat × α} {t : List (Nat × α)} (h : rising b (x :: t) = true) :
    rising (some x.1) t = true := by
  obtain ⟨k, v⟩ := x
  cases b with
  | none => exact h
  | some c => simp only [rising, Bool.and_eq_true] at h; exact h.2

theorem rising_head {b : Option Nat} {x : Nat × α} {t : List (Nat × α)} (h : rising b (x :: t) = true) (c : Nat) (hc : b = some c) :
    c < x.1 := by
  obtain ⟨k, v⟩ := x
  subst hc
  simp only [rising, Bool.and_eq_true, decide_eq_true_eq] at h
  exact h.1

theorem rising_cons {b : Option Nat} {x : Nat × α} {t : List (Nat × α)} (h : rising (some x.1) t = true)
    (hb : ∀ c, b = some c → c < x.1) : rising b (x :: t) = true := by
  obtain ⟨k, v⟩ := x
  cases b with
  | none => exact h
  | some c => simp only [rising, Bool.and_eq_true, decide_eq_true_eq]; exact ⟨hb c rfl, h⟩

/-- Entries left out keep the keys rising. -/
theorem rising_filter (p : Nat × α → Bool) (l : List (Nat × α)) : ∀ b, rising b l = true → rising b (l.filter p) = true := by
  induction l with
  | nil => intro b _; cases b <;> rfl
  | cons x t ih =>
    intro b h
    have ht := rising_tail h
    by_cases hp : p x = true
    · rw [List.filter_cons_of_pos hp]
      exact rising_cons (ih _ ht) (rising_head h)
    · rw [List.filter_cons_of_neg hp]
      exact rising_mono _ (ih _ ht) (fun c hc => Nat.le_of_lt (rising_head h c hc))

theorem rising_put (k : Nat) (v : α) (l : List (Nat × α)) :
    ∀ b, rising b l = true → (∀ c, b = some c → c < k) → rising b (put k v l) = true := by
  induction l with
  | nil => intro b _ hb; exact rising_cons (by rfl) hb
  | cons x t ih =>
    intro b h hb
    obtain ⟨j, w⟩ := x
    by_cases h1 : k < j
    · simp only [put, h1, if_true]
      exact rising_cons (rising_cons (rising_tail h) (by intro c hc; cases hc; exact h1)) hb
    · by_cases h2 : k = j
      · subst h2
        simp only [put, Nat.lt_irrefl, if_true, if_false]
        exact rising_cons (x := (k, v)) (rising_tail (x := (k, w)) h) hb
      · simp only [put, h1, h2, if_false]
        exact rising_cons (ih _ (rising_tail h) (by intro c hc; cases hc; omega)) (rising_head h)

theorem del_eq_filter (k : Nat) (l : List (Nat × α)) : del k l = l.filter (fun x => x.1 != k) := by
  induction l with
  | nil => rfl
  | cons x t ih =>
    obtain ⟨j, v⟩ := x
    by_cases h : j = k <;> simp [del, h, ih]

theorem mem_put {k : Nat} {v : α} {l : List (Nat × α)} {x : Nat × α} (h : x ∈ put k v l) : x = (k, v) ∨ x ∈ l := by
  induction l with
  | nil => simp [put] at h; exact .inl h
  | cons y t ih =>
    obtain ⟨j, w⟩ := y
    by_cases h1 : k < j
    · simp [put, h1] at h ⊢; exact h
    · by_cases h2 : k = j
      · simp [put, h2] at h ⊢; rcases h with h | h
        · exact .inl h
        · exact .inr (.inr h)
      · simp [put, h1, h2] at h ⊢
        rcases h with h | h
        · exact .inr (.inl h)
        · rcases ih h with h | h
          · exact .inl h
          · exact .inr (.inr h)

/-- Entries left out keep the canonical form. -/
theorem wf_filter [DecidableEq α] {d : α} {l : List (Nat × α)} (p : Nat × α → Bool) (h : wf d l = true) :
    wf d (l.filter p) = true := by
  simp only [wf, Bool.and_eq_true, List.all_eq_true] at h ⊢
  exact ⟨rising_filter p l none h.1, fun x hx => h.2 x (List.mem_filter.mp hx).1⟩

/-- A write keeps the canonical form. -/
theorem wf_set [DecidableEq α] {d : α} {l : List (Nat × α)} (k : Nat) (v : α) (h : wf d l = true) : wf d (set d k v l) = true := by
  by_cases hv : v = d
  · simp only [set, hv, if_true, del_eq_filter]
    exact wf_filter _ h
  · simp only [set, hv, if_false]
    simp only [wf, Bool.and_eq_true, List.all_eq_true] at h ⊢
    refine ⟨rising_put k v l none h.1 (by intro c hc; cases hc), fun x hx => ?_⟩
    rcases mem_put hx with e | hx
    · subst e; simpa using hv
    · exact h.2 x hx

end Sys2Proof.Machine.Sparse
end

