-- ==== Sys2Proof/Laws/Memory.lean ====
section
/-!
SUPPORT. The memories: a read after a write, bytes that a write leaves alone, and the canonical form kept by every memory operation and
held at reset.
-/
namespace Sys2Proof.Machine.Memory

@[simp] theorem byte_setByte_self (m : List Host.Cell) (a : Nat) (v : BitVec 8) : byte (setByte m a v) a = v := by
  simp [byte, setByte]

theorem byte_setByte_ne {m : List Host.Cell} {a c : Nat} (v : BitVec 8) (h : c ≠ a) : byte (setByte m a v) c = byte m c := by
  simp [byte, setByte, Sparse.get_set_ne h]

/-- A byte outside the stored ones is as before. -/
theorem byte_setBytes_out (n : Nat) : ∀ (m : List Host.Cell) (a v c : Nat), c < a ∨ a + n ≤ c → byte (setBytes m a v n) c = byte m c := by
  induction n with
  | zero => intros; rfl
  | succ n ih =>
    intro m a v c h
    rw [setBytes, ih _ _ _ _ (by omega), byte_setByte_ne _ (by omega)]

/-- Bytes are read from stored ones alone. -/
theorem bytes_congr (n : Nat) : ∀ (m m' : List Host.Cell) (a : Nat), (∀ c, a ≤ c → c < a + n → byte m c = byte m' c) →
    bytes m a n = bytes m' a n := by
  induction n with
  | zero => intros; rfl
  | succ n ih =>
    intro m m' a h
    rw [bytes, bytes, h a (by omega) (by omega), ih m m' (a + 1) (fun c h1 h2 => h c (by omega) (by omega))]

/-- The bytes just stored read as the value's low bytes. -/
theorem bytes_setBytes (n : Nat) : ∀ (m : List Host.Cell) (a v : Nat), bytes (setBytes m a v n) a n = v % 256 ^ n := by
  induction n with
  | zero => intro m a v; simp [bytes, Nat.mod_one]
  | succ n ih =>
    intro m a v
    rw [bytes, setBytes, ih, byte_setBytes_out _ _ _ _ _ (by omega), byte_setByte_self, BitVec.toNat_ofNat]
    have e : (256 : Nat) ^ (n + 1) = 256 * 256 ^ n := by rw [Nat.pow_succ, Nat.mul_comm]
    rw [e, Nat.mod_mul]

/-- The word just stored. -/
theorem word_setWord (m : List Host.Cell) (r : Ram) (i v : Nat) : word (setWord m r i v) r i = v % 2 ^ 64 := by
  simp [word, setWord, bytes_setBytes]

/-- A byte outside the stored word is as before. -/
theorem byte_setWord_out (m : List Host.Cell) (r : Ram) (i v c : Nat) (h : c < r.base + 8 * i ∨ r.base + 8 * i + 8 ≤ c) :
    byte (setWord m r i v) c = byte m c := byte_setBytes_out 8 m _ v c h

/-- Another word of the same memory is as before. -/
theorem word_setWord_ne (m : List Host.Cell) (r : Ram) (i j v : Nat) (h : j ≠ i) : word (setWord m r i v) r j = word m r j := by
  apply bytes_congr
  intro c h1 h2
  exact byte_setWord_out _ _ _ _ _ (by omega)

/-! ### The canonical form -/

theorem wf_nil : wf [] := rfl

theorem wf_setByte {m : List Host.Cell} (a : Nat) (v : BitVec 8) (h : wf m) : wf (setByte m a v) := Sparse.wf_set a v h

theorem wf_setBytes (n : Nat) : ∀ (m : List Host.Cell) (a v : Nat), wf m → wf (setBytes m a v n) := by
  induction n with
  | zero => intro m a v h; exact h
  | succ n ih => intro m a v h; exact ih _ _ _ (wf_setByte _ _ h)

theorem wf_setWord {m : List Host.Cell} (r : Ram) (i v : Nat) (h : wf m) : wf (setWord m r i v) := wf_setBytes 8 _ _ _ h

theorem wf_setWords (r : Ram) (vs : List Nat) : ∀ (m : List Host.Cell) (i : Nat), wf m → wf (setWords m r i vs) := by
  induction vs with
  | nil => intro m i h; exact h
  | cons v t ih => intro m i h; exact ih _ _ (wf_setWord _ _ _ h)

theorem wf_zeroBytes {m : List Host.Cell} (a e : Nat) (h : wf m) : wf (zeroBytes m a e) := Sparse.wf_filter _ h

theorem wf_zeroPage {m : List Host.Cell} (p : Nat) (h : wf m) : wf (zeroPage m p) := wf_zeroBytes _ _ h

/-- A fold of operations each of which keeps the form. -/
theorem wf_foldl {β : Type} (f : List Host.Cell → β → List Host.Cell) (hf : ∀ m x, wf m → wf (f m x)) (l : List β) :
    ∀ m, wf m → wf (l.foldl f m) := by
  induction l with
  | nil => intro m h; exact h
  | cons x t ih => intro m h; exact ih _ (hf _ _ h)

theorem wf_zeroPages (ps : List Nat) {m : List Host.Cell} (h : wf m) : wf (ps.foldl zeroPage m) :=
  wf_foldl _ (fun _ _ h => wf_zeroPage _ h) ps m h

theorem wf_setPageWord {m : List Host.Cell} (p w v : Nat) (h : wf m) : wf (setPageWord m p w v) := wf_setWord _ _ _ h

theorem wf_setDictWord {m : List Host.Cell} (f i v : Nat) (h : wf m) : wf (setDictWord m f i v) := wf_setWord _ _ _ h

theorem wf_copyBytes {m : List Host.Cell} (src dst size : Nat) (h : wf m) : wf (copyBytes m src dst size) :=
  wf_foldl _ (fun _ _ h => wf_setByte _ _ h) _ _ (wf_zeroBytes _ _ h)

theorem wf_reset : wf State.reset.mem := rfl

end Sys2Proof.Machine.Memory
end

