-- ==== Sys2Proof/Laws/State.lean ====
section
/-!
SUPPORT. One lemma per field and update of the state: what an update leaves alone is as before, and what it sets reads back.
-/
namespace Sys2Proof.Machine

@[simp] theorem State.on_blk (s : State) (f : Block → Block) : (s.on f).blk = f s.blk := rfl
@[simp] theorem State.on_mem (s : State) (f : Block → Block) : (s.on f).mem = s.mem := rfl
@[simp] theorem State.on_pending (s : State) (f : Block → Block) : (s.on f).pending = s.pending := rfl
@[simp] theorem State.on_on (s : State) (f g : Block → Block) : (s.on f).on g = s.on (fun b => g (f b)) := rfl

namespace Block

/-! ### Registers -/

/-- A field just set reads as the value cut to its width. -/
@[simp] theorem get_set_self (b : Block) (base : Nat) (F : Fld) (v : Nat) : (b.set base F v).get base F = v % 2 ^ F.w := by
  simp [get, set]

/-- A field with another key reads as before. -/
theorem get_set_ne (b : Block) {base base' : Nat} {F F' : Fld} (v : Nat) (h : fkey base' F' ≠ fkey base F) :
    (b.set base F v).get base' F' = b.get base' F' := Sparse.get_set_ne h _ _

/-- A shadow value just set. -/
@[simp] theorem getSh_setSh_self (b : Block) (base : Nat) (F : Fld) (v : Nat) : (b.setSh base F v).getSh base F = v % 2 ^ F.w := by
  simp [getSh, setSh]

/-- Another shadow value is as before. -/
theorem getSh_setSh_ne (b : Block) {base base' : Nat} {F F' : Fld} (v : Nat) (h : fkey base' F' ≠ fkey base F) :
    (b.setSh base F v).getSh base' F' = b.getSh base' F' := Sparse.get_set_ne h _ _

@[simp] theorem get_setSh (b : Block) (base base' : Nat) (F F' : Fld) (v : Nat) : (b.setSh base F v).get base' F' = b.get base' F' := rfl
@[simp] theorem getSh_set (b : Block) (base base' : Nat) (F F' : Fld) (v : Nat) : (b.set base F v).getSh base' F' = b.getSh base' F' := rfl

@[simp] theorem set_shadow (b : Block) (base : Nat) (F : Fld) (v : Nat) : (b.set base F v).shadow = b.shadow := rfl
@[simp] theorem set_tags (b : Block) (base : Nat) (F : Fld) (v : Nat) : (b.set base F v).tags = b.tags := rfl
@[simp] theorem set_time (b : Block) (base : Nat) (F : Fld) (v : Nat) : (b.set base F v).time = b.time := rfl
@[simp] theorem set_steps (b : Block) (base : Nat) (F : Fld) (v : Nat) : (b.set base F v).steps = b.steps := rfl
@[simp] theorem set_bwork (b : Block) (base : Nat) (F : Fld) (v : Nat) : (b.set base F v).bwork = b.bwork := rfl
@[simp] theorem set_slices (b : Block) (base : Nat) (F : Fld) (v : Nat) : (b.set base F v).slices = b.slices := rfl
@[simp] theorem set_wms (b : Block) (base : Nat) (F : Fld) (v : Nat) : (b.set base F v).wms = b.wms := rfl
@[simp] theorem set_gens (b : Block) (base : Nat) (F : Fld) (v : Nat) : (b.set base F v).gens = b.gens := rfl
@[simp] theorem set_tias (b : Block) (base : Nat) (F : Fld) (v : Nat) : (b.set base F v).tias = b.tias := rfl
@[simp] theorem set_dpss (b : Block) (base : Nat) (F : Fld) (v : Nat) : (b.set base F v).dpss = b.dpss := rfl
@[simp] theorem set_rbs (b : Block) (base : Nat) (F : Fld) (v : Nat) : (b.set base F v).rbs = b.rbs := rfl
@[simp] theorem set_touched (b : Block) (base : Nat) (F : Fld) (v : Nat) : (b.set base F v).touched = b.touched := rfl
@[simp] theorem set_substs (b : Block) (base : Nat) (F : Fld) (v : Nat) : (b.set base F v).substs = b.substs := rfl
@[simp] theorem set_buses (b : Block) (base : Nat) (F : Fld) (v : Nat) : (b.set base F v).buses = b.buses := rfl
@[simp] theorem set_ddss (b : Block) (base : Nat) (F : Fld) (v : Nat) : (b.set base F v).ddss = b.ddss := rfl
@[simp] theorem set_digs (b : Block) (base : Nat) (F : Fld) (v : Nat) : (b.set base F v).digs = b.digs := rfl
@[simp] theorem set_caps (b : Block) (base : Nat) (F : Fld) (v : Nat) : (b.set base F v).caps = b.caps := rfl
@[simp] theorem set_seqs (b : Block) (base : Nat) (F : Fld) (v : Nat) : (b.set base F v).seqs = b.seqs := rfl
@[simp] theorem set_sows (b : Block) (base : Nat) (F : Fld) (v : Nat) : (b.set base F v).sows = b.sows := rfl
@[simp] theorem set_tss (b : Block) (base : Nat) (F : Fld) (v : Nat) : (b.set base F v).tss = b.tss := rfl
@[simp] theorem set_chains (b : Block) (base : Nat) (F : Fld) (v : Nat) : (b.set base F v).chains = b.chains := rfl
@[simp] theorem set_hbm (b : Block) (base : Nat) (F : Fld) (v : Nat) : (b.set base F v).hbm = b.hbm := rfl
@[simp] theorem set_res (b : Block) (base : Nat) (F : Fld) (v : Nat) : (b.set base F v).res = b.res := rfl
@[simp] theorem set_flt (b : Block) (base : Nat) (F : Fld) (v : Nat) : (b.set base F v).flt = b.flt := rfl
@[simp] theorem set_sync (b : Block) (base : Nat) (F : Fld) (v : Nat) : (b.set base F v).sync = b.sync := rfl
@[simp] theorem set_ptp (b : Block) (base : Nat) (F : Fld) (v : Nat) : (b.set base F v).ptp = b.ptp := rfl
@[simp] theorem set_host (b : Block) (base : Nat) (F : Fld) (v : Nat) : (b.set base F v).host = b.host := rfl
@[simp] theorem set_cal (b : Block) (base : Nat) (F : Fld) (v : Nat) : (b.set base F v).cal = b.cal := rfl
@[simp] theorem set_uc (b : Block) (base : Nat) (F : Fld) (v : Nat) : (b.set base F v).uc = b.uc := rfl
@[simp] theorem set_kr (b : Block) (base : Nat) (F : Fld) (v : Nat) : (b.set base F v).kr = b.kr := rfl
@[simp] theorem set_flash (b : Block) (base : Nat) (F : Fld) (v : Nat) : (b.set base F v).flash = b.flash := rfl
@[simp] theorem set_keeper (b : Block) (base : Nat) (F : Fld) (v : Nat) : (b.set base F v).keeper = b.keeper := rfl
@[simp] theorem setSh_regs (b : Block) (base : Nat) (F : Fld) (v : Nat) : (b.setSh base F v).regs = b.regs := rfl
@[simp] theorem setSh_tags (b : Block) (base : Nat) (F : Fld) (v : Nat) : (b.setSh base F v).tags = b.tags := rfl
@[simp] theorem setSh_time (b : Block) (base : Nat) (F : Fld) (v : Nat) : (b.setSh base F v).time = b.time := rfl
@[simp] theorem setSh_steps (b : Block) (base : Nat) (F : Fld) (v : Nat) : (b.setSh base F v).steps = b.steps := rfl
@[simp] theorem setSh_bwork (b : Block) (base : Nat) (F : Fld) (v : Nat) : (b.setSh base F v).bwork = b.bwork := rfl
@[simp] theorem setSh_slices (b : Block) (base : Nat) (F : Fld) (v : Nat) : (b.setSh base F v).slices = b.slices := rfl
@[simp] theorem setSh_wms (b : Block) (base : Nat) (F : Fld) (v : Nat) : (b.setSh base F v).wms = b.wms := rfl
@[simp] theorem setSh_gens (b : Block) (base : Nat) (F : Fld) (v : Nat) : (b.setSh base F v).gens = b.gens := rfl
@[simp] theorem setSh_tias (b : Block) (base : Nat) (F : Fld) (v : Nat) : (b.setSh base F v).tias = b.tias := rfl
@[simp] theorem setSh_dpss (b : Block) (base : Nat) (F : Fld) (v : Nat) : (b.setSh base F v).dpss = b.dpss := rfl
@[simp] theorem setSh_rbs (b : Block) (base : Nat) (F : Fld) (v : Nat) : (b.setSh base F v).rbs = b.rbs := rfl
@[simp] theorem setSh_touched (b : Block) (base : Nat) (F : Fld) (v : Nat) : (b.setSh base F v).touched = b.touched := rfl
@[simp] theorem setSh_substs (b : Block) (base : Nat) (F : Fld) (v : Nat) : (b.setSh base F v).substs = b.substs := rfl
@[simp] theorem setSh_buses (b : Block) (base : Nat) (F : Fld) (v : Nat) : (b.setSh base F v).buses = b.buses := rfl
@[simp] theorem setSh_ddss (b : Block) (base : Nat) (F : Fld) (v : Nat) : (b.setSh base F v).ddss = b.ddss := rfl
@[simp] theorem setSh_digs (b : Block) (base : Nat) (F : Fld) (v : Nat) : (b.setSh base F v).digs = b.digs := rfl
@[simp] theorem setSh_caps (b : Block) (base : Nat) (F : Fld) (v : Nat) : (b.setSh base F v).caps = b.caps := rfl
@[simp] theorem setSh_seqs (b : Block) (base : Nat) (F : Fld) (v : Nat) : (b.setSh base F v).seqs = b.seqs := rfl
@[simp] theorem setSh_sows (b : Block) (base : Nat) (F : Fld) (v : Nat) : (b.setSh base F v).sows = b.sows := rfl
@[simp] theorem setSh_tss (b : Block) (base : Nat) (F : Fld) (v : Nat) : (b.setSh base F v).tss = b.tss := rfl
@[simp] theorem setSh_chains (b : Block) (base : Nat) (F : Fld) (v : Nat) : (b.setSh base F v).chains = b.chains := rfl
@[simp] theorem setSh_hbm (b : Block) (base : Nat) (F : Fld) (v : Nat) : (b.setSh base F v).hbm = b.hbm := rfl
@[simp] theorem setSh_res (b : Block) (base : Nat) (F : Fld) (v : Nat) : (b.setSh base F v).res = b.res := rfl
@[simp] theorem setSh_flt (b : Block) (base : Nat) (F : Fld) (v : Nat) : (b.setSh base F v).flt = b.flt := rfl
@[simp] theorem setSh_sync (b : Block) (base : Nat) (F : Fld) (v : Nat) : (b.setSh base F v).sync = b.sync := rfl
@[simp] theorem setSh_ptp (b : Block) (base : Nat) (F : Fld) (v : Nat) : (b.setSh base F v).ptp = b.ptp := rfl
@[simp] theorem setSh_host (b : Block) (base : Nat) (F : Fld) (v : Nat) : (b.setSh base F v).host = b.host := rfl
@[simp] theorem setSh_cal (b : Block) (base : Nat) (F : Fld) (v : Nat) : (b.setSh base F v).cal = b.cal := rfl
@[simp] theorem setSh_uc (b : Block) (base : Nat) (F : Fld) (v : Nat) : (b.setSh base F v).uc = b.uc := rfl
@[simp] theorem setSh_kr (b : Block) (base : Nat) (F : Fld) (v : Nat) : (b.setSh base F v).kr = b.kr := rfl
@[simp] theorem setSh_flash (b : Block) (base : Nat) (F : Fld) (v : Nat) : (b.setSh base F v).flash = b.flash := rfl
@[simp] theorem setSh_keeper (b : Block) (base : Nat) (F : Fld) (v : Nat) : (b.setSh base F v).keeper = b.keeper := rfl

/-! ### Engines -/

@[simp] theorem slc_updSlc_self (b : Block) (i : Nat) (h : SliceSt → SliceSt) : (b.updSlc i h).slc i = h (b.slc i) := by simp [slc, updSlc]
theorem slc_updSlc_ne (b : Block) {i j : Nat} (h : SliceSt → SliceSt) (ne : j ≠ i) : (b.updSlc i h).slc j = b.slc j := Sparse.get_set_ne ne _ _
@[simp] theorem get_updSlc (b : Block) (i base : Nat) (F : Fld) (h : SliceSt → SliceSt) : (b.updSlc i h).get base F = b.get base F := rfl
@[simp] theorem updSlc_regs (b : Block) (i : Nat) (h : SliceSt → SliceSt) : (b.updSlc i h).regs = b.regs := rfl
@[simp] theorem updSlc_shadow (b : Block) (i : Nat) (h : SliceSt → SliceSt) : (b.updSlc i h).shadow = b.shadow := rfl
@[simp] theorem updSlc_tags (b : Block) (i : Nat) (h : SliceSt → SliceSt) : (b.updSlc i h).tags = b.tags := rfl
@[simp] theorem updSlc_time (b : Block) (i : Nat) (h : SliceSt → SliceSt) : (b.updSlc i h).time = b.time := rfl
@[simp] theorem updSlc_steps (b : Block) (i : Nat) (h : SliceSt → SliceSt) : (b.updSlc i h).steps = b.steps := rfl
@[simp] theorem updSlc_wms (b : Block) (i : Nat) (h : SliceSt → SliceSt) : (b.updSlc i h).wms = b.wms := rfl
@[simp] theorem updSlc_gens (b : Block) (i : Nat) (h : SliceSt → SliceSt) : (b.updSlc i h).gens = b.gens := rfl
@[simp] theorem updSlc_tias (b : Block) (i : Nat) (h : SliceSt → SliceSt) : (b.updSlc i h).tias = b.tias := rfl
@[simp] theorem updSlc_dpss (b : Block) (i : Nat) (h : SliceSt → SliceSt) : (b.updSlc i h).dpss = b.dpss := rfl
@[simp] theorem updSlc_rbs (b : Block) (i : Nat) (h : SliceSt → SliceSt) : (b.updSlc i h).rbs = b.rbs := rfl
@[simp] theorem updSlc_ddss (b : Block) (i : Nat) (h : SliceSt → SliceSt) : (b.updSlc i h).ddss = b.ddss := rfl
@[simp] theorem updSlc_digs (b : Block) (i : Nat) (h : SliceSt → SliceSt) : (b.updSlc i h).digs = b.digs := rfl
@[simp] theorem updSlc_caps (b : Block) (i : Nat) (h : SliceSt → SliceSt) : (b.updSlc i h).caps = b.caps := rfl
@[simp] theorem updSlc_seqs (b : Block) (i : Nat) (h : SliceSt → SliceSt) : (b.updSlc i h).seqs = b.seqs := rfl
@[simp] theorem updSlc_hbm (b : Block) (i : Nat) (h : SliceSt → SliceSt) : (b.updSlc i h).hbm = b.hbm := rfl
@[simp] theorem updSlc_res (b : Block) (i : Nat) (h : SliceSt → SliceSt) : (b.updSlc i h).res = b.res := rfl
@[simp] theorem updSlc_flt (b : Block) (i : Nat) (h : SliceSt → SliceSt) : (b.updSlc i h).flt = b.flt := rfl
@[simp] theorem updSlc_sync (b : Block) (i : Nat) (h : SliceSt → SliceSt) : (b.updSlc i h).sync = b.sync := rfl
@[simp] theorem updSlc_host (b : Block) (i : Nat) (h : SliceSt → SliceSt) : (b.updSlc i h).host = b.host := rfl
@[simp] theorem updSlc_kr (b : Block) (i : Nat) (h : SliceSt → SliceSt) : (b.updSlc i h).kr = b.kr := rfl
@[simp] theorem updSlc_keeper (b : Block) (i : Nat) (h : SliceSt → SliceSt) : (b.updSlc i h).keeper = b.keeper := rfl
@[simp] theorem wm_updWm_self (b : Block) (i : Nat) (h : WmSt → WmSt) : (b.updWm i h).wm i = h (b.wm i) := by simp [wm, updWm]
theorem wm_updWm_ne (b : Block) {i j : Nat} (h : WmSt → WmSt) (ne : j ≠ i) : (b.updWm i h).wm j = b.wm j := Sparse.get_set_ne ne _ _
@[simp] theorem get_updWm (b : Block) (i base : Nat) (F : Fld) (h : WmSt → WmSt) : (b.updWm i h).get base F = b.get base F := rfl
@[simp] theorem updWm_regs (b : Block) (i : Nat) (h : WmSt → WmSt) : (b.updWm i h).regs = b.regs := rfl
@[simp] theorem updWm_shadow (b : Block) (i : Nat) (h : WmSt → WmSt) : (b.updWm i h).shadow = b.shadow := rfl
@[simp] theorem updWm_tags (b : Block) (i : Nat) (h : WmSt → WmSt) : (b.updWm i h).tags = b.tags := rfl
@[simp] theorem updWm_time (b : Block) (i : Nat) (h : WmSt → WmSt) : (b.updWm i h).time = b.time := rfl
@[simp] theorem updWm_steps (b : Block) (i : Nat) (h : WmSt → WmSt) : (b.updWm i h).steps = b.steps := rfl
@[simp] theorem updWm_slices (b : Block) (i : Nat) (h : WmSt → WmSt) : (b.updWm i h).slices = b.slices := rfl
@[simp] theorem updWm_gens (b : Block) (i : Nat) (h : WmSt → WmSt) : (b.updWm i h).gens = b.gens := rfl
@[simp] theorem updWm_tias (b : Block) (i : Nat) (h : WmSt → WmSt) : (b.updWm i h).tias = b.tias := rfl
@[simp] theorem updWm_dpss (b : Block) (i : Nat) (h : WmSt → WmSt) : (b.updWm i h).dpss = b.dpss := rfl
@[simp] theorem updWm_rbs (b : Block) (i : Nat) (h : WmSt → WmSt) : (b.updWm i h).rbs = b.rbs := rfl
@[simp] theorem updWm_ddss (b : Block) (i : Nat) (h : WmSt → WmSt) : (b.updWm i h).ddss = b.ddss := rfl
@[simp] theorem updWm_digs (b : Block) (i : Nat) (h : WmSt → WmSt) : (b.updWm i h).digs = b.digs := rfl
@[simp] theorem updWm_caps (b : Block) (i : Nat) (h : WmSt → WmSt) : (b.updWm i h).caps = b.caps := rfl
@[simp] theorem updWm_seqs (b : Block) (i : Nat) (h : WmSt → WmSt) : (b.updWm i h).seqs = b.seqs := rfl
@[simp] theorem updWm_hbm (b : Block) (i : Nat) (h : WmSt → WmSt) : (b.updWm i h).hbm = b.hbm := rfl
@[simp] theorem updWm_res (b : Block) (i : Nat) (h : WmSt → WmSt) : (b.updWm i h).res = b.res := rfl
@[simp] theorem updWm_flt (b : Block) (i : Nat) (h : WmSt → WmSt) : (b.updWm i h).flt = b.flt := rfl
@[simp] theorem updWm_sync (b : Block) (i : Nat) (h : WmSt → WmSt) : (b.updWm i h).sync = b.sync := rfl
@[simp] theorem updWm_host (b : Block) (i : Nat) (h : WmSt → WmSt) : (b.updWm i h).host = b.host := rfl
@[simp] theorem updWm_kr (b : Block) (i : Nat) (h : WmSt → WmSt) : (b.updWm i h).kr = b.kr := rfl
@[simp] theorem updWm_keeper (b : Block) (i : Nat) (h : WmSt → WmSt) : (b.updWm i h).keeper = b.keeper := rfl
@[simp] theorem gen_updGen_self (b : Block) (i : Nat) (h : GenSt → GenSt) : (b.updGen i h).gen i = h (b.gen i) := by simp [gen, updGen]
theorem gen_updGen_ne (b : Block) {i j : Nat} (h : GenSt → GenSt) (ne : j ≠ i) : (b.updGen i h).gen j = b.gen j := Sparse.get_set_ne ne _ _
@[simp] theorem get_updGen (b : Block) (i base : Nat) (F : Fld) (h : GenSt → GenSt) : (b.updGen i h).get base F = b.get base F := rfl
@[simp] theorem updGen_regs (b : Block) (i : Nat) (h : GenSt → GenSt) : (b.updGen i h).regs = b.regs := rfl
@[simp] theorem updGen_shadow (b : Block) (i : Nat) (h : GenSt → GenSt) : (b.updGen i h).shadow = b.shadow := rfl
@[simp] theorem updGen_tags (b : Block) (i : Nat) (h : GenSt → GenSt) : (b.updGen i h).tags = b.tags := rfl
@[simp] theorem updGen_time (b : Block) (i : Nat) (h : GenSt → GenSt) : (b.updGen i h).time = b.time := rfl
@[simp] theorem updGen_steps (b : Block) (i : Nat) (h : GenSt → GenSt) : (b.updGen i h).steps = b.steps := rfl
@[simp] theorem updGen_slices (b : Block) (i : Nat) (h : GenSt → GenSt) : (b.updGen i h).slices = b.slices := rfl
@[simp] theorem updGen_wms (b : Block) (i : Nat) (h : GenSt → GenSt) : (b.updGen i h).wms = b.wms := rfl
@[simp] theorem updGen_tias (b : Block) (i : Nat) (h : GenSt → GenSt) : (b.updGen i h).tias = b.tias := rfl
@[simp] theorem updGen_dpss (b : Block) (i : Nat) (h : GenSt → GenSt) : (b.updGen i h).dpss = b.dpss := rfl
@[simp] theorem updGen_rbs (b : Block) (i : Nat) (h : GenSt → GenSt) : (b.updGen i h).rbs = b.rbs := rfl
@[simp] theorem updGen_ddss (b : Block) (i : Nat) (h : GenSt → GenSt) : (b.updGen i h).ddss = b.ddss := rfl
@[simp] theorem updGen_digs (b : Block) (i : Nat) (h : GenSt → GenSt) : (b.updGen i h).digs = b.digs := rfl
@[simp] theorem updGen_caps (b : Block) (i : Nat) (h : GenSt → GenSt) : (b.updGen i h).caps = b.caps := rfl
@[simp] theorem updGen_seqs (b : Block) (i : Nat) (h : GenSt → GenSt) : (b.updGen i h).seqs = b.seqs := rfl
@[simp] theorem updGen_hbm (b : Block) (i : Nat) (h : GenSt → GenSt) : (b.updGen i h).hbm = b.hbm := rfl
@[simp] theorem updGen_res (b : Block) (i : Nat) (h : GenSt → GenSt) : (b.updGen i h).res = b.res := rfl
@[simp] theorem updGen_flt (b : Block) (i : Nat) (h : GenSt → GenSt) : (b.updGen i h).flt = b.flt := rfl
@[simp] theorem updGen_sync (b : Block) (i : Nat) (h : GenSt → GenSt) : (b.updGen i h).sync = b.sync := rfl
@[simp] theorem updGen_host (b : Block) (i : Nat) (h : GenSt → GenSt) : (b.updGen i h).host = b.host := rfl
@[simp] theorem updGen_kr (b : Block) (i : Nat) (h : GenSt → GenSt) : (b.updGen i h).kr = b.kr := rfl
@[simp] theorem updGen_keeper (b : Block) (i : Nat) (h : GenSt → GenSt) : (b.updGen i h).keeper = b.keeper := rfl
@[simp] theorem tia_updTia_self (b : Block) (i : Nat) (h : TiaSt → TiaSt) : (b.updTia i h).tia i = h (b.tia i) := by simp [tia, updTia]
theorem tia_updTia_ne (b : Block) {i j : Nat} (h : TiaSt → TiaSt) (ne : j ≠ i) : (b.updTia i h).tia j = b.tia j := Sparse.get_set_ne ne _ _
@[simp] theorem get_updTia (b : Block) (i base : Nat) (F : Fld) (h : TiaSt → TiaSt) : (b.updTia i h).get base F = b.get base F := rfl
@[simp] theorem updTia_regs (b : Block) (i : Nat) (h : TiaSt → TiaSt) : (b.updTia i h).regs = b.regs := rfl
@[simp] theorem updTia_shadow (b : Block) (i : Nat) (h : TiaSt → TiaSt) : (b.updTia i h).shadow = b.shadow := rfl
@[simp] theorem updTia_tags (b : Block) (i : Nat) (h : TiaSt → TiaSt) : (b.updTia i h).tags = b.tags := rfl
@[simp] theorem updTia_time (b : Block) (i : Nat) (h : TiaSt → TiaSt) : (b.updTia i h).time = b.time := rfl
@[simp] theorem updTia_steps (b : Block) (i : Nat) (h : TiaSt → TiaSt) : (b.updTia i h).steps = b.steps := rfl
@[simp] theorem updTia_slices (b : Block) (i : Nat) (h : TiaSt → TiaSt) : (b.updTia i h).slices = b.slices := rfl
@[simp] theorem updTia_wms (b : Block) (i : Nat) (h : TiaSt → TiaSt) : (b.updTia i h).wms = b.wms := rfl
@[simp] theorem updTia_gens (b : Block) (i : Nat) (h : TiaSt → TiaSt) : (b.updTia i h).gens = b.gens := rfl
@[simp] theorem updTia_dpss (b : Block) (i : Nat) (h : TiaSt → TiaSt) : (b.updTia i h).dpss = b.dpss := rfl
@[simp] theorem updTia_rbs (b : Block) (i : Nat) (h : TiaSt → TiaSt) : (b.updTia i h).rbs = b.rbs := rfl
@[simp] theorem updTia_ddss (b : Block) (i : Nat) (h : TiaSt → TiaSt) : (b.updTia i h).ddss = b.ddss := rfl
@[simp] theorem updTia_digs (b : Block) (i : Nat) (h : TiaSt → TiaSt) : (b.updTia i h).digs = b.digs := rfl
@[simp] theorem updTia_caps (b : Block) (i : Nat) (h : TiaSt → TiaSt) : (b.updTia i h).caps = b.caps := rfl
@[simp] theorem updTia_seqs (b : Block) (i : Nat) (h : TiaSt → TiaSt) : (b.updTia i h).seqs = b.seqs := rfl
@[simp] theorem updTia_hbm (b : Block) (i : Nat) (h : TiaSt → TiaSt) : (b.updTia i h).hbm = b.hbm := rfl
@[simp] theorem updTia_res (b : Block) (i : Nat) (h : TiaSt → TiaSt) : (b.updTia i h).res = b.res := rfl
@[simp] theorem updTia_flt (b : Block) (i : Nat) (h : TiaSt → TiaSt) : (b.updTia i h).flt = b.flt := rfl
@[simp] theorem updTia_sync (b : Block) (i : Nat) (h : TiaSt → TiaSt) : (b.updTia i h).sync = b.sync := rfl
@[simp] theorem updTia_host (b : Block) (i : Nat) (h : TiaSt → TiaSt) : (b.updTia i h).host = b.host := rfl
@[simp] theorem updTia_kr (b : Block) (i : Nat) (h : TiaSt → TiaSt) : (b.updTia i h).kr = b.kr := rfl
@[simp] theorem updTia_keeper (b : Block) (i : Nat) (h : TiaSt → TiaSt) : (b.updTia i h).keeper = b.keeper := rfl
@[simp] theorem dps_updDps_self (b : Block) (i : Nat) (h : DpsSt → DpsSt) : (b.updDps i h).dps i = h (b.dps i) := by simp [dps, updDps]
theorem dps_updDps_ne (b : Block) {i j : Nat} (h : DpsSt → DpsSt) (ne : j ≠ i) : (b.updDps i h).dps j = b.dps j := Sparse.get_set_ne ne _ _
@[simp] theorem get_updDps (b : Block) (i base : Nat) (F : Fld) (h : DpsSt → DpsSt) : (b.updDps i h).get base F = b.get base F := rfl
@[simp] theorem updDps_regs (b : Block) (i : Nat) (h : DpsSt → DpsSt) : (b.updDps i h).regs = b.regs := rfl
@[simp] theorem updDps_shadow (b : Block) (i : Nat) (h : DpsSt → DpsSt) : (b.updDps i h).shadow = b.shadow := rfl
@[simp] theorem updDps_tags (b : Block) (i : Nat) (h : DpsSt → DpsSt) : (b.updDps i h).tags = b.tags := rfl
@[simp] theorem updDps_time (b : Block) (i : Nat) (h : DpsSt → DpsSt) : (b.updDps i h).time = b.time := rfl
@[simp] theorem updDps_steps (b : Block) (i : Nat) (h : DpsSt → DpsSt) : (b.updDps i h).steps = b.steps := rfl
@[simp] theorem updDps_slices (b : Block) (i : Nat) (h : DpsSt → DpsSt) : (b.updDps i h).slices = b.slices := rfl
@[simp] theorem updDps_wms (b : Block) (i : Nat) (h : DpsSt → DpsSt) : (b.updDps i h).wms = b.wms := rfl
@[simp] theorem updDps_gens (b : Block) (i : Nat) (h : DpsSt → DpsSt) : (b.updDps i h).gens = b.gens := rfl
@[simp] theorem updDps_tias (b : Block) (i : Nat) (h : DpsSt → DpsSt) : (b.updDps i h).tias = b.tias := rfl
@[simp] theorem updDps_rbs (b : Block) (i : Nat) (h : DpsSt → DpsSt) : (b.updDps i h).rbs = b.rbs := rfl
@[simp] theorem updDps_ddss (b : Block) (i : Nat) (h : DpsSt → DpsSt) : (b.updDps i h).ddss = b.ddss := rfl
@[simp] theorem updDps_digs (b : Block) (i : Nat) (h : DpsSt → DpsSt) : (b.updDps i h).digs = b.digs := rfl
@[simp] theorem updDps_caps (b : Block) (i : Nat) (h : DpsSt → DpsSt) : (b.updDps i h).caps = b.caps := rfl
@[simp] theorem updDps_seqs (b : Block) (i : Nat) (h : DpsSt → DpsSt) : (b.updDps i h).seqs = b.seqs := rfl
@[simp] theorem updDps_hbm (b : Block) (i : Nat) (h : DpsSt → DpsSt) : (b.updDps i h).hbm = b.hbm := rfl
@[simp] theorem updDps_res (b : Block) (i : Nat) (h : DpsSt → DpsSt) : (b.updDps i h).res = b.res := rfl
@[simp] theorem updDps_flt (b : Block) (i : Nat) (h : DpsSt → DpsSt) : (b.updDps i h).flt = b.flt := rfl
@[simp] theorem updDps_sync (b : Block) (i : Nat) (h : DpsSt → DpsSt) : (b.updDps i h).sync = b.sync := rfl
@[simp] theorem updDps_host (b : Block) (i : Nat) (h : DpsSt → DpsSt) : (b.updDps i h).host = b.host := rfl
@[simp] theorem updDps_kr (b : Block) (i : Nat) (h : DpsSt → DpsSt) : (b.updDps i h).kr = b.kr := rfl
@[simp] theorem updDps_keeper (b : Block) (i : Nat) (h : DpsSt → DpsSt) : (b.updDps i h).keeper = b.keeper := rfl
@[simp] theorem rb_updRb_self (b : Block) (i : Nat) (h : RbSt → RbSt) : (b.updRb i h).rb i = h (b.rb i) := by simp [rb, updRb]
theorem rb_updRb_ne (b : Block) {i j : Nat} (h : RbSt → RbSt) (ne : j ≠ i) : (b.updRb i h).rb j = b.rb j := Sparse.get_set_ne ne _ _
@[simp] theorem get_updRb (b : Block) (i base : Nat) (F : Fld) (h : RbSt → RbSt) : (b.updRb i h).get base F = b.get base F := rfl
@[simp] theorem updRb_regs (b : Block) (i : Nat) (h : RbSt → RbSt) : (b.updRb i h).regs = b.regs := rfl
@[simp] theorem updRb_shadow (b : Block) (i : Nat) (h : RbSt → RbSt) : (b.updRb i h).shadow = b.shadow := rfl
@[simp] theorem updRb_tags (b : Block) (i : Nat) (h : RbSt → RbSt) : (b.updRb i h).tags = b.tags := rfl
@[simp] theorem updRb_time (b : Block) (i : Nat) (h : RbSt → RbSt) : (b.updRb i h).time = b.time := rfl
@[simp] theorem updRb_steps (b : Block) (i : Nat) (h : RbSt → RbSt) : (b.updRb i h).steps = b.steps := rfl
@[simp] theorem updRb_slices (b : Block) (i : Nat) (h : RbSt → RbSt) : (b.updRb i h).slices = b.slices := rfl
@[simp] theorem updRb_wms (b : Block) (i : Nat) (h : RbSt → RbSt) : (b.updRb i h).wms = b.wms := rfl
@[simp] theorem updRb_gens (b : Block) (i : Nat) (h : RbSt → RbSt) : (b.updRb i h).gens = b.gens := rfl
@[simp] theorem updRb_tias (b : Block) (i : Nat) (h : RbSt → RbSt) : (b.updRb i h).tias = b.tias := rfl
@[simp] theorem updRb_dpss (b : Block) (i : Nat) (h : RbSt → RbSt) : (b.updRb i h).dpss = b.dpss := rfl
@[simp] theorem updRb_ddss (b : Block) (i : Nat) (h : RbSt → RbSt) : (b.updRb i h).ddss = b.ddss := rfl
@[simp] theorem updRb_digs (b : Block) (i : Nat) (h : RbSt → RbSt) : (b.updRb i h).digs = b.digs := rfl
@[simp] theorem updRb_caps (b : Block) (i : Nat) (h : RbSt → RbSt) : (b.updRb i h).caps = b.caps := rfl
@[simp] theorem updRb_seqs (b : Block) (i : Nat) (h : RbSt → RbSt) : (b.updRb i h).seqs = b.seqs := rfl
@[simp] theorem updRb_hbm (b : Block) (i : Nat) (h : RbSt → RbSt) : (b.updRb i h).hbm = b.hbm := rfl
@[simp] theorem updRb_res (b : Block) (i : Nat) (h : RbSt → RbSt) : (b.updRb i h).res = b.res := rfl
@[simp] theorem updRb_flt (b : Block) (i : Nat) (h : RbSt → RbSt) : (b.updRb i h).flt = b.flt := rfl
@[simp] theorem updRb_sync (b : Block) (i : Nat) (h : RbSt → RbSt) : (b.updRb i h).sync = b.sync := rfl
@[simp] theorem updRb_host (b : Block) (i : Nat) (h : RbSt → RbSt) : (b.updRb i h).host = b.host := rfl
@[simp] theorem updRb_kr (b : Block) (i : Nat) (h : RbSt → RbSt) : (b.updRb i h).kr = b.kr := rfl
@[simp] theorem updRb_keeper (b : Block) (i : Nat) (h : RbSt → RbSt) : (b.updRb i h).keeper = b.keeper := rfl
@[simp] theorem dds_updDds_self (b : Block) (i : Nat) (h : DdsSt → DdsSt) : (b.updDds i h).dds i = h (b.dds i) := by simp [dds, updDds]
theorem dds_updDds_ne (b : Block) {i j : Nat} (h : DdsSt → DdsSt) (ne : j ≠ i) : (b.updDds i h).dds j = b.dds j := Sparse.get_set_ne ne _ _
@[simp] theorem get_updDds (b : Block) (i base : Nat) (F : Fld) (h : DdsSt → DdsSt) : (b.updDds i h).get base F = b.get base F := rfl
@[simp] theorem updDds_regs (b : Block) (i : Nat) (h : DdsSt → DdsSt) : (b.updDds i h).regs = b.regs := rfl
@[simp] theorem updDds_shadow (b : Block) (i : Nat) (h : DdsSt → DdsSt) : (b.updDds i h).shadow = b.shadow := rfl
@[simp] theorem updDds_tags (b : Block) (i : Nat) (h : DdsSt → DdsSt) : (b.updDds i h).tags = b.tags := rfl
@[simp] theorem updDds_time (b : Block) (i : Nat) (h : DdsSt → DdsSt) : (b.updDds i h).time = b.time := rfl
@[simp] theorem updDds_steps (b : Block) (i : Nat) (h : DdsSt → DdsSt) : (b.updDds i h).steps = b.steps := rfl
@[simp] theorem updDds_slices (b : Block) (i : Nat) (h : DdsSt → DdsSt) : (b.updDds i h).slices = b.slices := rfl
@[simp] theorem updDds_wms (b : Block) (i : Nat) (h : DdsSt → DdsSt) : (b.updDds i h).wms = b.wms := rfl
@[simp] theorem updDds_gens (b : Block) (i : Nat) (h : DdsSt → DdsSt) : (b.updDds i h).gens = b.gens := rfl
@[simp] theorem updDds_tias (b : Block) (i : Nat) (h : DdsSt → DdsSt) : (b.updDds i h).tias = b.tias := rfl
@[simp] theorem updDds_dpss (b : Block) (i : Nat) (h : DdsSt → DdsSt) : (b.updDds i h).dpss = b.dpss := rfl
@[simp] theorem updDds_rbs (b : Block) (i : Nat) (h : DdsSt → DdsSt) : (b.updDds i h).rbs = b.rbs := rfl
@[simp] theorem updDds_digs (b : Block) (i : Nat) (h : DdsSt → DdsSt) : (b.updDds i h).digs = b.digs := rfl
@[simp] theorem updDds_caps (b : Block) (i : Nat) (h : DdsSt → DdsSt) : (b.updDds i h).caps = b.caps := rfl
@[simp] theorem updDds_seqs (b : Block) (i : Nat) (h : DdsSt → DdsSt) : (b.updDds i h).seqs = b.seqs := rfl
@[simp] theorem updDds_hbm (b : Block) (i : Nat) (h : DdsSt → DdsSt) : (b.updDds i h).hbm = b.hbm := rfl
@[simp] theorem updDds_res (b : Block) (i : Nat) (h : DdsSt → DdsSt) : (b.updDds i h).res = b.res := rfl
@[simp] theorem updDds_flt (b : Block) (i : Nat) (h : DdsSt → DdsSt) : (b.updDds i h).flt = b.flt := rfl
@[simp] theorem updDds_sync (b : Block) (i : Nat) (h : DdsSt → DdsSt) : (b.updDds i h).sync = b.sync := rfl
@[simp] theorem updDds_host (b : Block) (i : Nat) (h : DdsSt → DdsSt) : (b.updDds i h).host = b.host := rfl
@[simp] theorem updDds_kr (b : Block) (i : Nat) (h : DdsSt → DdsSt) : (b.updDds i h).kr = b.kr := rfl
@[simp] theorem updDds_keeper (b : Block) (i : Nat) (h : DdsSt → DdsSt) : (b.updDds i h).keeper = b.keeper := rfl
@[simp] theorem dig_updDig_self (b : Block) (i : Nat) (h : DigSt → DigSt) : (b.updDig i h).dig i = h (b.dig i) := by simp [dig, updDig]
theorem dig_updDig_ne (b : Block) {i j : Nat} (h : DigSt → DigSt) (ne : j ≠ i) : (b.updDig i h).dig j = b.dig j := Sparse.get_set_ne ne _ _
@[simp] theorem get_updDig (b : Block) (i base : Nat) (F : Fld) (h : DigSt → DigSt) : (b.updDig i h).get base F = b.get base F := rfl
@[simp] theorem updDig_regs (b : Block) (i : Nat) (h : DigSt → DigSt) : (b.updDig i h).regs = b.regs := rfl
@[simp] theorem updDig_shadow (b : Block) (i : Nat) (h : DigSt → DigSt) : (b.updDig i h).shadow = b.shadow := rfl
@[simp] theorem updDig_tags (b : Block) (i : Nat) (h : DigSt → DigSt) : (b.updDig i h).tags = b.tags := rfl
@[simp] theorem updDig_time (b : Block) (i : Nat) (h : DigSt → DigSt) : (b.updDig i h).time = b.time := rfl
@[simp] theorem updDig_steps (b : Block) (i : Nat) (h : DigSt → DigSt) : (b.updDig i h).steps = b.steps := rfl
@[simp] theorem updDig_slices (b : Block) (i : Nat) (h : DigSt → DigSt) : (b.updDig i h).slices = b.slices := rfl
@[simp] theorem updDig_wms (b : Block) (i : Nat) (h : DigSt → DigSt) : (b.updDig i h).wms = b.wms := rfl
@[simp] theorem updDig_gens (b : Block) (i : Nat) (h : DigSt → DigSt) : (b.updDig i h).gens = b.gens := rfl
@[simp] theorem updDig_tias (b : Block) (i : Nat) (h : DigSt → DigSt) : (b.updDig i h).tias = b.tias := rfl
@[simp] theorem updDig_dpss (b : Block) (i : Nat) (h : DigSt → DigSt) : (b.updDig i h).dpss = b.dpss := rfl
@[simp] theorem updDig_rbs (b : Block) (i : Nat) (h : DigSt → DigSt) : (b.updDig i h).rbs = b.rbs := rfl
@[simp] theorem updDig_ddss (b : Block) (i : Nat) (h : DigSt → DigSt) : (b.updDig i h).ddss = b.ddss := rfl
@[simp] theorem updDig_caps (b : Block) (i : Nat) (h : DigSt → DigSt) : (b.updDig i h).caps = b.caps := rfl
@[simp] theorem updDig_seqs (b : Block) (i : Nat) (h : DigSt → DigSt) : (b.updDig i h).seqs = b.seqs := rfl
@[simp] theorem updDig_hbm (b : Block) (i : Nat) (h : DigSt → DigSt) : (b.updDig i h).hbm = b.hbm := rfl
@[simp] theorem updDig_res (b : Block) (i : Nat) (h : DigSt → DigSt) : (b.updDig i h).res = b.res := rfl
@[simp] theorem updDig_flt (b : Block) (i : Nat) (h : DigSt → DigSt) : (b.updDig i h).flt = b.flt := rfl
@[simp] theorem updDig_sync (b : Block) (i : Nat) (h : DigSt → DigSt) : (b.updDig i h).sync = b.sync := rfl
@[simp] theorem updDig_host (b : Block) (i : Nat) (h : DigSt → DigSt) : (b.updDig i h).host = b.host := rfl
@[simp] theorem updDig_kr (b : Block) (i : Nat) (h : DigSt → DigSt) : (b.updDig i h).kr = b.kr := rfl
@[simp] theorem updDig_keeper (b : Block) (i : Nat) (h : DigSt → DigSt) : (b.updDig i h).keeper = b.keeper := rfl
@[simp] theorem cap_updCap_self (b : Block) (i : Nat) (h : CapSt → CapSt) : (b.updCap i h).cap i = h (b.cap i) := by simp [cap, updCap]
theorem cap_updCap_ne (b : Block) {i j : Nat} (h : CapSt → CapSt) (ne : j ≠ i) : (b.updCap i h).cap j = b.cap j := Sparse.get_set_ne ne _ _
@[simp] theorem get_updCap (b : Block) (i base : Nat) (F : Fld) (h : CapSt → CapSt) : (b.updCap i h).get base F = b.get base F := rfl
@[simp] theorem updCap_regs (b : Block) (i : Nat) (h : CapSt → CapSt) : (b.updCap i h).regs = b.regs := rfl
@[simp] theorem updCap_shadow (b : Block) (i : Nat) (h : CapSt → CapSt) : (b.updCap i h).shadow = b.shadow := rfl
@[simp] theorem updCap_tags (b : Block) (i : Nat) (h : CapSt → CapSt) : (b.updCap i h).tags = b.tags := rfl
@[simp] theorem updCap_time (b : Block) (i : Nat) (h : CapSt → CapSt) : (b.updCap i h).time = b.time := rfl
@[simp] theorem updCap_steps (b : Block) (i : Nat) (h : CapSt → CapSt) : (b.updCap i h).steps = b.steps := rfl
@[simp] theorem updCap_slices (b : Block) (i : Nat) (h : CapSt → CapSt) : (b.updCap i h).slices = b.slices := rfl
@[simp] theorem updCap_wms (b : Block) (i : Nat) (h : CapSt → CapSt) : (b.updCap i h).wms = b.wms := rfl
@[simp] theorem updCap_gens (b : Block) (i : Nat) (h : CapSt → CapSt) : (b.updCap i h).gens = b.gens := rfl
@[simp] theorem updCap_tias (b : Block) (i : Nat) (h : CapSt → CapSt) : (b.updCap i h).tias = b.tias := rfl
@[simp] theorem updCap_dpss (b : Block) (i : Nat) (h : CapSt → CapSt) : (b.updCap i h).dpss = b.dpss := rfl
@[simp] theorem updCap_rbs (b : Block) (i : Nat) (h : CapSt → CapSt) : (b.updCap i h).rbs = b.rbs := rfl
@[simp] theorem updCap_ddss (b : Block) (i : Nat) (h : CapSt → CapSt) : (b.updCap i h).ddss = b.ddss := rfl
@[simp] theorem updCap_digs (b : Block) (i : Nat) (h : CapSt → CapSt) : (b.updCap i h).digs = b.digs := rfl
@[simp] theorem updCap_seqs (b : Block) (i : Nat) (h : CapSt → CapSt) : (b.updCap i h).seqs = b.seqs := rfl
@[simp] theorem updCap_hbm (b : Block) (i : Nat) (h : CapSt → CapSt) : (b.updCap i h).hbm = b.hbm := rfl
@[simp] theorem updCap_res (b : Block) (i : Nat) (h : CapSt → CapSt) : (b.updCap i h).res = b.res := rfl
@[simp] theorem updCap_flt (b : Block) (i : Nat) (h : CapSt → CapSt) : (b.updCap i h).flt = b.flt := rfl
@[simp] theorem updCap_sync (b : Block) (i : Nat) (h : CapSt → CapSt) : (b.updCap i h).sync = b.sync := rfl
@[simp] theorem updCap_host (b : Block) (i : Nat) (h : CapSt → CapSt) : (b.updCap i h).host = b.host := rfl
@[simp] theorem updCap_kr (b : Block) (i : Nat) (h : CapSt → CapSt) : (b.updCap i h).kr = b.kr := rfl
@[simp] theorem updCap_keeper (b : Block) (i : Nat) (h : CapSt → CapSt) : (b.updCap i h).keeper = b.keeper := rfl
@[simp] theorem seq_updSeq_self (b : Block) (i : Nat) (h : SeqSt → SeqSt) : (b.updSeq i h).seq i = h (b.seq i) := by simp [seq, updSeq]
theorem seq_updSeq_ne (b : Block) {i j : Nat} (h : SeqSt → SeqSt) (ne : j ≠ i) : (b.updSeq i h).seq j = b.seq j := Sparse.get_set_ne ne _ _
@[simp] theorem get_updSeq (b : Block) (i base : Nat) (F : Fld) (h : SeqSt → SeqSt) : (b.updSeq i h).get base F = b.get base F := rfl
@[simp] theorem updSeq_regs (b : Block) (i : Nat) (h : SeqSt → SeqSt) : (b.updSeq i h).regs = b.regs := rfl
@[simp] theorem updSeq_shadow (b : Block) (i : Nat) (h : SeqSt → SeqSt) : (b.updSeq i h).shadow = b.shadow := rfl
@[simp] theorem updSeq_tags (b : Block) (i : Nat) (h : SeqSt → SeqSt) : (b.updSeq i h).tags = b.tags := rfl
@[simp] theorem updSeq_time (b : Block) (i : Nat) (h : SeqSt → SeqSt) : (b.updSeq i h).time = b.time := rfl
@[simp] theorem updSeq_steps (b : Block) (i : Nat) (h : SeqSt → SeqSt) : (b.updSeq i h).steps = b.steps := rfl
@[simp] theorem updSeq_slices (b : Block) (i : Nat) (h : SeqSt → SeqSt) : (b.updSeq i h).slices = b.slices := rfl
@[simp] theorem updSeq_wms (b : Block) (i : Nat) (h : SeqSt → SeqSt) : (b.updSeq i h).wms = b.wms := rfl
@[simp] theorem updSeq_gens (b : Block) (i : Nat) (h : SeqSt → SeqSt) : (b.updSeq i h).gens = b.gens := rfl
@[simp] theorem updSeq_tias (b : Block) (i : Nat) (h : SeqSt → SeqSt) : (b.updSeq i h).tias = b.tias := rfl
@[simp] theorem updSeq_dpss (b : Block) (i : Nat) (h : SeqSt → SeqSt) : (b.updSeq i h).dpss = b.dpss := rfl
@[simp] theorem updSeq_rbs (b : Block) (i : Nat) (h : SeqSt → SeqSt) : (b.updSeq i h).rbs = b.rbs := rfl
@[simp] theorem updSeq_ddss (b : Block) (i : Nat) (h : SeqSt → SeqSt) : (b.updSeq i h).ddss = b.ddss := rfl
@[simp] theorem updSeq_digs (b : Block) (i : Nat) (h : SeqSt → SeqSt) : (b.updSeq i h).digs = b.digs := rfl
@[simp] theorem updSeq_caps (b : Block) (i : Nat) (h : SeqSt → SeqSt) : (b.updSeq i h).caps = b.caps := rfl
@[simp] theorem updSeq_hbm (b : Block) (i : Nat) (h : SeqSt → SeqSt) : (b.updSeq i h).hbm = b.hbm := rfl
@[simp] theorem updSeq_res (b : Block) (i : Nat) (h : SeqSt → SeqSt) : (b.updSeq i h).res = b.res := rfl
@[simp] theorem updSeq_flt (b : Block) (i : Nat) (h : SeqSt → SeqSt) : (b.updSeq i h).flt = b.flt := rfl
@[simp] theorem updSeq_sync (b : Block) (i : Nat) (h : SeqSt → SeqSt) : (b.updSeq i h).sync = b.sync := rfl
@[simp] theorem updSeq_host (b : Block) (i : Nat) (h : SeqSt → SeqSt) : (b.updSeq i h).host = b.host := rfl
@[simp] theorem updSeq_kr (b : Block) (i : Nat) (h : SeqSt → SeqSt) : (b.updSeq i h).kr = b.kr := rfl
@[simp] theorem updSeq_keeper (b : Block) (i : Nat) (h : SeqSt → SeqSt) : (b.updSeq i h).keeper = b.keeper := rfl

end Block
end Sys2Proof.Machine
end

