-- ==== Sys2Proof/Laws/Canonical.lean ====
section
/-!
SUPPORT. Every operation that writes the memories keeps their canonical form and the queue of waiting commands: one lemma for each, which
statements about whole steps cite in place of unfolding a meaning.
-/
namespace Sys2Proof.Machine

/-- `t` has the queue of `s`, and its memories are in canonical form where those of `s` are. -/
def Keeps (s t : State) : Prop := t.pending = s.pending ∧ (Memory.wf s.mem → Memory.wf t.mem)

theorem Keeps.refl (s : State) : Keeps s s := ⟨rfl, id⟩

theorem Keeps.trans {s t u : State} (h : Keeps s t) (k : Keeps t u) : Keeps s u := ⟨k.1.trans h.1, fun w => k.2 (h.2 w)⟩

/-- An operation on the registers and engines alone. -/
theorem keeps_on (s : State) (f : Block → Block) : Keeps s (s.on f) := ⟨rfl, id⟩

/-- The same, written as a record update. -/
theorem keeps_blk (s : State) (b : Block) : Keeps s { s with blk := b } := ⟨rfl, id⟩

theorem keeps_mem (s : State) (b : Block) {m : List Host.Cell} (h : Memory.wf s.mem → Memory.wf m) :
    Keeps s { s with blk := b, mem := m } := ⟨rfl, h⟩

theorem Keeps.on {s t : State} (h : Keeps s t) (f : Block → Block) : Keeps s (t.on f) := h.trans (keeps_on t f)

theorem keeps_foldl {β : Type} (f : State → β → State) (hf : ∀ s x, Keeps s (f s x)) (l : List β) :
    ∀ s, Keeps s (l.foldl f s) := by
  induction l with
  | nil => exact Keeps.refl
  | cons x t ih => intro s; exact (hf s x).trans (ih _)

/-! ### Engines -/

theorem wf_placeWords (ws : List (Nat × Nat)) : ∀ {m : List Host.Cell}, Memory.wf m → Memory.wf (placeWords m ws) := by
  induction ws with
  | nil => exact id
  | cons x t ih => intro m h; exact ih (Memory.wf_setWord _ _ _ h)

theorem keeps_spillWrite (s : State) (f : Nat) : Keeps s (spillWrite s f) := by
  unfold spillWrite
  dsimp only
  split
  · split
    · exact Keeps.refl s
    · exact keeps_on _ _
  · split
    · exact keeps_mem _ _ (wf_placeWords _)
    · split
      · exact Keeps.refl s
      · split
        · exact keeps_mem _ _ (Memory.wf_setWords _ _ _ _)
        · exact keeps_on _ _

theorem keeps_ddsListAccess (s : State) (f : Nat) (w : Option Nat) : Keeps s (ddsListAccess s f w) := by
  unfold ddsListAccess
  dsimp only
  split
  · exact keeps_blk _ _
  · split
    · exact keeps_blk _ _
    · exact keeps_mem _ _ (Memory.wf_setWord _ _ _)

theorem keeps_hbmGrant (s : State) (p bad err : Nat) : Keeps s (hbmGrant s p bad err) := by
  unfold hbmGrant
  dsimp only
  split
  · exact Keeps.refl s
  · split
    · exact keeps_blk _ _
    · split
      · exact keeps_blk _ _
      · split
        · refine keeps_mem _ _ ?_
          split
          · exact Memory.wf_setBytes _ _ _ _
          · exact id
        · split
          · exact keeps_blk _ _
          · exact keeps_blk _ _

theorem keeps_refetchDone (s : State) (n : Nat) (data : List Nat) (ok : Bool) : Keeps s (refetchDone s n data ok) := by
  unfold refetchDone
  dsimp only
  split
  · split
    · split
      · exact keeps_blk _ _
      · exact keeps_blk _ _
    · split
      · exact keeps_mem _ _ (Memory.wf_setWords _ _ _ _)
      · split
        · exact keeps_blk _ _
        · exact Keeps.refl s
  · exact Keeps.refl s

theorem keeps_pageSwitch (s : State) (n : Nat) (bad : List Nat) : Keeps s (pageSwitch s n bad) := by
  unfold pageSwitch
  dsimp only
  split
  · exact keeps_on _ _
  · refine keeps_mem _ _ ?_
    split
    · exact fun h => Memory.wf_foldl _ (fun _ _ h => Memory.wf_setBytes _ _ _ _ h) _ _ h
    · exact id

theorem keeps_chainAppend (s : State) (f w : Nat) : Keeps s (chainAppend s f w) := by
  unfold chainAppend
  dsimp only
  split
  · split
    · exact keeps_mem _ _ (Memory.wf_setPageWord _ _ _)
    · exact keeps_mem _ _ (Memory.wf_setPageWord _ _ _)
  · exact keeps_mem _ _ (Memory.wf_setPageWord _ _ _)

theorem keeps_chainPad (f n : Nat) : ∀ s, Keeps s (chainPad f n s) := by
  induction n with
  | zero => exact Keeps.refl
  | succ n ih => intro s; exact (keeps_chainAppend s f 0).trans (ih _)

theorem keeps_stampFlush (s : State) (f : Nat) : Keeps s (stampFlush s f) := by
  unfold stampFlush
  dsimp only
  split
  · exact keeps_chainPad _ _ _
  · exact Keeps.refl s

theorem keeps_stampWrite (s : State) (f : Nat) : Keeps s (stampWrite s f) := by
  have last : ∀ s u : State, Keeps s u → ∀ (b c : Block → Block) w, Keeps s (if u.blk.flag (FLD f) TIA_FSTAT.TRUNC = true then u
      else (chainAppend (u.on b) f w).on c) := by
    intro s u h b c w
    split
    · exact h
    · exact ((h.on b).trans (keeps_chainAppend _ _ _)).on c
  unfold stampWrite
  dsimp only
  split
  · exact Keeps.refl s
  · split
    · split
      · exact Keeps.refl s
      · exact keeps_on _ _
    · split
      · exact Keeps.refl s
      · split
        · exact Keeps.refl s
        · refine last s _ ?_ _ _ _
          split
          · exact (keeps_chainAppend _ _ _).on _
          · exact Keeps.refl s

theorem wf_bytesIf (q : Nat → Bool) (l : List (BitVec 8 × Nat)) (a : Nat) : ∀ m, Memory.wf m →
    Memory.wf (l.foldl (fun m x => if q x.2 = true then Memory.setByte m (a + x.2) x.1 else m) m) := by
  induction l with
  | nil => intro m h; exact h
  | cons x t ih =>
    intro m h
    refine ih _ ?_
    dsimp only
    split
    · exact Memory.wf_setByte _ _ h
    · exact h

theorem keeps_bar2Write (s : State) (a : Nat) (data : List Byte) : Keeps s (bar2Write s a data) := by
  unfold bar2Write
  dsimp only
  split
  · exact Keeps.refl s
  · exact keeps_mem _ _ (wf_bytesIf (fun i => bar2Writable _ ((a + i) / 32768)) data.zipIdx a s.mem)

theorem keeps_bar2Read (s : State) (a n : Nat) : Keeps s (bar2Read s a n) := keeps_blk _ _

theorem keeps_dictAccess (s : State) (f : Nat) (w : Option Nat) : Keeps s (dictAccess s f w) := by
  unfold dictAccess
  dsimp only
  split
  · exact keeps_blk _ _
  · split
    · exact keeps_blk _ _
    · exact keeps_mem _ _ (Memory.wf_setDictWord _ _ _)

theorem keeps_segFreeDone (s : State) (k : Nat) : Keeps s (segFreeDone s k) := by
  unfold segFreeDone
  dsimp only
  split
  · split
    · exact keeps_mem _ _ (Memory.wf_zeroPages _)
    · exact keeps_blk _ _
  · exact Keeps.refl s

theorem keeps_progLoad (s : State) (q : Nat) (img : Option ProgImage) : Keeps s (progLoad s q img) := by
  unfold progLoad
  dsimp only
  split
  · exact Keeps.refl s
  · split
    · exact keeps_blk _ _
    · split
      · exact keeps_blk _ _
      · split
        · exact keeps_blk _ _
        · exact keeps_mem _ _ (fun h => Memory.wf_setWords _ _ _ _ (Memory.wf_setWords _ _ _ _ h))

theorem keeps_zeroChains (s : State) : Keeps s (zeroChains s) :=
  keeps_foldl _ (fun _ _ => keeps_mem _ _ (Memory.wf_zeroPages _)) _ s

theorem keeps_zeroiseDone (s : State) (k : Nat) : Keeps s (zeroiseDone s k) := by
  unfold zeroiseDone
  dsimp only
  split
  · split
    · exact Keeps.refl s
    · exact (keeps_zeroChains s).on _
  · exact Keeps.refl s

theorem keeps_returnPrepDone (s : State) (k : Nat) : Keeps s (returnPrepDone s k) := by
  unfold returnPrepDone
  dsimp only
  split
  · split
    · exact Keeps.refl s
    · exact keeps_on _ _
    · exact ((keeps_on s _).trans (keeps_zeroChains _)).on _
  · exact Keeps.refl s

theorem keeps_streamImportDone (s : State) (k : Nat) (plain : Option (List Nat)) : Keeps s (streamImportDone s k plain) := by
  unfold streamImportDone
  dsimp only
  split
  · exact Keeps.refl s
  · split
    · exact keeps_mem _ _ (Memory.wf_zeroPages _)
    · split
      · exact keeps_mem _ _ (Memory.wf_zeroPages _)
      · exact keeps_mem _ _ (fun h => Memory.wf_foldl _ (fun _ _ h =>
          Memory.wf_foldl _ (fun _ _ h => Memory.wf_setPageWord _ _ _ h) _ _ h) _ _ (Memory.wf_zeroPages _ h))

theorem keeps_takeoverDone (s : State) (f : Nat) (ok : Bool) : Keeps s (takeoverDone s f ok) := by
  unfold takeoverDone
  dsimp only
  split
  · refine keeps_mem _ _ ?_
    split
    · exact fun h => Memory.wf_copyBytes _ _ _ (Memory.wf_copyBytes _ _ _ h)
    · exact id
  · exact Keeps.refl s

theorem keeps_seqWordAccess (s : State) (f : Nat) (r : Ram) (A : Fld) (n : Nat) (w : Option Nat) :
    Keeps s (seqWordAccess s f r A n w) := by
  unfold seqWordAccess
  dsimp only
  split
  · exact keeps_blk _ _
  · split
    · exact keeps_blk _ _
    · exact keeps_mem _ _ (Memory.wf_setWord _ _ _)

theorem keeps_foldl_fst {β γ : Type} (f : State × γ → β → State × γ) (hf : ∀ x y, Keeps x.1 (f x y).1) (l : List β) :
    ∀ x, Keeps x.1 (l.foldl f x).1 := by
  induction l with
  | nil => intro x; exact Keeps.refl x.1
  | cons y t ih => intro x; exact (hf x y).trans (ih _)

theorem keeps_pageDma (s : State) (k : Nat) (data : List Nat) (bad : Bool) : Keeps s (pageDma s k data bad) := by
  unfold pageDma
  dsimp only
  split
  · exact Keeps.refl s
  · refine Keeps.trans ?_ (keeps_blk _ _)
    refine (keeps_blk s (s.blk.hbmKnock)).trans (keeps_foldl_fst _ ?_ _ _)
    intro x y
    split
    · exact Keeps.refl _
    · split
      · exact ⟨rfl, Memory.wf_setWords _ _ _ _⟩
      · exact ⟨rfl, id⟩

/-! ### Sequencers -/

theorem keeps_setStore (s : State) (f a v : Nat) : Keeps s (s.setStore f a v) := ⟨rfl, Memory.wf_setWord _ _ _⟩

/-- The effect keeps the queue and the canonical form. -/
def EffectKeeps (body : Effect) : Prop := ∀ h s t, body h s = .ok t → Keeps s t

theorem keeps_microEnd {s t : State} (h : Keeps s t) (f : Nat) (w : UWalk) (r : Option LongSt) : Keeps s (t.microEnd f w r) := by
  unfold State.microEnd
  split
  · exact h.on _
  · exact h.on _

theorem keeps_seqExec (s : State) (f : Nat) (w : UWalk) (h : Halyr) {body : Effect} (hb : EffectKeeps body) :
    Keeps s (seqExec s f w h body) := by
  unfold seqExec
  split
  · exact keeps_on _ _
  · rename_i t ht
    exact keeps_microEnd (hb _ _ _ ht) _ _ _

theorem keeps_seqRun (s : State) (f op : Nat) (e : SeqErr) {body : Effect} (hb : EffectKeeps body) :
    Keeps s (seqRun s f op e body) := by
  have tail : ∀ u : State, Keeps s u → ∀ w, Keeps s (match decodeWord (u.instrWord f) with
      | .error c => u.on (fun b => b.progFault f c)
      | .ok h => if e = .dstore ∧ h.readsStore then u.on (fun b => b.progFault f 9) else seqExec u f w h body) := by
    intro u h w
    split
    · exact h.on _
    · split
      · exact h.on _
      · exact h.trans (keeps_seqExec _ _ _ _ hb)
  unfold seqRun
  dsimp only
  split
  · exact Keeps.refl s
  · split
    · exact (keeps_on s _).on _
    · split
      · exact keeps_on s _
      · split
        · exact (keeps_on s _).on _
        · exact tail _ (keeps_on s _) _

/-- A command whose microwords are fetched first keeps what it keeps once they are. -/
theorem keeps_withMicro {s : State} {f : Nat} {op : Option Nat} {due : Bool} {e : SeqErr} {go : UWalk → State → State}
    (hg : ∀ w u, Keeps u (go w u)) : Keeps s (withMicro s f op due e go) := by
  unfold withMicro
  dsimp only
  split
  · exact (keeps_on s _).on _
  · exact (keeps_on s _).trans (hg _ _)

theorem keeps_plain {f n : Nat} {g : Block → Except Nat Block} {s t : State} (h : plain f n g s = .ok t) : Keeps s t := by
  unfold plain at h
  split at h
  · cases h; exact keeps_blk _ _
  · cases h

theorem keeps_moved {f d n v : Nat} {s t : State} (h : moved f d n v s = .ok t) : Keeps s t := keeps_plain h

theorem keeps_needHasp {f i : Nat} {go : State → Except Nat State} {s t : State} (h : needHasp f i s go = .ok t)
    (hg : ∀ u, go s = .ok u → Keeps s u) : Keeps s t := by
  unfold needHasp at h
  split at h
  · exact hg _ h
  · cases h

theorem keeps_restart (f : Nat) (l : LongSt) (go : State → LongSt → State) (hg : ∀ s l, Keeps s (go s l)) (s : State) :
    Keeps s (restart f l go s) := by
  unfold restart
  dsimp only
  split
  · exact keeps_on _ _
  · exact (keeps_on _ _).trans (hg _ _)

theorem keeps_sweepPoint (f mask sel count dwell mch m : Nat) (s : State) (l : LongSt) :
    Keeps s (sweepPoint f mask sel count dwell mch m s l) := by
  unfold sweepPoint
  dsimp only
  exact (keeps_setStore _ _ _ _).trans (keeps_restart _ _ _ (fun _ _ => by unfold sweepNext; exact keeps_on _ _) _)

theorem keeps_searchPoint (f d a b k sel judge dwell taddr m : Nat) (s : State) (l : LongSt) :
    Keeps s (searchPoint f d a b k sel judge dwell taddr m s l) := by
  unfold searchPoint
  dsimp only
  exact (keeps_on _ _).trans (keeps_restart _ _ _ (fun _ _ => by unfold searchNext; exact keeps_on _ _) _)

theorem keeps_measallChan (f gd gb : Nat) (lim : Bool) (m : Int) (x : State × Bool) (k : Nat) :
    Keeps x.1 (measallChan f gd gb lim m x k).1 := by
  unfold measallChan
  dsimp only
  split
  · exact (keeps_setStore _ _ _ _).on _
  · exact (keeps_setStore _ _ _ _).on _

theorem keeps_measallStop (f mask : Nat) (lim : Bool) (l : LongSt) (s : State) : Keeps s (measallStop f mask lim l s) :=
  keeps_on _ _

theorem keeps_measallRun (f mask : Nat) (lim : Bool) (s : State) (l : LongSt) : Keeps s (measallRun f mask lim s l) := by
  unfold measallRun
  split
  · exact keeps_measallStop _ _ _ _ _
  · exact (keeps_measallChan _ _ _ _ _ (s, l.failed) _).trans (keeps_measallStop _ _ _ _ _)

theorem keeps_storeCopy (f n : Nat) : ∀ a d s, Keeps s (storeCopy f a d n s) := by
  induction n with
  | zero => intro _ _; exact Keeps.refl
  | succ n ih => intro a d s; exact (keeps_setStore _ _ _ _).trans (ih _ _ _)

theorem keeps_pageCopy (f p n : Nat) : ∀ w d s, Keeps s (pageCopy f p w d n s) := by
  induction n with
  | zero => intro _ _; exact Keeps.refl
  | succ n ih => intro w d s; exact (keeps_setStore _ _ _ _).trans (ih _ _ _)

theorem keeps_bmoveCopy (f count : Nat) (s : State) (l : LongSt) : Keeps s (bmoveCopy f count s l) :=
  (keeps_storeCopy _ _ _ _ _).on _

theorem keeps_bmoveWords (f count : Nat) (s : State) (l : LongSt) : Keeps s (bmoveWords f count s l) := by
  unfold bmoveWords
  dsimp only
  exact ((keeps_pageCopy _ _ _ _ _ _).on _).trans (keeps_restart _ _ _ (fun _ _ => by unfold bmoveNext; exact keeps_on _ _) _)

theorem keeps_tickFinish (f : Nat) (w : Wait) (h : Halyr) (s : State) : Keeps s (tickFinish f w h s) := by
  unfold tickFinish
  dsimp only
  split
  all_goals with_reducible first
    | exact keeps_on _ _
    | exact keeps_sweepPoint _ _ _ _ _ _ _ _ _
    | exact keeps_searchPoint _ _ _ _ _ _ _ _ _ _ _ _
    | exact keeps_measallStop _ _ _ _ _
    | exact Keeps.refl _

theorem keeps_tickWaitEnd (s : State) (f : Nat) (e : SeqErr) : Keeps s (tickWaitEnd s f e) := by
  unfold tickWaitEnd
  split
  · split
    · refine keeps_withMicro (fun x u => ?_)
      split
      · exact keeps_microEnd (keeps_on u _) _ _ _
      · split
        · split
          · exact keeps_on _ _
          · exact keeps_microEnd ((keeps_on u _).trans (keeps_tickFinish _ _ _ _)) _ _ _
        · exact Keeps.refl u
    · exact Keeps.refl s
  · exact Keeps.refl s

theorem keeps_dataFinish (f : Nat) (h : Halyr) (s : State) : Keeps s (dataFinish f h s) := by
  unfold dataFinish playNow
  split
  all_goals with_reducible first
    | exact keeps_on _ _
    | exact keeps_bmoveWords _ _ _ _
    | exact Keeps.refl _

theorem keeps_dataArrival (s : State) (f : Nat) (e : SeqErr) : Keeps s (dataArrival s f e) := by
  unfold dataArrival
  split
  · split
    · split
      · split
        · exact keeps_withMicro (fun x u => keeps_microEnd ((keeps_on u _).trans (keeps_dataFinish _ _ _)) _ _ _)
        · exact Keeps.refl s
      · exact Keeps.refl s
    · exact Keeps.refl s
  · exact Keeps.refl s

theorem keeps_eventService (s : State) (f : Nat) (e : SeqErr) : Keeps s (eventService s f e) := by
  unfold eventService
  split
  · split
    · exact keeps_withMicro (fun _ u => keeps_on u _)
    · exact Keeps.refl s
  · exact Keeps.refl s

theorem keeps_waitevTimeout (s : State) (f : Nat) (e : SeqErr) : Keeps s (waitevTimeout s f e) := by
  unfold waitevTimeout
  split
  · exact keeps_withMicro (fun x u => keeps_microEnd (keeps_on u _) _ _ _)
  · exact Keeps.refl s

theorem keeps_coreReset (s : State) : Keeps s s.coreReset :=
  ⟨rfl, fun h => Memory.wf_zeroBytes _ _ (Memory.wf_zeroBytes _ _ h)⟩

theorem keeps_vauxLoss (s : State) : Keeps s (vauxLoss s) := by
  unfold vauxLoss
  split
  · exact (keeps_on s _).trans (keeps_coreReset _)
  · exact Keeps.refl s

theorem keeps_other {s t : State} (h : other s = .ok t) : Keeps s t := by
  cases h; exact Keeps.refl _

theorem keeps_branch {f n a : Nat} {s t : State} (h : branch f n a s = .ok t) : Keeps s t := by
  cases h; exact keeps_on _ _

theorem keeps_recordOr {f n site : Nat} {g : Block → Block} {s t : State} (h : recordOr f n site g s = .ok t) : Keeps s t := by
  unfold recordOr at h
  split at h
  · cases h; exact keeps_on _ _
  · cases h; exact keeps_on _ _

theorem keeps_measure {f n : Nat} {m : Int} {g : Block → Block} {s t : State} (h : measure f n m g s = .ok t) : Keeps s t := by
  cases h; exact keeps_on _ _

theorem keeps_nopEffect (f : Nat) : EffectKeeps (nopEffect f) := by
  intro h s t k
  unfold nopEffect at k
  repeat' first | (with_reducible exact keeps_plain k) | exact ⟨rfl, id⟩ | cases k | split at k

theorem keeps_endEffect (f : Nat) : EffectKeeps (endEffect f) := by
  intro h s t k
  unfold endEffect at k
  repeat' first | (with_reducible exact keeps_plain k) | exact ⟨rfl, id⟩ | cases k | split at k

theorem keeps_jmpEffect (f : Nat) : EffectKeeps (jmpEffect f) := by
  intro h s t k
  unfold jmpEffect at k
  repeat' first | (with_reducible exact keeps_plain k) | exact ⟨rfl, id⟩ | cases k | split at k

theorem keeps_callEffect (f : Nat) : EffectKeeps (callEffect f) := by
  intro h s t k
  unfold callEffect at k
  repeat' first | (with_reducible exact keeps_plain k) | exact ⟨rfl, id⟩ | cases k | split at k

theorem keeps_retEffect (f : Nat) : EffectKeeps (retEffect f) := by
  intro h s t k
  unfold retEffect at k
  repeat' first | (with_reducible exact keeps_plain k) | exact ⟨rfl, id⟩ | cases k | split at k

theorem keeps_reteEffect (f : Nat) : EffectKeeps (reteEffect f) := by
  intro h s t k
  unfold reteEffect at k
  repeat' first | (with_reducible exact keeps_plain k) | exact ⟨rfl, id⟩ | cases k | split at k

theorem keeps_loopEffect (f : Nat) : EffectKeeps (loopEffect f) := by
  intro h s t k
  unfold loopEffect at k
  repeat' first
    | (with_reducible exact (keeps_on _ _).trans (keeps_branch k))
    | (with_reducible exact (keeps_on _ _).trans (keeps_plain k))
    | exact ⟨rfl, id⟩
    | cases k
    | split at k
    | dsimp only at k

theorem keeps_ldlEffect (f : Nat) : EffectKeeps (ldlEffect f) := by
  intro h s t k
  unfold ldlEffect at k
  repeat' first | (with_reducible exact keeps_plain k) | exact ⟨rfl, id⟩ | cases k | split at k

theorem keeps_waitevEffect (f : Nat) : EffectKeeps (waitevEffect f) := by
  intro h s t k
  unfold waitevEffect at k
  repeat' first | (with_reducible exact keeps_plain k) | exact ⟨rfl, id⟩ | cases k | split at k

theorem keeps_syncfEffect (f : Nat) : EffectKeeps (syncfEffect f) := by
  intro h s t k
  unfold syncfEffect at k
  repeat' first | (with_reducible exact keeps_plain k) | exact ⟨rfl, id⟩ | cases k | split at k

theorem keeps_waittEffect (f : Nat) : EffectKeeps (waittEffect f) := by
  intro h s t k
  unfold waittEffect at k
  repeat' first | (with_reducible exact keeps_plain k) | exact ⟨rfl, id⟩ | cases k | split at k

theorem keeps_aluEffect (f : Nat) : EffectKeeps (aluEffect f) := by
  intro h s t k
  unfold aluEffect at k
  repeat' first | (with_reducible exact keeps_plain k) | exact ⟨rfl, id⟩ | cases k | split at k

theorem keeps_shiftEffect (f : Nat) : EffectKeeps (shiftEffect f) := by
  intro h s t k
  unfold shiftEffect at k
  repeat' first | (with_reducible exact keeps_plain k) | exact ⟨rfl, id⟩ | cases k | split at k

theorem keeps_addiEffect (f : Nat) : EffectKeeps (addiEffect f) := by
  intro h s t k
  unfold addiEffect at k
  repeat' first | (with_reducible exact keeps_plain k) | exact ⟨rfl, id⟩ | cases k | split at k

theorem keeps_cmpEffect (f : Nat) : EffectKeeps (cmpEffect f) := by
  intro h s t k
  unfold cmpEffect at k
  repeat' first | (with_reducible exact keeps_plain k) | exact ⟨rfl, id⟩ | cases k | split at k

theorem keeps_cmpiEffect (f : Nat) : EffectKeeps (cmpiEffect f) := by
  intro h s t k
  unfold cmpiEffect at k
  repeat' first | (with_reducible exact keeps_plain k) | exact ⟨rfl, id⟩ | cases k | split at k

theorem keeps_movEffect (f : Nat) : EffectKeeps (movEffect f) := by
  intro h s t k
  unfold movEffect at k
  repeat' first | (with_reducible exact keeps_plain k) | exact ⟨rfl, id⟩ | cases k | split at k

theorem keeps_moviEffect (f : Nat) : EffectKeeps (moviEffect f) := by
  intro h s t k
  unfold moviEffect at k
  repeat' first | (with_reducible exact keeps_plain k) | exact ⟨rfl, id⟩ | cases k | split at k

theorem keeps_movhiEffect (f : Nat) : EffectKeeps (movhiEffect f) := by
  intro h s t k
  unfold movhiEffect at k
  repeat' first | (with_reducible exact keeps_plain k) | exact ⟨rfl, id⟩ | cases k | split at k

theorem keeps_extEffect (f : Nat) : EffectKeeps (extEffect f) := by
  intro h s t k
  unfold extEffect at k
  repeat' first | (with_reducible exact keeps_plain k) | exact ⟨rfl, id⟩ | cases k | split at k

theorem keeps_mfsEffect (f : Nat) : EffectKeeps (mfsEffect f) := by
  intro h s t k
  unfold mfsEffect at k
  repeat' first | (with_reducible exact keeps_plain k) | exact ⟨rfl, id⟩ | cases k | split at k

theorem keeps_mtsEffect (f : Nat) : EffectKeeps (mtsEffect f) := by
  intro h s t k
  unfold mtsEffect at k
  repeat' first | (with_reducible exact keeps_plain k) | exact ⟨rfl, id⟩ | cases k | split at k

theorem keeps_lddEffect (f : Nat) : EffectKeeps (lddEffect f) := by
  intro h s t k
  unfold lddEffect at k
  repeat' first
    | exact keeps_moved k
    | exact ⟨rfl, id⟩
    | cases k
    | split at k
    | dsimp only at k

theorem keeps_stdEffect (f : Nat) : EffectKeeps (stdEffect f) := by
  intro h s t k
  unfold stdEffect at k
  repeat' first
    | exact (keeps_setStore _ _ _ _).trans (keeps_plain k)
    | exact ⟨rfl, id⟩
    | cases k
    | split at k
    | dsimp only at k

theorem keeps_ldhEffect (f : Nat) (e : SeqErr) : EffectKeeps (ldhEffect f e) := by
  intro h s t k
  unfold ldhEffect at k
  repeat' first | (with_reducible exact keeps_plain k) | exact ⟨rfl, id⟩ | cases k | split at k

theorem keeps_tseliEffect (f : Nat) : EffectKeeps (tseliEffect f) := by
  intro h s t k
  unfold tseliEffect at k
  repeat' first | (with_reducible exact keeps_plain k) | exact ⟨rfl, id⟩ | cases k | split at k

theorem keeps_tselrEffect (f : Nat) : EffectKeeps (tselrEffect f) := by
  intro h s t k
  unfold tselrEffect at k
  repeat' first | (with_reducible exact keeps_plain k) | exact ⟨rfl, id⟩ | cases k | split at k

theorem keeps_playEffect (f : Nat) (e : SeqErr) : EffectKeeps (playEffect f e) := by
  intro h s t k
  unfold playEffect at k
  split at k
  · dsimp only at k
    split at k
    · cases k; exact keeps_blk _ _
    · split at k
      · cases k; exact keeps_blk _ _
      · cases k; exact (keeps_blk s _).trans (keeps_on _ _)
  · exact keeps_other k

theorem keeps_fallowEffect (f : Nat) : EffectKeeps (fallowEffect f) := by
  intro h s t k
  unfold fallowEffect at k
  repeat' first | (with_reducible exact keeps_plain k) | exact ⟨rfl, id⟩ | cases k | split at k

theorem keeps_sjmpEffect (f : Nat) (e : SeqErr) : EffectKeeps (sjmpEffect f e) := by
  intro h s t k
  unfold sjmpEffect at k
  repeat' first
    | exact ⟨rfl, id⟩
    | cases k
    | split at k
    | dsimp only at k

theorem keeps_syncsEffect (f : Nat) : EffectKeeps (syncsEffect f) := by
  intro h s t k
  unfold syncsEffect at k
  repeat' first | (with_reducible exact keeps_plain k) | exact ⟨rfl, id⟩ | cases k | split at k

theorem keeps_settingEffect (f : Nat) : EffectKeeps (settingEffect f) := by
  intro h s t k
  unfold settingEffect at k
  repeat' first
    | (with_reducible exact keeps_plain k)
    | exact ⟨rfl, id⟩
    | cases k
    | split at k
    | dsimp only at k

theorem keeps_tiastampEffect (f : Nat) : EffectKeeps (tiastampEffect f) := by
  intro h s t k
  unfold tiastampEffect at k
  repeat' first | (with_reducible exact keeps_plain k) | (with_reducible exact keeps_needHasp k (fun _ h => keeps_plain h)) | exact ⟨rfl, id⟩ | cases k | split at k

theorem keeps_measEffect (f : Nat) : EffectKeeps (measEffect f) := by
  intro h s t k
  unfold measEffect at k
  repeat' first | (with_reducible exact keeps_plain k) | exact ⟨rfl, id⟩ | cases k | split at k

theorem keeps_verdEffect (f : Nat) : EffectKeeps (verdEffect f) := by
  intro h s t k
  unfold verdEffect at k
  repeat' first | (with_reducible exact keeps_plain k) | exact ⟨rfl, id⟩ | cases k | split at k

theorem keeps_verdallEffect (f : Nat) : EffectKeeps (verdallEffect f) := by
  intro h s t k
  unfold verdallEffect at k
  repeat' first | (with_reducible exact keeps_plain k) | exact ⟨rfl, id⟩ | cases k | split at k

theorem keeps_limitEffect (f : Nat) : EffectKeeps (limitEffect f) := by
  intro h s t k
  unfold limitEffect at k
  repeat' first | (with_reducible exact keeps_plain k) | exact ⟨rfl, id⟩ | cases k | split at k

theorem keeps_fmaskEffect (f : Nat) : EffectKeeps (fmaskEffect f) := by
  intro h s t k
  unfold fmaskEffect at k
  repeat' first | (with_reducible exact keeps_plain k) | exact ⟨rfl, id⟩ | cases k | split at k

theorem keeps_freqEffect (f : Nat) : EffectKeeps (freqEffect f) := by
  intro h s t k
  unfold freqEffect at k
  repeat' first | (with_reducible exact keeps_plain k) | exact ⟨rfl, id⟩ | cases k | split at k

theorem keeps_freqrdEffect (f : Nat) : EffectKeeps (freqrdEffect f) := by
  intro h s t k
  unfold freqrdEffect at k
  repeat' first | (with_reducible exact keeps_plain k) | exact ⟨rfl, id⟩ | cases k | split at k

theorem keeps_carmEffect (f : Nat) : EffectKeeps (carmEffect f) := by
  intro h s t k
  unfold carmEffect at k
  split at k
  · refine keeps_needHasp k (fun u h => ?_)
    split at h
    · cases h
    · exact keeps_plain h
  · exact keeps_other k

theorem keeps_ctrigEffect (f : Nat) : EffectKeeps (ctrigEffect f) := by
  intro h s t k
  unfold ctrigEffect at k
  repeat' first | (with_reducible exact keeps_plain k) | (with_reducible exact keeps_needHasp k (fun _ h => keeps_plain h)) | exact ⟨rfl, id⟩ | cases k | split at k

theorem keeps_cstopEffect (f : Nat) : EffectKeeps (cstopEffect f) := by
  intro h s t k
  unfold cstopEffect at k
  repeat' first | (with_reducible exact keeps_plain k) | (with_reducible exact keeps_needHasp k (fun _ h => keeps_plain h)) | exact ⟨rfl, id⟩ | cases k | split at k

theorem keeps_trgoutEffect (f : Nat) : EffectKeeps (trgoutEffect f) := by
  intro h s t k
  unfold trgoutEffect at k
  repeat' first | (with_reducible exact keeps_plain k) | (with_reducible exact keeps_needHasp k (fun _ h => keeps_plain h)) | exact ⟨rfl, id⟩ | cases k | split at k

theorem keeps_ddsrunEffect (f : Nat) : EffectKeeps (ddsrunEffect f) := by
  intro h s t k
  unfold ddsrunEffect at k
  repeat' first | (with_reducible exact keeps_plain k) | (with_reducible exact keeps_needHasp k (fun _ h => keeps_plain h)) | exact ⟨rfl, id⟩ | cases k | split at k

theorem keeps_ddsstepEffect (f : Nat) : EffectKeeps (ddsstepEffect f) := by
  intro h s t k
  unfold ddsstepEffect at k
  repeat' first | (with_reducible exact keeps_plain k) | (with_reducible exact keeps_needHasp k (fun _ h => keeps_plain h)) | exact ⟨rfl, id⟩ | cases k | split at k

theorem keeps_ddsstopEffect (f : Nat) : EffectKeeps (ddsstopEffect f) := by
  intro h s t k
  unfold ddsstopEffect at k
  repeat' first | (with_reducible exact keeps_plain k) | (with_reducible exact keeps_needHasp k (fun _ h => keeps_plain h)) | exact ⟨rfl, id⟩ | cases k | split at k

theorem keeps_digacqEffect (f : Nat) : EffectKeeps (digacqEffect f) := by
  intro h s t k
  unfold digacqEffect at k
  repeat' first | (with_reducible exact keeps_plain k) | (with_reducible exact keeps_needHasp k (fun _ h => keeps_plain h)) | exact ⟨rfl, id⟩ | cases k | split at k

theorem keeps_hconnEffect (f : Nat) : EffectKeeps (hconnEffect f) := by
  intro h s t k
  unfold hconnEffect at k
  repeat' first | (with_reducible exact keeps_plain k) | (with_reducible exact keeps_needHasp k (fun _ h => keeps_plain h)) | exact ⟨rfl, id⟩ | cases k | split at k

theorem keeps_resultEffect (f : Nat) : EffectKeeps (resultEffect f) := by
  intro h s t k
  unfold resultEffect at k
  repeat' first
    | (with_reducible exact keeps_recordOr k)
    | exact ⟨rfl, id⟩
    | cases k
    | split at k

theorem keeps_binEffect (f : Nat) : EffectKeeps (binEffect f) := by
  intro h s t k
  unfold binEffect at k
  repeat' first
    | (with_reducible exact keeps_recordOr k)
    | exact ⟨rfl, id⟩
    | cases k
    | split at k

theorem keeps_signalEffect (f : Nat) : EffectKeeps (signalEffect f) := by
  intro h s t k
  unfold signalEffect at k
  repeat' first | (with_reducible exact keeps_plain k) | exact ⟨rfl, id⟩ | cases k | split at k

theorem keeps_evackEffect (f : Nat) : EffectKeeps (evackEffect f) := by
  intro h s t k
  unfold evackEffect at k
  repeat' first | (with_reducible exact keeps_plain k) | exact ⟨rfl, id⟩ | cases k | split at k

theorem keeps_hclaimEffect (f : Nat) : EffectKeeps (hclaimEffect f) := by
  intro h s t k
  unfold hclaimEffect at k
  repeat' first | (with_reducible exact keeps_plain k) | exact ⟨rfl, id⟩ | cases k | split at k

theorem keeps_hrelEffect (f : Nat) : EffectKeeps (hrelEffect f) := by
  intro h s t k
  unfold hrelEffect at k
  repeat' first | (with_reducible exact keeps_plain k) | exact ⟨rfl, id⟩ | cases k | split at k

theorem keeps_sweepEffect (f : Nat) : EffectKeeps (sweepEffect f) := by
  intro h s t k
  unfold sweepEffect at k
  repeat' first
    | exact ⟨rfl, id⟩
    | cases k
    | split at k
    | dsimp only at k

theorem keeps_searchEffect (f : Nat) : EffectKeeps (searchEffect f) := by
  intro h s t k
  unfold searchEffect at k
  repeat' first
    | exact ⟨rfl, id⟩
    | cases k
    | split at k
    | dsimp only at k

theorem keeps_measallEffect (f : Nat) : EffectKeeps (measallEffect f) := by
  intro h s t k
  unfold measallEffect at k
  split at k
  · split at k
    · cases k; exact keeps_measallRun _ _ _ _ _
    · dsimp only at k
      split at k
      · cases k
      · cases k
        split
        · exact (keeps_on _ _).trans (keeps_measallStop _ _ _ _ _)
        · exact keeps_on _ _
  · exact keeps_other k

theorem keeps_bmoveEffect (f : Nat) (e : SeqErr) : EffectKeeps (bmoveEffect f e) := by
  intro h s t k
  unfold bmoveEffect at k
  repeat' first
    | exact (keeps_on _ _).trans (keeps_bmoveCopy _ _ _ _)
    | exact keeps_bmoveCopy _ _ _ _
    | (split; · exact keeps_bmoveCopy _ _ _ _
       · exact keeps_on _ _)
    | exact ⟨rfl, id⟩
    | cases k
    | split at k
    | dsimp only at k

/-! ### Accesses to registers -/

theorem keeps_regWrite (s : State) (a v : Nat) : Keeps s (regWrite s a v) := by
  unfold regWrite
  split
  · exact keeps_on _ _
  · split
    · exact Keeps.refl s
    · split
      · exact keeps_on _ _
      · split
        · dsimp only
          split
          · exact keeps_seqWordAccess _ _ _ _ _ _
          · split
            · exact keeps_seqWordAccess _ _ _ _ _ _
            · split
              · exact keeps_dictAccess _ _ _
              · split
                · exact keeps_ddsListAccess _ _ _
                · exact keeps_on _ _
        · split
          · exact keeps_on _ _
          · split
            · exact keeps_on _ _
            · exact Keeps.refl s

theorem keeps_bar0Write (s : State) (a len v : Nat) : Keeps s (bar0Write s a len v) := by
  unfold bar0Write
  split
  · exact keeps_regWrite _ _ _
  · exact keeps_on _ _

theorem keeps_regRead (s : State) (a lo hi : Nat) : Keeps s (regRead s a lo hi).1 := by
  unfold regRead answered
  dsimp only
  repeat' split
  all_goals with_reducible first
    | exact Keeps.refl s
    | exact keeps_on _ _
    | exact keeps_blk _ _
    | exact keeps_seqWordAccess _ _ _ _ _ _
    | exact keeps_dictAccess _ _ _
    | exact keeps_ddsListAccess _ _ _
    | exact (keeps_on _ _).on _

theorem keeps_bar0Read (s : State) (a len : Nat) : Keeps s (bar0Read s a len) := by
  unfold bar0Read
  dsimp only
  split
  · exact (keeps_regRead _ _ _ _).on _
  · split
    · exact (keeps_regRead _ _ _ _).on _
    · exact Keeps.refl s

theorem keeps_regsRead (e n : Nat) : ∀ s a, Keeps s (regsRead e n s a).1 := by
  induction n with
  | zero => intro s a; exact Keeps.refl s
  | succ n ih =>
    intro s a
    unfold regsRead
    dsimp only
    split
    · exact (keeps_regRead _ _ _ _).trans (ih _ _)
    · exact Keeps.refl s

theorem keeps_readRegs (s : State) (q : Nat) : Keeps s (readRegs s q) := by
  unfold readRegs
  split
  · exact Keeps.refl s
  · dsimp only
    split
    · exact keeps_on _ _
    · exact (keeps_regsRead _ _ _ _).on _

end Sys2Proof.Machine
end

