-- ==== Sys2Proof/Laws/Sequencer.lean ====
section
/-!
SUPPORT. The one way in which an instruction is carried out, as equations: what `seqRun` answers when a field is ready for it, when its
word is not what the decoder accepts, and when its effect is a program fault.
-/
namespace Sys2Proof.Machine

/-- Only the microwords that an error shows make a walk: the errors of program memory, data store and directory show none. -/
@[simp] theorem uWalk_pmem (b : Block) (p : Nat) (op : Option Nat) (due : Bool) : b.uWalk p op due .pmem = b.uWalk p op due .none := rfl
@[simp] theorem uWalk_dstore (b : Block) (p : Nat) (op : Option Nat) (due : Bool) : b.uWalk p op due .dstore = b.uWalk p op due .none := rfl
@[simp] theorem uWalk_dir (b : Block) (p : Nat) (op : Option Nat) (due : Bool) (n : Fin 5) : b.uWalk p op due (.dir n) = b.uWalk p op due .none := rfl
@[simp] theorem uPay_none (b : Block) (f p : Nat) (w : UWalk) : b.uPay f p .none w = b := rfl
@[simp] theorem uPay_pmem (b : Block) (f p : Nat) (w : UWalk) : b.uPay f p .pmem w = b := rfl
@[simp] theorem uPay_dstore (b : Block) (f p : Nat) (w : UWalk) : b.uPay f p .dstore w = b := rfl
@[simp] theorem uPay_dir (b : Block) (f p : Nat) (w : UWalk) (n : Fin 5) : b.uPay f p (.dir n) w = b := rfl

/-- Without bad words in the control stores the word that starts an instruction reads well. -/
theorem firstReads_of_clean {s : State} (f op : Nat) (h : s.blk.uc.bad = []) : FirstReads s f op := by
  have hb : ∀ p x, s.blk.uBad p x = false := fun p x => by simp [Block.uBad, h]
  have hw : ∀ p a, (s.blk.uWord p a {}).word ≠ none := fun p a => by simp [Block.uWord, hb]
  have hf : ∀ p o, (s.blk.uFetch p o {}).word ≠ none := by
    intro p o
    unfold Block.uFetch
    split
    · exact hw _ _
    · simp [hb, hw]
  unfold FirstReads
  cases ho : s.blk.firstWord f op with
  | none => rfl
  | some o =>
    obtain ⟨v, hv⟩ := Option.ne_none_iff_exists'.mp (hf (s.blk.phys f) o)
    simp [Block.uWalk, hv]

/-- A ready instruction whose effect is `t`: the state after it is `t` with the end of an instruction. -/
theorem seqRun_ready {s t : State} {f op : Nat} {h : Halyr} {body : Effect} (r : Ready s f op h) (hb : body h s = .ok t) :
    seqRun s f op .none body = t.on (fun b => b.seqEpilogue f) := by
  obtain ⟨hl, ho, hw, hd, hc, hop, hh⟩ := r
  simp only [FirstReads] at hc
  simp [seqRun, seqExec, State.microEnd, hl, ho, hw, hd, hop, hc, hh, hb, State.on]

/-- The same with a directory error, which the effect itself judges. -/
theorem seqRun_clean {s t : State} {f op : Nat} {h : Halyr} {body : Effect} {e : SeqErr} (r : Ready s f op h) (he : cleanErr e = true)
    (hb : body h s = .ok t) : seqRun s f op e body = t.on (fun b => b.seqEpilogue f) := by
  obtain ⟨hl, ho, hw, hd, hc, hop, hh⟩ := r
  simp only [FirstReads] at hc
  cases e <;> first | (simp [cleanErr] at he; done) | simp [seqRun, seqExec, State.microEnd, hl, ho, hw, hd, hop, hc, hh, hb, State.on]

/-- Every row of the sequencer's instructions runs its effect; an error of the microwords or of the stores does not change which. -/
theorem seqRows_exec {f : Fin 16} {p : Nat × (SeqErr → Instr) × Effect} (h : p ∈ seqRows f) (s : State) :
    exec (p.2.1 .none) s = .next (seqRun s f p.1 .none p.2.2) ∧ exec (p.2.1 .pmem) s = .next (seqRun s f p.1 .pmem p.2.2) ∧
    exec (p.2.1 .dstore) s = .next (seqRun s f p.1 .dstore p.2.2) ∧
    ∀ ws eff, exec (p.2.1 (.micro ws eff)) s = .next (seqRun s f p.1 (.micro ws eff) p.2.2) := by
  have all : ∀ q ∈ seqRows f, exec (q.2.1 .none) s = .next (seqRun s f q.1 .none q.2.2) ∧
      exec (q.2.1 .pmem) s = .next (seqRun s f q.1 .pmem q.2.2) ∧ exec (q.2.1 .dstore) s = .next (seqRun s f q.1 .dstore q.2.2) ∧
      ∀ ws eff, exec (q.2.1 (.micro ws eff)) s = .next (seqRun s f q.1 (.micro ws eff) q.2.2) := by
    unfold seqRows
    simp only [List.forall_mem_cons]
    repeat first | exact List.forall_mem_nil _ | refine ⟨⟨rfl, rfl, rfl, fun _ _ => rfl⟩, ?_⟩
  exact all p h

/-- A ready instruction whose effect is the program fault `c`. -/
theorem seqRun_fault {s : State} {f op c : Nat} {h : Halyr} {body : Effect} (r : Ready s f op h) (hb : body h s = .error c) :
    seqRun s f op .none body = faulted s f c := by
  obtain ⟨hl, ho, hw, hd, hc, hop, hh⟩ := r
  simp only [FirstReads] at hc
  simp [seqRun, seqExec, hl, ho, hw, hd, hop, hc, hh, hb, faulted, State.on]

/-- A word that the decoder does not accept. -/
theorem seqRun_undecoded {s : State} {f op c : Nat} {body : Effect} (hl : s.blk.seqLive f = true) (ho : (s.blk.seq f).opened = true)
    (hw : (s.blk.seq f).wait = none) (hd : s.blk.dueLine f = none) (hc : FirstReads s f op) (hop : bits (s.instrWord f) 56 8 = op)
    (hh : decodeWord (s.instrWord f) = .error c) : seqRun s f op .none body = faulted s f c := by
  simp only [FirstReads] at hc
  simp [seqRun, hl, ho, hw, hd, hop, hc, hh, faulted, State.on]

/-- A program-memory parity error that replay did not correct (R160, cause 8). -/
theorem seqRun_pmem {s : State} {f op : Nat} {h : Halyr} {body : Effect} (r : Ready s f op h) :
    seqRun s f op .pmem body = faulted s f 8 := by
  obtain ⟨hl, ho, hw, hd, hc, hop, hh⟩ := r
  simp only [FirstReads] at hc
  simp [seqRun, hl, ho, hw, hd, hop, hc, faulted, State.on]

/-- An effect on the block alone. -/
theorem plain_ok {f n : Nat} {g : Block → Except Nat Block} {s : State} {b : Block} (h : g s.blk = .ok b) :
    plain f n g s = .ok { s with blk := (b.spend f n).pcNext f } := by
  simp [plain, h]

theorem plain_error {f n c : Nat} {g : Block → Except Nat Block} {s : State} (h : g s.blk = .error c) : plain f n g s = .error c := by
  simp [plain, h]

end Sys2Proof.Machine
end

