-- ==== Sys2Proof/WellFormed.lean ====
section
/-!
DEFINITION. Which commands are well formed: the operands that their types leave wider than the spec's ranges. A command that is not well
formed is one that nothing outside the block can send; `exec` is total on it all the same.
-/
namespace Sys2Proof

/-- The value fits in `n` bits. -/
def fits (n v : Nat) : Bool := decide (v < 2 ^ n)

/-- A read of BAR0 that the block answers: 4 or 8 naturally aligned bytes of the 32 MiB window (R355, R357). -/
def readOk (a len : Nat) : Bool := (len == 4 || len == 8) && a % len == 0 && decide (a + len ≤ 2 ^ 25)

/-- What the read-back of a patch image reports: sequencers and rows of their patch RAMs (R188, R193). -/
def SignedImage.wf (i : SignedImage) : Bool := i.badRows.all (fun x => decide (x.1 < 17 ∧ x.2 < 256))

/-- What start-up finds, as far as its lists have bounds of their own. -/
def BootOutcome.wf (o : BootOutcome) : Bool := o.patches.all SignedImage.wf && o.stuck.all (fun p => decide (p < 17)) && o.d2dEyes.all (fits 8)

/-- The operands of a command lie in their ranges. -/
def Instr.wf : Instr → Bool
  | .registerWrite a len _ => decide (1 ≤ len) && decide (a + len ≤ 2 ^ 25)
  | .registerRead a len => readOk a len
  | .bar0UnsupportedRequest a len => !readOk a len
  | .bar2Write a data => decide (a + data.length ≤ 2 ^ 35)
  | .bar2Read a len => decide (a + len ≤ 2 ^ 35)
  | .boundaryWorkStart (.directoryRow r) => decide (r < 65536)
  | .pmuConversion _ v i _ _ => fits 18 v && fits 18 i
  | .tiaEdge _ _ ofs => fits 31 ofs
  | .tiaCalibration _ one two => fits 16 one && fits 16 two
  | .ddsCmdRun _ entry => fits 12 entry
  | .digResults _ codes level _ => codes.all (fits 18) && fits 18 level
  | .captureEntry _ code => fits 18 code
  | .dpsConversion _ v i _ => fits 18 v && fits 18 i
  | .skewCalDone _ pairs => pairs.length == 9
  | .hbmGrant _ bad _ => decide (bad < 8192)
  | .pageRetireSwitch x => x.bad.all (fun w => decide (w < 8192))
  | .pageRefetchDone _ data ok => !ok || data.length == 4096
  | .hbmTrainDone eyes => eyes.length == 32
  | .bootReady ms => fits 16 ms
  | .linkUp gen width => decide (1 ≤ gen ∧ gen ≤ 7) && decide (1 ≤ width ∧ width ≤ 16)
  | .sqFetch _ entry bad => bad || entry.length == 8
  | .ptmExchangeDone host ofs => fits 64 host && fits 32 ofs
  | .d2dParityError _ lane _ _ => decide (lane < 68)
  | .laneRepairDone x => fits 8 x.eye
  | .patchLoadDone _ stuck => stuck.all (fun p => decide (p < 17))
  | .scrubRead _ store ua _ _ => decide ([0, 0x2000, 0].getD store.val 0 ≤ ua ∧ ua < [0x2000, 0x2800, 128].getD store.val 0)
  | .perstDeassert o => o.wf
  | .patchLoad _ img => img.wf
  | .flashJobDone _ a => fits 32 a
  | .krChallenge _ nonce => fits 256 nonce
  | .krLogin _ resp => fits 256 resp
  | .krProvision _ co user kek => fits 256 co && fits 256 user && fits 256 kek
  | .sspFrameDiscard edges soon => soon || edges != 32
  | _ => true

end Sys2Proof
end

