-- ==== Sys2Proof/Tests/Slice0.lean ====
section
/-!
SUPPORT. Tests: ill-formed commands that the check refuses, instruction words written out from the encoding tables of ch. 7, worked
examples of the spec, and for every statement with hypotheses a state and operands that meet them.
-/
set_option Elab.async false

namespace Sys2Proof.Tests
open Sys2Proof.Machine

/-- The block after reset changed by `g`. -/
def on0 (g : Block → Block) : State := State.reset.on g

/-- A step runs in field `f`, whose frame for tick index 2 is open, with `w` at address 0 of its program memory and PC 0. -/
def seqAt (f w : Nat) (g : Block → Block) : State :=
  { on0 (fun b => g (({ b with steps := [{ mask := 2 ^ f, start := 2 }] } : Block).updSeq f (fun q =>
      { q with opened := true, frame := 2, ended := false, done := false }))) with
    mem := Memory.setWord [] (.prog f) 0 w }

/-! ### Ill-formed commands, one for each check of WellFormed -/

theorem ill_formed_register_accesses : Instr.wf (.registerWrite 0x2000000 8 0) = false ∧ Instr.wf (.registerWrite 8 0 0) = false ∧
    Instr.wf (.registerRead 4 8) = false ∧ Instr.wf (.registerRead 8 2) = false ∧ Instr.wf (.bar0UnsupportedRequest 8 8) = false := by decide

theorem ill_formed_windows : Instr.wf (.bar2Write (2 ^ 35) [0]) = false ∧ Instr.wf (.bar2Read (2 ^ 35 - 1) 2) = false ∧
    Instr.wf (.boundaryWorkStart (.directoryRow 65536)) = false ∧ Instr.wf (.scrubRead 0 0 8192 false false) = false ∧
    Instr.wf (.scrubRead 0 1 0 false false) = false ∧ Instr.wf (.scrubRead 0 2 128 false false) = false ∧ Instr.wf (.pageRetireSwitch ⟨0, [8192]⟩) = false := by decide

theorem ill_formed_samples : Instr.wf (.pmuConversion 0 (2 ^ 18) 0 false false) = false ∧
    Instr.wf (.pmuConversion 0 0 (2 ^ 18) false false) = false ∧ Instr.wf (.tiaEdge 0 0 (2 ^ 31)) = false ∧
    Instr.wf (.tiaCalibration 0 65536 0) = false ∧ Instr.wf (.tiaCalibration 0 0 65536) = false ∧ Instr.wf (.ddsCmdRun 0 4096) = false ∧
    Instr.wf (.digResults 0 [0, 2 ^ 18] 0 0) = false ∧ Instr.wf (.digResults 0 [0] (2 ^ 18) 1) = false ∧ Instr.wf (.captureEntry 0 (2 ^ 18)) = false ∧
    Instr.wf (.dpsConversion 0 (2 ^ 18) 0 false) = false ∧ Instr.wf (.dpsConversion 0 0 (2 ^ 18) false) = false := by decide

theorem ill_formed_results_of_work : Instr.wf (.skewCalDone 0 []) = false ∧ Instr.wf (.hbmGrant 0 8192 0) = false ∧
    Instr.wf (.pageRefetchDone 0 [] true) = false ∧ Instr.wf (.hbmTrainDone []) = false ∧ Instr.wf (.bootReady 65536) = false ∧
    Instr.wf (.linkUp 0 1) = false ∧ Instr.wf (.linkUp 1 17) = false ∧ Instr.wf (.sqFetch 0 [] false) = false ∧
    Instr.wf (.ptmExchangeDone (2 ^ 64) 0) = false ∧ Instr.wf (.ptmExchangeDone 0 (2 ^ 32)) = false ∧
    Instr.wf (.d2dParityError 0 68 0 false) = false ∧ Instr.wf (.laneRepairDone ⟨0, 256⟩) = false ∧
    Instr.wf (.flashJobDone true (2 ^ 32)) = false := by decide

theorem ill_formed_secrets_and_frames : Instr.wf (.krChallenge 0 (2 ^ 256)) = false ∧ Instr.wf (.krLogin 0 (2 ^ 256)) = false ∧
    Instr.wf (.krProvision 0 (2 ^ 256) 0 0) = false ∧ Instr.wf (.krProvision 0 0 (2 ^ 256) 0) = false ∧
    Instr.wf (.krProvision 0 0 0 (2 ^ 256)) = false ∧ Instr.wf (.sspFrameDiscard 32 false) = false := by decide

/-- A signed image with an empty header and patch, for the checks of its read-back. -/
def plainImage : SignedImage :=
  { len := 4096, header := [], fuseOk := true, keyOk := true, sigOk := true, gcmOk := true, digestOk := true, patch := { rom := 0, traps := [], words := [] } }

theorem ill_formed_images : Instr.wf (.patchLoad 0 { plainImage with badRows := [(17, 0)] }) = false ∧
    Instr.wf (.patchLoad 0 { plainImage with badRows := [(0, 256)] }) = false ∧ Instr.wf (.patchLoadDone 0 [17]) = false := by
  decide

/-! ### Words written out from the encodings of ch. 6 and 7 -/

/-- The SWEEP of the worked example of ch. 7. -/
theorem test_sweep_word : decodeWord 0xE0088600101C0833 = .ok (.sweep 1 2 3 0x0008 7 8 3 3) := rfl

/-- RET, RETE abandon, LOOP L2 to 0x10, WAITT 5, WAITT G6, MOVHI G3 0x7FFFFF and EXT G1 G2 bits 15 to 8, signed. -/
theorem test_flow_and_arithmetic_words : decodeWord 0x0400000000000000 = .ok .ret ∧ decodeWord 0x0500000000000001 = .ok (.rete true) ∧
    decodeWord 0x0610000000000010 = .ok (.loopI 2 0x10) ∧ decodeWord 0x0A00000000000005 = .ok (.waitt (.imm 5)) ∧
    decodeWord 0x0A01800000010000 = .ok (.waitt (.reg 6)) ∧ decodeWord 0x2E180000007FFFFF = .ok (.movhi 3 0x7FFFFF) ∧
    decodeWord 0x2F088000000013C8 = .ok (.ext 1 2 8 15 true) := ⟨rfl, rfl, rfl, rfl, rfl, rfl, rfl⟩

/-- SETDPS with the mask in G7 and the value in G8, FREQ of channel 9 with gate 0x123456, TRGOUT of line 5 with action 2, HREL G2 of entry 511. -/
theorem test_setting_and_unit_words : decodeWord 0x6601D00001880000 = .ok (.setting .dps 2 (.reg 7) (.reg 8)) ∧
    decodeWord 0x8600000012345609 = .ok (.freq 9 0x123456) ∧ decodeWord 0xA300000000000025 = .ok (.trgout 5 2) ∧
    decodeWord 0xD3100000000001FF = .ok (.hrel 2 511) := ⟨rfl, rfl, rfl, rfl⟩

/-- An unused field that is not zero (END with D 1) is OPERAND, an opcode without an instruction is ILLEGAL (R142). -/
theorem test_words_refused : decodeWord 0x0108000000000000 = .error causeOperand ∧ decodeWord 0xFF00000000000000 = .error causeIllegal := ⟨rfl, rfl⟩

/-! ### Worked examples and values of the spec -/

/-- Channel 83 is served by slice 88, whose block stands at 0x0025_8000, and field 5 has its block at 0x0015_0000 (ch. 0). -/
theorem test_channel_83 : SLC (17 * (83 / 16) + 83 % 16) = 0x258000 ∧ FLD (83 / 16) = 0x150000 ∧ (on0 id).blk.chSlice 5 3 = 88 := by decide +kernel

/-- READ_REGS of four words at 0x000B_2FF0 (ch. 18): two words of the block, then all ones, 2 read. -/
theorem test_read_regs_past_the_block : (regsRead ((blockEnd 0xB2FF0).getD 0) 4 (on0 (fun b => b.setFlag 0 HQ_STAT.READY true)) 0xB2FF0).2 =
    ([0, 0, 2 ^ 64 - 1, 2 ^ 64 - 1], 2) := by decide +kernel

/-- READ 0x045 with source 88 sticky leaves the reply 0x0045_0100 (ch. 23). -/
theorem test_port_reads_slice_88 : ((on0 (fun b => b.set 8 FC_STICKY.BITS (2 ^ 24))).blk.sspRead 0x45 0 false).keeper.reply = 0x00450100 := by
  decide +kernel

/-- The next word past the sticky block reads ADDR_END (ch. 23). -/
theorem test_port_ends_its_block : ((on0 (fun b => { b with keeper := { b.keeper with addr := 0x67, past := false } })).blk.sspReadNext 0 0 false).keeper.reply =
    0x3068FFFF := by decide +kernel

/-- The monitor of ch. 4 with TH_HI 1,536, TH_LO 1,495 and HYS 4: 1.2455 V first, 1.2512 V, then 1.2440 V from ABOVE. -/
theorem test_window_monitor : rawOf 1 1245500 (-2500000) 1536 1495 4 = 2 ∧ rawOf 2 1251200 (-2500000) 1536 1495 4 = 3 ∧
    rawOf 3 1244000 (-2500000) 1536 1495 4 = 3 := by decide

/-- SHA-256 of "abc", from the standard that R438 names. -/
theorem test_sha256_abc : sha256 [0x61, 0x62, 0x63] = 0xba7816bf8f01cfea414140de5dae2223b00361a396177a9cb410ff61f20015ad := by decide +kernel


/-! ### ArithmeticInstructionsWriteTheirResults -/

theorem arithmetic_ready : ∀ p ∈ [(0x20, Halyr.alu .add 1 2 3), (0x21, .alu .sub 1 2 3), (0x22, .addi 4 5 7), (0x23, .alu .mul 1 2 3),
    (0x24, .alu .and 1 2 3), (0x25, .alu .or 1 2 3), (0x26, .alu .xor 31 0 31)], Ready (seqAt 5 p.2.encode id) 5 p.1 p.2 := by
  unfold Ready FirstReads; decide +kernel

/-! ### ShiftsComparesAndMovesWriteTheirResults -/

theorem shifts_and_moves_ready : ∀ p ∈ [(0x27, Halyr.shift .shl 1 2 (.imm 63)), (0x27, .shift .shl 1 2 (.reg 3)),
    (0x28, .shift .shr 1 2 (.imm 0)), (0x28, .shift .shr 1 2 (.reg 3)), (0x29, .shift .sar 1 2 (.imm 63)), (0x29, .shift .sar 1 2 (.reg 3)),
    (0x2A, .cmp 2 3), (0x2B, .cmpi 2 (2 ^ 41 - 1)), (0x2C, .mov 1 2), (0x2D, .movi 1 (2 ^ 40)), (0x2E, .movhi 1 5),
    (0x2F, .ext 1 2 0 63 true)], Ready (seqAt 15 p.2.encode id) 15 p.1 p.2 := by
  unfold Ready FirstReads; decide +kernel

/-! ### SpecialRegistersAndTheDataStore -/

theorem special_and_store_ready : ∀ p ∈ [(0x30, Halyr.mfs 1 6), (0x31, .mts 8 2), (0x32, .ldd 1 0 1023), (0x33, .std 0 3 1023), (0x34, .ldh 1 2 9)],
    Ready (seqAt 0 p.2.encode id) 0 p.1 p.2 := by
  unfold Ready FirstReads; decide +kernel

theorem special_values : specialRead (seqAt 0 0 id).blk 0 6 = some 0 ∧ specialWrite (seqAt 0 0 id).blk 0 8 0 = .ok ((seqAt 0 0 id).blk.setL 0 0 0) ∧
    (0 + sext41 1023) % 2 ^ 64 < 1024 := by decide +kernel

/-- Page 0 is a pattern segment of one page, READY. -/
def readyPage (b : Block) : Block :=
  (((b.set 0 DIR_ENT0.STATE 2).set 0 DIR_ENT0.OWNER 1).set 0 DIR_ENT0.HEAD 1).set 0 DIR_ENT0.LAST 1

theorem page_readable : ((seqAt 0 0 readyPage).blk.spend 0 4).pageReadable 0 = true ∧
    (((seqAt 0 0 readyPage).blk.spend 0 4).dirRead 0 0).2 = true := by decide +kernel

/-! ### FlowInstructionsMoveThePc -/

theorem flow_ready : ∀ p ∈ [(0x00, Halyr.nop), (0x01, .endI), (0x02, .jmp 13 32767), (0x03, .callI 0 9), (0x04, .ret), (0x05, .rete true),
    (0x06, .loopI 7 3), (0x07, .ldl 7 4294967295)], Ready (seqAt 3 p.2.encode id) 3 p.1 p.2 := by
  unfold Ready FirstReads; decide +kernel

theorem flow_conditions : condHolds 0 1 = false ∧ condHolds 0 0 = true ∧ ((seqAt 3 0 id).blk.seq 3).stack.length < 16 := by decide +kernel

/-- A stack of one entry. -/
def oneEntry (f : Nat) (svc : Bool) (b : Block) : Block := b.updSeq f (fun q => { q with stack := [{ svc := svc, addr := 7 }] })

theorem return_ready : Ready (seqAt 3 (Halyr.encode .ret) (oneEntry 3 false)) 3 0x04 .ret ∧
    ((seqAt 3 (Halyr.encode .ret) (oneEntry 3 false)).blk.seq 3).stack = [{ svc := false, addr := 7 }] := by
  unfold Ready FirstReads; decide +kernel

theorem service_return_ready : Ready (seqAt 3 (Halyr.encode (.rete false)) (oneEntry 3 true)) 3 0x05 (.rete false) ∧
    ((seqAt 3 (Halyr.encode (.rete false)) (oneEntry 3 true)).blk.seq 3).stack = [{ svc := true, addr := 7 }] := by
  unfold Ready FirstReads; decide +kernel

/-! ### WaitInstructionsCompleteOrWait -/

theorem waits_ready : ∀ p ∈ [(0x08, Halyr.waitev 1 2), (0x09, .syncf), (0x0A, .waitt (.imm 0)), (0x0A, .waitt (.reg 4))],
    Ready (seqAt 2 p.2.encode id) 2 p.1 p.2 := by
  unfold Ready FirstReads; decide +kernel

/-- Event line 0 of field f names source 658, which is pending, enabled and routed to sequencer f; EVM holds its service off. -/
def lineUp (f : Nat) (b : Block) : Block :=
  (((b.set (FLD f) EV_SRC.VALID 1).set (FLD f) EV_SRC.SRC 658).set 80 IC_PEND.BITS (2 ^ 18)).set 80 IC_EN.BITS (2 ^ 18) |>.set (8 * 658) IC_ROUTE.TARGET f

theorem waitev_conditions : Ready (seqAt 2 (Halyr.encode (.waitev 1 2)) (lineUp 2)) 2 0x08 (.waitev 1 2) ∧
    (((seqAt 2 (Halyr.encode (.waitev 1 2)) (lineUp 2)).blk.spend 2 4).pcNext 2).eventCode 2 = some 0 ∧
    (((seqAt 2 0 id).blk.spend 2 4).pcNext 2).eventCode 2 = none ∧ (seqAt 2 0 id).blk.greg 2 2 = 0 := by
  unfold Ready FirstReads; decide +kernel

theorem syncf_conditions : (((seqAt 2 0 id).blk.spend 2 4).seq 2).issued ≤ (((seqAt 2 0 id).blk.spend 2 4).seq 2).judged ∧
    let s := seqAt 2 (Halyr.encode .syncf) (fun b => b.updSeq 2 (fun q => { q with issued := 3 }))
    Ready s 2 0x09 .syncf ∧ ((s.blk.spend 2 4).seq 2).judged < ((s.blk.spend 2 4).seq 2).issued := by
  unfold Ready FirstReads; decide +kernel

/-! ### StreamInstructionsIssueVectors -/

theorem stream_ready : ∀ p ∈ [(0x40, Halyr.tseli 63), (0x41, .tselr 2), (0x42, .play 2), (0x43, .fallow (.imm 4294967295)), (0x43, .fallow (.reg 2)),
    (0x44, .sjmp 2), (0x45, .syncs)], Ready (seqAt 9 p.2.encode readyPage) 9 p.1 p.2 := by
  unfold Ready FirstReads; decide +kernel

theorem head_checked : (headCheck (seqAt 9 0 readyPage).mem ((seqAt 9 0 readyPage).blk.spend 9 12) 9 0 .none).2 = true ∧
    (seqAt 9 0 readyPage).blk.greg 9 2 < 64 := by decide +kernel

/-! ### SettingsAreQueuedForTheirBoundary -/

theorem settings_ready : ∀ p ∈ [(0x60, Halyr.setting .lvl 9 (.imm 65535) (.imm 4000)), (0x61, .setting .pmu 1 (.reg 1) (.imm 65535)),
    (0x62, .setting .slc 1 (.imm 1) (.reg 2)), (0x63, .setting .slew 0 (.imm 1) (.imm 0)), (0x64, .setting .gen 1 (.imm 1) (.imm 7)),
    (0x65, .setting .wm 2 (.imm 1) (.imm 0)), (0x66, .setting .dps 0 (.imm 3) (.imm 100)), (0x85, .tiastamp 3 (.imm 65535) (.imm 0))],
    Ready (seqAt 7 p.2.encode id) 7 p.1 p.2 := by
  unfold Ready FirstReads; decide +kernel

theorem settings_accepted : ∀ p ∈ [(SetOp.lvl, 9, 2000), (.pmu, 1, 65535), (.slc, 1, 0), (.slew, 0, 0), (.gen, 1, 7), (.wm, 2, 0), (.dps, 0, 100)],
      setValueOk p.1 p.2.1 p.2.2 = true := by decide +kernel

theorem settings_not_accepted : setValueOk .lvl 9 4096 = false ∧ setValueOk .lvl 10 0 = false ∧
    Ready (seqAt 7 (Halyr.encode (.setting .lvl 9 (.reg 1) (.imm 0))) (fun b => b.setG 7 1 65536)) 7 0x60 (.setting .lvl 9 (.reg 1) (.imm 0)) := by
  unfold Ready FirstReads; decide +kernel

/-- The hasps of field f are held by its sequencer. -/
def hasps (f : Nat) (b : Block) : Block := (List.range 16).foldl (fun b i => b.set (8 * (16 * f + i)) HASP_ENT.OWNER (f + 1)) b

theorem stamp_hasp_held : (seqAt 7 0 (hasps 7)).blk.holds 7 (16 * 7 + 5) = true ∧ (seqAt 7 0 id).blk.holds 7 (16 * 7 + 5) = false ∧
    Ready (seqAt 7 (Halyr.encode (.tiastamp 3 (.imm 1) (.imm 0))) (hasps 7)) 7 0x85 (.tiastamp 3 (.imm 1) (.imm 0)) := by
  unfold Ready FirstReads; decide +kernel

/-! ### MeasurementsReturnTheirWords -/

theorem measurements_ready : ∀ p ∈ [(0x80, Halyr.meas 1 (.rel 65533) 15), (0x81, .verd 1 (.abs 2) 0), (0x82, .verdall 1 (.rel 0)), (0x83, .limit 1 2 1022),
    (0x84, .fmask 1 true), (0x86, .freq 15 10000000), (0x86, .freq 0 10), (0x87, .freqrd 1 3)], Ready (seqAt 1 p.2.encode id) 1 p.1 p.2 := by
  unfold Ready FirstReads; decide +kernel

/-! ### UnitInstructionsActOnTheirUnits -/

/-- The trigger lines are held by the sequencer of field f. -/
def lines (f : Nat) (b : Block) : Block := (List.range 8).foldl (fun b i => b.set (8 * (256 + i)) HASP_ENT.OWNER (f + 1)) b

theorem units_ready : ∀ p ∈ [(0xA0, Halyr.carm 1), (0xA1, .ctrig), (0xA2, .cstop), (0xA3, .trgout 7 2), (0xB0, .ddsrun 0), (0xB1, .ddsstep), (0xB2, .ddsstop),
    (0xB3, .digacq 1), (0xB4, .hconn 16)], Ready (seqAt 4 p.2.encode (fun b => lines 4 (hasps 4 b))) 4 p.1 p.2 := by
  unfold Ready FirstReads; decide +kernel

theorem units_held : let b := (seqAt 4 0 (fun b => lines 4 (hasps 4 b))).blk
    (∀ i ∈ [0, 2, 3, 4], b.holds 4 (16 * 4 + i) = true) ∧ b.holds 4 263 = true ∧ b.flag (FLD 4) CAP_CFG.STREAM = false ∧ carmCode b 4 = 0 ∧
    b.get (FLD 4) DDS_LIST.FIRST = 0 ∧ carmCode (capAsk b 4 1) 4 = 2 := by decide +kernel

/-! ### RecordAndEventInstructionsComplete -/

/-- Register 2 of field f holds 700, and channel 0 of the field serves site 255. -/
def siteAnd700 (f : Nat) (b : Block) : Block := (((b.setG f 2 700).set (8 * (16 * f)) SITE_CH.VALID 1).set (8 * (16 * f)) SITE_CH.SITE 255).set (8 * (16 * f)) SITE_CH.NSITE 0

theorem records_ready : ∀ p ∈ [(0xC0, Halyr.result 1 255 65535 15 4), (0xC1, .binI 255 63), (0xD0, .signalI true (.imm 658)), (0xD0, .signalI false (.reg 2)),
    (0xD1, .evackSrc 0), (0xD1, .evackLine 0), (0xD2, .hclaim 1 0 9), (0xD3, .hrel 1 511)],
    Ready (seqAt 6 p.2.encode (siteAnd700 6)) 6 p.1 p.2 := by
  unfold Ready FirstReads; decide +kernel

theorem records_conditions : let b := (seqAt 6 0 (siteAnd700 6)).blk
    b.siteHere 6 255 = true ∧ (b.spend 6 8).recRoom = true ∧ (b.spend 6 6).recRoom = true ∧ 658 ≤ b.greg 6 2 % 1024 ∧
    (seqAt 6 0 id).blk.siteHere 6 255 = false := by decide +kernel

theorem evack_line_valid : Ready (seqAt 6 (Halyr.encode (.evackLine 0)) (lineUp 6)) 6 0xD1 (.evackLine 0) ∧
    (seqAt 6 (Halyr.encode (.evackLine 0)) (lineUp 6)).blk.flag (FLD 6 + 8 * 0) EV_SRC.VALID = true := by
  unfold Ready FirstReads; decide +kernel

/-! ### LongInstructionsStartWithinTheirBounds -/

theorem long_ready : ∀ p ∈ [(0xE0, Halyr.sweep 1 2 3 65535 0 1023 15 15), (0xE1, .searchI 1 2 3 15 0 3 7 1023), (0xE2, .measall 1 3 65535 65533 true),
    (0xE3, .bmove 1 2 0 1024 true)],
    Ready (seqAt 8 p.2.encode (fun b => (b.setG 8 2 20000).setG 8 3 20100)) 8 p.1 p.2 ∧
    (seqAt 8 p.2.encode (fun b => (b.setG 8 2 20000).setG 8 3 20100)).resumed 8 p.1 = none := by
  unfold Ready FirstReads; decide +kernel

theorem long_resumed : ∀ p ∈ [((0xE2, Halyr.measall 1 3 65535 65533 true), { op := 0xE2, done := 15, failed := true : LongSt }),
    ((0xE3, .bmove 1 2 0 1024 true), { op := 0xE3, done := 1016 }), ((0xE3, .bmove 1 2 0 1024 false), { op := 0xE3, done := 1016 }),
    ((0xE0, .sweep 1 2 3 0 0 1023 15 15), { op := 0xE0, done := 1023 }), ((0xE1, .searchI 1 2 3 15 0 3 7 1023), { op := 0xE1, ga := 5, gb := 6 })],
    Ready (seqAt 8 p.1.2.encode (fun b => b.setLong 8 p.2)) 8 p.1.1 p.1.2 ∧
    (seqAt 8 p.1.2.encode (fun b => b.setLong 8 p.2)).resumed 8 p.1.1 = some p.2 ∧ measallNext 65535 15 = some 15 := by
  unfold Ready FirstReads; decide +kernel

theorem page_move_ready : Ready (seqAt 8 (Halyr.encode (.bmove 1 0 0 1024 false)) readyPage) 8 0xE3 (.bmove 1 0 0 1024 false) ∧
    (seqAt 8 (Halyr.encode (.bmove 1 0 0 1024 false)) readyPage).resumed 8 0xE3 = none ∧ (seqAt 8 0 readyPage).blk.pageReadable 0 = true := by
  unfold Ready FirstReads; decide +kernel

theorem long_bounds : measallNext 65535 16 = none ∧ (∀ i < 1, dacCodeOk 0 (toSigned 64 20000 + Int.ofNat i * toSigned 64 100) = true) ∧
    toSigned 64 20000 < toSigned 64 20100 ∧ dacCodeOk 0 (toSigned 64 20000) = true ∧ dacCodeOk 0 (toSigned 64 20100) = true := by decide +kernel

/-! ### RefusedInstructionsTakeTheirProgramFault -/

/-- A stack of 16 entries. -/
def fullStack (f : Nat) (b : Block) : Block := b.updSeq f (fun q => { q with stack := List.replicate 16 { addr := 3 } })

/-- Register 2 of field f holds 2,000,000. -/
def large (f : Nat) (b : Block) : Block := b.setG f 2 2000000

theorem faults_ready : ∀ p ∈ [(0x04, Halyr.ret), (0x05, .rete false), (0x32, .ldd 1 2 0), (0x33, .std 2 1 0), (0x83, .limit 1 2 1023), (0x34, .ldh 1 2 0),
    (0x31, .mts 6 2), (0x30, .mfs 1 16), (0x41, .tselr 2), (0x86, .freq 0 9), (0x86, .freq 0 10000001), (0xD0, .signalI false (.imm 657)),
    (0xC1, .binI 255 0), (0xA1, .ctrig), (0x00, .nop)], Ready (seqAt 0 p.2.encode (large 0)) 0 p.1 p.2 := by
  unfold Ready FirstReads; decide +kernel

theorem faults_conditions : let s := seqAt 0 0 (large 0)
    (s.blk.seq 0).stack = [] ∧ 1024 ≤ storeAddr s.blk 0 2 0 ∧ (s.blk.spend 0 4).pageReadable (s.blk.greg 0 2) = false ∧
    specialRead s.blk 0 16 = none ∧ 64 ≤ s.blk.greg 0 2 ∧ s.blk.siteHere 0 255 = false ∧ s.blk.holds 0 4 = false := by decide +kernel

theorem call_on_full_stack : Ready (seqAt 0 (Halyr.encode (.callI 0 9)) (fullStack 0)) 0 0x03 (.callI 0 9) ∧ condHolds 0 0 = true ∧
    16 ≤ ((seqAt 0 (Halyr.encode (.callI 0 9)) (fullStack 0)).blk.seq 0).stack.length := by
  unfold Ready FirstReads; decide +kernel

theorem wrong_return : Ready (seqAt 0 (Halyr.encode .ret) (oneEntry 0 true)) 0 0x04 .ret ∧
    Ready (seqAt 0 (Halyr.encode (.rete true)) (oneEntry 0 false)) 0 0x05 (.rete true) := by
  unfold Ready FirstReads; decide +kernel

theorem illegal_opcode_ready : let s := seqAt 0 (0x0B * 2 ^ 56) id
    s.blk.seqLive 0 = true ∧ (s.blk.seq 0).opened = true ∧ (s.blk.seq 0).wait = none ∧ s.blk.dueLine 0 = none ∧
    opAssigned (bits (s.instrWord 0) 56 8) = false := by decide +kernel

/-- A word that fails at its fetch and at its replay. -/
def badFetch : UFetch := { first := some 1, again := some 1 }

theorem microword_cases : let s := seqAt 3 (Halyr.encode (.alu .add 1 2 3)) id
    Ready s 3 0x20 (.alu .add 1 2 3) ∧ (s.blk.uWalk (s.blk.phys 3) (s.blk.firstWord 3 0x20) false (.micro [] true)).check = none ∧
    (∀ late, (s.blk.uWalk (s.blk.phys 3) (s.blk.firstWord 3 0x20) false (.micro [badFetch] late)).check = some (0x20, true)) ∧
    (0x20, Instr.add 3, aluEffect 3).1 ∈ (seqRows 3).map Prod.fst := by
  unfold Ready FirstReads; decide +kernel

theorem long_faults : Ready (seqAt 8 (Halyr.encode (.sweep 1 2 3 65535 0 1023 15 15)) (fun b => b.setG 8 1 2)) 8 0xE0 (.sweep 1 2 3 65535 0 1023 15 15) ∧
    1024 < (seqAt 8 0 (fun b => b.setG 8 1 2)).blk.greg 8 1 + 1023 ∧
    Ready (seqAt 8 (Halyr.encode (.searchI 1 2 3 15 0 3 7 1023)) id) 8 0xE1 (.searchI 1 2 3 15 0 3 7 1023) ∧ toSigned 64 0 ≤ toSigned 64 0 := by
  unfold Ready FirstReads; decide +kernel

theorem undecoded_word : let s := seqAt 0 (0x01 * 2 ^ 56 + 2 ^ 51) id
    s.blk.seqLive 0 = true ∧ (s.blk.seq 0).opened = true ∧ (s.blk.seq 0).wait = none ∧ s.blk.dueLine 0 = none ∧ FirstReads s 0 0x01 ∧
    decodeWord (s.instrWord 0) = .error 2 := by
  unfold FirstReads; decide +kernel

/-! ### WaitsEndAndServiceIsEntered -/

/-- Field 2 waits with `w`, at tick index 5. -/
def waitsWith (w : Wait) (b : Block) : Block :=
  { (b.updSeq 2 (fun q => { q with wait := some w, frame := 6 })) with time := { b.time with ticks := 5 } }

theorem data_wait_ready : let s := seqAt 2 (Halyr.encode (.play 1)) (waitsWith (.data 0))
    s.blk.seqLive 2 = true ∧ (s.blk.seq 2).opened = true ∧ (s.blk.seq 2).wait = some (.data 0) ∧ decodeWord (s.instrWord 2) = .ok (.play 1) ∧
    dataReady s.blk 2 (.play 1) = true := by decide +kernel

theorem tick_wait_ready : let s := seqAt 2 (Halyr.encode (.waitt (.imm 3))) (waitsWith (.frame 6))
    s.blk.seqLive 2 = true ∧ (s.blk.seq 2).opened = true ∧ s.blk.waitOver 2 (.frame 6) = true ∧
    decodeWord (s.instrWord 2) = .ok (.waitt (.imm 3)) ∧ (s.blk.uWalk (s.blk.phys 2) none false .none).check = none ∧
    (s.blk.uWalk (s.blk.phys 2) none false (.micro [badFetch] false)).check = some (0, true) := by decide +kernel

theorem woken_ready : let s := seqAt 2 0 (waitsWith (.woken 31))
    (s.blk.seq 2).wait = some (.woken 31) ∧ s.blk.waitOver 2 (.woken 31) = true ∧ s.blk.eventCode 2 = none := by decide +kernel

theorem search_judges_by_store : let s := seqAt 2 (Halyr.encode (.searchI 1 2 3 15 0 3 7 1023)) (waitsWith (.meas 0))
    decodeWord (s.instrWord 2) = .ok (.searchI 1 2 3 15 0 3 7 1023) ∧ (Halyr.searchI 1 2 3 15 0 3 7 1023).judgesByStore = true := by decide +kernel

theorem timeout_ready : let s := seqAt 2 0 (waitsWith (.ev 1 (some 5)))
    s.blk.seqLive 2 = true ∧ (s.blk.seq 2).opened = true ∧ (s.blk.seq 2).wait = some (.ev 1 (some 5)) ∧ 5 ≤ s.blk.time.ticks := by
  decide +kernel

theorem service_due : let s := seqAt 2 0 (fun b => (lineUp 2 b).set (FLD 2) SEQ_EVM.EVM 1)
    s.blk.dueLine 2 = some 0 ∧ (s.blk.seq 2).wait = none ∧
    (s.blk.uWalk (s.blk.phys 2) (s.blk.firstWord 2 (bits (s.instrWord 2) 56 8)) true .none).check = none ∧
    (s.blk.uWalk (s.blk.phys 2) (s.blk.firstWord 2 (bits (s.instrWord 2) 56 8)) true (.micro [badFetch] false)).check = some (0, true) := by decide +kernel

/-! ### StepsStartEndAndComplete -/

/-- Queue pair q has fetched the command with opcode `op` and the words `ws` after its first. -/
def fetched (q op : Nat) (ws : List Nat) (b : Block) : Block :=
  { (b.set (32 * q) Q_STAT.STATE 2) with host := { b.host with cmds := [(q, (op * 2 ^ 56 :: ws ++ List.replicate (7 - ws.length) 0))] } }

theorem start_step_accepted : let b := (on0 (fun b => (fetched 3 0x10 [0x0021, 9] b).set 0 RES_CTRL.EN 1)).blk
    b.cmdOf 3 0x10 = some [0x10 * 2 ^ 56, 0x0021, 9, 0, 0, 0, 0, 0] ∧ b.stepRefusal (bits 0x0021 0 16) 9 = 0 := by decide +kernel

theorem start_step_refused : let b := (on0 (fetched 3 0x10 [0x0021, 9])).blk
    b.cmdOf 3 0x10 = some [0x10 * 2 ^ 56, 0x0021, 9, 0, 0, 0, 0, 0] ∧ b.stepRefusal (bits 0x0021 0 16) 9 ≠ 0 := by decide +kernel

theorem start_step_in_quiet : let b := (on0 (fun b => (fetched 3 0x10 [0x0021, 9] b).set 0 HBM_STAT.STATE 4)).blk
    b.cmdOf 3 0x10 = some [0x10 * 2 ^ 56, 0x0021, 9, 0, 0, 0, 0, 0] ∧ b.stepRefusal (bits 0x0021 0 16) 9 = 4 ∧ b.cmdOf 4 0x10 = none := by decide +kernel

theorem field_can_be_done : let b := (seqAt 5 0 (fun b => (b.updSeq 5 (fun q => { q with ended := true })).set (FLD 5) SEQ_STAT.STATE 5)).blk
    b.inStep 5 = true ∧ (b.seq 5).ended = true ∧ (b.seq 5).done = false ∧ b.streamEmpty 5 = true ∧ b.inStep 6 = false := by
  decide +kernel

theorem step_can_complete : let x : StepRec := { queue := 3, mask := 32, done := 32 }
    let b := (on0 (fun b => { b with steps := [x] })).blk
    b.steps.find? (fun y => y.queue == 3 && !y.closed) = some x ∧ b.stepOver x = true := by decide +kernel

/-! ### TicksAdvanceAndTheReferenceIsWatched -/

/-- Reference and PLLs are good and ticks run. -/
def ticking (b : Block) : Block :=
  ([TB_STAT.REF_OK, TB_STAT.CORE_LOCK, TB_STAT.TIM_LOCK, TB_STAT.D2D_LOCK, TB_STAT.HBM_LOCK, TB_STAT.TICK_RUN]).foldl
    (fun b F => b.setFlag 0 F true) b

theorem tick_conditions : let b := (on0 ticking).blk
    b.flag 0 TB_STAT.TICK_RUN = true ∧ b.flag 0 TB_STAT.REF_OK = true ∧ b.flag 0 (Block.lockBit 3) = true := by decide +kernel

theorem lock_conditions : let b := (on0 (fun b => { (b.setFlag 0 TB_STAT.TIM_LOCK true) with time := { b.time with waitSync := true } })).blk
    b.clocksGood = false ∧ b.flag 0 TB_STAT.TICK_RUN = false := by decide +kernel

theorem restart_conditions : let b := (on0 (fun b => { ((ticking b).setFlag 0 TB_STAT.TICK_RUN false) with
      time := { b.time with waitSync := true, lockSince := some 0, now := 1000000 } })).blk
    b.time.lockSince = some 0 ∧ b.time.waitSync = true ∧ b.clocksGood = true ∧ 0 + 1000000 ≤ b.time.now ∧
    b.flag 0 TB_STAT.TICK_RUN = false := by decide +kernel

/-! ### FieldFramesVectorsAndSower -/

/-- The stream of field 1 with `g` done to it. -/
def sower (g : SowSt → SowSt) : Block := (on0 (fun b => b.updSow 1 g)).blk

theorem vector_conditions : let r : OutRun := { start := 40, count := 1, sym := 0, set := 0, per := 5000, kind := 2 }
    ((sower (fun s => { s with out := [r] })).sow 1).out = [r] ∧ r.start < ((0 : Nat) + 1) * 20000 ∧ (on0 id).blk.time.now = 0 ∧
    ((sower (fun s => { s with out := [{ r with start := 20000 }] })).sow 1).out = [{ r with start := 20000 }] := by
  decide +kernel

theorem judge_conditions : let j : JudgeVec := { num := 3, start := 0, fails := 9, soft := 0, due := 0, word := 0 }
    let b := sower (fun s => { s with judge := [j] })
    (b.sow 1).judge = [j] ∧ j.due ≤ b.time.lastB * 20000 ∧ (b.seq 1).fFrom ≤ 3 ∧
    ((sower (fun s => { s with judge := [{ j with due := 1 }] })).sow 1).judge = [{ j with due := 1 }] := by decide +kernel

theorem fetch_conditions : let b := sower (fun s => { s with fetch := some 9 })
    (b.sow 1).fetch = some 9 ∧ b.hbmWaits 0 9 1 = false ∧ b.pageHeld 9 = false ∧ (b.dirRead 9 0).2 = true ∧ (b.dirRead 9 4).2 = false := by decide +kernel

theorem fallow_conditions : let b := sower (fun s => { s with queue := [.fallow 1 4] })
    (b.sow 1).cur = none ∧ (b.sow 1).queue = [.fallow 1 4] ∧ 4 ≤ b.sowRoom 1 (b.bHalf (b.time.ticks + 3)) (b.period 1 (b.headSet 1)) := by
  decide +kernel

theorem sjmp_conditions : let b := (on0 (fun b => b.updSeq 1 (fun q => { q with acts := [(0, 0, .sjmp [])] }))).blk
    (b.seq 1).acts = [(0, 0, .sjmp [])] ∧ 0 ≤ b.time.ticks := by decide +kernel

theorem check_conditions : (on0 id).blk.ts 1 = {} ∧ ((on0 (fun b => b.setTs 1 { running := true })).blk.ts 1).running = true := by decide +kernel

/-! ### PmuConversionsClampsAndDriverLimits -/

theorem pmu_converts : let b := (on0 (fun b => b.set (SLC 20) PMU_CFG.MODE 1)).blk
    b.get (SLC 20) PMU_CFG.MODE ≠ 0 ∧ b.slcRole 20 ≠ 3 ∧ (b.slc 20).measNext = none ∧ (on0 id).blk.get (SLC 20) PMU_CFG.MODE = 0 := by decide +kernel

theorem driver_not_in_limit : (on0 id).blk.flag (SLC 20) SLC_STAT.DRV_OVL = false := by decide +kernel

theorem driver_overloaded : let b := (on0 (fun b => { ((b.setFlag (SLC 20) SLC_STAT.DRV_OVL true).updSlc 20 (fun x => { x with
      limitAt := some 0 })) with time := { b.time with now := 100 } })).blk
    b.flag (SLC 20) SLC_STAT.DRV_OVL = true ∧ (b.slc 20).limitAt = some 0 ∧ (b.slc 20).limitRaised = false ∧ 0 + 100 ≤ b.time.now := by
  decide +kernel

theorem clamp_states : (on0 id).blk.flag (SLC 271) (Block.clampFld true) = false ∧
    (on0 (fun b => b.setFlag (SLC 271) SLC_STAT.CLAMP_I true)).blk.flag (SLC 271) (Block.clampFld false) = true := by decide +kernel

/-! ### SafeValuePathsRunTheirFourPhases -/

theorem path_phases : let d := (on0 (fun b => (b.set (SLC 3) SLC_STAT.PATH 1).updSlc 3 (fun x => { x with downDone := true }))).blk
    let c := (on0 (fun b => (b.set (SLC 3) SLC_STAT.PATH 2).updSlc 3 (fun x => { x with dropped := true }))).blk
    let h := (on0 (fun b => (b.set (SLC 3) SLC_STAT.PATH 2).updSlc 3 (fun x => { x with changed := true }))).blk
    let o := (on0 (fun b => (b.set (SLC 3) SLC_STAT.PATH 4).updSlc 3 (fun x => { x with downDone := true }))).blk
    (d.get (SLC 3) SLC_STAT.PATH = 1 ∧ (d.slc 3).downDone = true ∧ d.atBoundary = true ∧ d.substHolds 3 = false) ∧
    (c.get (SLC 3) SLC_STAT.PATH = 2 ∧ (c.slc 3).dropped = true ∧ (c.slc 3).changed = false) ∧
    (h.get (SLC 3) SLC_STAT.PATH = 2 ∧ (h.slc 3).changed = true ∧ h.atBoundary = true ∧ h.substHolds 3 = false) ∧
    (o.get (SLC 3) SLC_STAT.PATH = 4 ∧ (o.slc 3).downDone = true ∧ o.atBoundary = true) ∧ (on0 id).blk.get (SLC 3) SLC_STAT.PATH = 0 := by
  decide +kernel

/-! ### SubstitutionThroughTheHingeBus -/

/-- Worn slice 20 of field 1 is due for its spare, slice 33. -/
def dueSlice (b : Block) : Block := { b with flt := { b.flt with due := [(0, 20)] } }

theorem substitution_can_start : let b := (on0 dueSlice).blk
    b.slcChan 20 = some 19 ∧ b.flt.due.contains (0, 20) = true ∧ b.slcRole 20 = 0 ∧ b.slcRole 33 = 1 ∧ b.slcBolted 20 = false ∧
    b.slcBolted 33 = false ∧ (b.subst 1).phase = 0 ∧ b.idle 1 = true ∧ b.boundaryBusy 1 = false ∧ b.atBoundary = true := by decide +kernel

theorem substitution_phases : let b1 := (on0 (fun b => (b.setSubst 1 { worn := 20, chan := 19, phase := 1 }).updSlc 20 (fun x => { x with downDone := true }))).blk
    let b2 := (on0 (fun b => b.setSubst 1 { worn := 20, chan := 19, phase := 2 })).blk
    let b3 := (on0 (fun b => b.setSubst 1 { worn := 20, chan := 19, phase := 3 })).blk
    ((b1.subst 1).phase = 1 ∧ (b1.slc (b1.subst 1).worn).downDone = true ∧ b1.atBoundary = true) ∧ (b2.subst 1).phase = 2 ∧
    (b3.subst 1).phase = 3 ∧ b3.atBoundary = true ∧ (on0 id).blk.slcChan 33 = none := by decide +kernel

/-! ### SlewStepsClearingAndItsRelease -/

theorem dacs_ramp : let b := (on0 (fun b => { b.set (SLC 5) LVL_ACT1.RAMP 1 with time := { b.time with now := 100000 } })).blk
    (bit (b.get (SLC 5) LVL_ACT1.RAMP) 0 = true ∧ onGrid b 0 (b.get (SLC 5) LVL_SLEW.INTV) = true) ∧
    ¬ (bit (b.get (SLC 6) LVL_ACT1.RAMP) 0 = true ∧ onGrid b 0 (b.get (SLC 6) LVL_SLEW.INTV) = true) := by decide +kernel

theorem clearing_can_start_and_end : (on0 (fun b => b.setFlag 0 CLR_STAT.CLR_IN false)).blk.flag 0 CLR_STAT.CLR_IN = false ∧
    (on0 (fun b => b.setFlag 0 CLR_STAT.CLR_IN true)).blk.flag 0 CLR_STAT.CLR_IN = true ∧ (on0 id).blk.flt.relPend = false ∧
    (let b := (on0 (fun b => { b.setFlag 0 CLR_STAT.HELD true with flt := { b.flt with relPend := true } })).blk
     b.flt.relPend = true ∧ b.flag 0 CLR_STAT.HELD = true ∧ b.atBoundary = true) := by decide +kernel

/-! ### GeneratorsReadbackAndMonitors -/

theorem generator_can_start : let g := Block.genRegs (.slice 7)
    let b := (on0 (fun b => ((b.set (SLC 7) GEN_CTRL.RUN 1).set (SLC 7) PMU_CFG.MODE 1).setFlag 0 CLR_STAT.HELD false)).blk
    b.flag g.base g.run = true ∧ b.flag g.base g.act = false ∧ b.genQuiet (.slice 7) = true ∧ b.held = false ∧
    (b.gen g.unit).needOff = false ∧ b.atBoundary = true ∧ (on0 id).blk.flag g.base g.run = false := by decide +kernel

theorem generator_runs : let g := Block.genRegs (.dps 3)
    let run := fun (v : Nat) => (on0 (fun b => { (b.setFlag (DPS 3) DPS_GEN_STAT.RUN_ACT true).set (DPS 3) DPS_LIM.NCODE v with
      time := { b.time with now := 100000 } })).blk
    let good := (on0 (fun b => { ((b.setFlag (DPS 3) DPS_GEN_STAT.RUN_ACT true).set (DPS 3) DPS_LIM.CODE 0).set (DPS 3) DPS_LIM.NCODE 0xFFFF
      with time := { b.time with now := 100000 } })).blk
    good.flag g.base g.act = true ∧ onGrid good 0 (good.get g.base g.gintv) = true ∧ good.genLimitOk (.dps 3) = true ∧
    (run 1).genLimitOk (.dps 3) = false ∧ (on0 id).blk.flag g.base g.act = false := by decide +kernel

theorem readback_takes_an_entry : let b := (on0 (fun b => b.setFlag (FLD 2) RB_CTRL.EN true)).blk
    let t := b.time.now - 240
    (b.flag (FLD 2) RB_CTRL.EN = true ∧ b.rbFits 2 t = true ∧ (b.rb 2).used ≤ t) ∧
    (b.updRb 2 (fun r => { r with selAt := t, sel := none })).rb 2 = { b.rb 2 with selAt := t, sel := none } ∧
    (b.updRb 2 (fun r => { r with selAt := t, sel := some 176 })).rb 2 = { b.rb 2 with selAt := t, sel := some 176 } ∧
    (on0 (fun b => b.setFlag (FLD 2) RB_CTRL.EN false)).blk.flag (FLD 2) RB_CTRL.EN = false := by decide +kernel

theorem monitors_and_checks : let b := (on0 (fun b => ((b.setFlag (SLC 4) WM_CTRL.EN true).set (DPS 1) DPS_WM_CHK.INTV 1).updWm 279
      (fun w => { w with chk := 2 }))).blk
    b.flag (monSlice 4).base (monSlice 4).en = true ∧ b.flag (monSlice 5).base (monSlice 5).en = false ∧ (b.wm (272 + 7)).chk ≠ 0 ∧
    (b.wm (272 + 1)).chk = 0 ∧ b.get (DPS 1) DPS_WM_CHK.INTV ≠ 0 ∧ b.tick % b.get (DPS 1) DPS_WM_CHK.INTV = 0 ∧ b.atBoundary = true := by
  decide +kernel

/-! ### SuppliesConnectConvertAndAreWatched -/

theorem supply_conditions : let b := (on0 (fun b => ((((b.setFlag (DPS 9) DPS_STAT.WAIT true).setFlag (DPS 8) DPS_STAT.OUT_SW true).setFlag
      (DPS 8) DPS_CTRL.EN true).setFlag (DPS 8) DPS_CTRL.BOOST true).updDps 7 (fun d => { d with ending := true, bolt := 2 }))).blk
    (b.flag (DPS 9) DPS_STAT.WAIT = true ∧ (b.dps 9).waitLeft = 0 ∧ b.atBoundary = true) ∧
    ((b.dps 7).ending = true ∧ (b.dps 7).bolt = 2 ∧ (b.dps 7).pos = 0) ∧
    (b.flag (DPS 8) DPS_STAT.OUT_SW = true ∧ (b.dps 8).measNext = none) ∧
    (b.flag (DPS 8) DPS_CTRL.EN = true ∧ b.flag (DPS 8) DPS_STAT.SENSE_OPEN = false) ∧
    (b.flag (DPS 8) DPS_STAT.CLAMP = false ∧ b.dpsClamp 8 ≤ 2 ^ 40) ∧
    b.flag (DPS 8) DPS_CTRL.BOOST = true ∧ (b.dps 8).clampAt = none ∧
    b.flag (DPS 6) DPS_STAT.WAIT = false ∧ (b.dps 6).ending = false ∧ (b.dps 6).bolt = 0 ∧ b.flag (DPS 6) DPS_STAT.OUT_SW = false ∧
    b.flag (DPS 6) DPS_CTRL.EN = false := by decide +kernel

theorem supply_overloaded : let b := (on0 (fun b => { ((b.setFlag (DPS 33) DPS_STAT.CLAMP true).updDps 33 (fun d => { d with clampAt := some 0 }))
      with time := { b.time with now := 1000001 } })).blk
    (b.dps 33).clampAt = some 0 ∧ b.flag (DPS 33) DPS_STAT.CLAMP = true ∧ (b.dps 33).clampRaised = false ∧ 0 + 1000000 < b.time.now := by
  decide +kernel

/-! ### SegmentCommandsChangeTheDirectory -/

theorem seg_alloc_ready : let b := (on0 (fetched 2 0x20 [0x3000013, 700])).blk
    b.cmdOf 2 0x20 = some [0x20 * 2 ^ 56, 0x3000013, 700, 0, 0, 0, 0, 0] ∧ (b.dirRead 700 0).2 = true ∧
    ((b.dirRead 700 0).1.freePages 1048576 3 700).length = 3 := by decide +kernel

/-- Page 700 is a chain of one page in a state. -/
def onePage (st : Nat) (b : Block) : Block := (((b.set (16 * 700) DIR_ENT0.STATE st).set (16 * 700) DIR_ENT0.OWNER 1).set (16 * 700) DIR_ENT0.HEAD 1).set
  (16 * 700) DIR_ENT0.LAST 1

/-- The words of the smallest header: one page, 80 header words, no vectors. -/
def headerMem : List Host.Cell := setPageWord (setPageWord [] 700 0 (0x5EED * 2 ^ 48 + 80 * 2 ^ 32 + 1)) 700 1 0

theorem seg_seal_passes : let s : State := { on0 (fun b => fetched 2 0x21 [700] (onePage 1 b)) with mem := headerMem }
    let b := s.blk
    b.cmdOf 2 0x21 = some [0x21 * 2 ^ 56, 700, 0, 0, 0, 0, 0, 0] ∧ (b.dirRead 700 0).2 = true ∧ sealCode s.mem (b.dirRead 700 0).1 700 = 0 := by
  decide +kernel

theorem seg_seal_refused : let s := on0 (fun b => fetched 2 0x21 [700] (onePage 1 b))
    let b := s.blk
    b.cmdOf 2 0x21 = some [0x21 * 2 ^ 56, 700, 0, 0, 0, 0, 0, 0] ∧ (b.dirRead 700 0).2 = true ∧ sealCode s.mem (b.dirRead 700 0).1 700 = 0x33 := by
  decide +kernel

theorem seg_unseal_ready : let b := (on0 (fun b => fetched 2 0x22 [700] (onePage 2 b))).blk
    b.cmdOf 2 0x22 = some [0x22 * 2 ^ 56, 700, 0, 0, 0, 0, 0, 0] ∧ (b.dirRead 700 0).2 = true ∧ (b.dirRead 700 0).1.chainRefuse 700 = none ∧
    (b.dirRead 700 0).1.pgOwner 700 = 1 ∧ (b.dirRead 700 0).1.pgState 700 = 2 := by decide +kernel

theorem seg_free_ready : let b := (on0 (fun b => fetched 2 0x23 [700] (onePage 2 b))).blk
    b.cmdOf 2 0x23 = some [0x23 * 2 ^ 56, 700, 0, 0, 0, 0, 0, 0] ∧ (b.dirRead 700 0).2 = true ∧ (b.dirRead 700 0).1.freeCode 700 = 0 ∧
    (b.dirRead 700 0).1.pgProt 700 = false := by decide +kernel

/-- Slot `k` runs the operation `opc` with the words `ws`. -/
def slotAt (k opc : Nat) (ws : List Nat) (b : Block) : Block :=
  let b := (b.set (8 * k) OPSTAT.STATE 2).set (8 * k) OPSTAT.OPC opc
  { b with host := { b.host with slots := Sparse.set {} k { words := ws } b.host.slots } }

theorem seg_free_done_ready : let b := (on0 (fun b => slotAt 9 0x23 [0x23 * 2 ^ 56, 700] (onePage 2 b))).blk
    b.slotRuns 9 0x23 = true ∧ b.freeCode (b.slotWord 9 1 % 2 ^ 20) = 0 := by decide +kernel

theorem dictionary_writable : (on0 id).blk.idle 4 = true ∧ symbolsOk (0x8888888888888888#64).toNat = true := by decide +kernel

/-! ### PageWindowReadsAndWritesItsBytes -/

theorem page_window_witness : let s := on0 (onePage 1)
    bar2Writable s.blk ((700 * 32768 + 5) / 32768) = true ∧ 700 * 32768 + 5 + 2 ≤ 2 ^ 35 ∧ 2 ^ 35 < 2 ^ 35 - 1 + 2 ∧
    bar2Writable s.blk (701 * 32768 / 32768) = false ∧ s.blk.pgProt 700 = false ∧ s.blk.pgState 700 ≠ 4 ∧
    (on0 (fun b => b.setFlag (16 * 700) DIR_ENT0.PROT true)).blk.pgProt 700 = true ∧
    (let b := (on0 (fun b => (b.setFlag 0 HQ_STAT.READY true).set 0 HBM_STAT.STATE 1)).blk
     b.flag 0 HQ_STAT.READY = true ∧ b.get 0 HBM_STAT.STATE ≠ 0) ∧
    (on0 (fun b => b.setFlag 0 HQ_STAT.READY false)).blk.flag 0 HQ_STAT.READY = false := by decide +kernel

/-! ### HaspsLinesAndFlashJobs -/

theorem claim_and_release : let b := (on0 (fetched 1 0x18 [0x50003])).blk
    let k := (on0 (fun b => (fetched 1 0x18 [0x50003] b).set (8 * 3) HASP_ENT.OWNER 5)).blk
    let r := (on0 (fun b => (fetched 1 0x19 [3] b).set (8 * 3) HASP_ENT.OWNER 0x21)).blk
    (b.cmdOf 1 0x18 = some [0x18 * 2 ^ 56, 0x50003, 0, 0, 0, 0, 0, 0] ∧ haspExists 3 = true ∧ haspOpen 3 = true ∧ b.haspOwner 3 = 0) ∧
    (k.cmdOf 1 0x18 = some [0x18 * 2 ^ 56, 0x50003, 0, 0, 0, 0, 0, 0] ∧ k.haspOwner 3 ≠ 0 ∧ k.haspOwner 3 ≠ 0x20 + 1) ∧
    (r.cmdOf 1 0x19 = some [0x19 * 2 ^ 56, 3, 0, 0, 0, 0, 0, 0] ∧ r.haspOwner 3 = 0x20 + 1 ∧ r.haspActive 3 = false ∧ bit 3 63 = false) := by
  decide +kernel

theorem line_and_flash_conditions : (on0 id).blk.seqHeld (256 + 7) = false ∧
    (on0 (fun b => b.set (8 * 263) HASP_ENT.OWNER 1)).blk.seqHeld (256 + 7) = true ∧ (on0 id).blk.sync.pulses = [] ∧
    (on0 id).blk.flash.running = none ∧ (on0 id).blk.flash.queue = [] ∧ 5 + (on0 id).blk.get (8 * (1 + 7)) LINE_CAL.DLY < (0 + 1) * 20000 ∧
    (on0 (fun b => { b with sync := { b.sync with pulses := [(7, 0)] } })).blk.sync.pulses.any
      (fun p => p.1 == 7 && decide (p.2 < (0 + 1) * 20000)) = true ∧
    (on0 (fun b => { b with flash := { b.flash with queue := [(1, 2)] } })).blk.flash.queue = [(1, 2)] ∧
    (on0 (fun b => { b with flash := { b.flash with running := some (1, 2) } })).blk.flash.running = some (1, 2) := by decide +kernel

/-! ### StampsAreTakenWrittenAndRead -/

/-- Slice 40 stamps rising edges; its last stamp was at `last`, and its FIFO holds `n` stamps. -/
def stamping (last n : Nat) (b : Block) : Block := (b.set (SLC 40) TIA_STAT.MODE_ACT 1).updTia 40 (fun t => { t with
  stamping := true, lastStamp := some last, fifo := List.replicate n (0, 0, 7) })

theorem edge_cases : let b := (on0 (fun b => (stamping 0 0 b).updTia 40 (fun t => { t with cmp := (false, true) }))).blk
    (b.cmpStep 40 (b.tia 40).cmp 9000000).1 = true ∧ (b.tia 40).cmp.1 = false ∧ b.flag (SLC 40) TIA_STAT.SRC_ACT = false ∧
    (b.cmpStep 40 (b.tia 40).cmp (-9000000)).1 = false := by decide +kernel

theorem writer_cases : let b := (on0 (fun b => (((stamping 0 2 b).setFlag (FLD 2) TIA_FCHAIN.EN true).set 0 HBM_STAT.STATE 1).updChain 2
      (fun c => { c with epoch := some 0 }))).blk
    let e := (on0 (fun b => ((b.setFlag (FLD 2) TIA_FCHAIN.EN true).set (FLD 2) TIA_FSTAT.WORDS 3).set 0 HBM_STAT.STATE 1)).blk
    let d := (on0 (fun b => b.updChain 2 (fun c => { c with detach := true }))).blk
    ((b.flag (FLD 2) TIA_FCHAIN.EN = true ∧ b.flag (FLD 2) TIA_FSTAT.TRUNC = false) ∧ b.hbmTakes = true ∧ b.nextFifo 2 = some 6 ∧
      (b.tia (17 * 2 + 6)).fifo = (0, 0, 7) :: [(0, 0, 7)]) ∧ (b.set 0 HBM_STAT.STATE 4).hbmTakes = false ∧
    (e.flag (FLD 2) TIA_FCHAIN.EN = true ∧ e.flag (FLD 2) TIA_FSTAT.TRUNC = false ∧ e.hbmTakes = true ∧ e.nextFifo 2 = none ∧
      e.get (FLD 2) TIA_FSTAT.WORDS % 4096 ≠ 0 ∧ e.idle 2 = true) ∧
    ((d.chainSt 2).detach = true ∧ d.get (FLD 2) TIA_FSTAT.WORDS % 4096 = 0 ∧ d.nextFifo 2 = none) ∧
    (on0 id).blk.flag (FLD (40 / 17)) TIA_FCHAIN.EN = false ∧ ((on0 id).blk.tia 40).fifo = [] ∧ ((on0 id).blk.chainSt 2).detach = false := by
  decide +kernel

theorem chain_write_cases : let b := (on0 (fun b => (((onePage 1 b).set (16 * 700) DIR_ENT0.OWNER 3).set (16 * 700) DIR_ENT1.UNIT 2).set
      (8 * 37) HASP_ENT.OWNER 0x20)).blk
    let v := (0x100000#64 + 700#64).toNat
    ((b.idle 2 = true ∧ b.hostHeld (16 * 2 + 5) = true) ∧ bit v 20 = true ∧ b.pgHead (v % 2 ^ 20) = true ∧ b.pgOwner (v % 2 ^ 20) = 3 ∧
      b.pgUnit (v % 2 ^ 20) = 2 ∧ b.pgState (v % 2 ^ 20) = 1) ∧ bit (0#64).toNat 20 = false ∧
    (on0 (fun b => { b with steps := [{ mask := 4 }] })).blk.idle 2 = false := by decide +kernel

/-! ### InterpolatorsCalibrateAndGatesMeasure -/

theorem interpolator_cases : let b := (on0 id).blk
    let l := (on0 (fun b => (b.setFlag (SLC 6) TIA_STAT.DLL_LOCK true).updTia 6 (fun t => { t with dllDue := true }))).blk
    ((b.tia 6).dllAt = none ∧ b.flag (SLC 6) TIA_STAT.DLL_LOCK = false) ∧
    ((l.tia 6).dllAt = none ∧ l.flag (SLC 6) TIA_STAT.DLL_LOCK = true ∧ (l.tia 6).dllDue = true ∧ l.idle (6 / 17) = true ∧ l.atBoundary = true) ∧
    ((on0 (fun b => b.updTia 6 (fun t => { t with dllAt := some 0 }))).blk.tia 6).dllAt = some 0 := by decide +kernel

theorem gate_cases : let a := (on0 (fun b => b.updTia 271 (fun t => { t with gate := some {} }))).blk
    let e := (on0 (fun b => b.updTia 271 (fun t => { t with gate := some { opened := true } }))).blk
    let r := (on0 (fun b => b.updTia 271 (fun t => { t with results := [(0, 1, 2)] }))).blk
    (a.tia 271).gate.any (fun g => !g.opened && decide (g.opensAt ≤ a.time.now)) = true ∧ (e.tia 6).gate = none ∧ (e.tia 6).results = [] ∧
    ((e.tia 271).gate = some { opened := true } ∧ ({ opened := true } : GateSt).endsAt ≤ e.time.now) ∧
    ((r.tia 271).results = (0, 1, 2) :: [] ∧ 0 ≤ r.time.lastB) ∧ a.idle (271 / 17) = true ∧ a.slcBolted 271 = false ∧
    (on0 (fun b => { b with steps := [{ mask := 2 ^ 15 }] })).blk.idle (271 / 17) = false := by decide +kernel

/-! ### SourcesAndDigitisersFollowTheirCommands -/

theorem dds_command_cases : let b := (on0 id).blk
    let r := (on0 (fun b => b.set (FLD 9) DDS_STAT.STATE 1)).blk
    let h := (on0 (fun b => (b.set (8 * 146) HASP_ENT.OWNER 10).set (8 * 147) HASP_ENT.OWNER 10)).blk
    (h.ddsHostOk 9 = false ∧ h.digHostOk 9 = false) ∧
    (b.ddsHostOk 9 = true ∧ b.get (FLD 9) DDS_LIST.FIRST ≤ 4096 % 4096 ∧ 4096 % 4096 ≤ b.get (FLD 9) DDS_LIST.LAST ∧
      b.get (FLD 9) DDS_STAT.STATE = 0 ∧ b.get (FLD 9) DDS_LA.LIST = 0 ∧ (0x666666666666#64).toNat % 2 ^ 48 ≤ ftwMax) ∧
    (r.ddsHostOk 9 = true ∧ r.get (FLD 9) DDS_STAT.STATE ≠ 0) := by decide +kernel

theorem dds_boundary_cases : let due := fun (c : Nat) => (on0 (fun b => { ((b.set (FLD 9) DDS_STAT.STATE 1).updDds 9 (fun d => { d with cmds := [(c, 5, 0)] }))
      with time := { b.time with lastB := 100, now := 100 } })).blk
    let t := (on0 (fun b => (((b.set (FLD 9) DDS_STAT.STATE 1).set (FLD 9) DDS_CTRL.STEP_SRC 3).set (FLD 9) DDS_CTRL.NTICK 1).set 0 TICKNO.TICKNO 4)).blk
    ((due 1).ddsDue 9 = (1, 5) :: [] ∧ (due 3).ddsDue 9 = (3, 5) :: [] ∧ ((due 2).ddsSteps 9).1 + ((due 2).ddsSteps 9).2 ≠ 0 ∧
      (due 2).get (FLD 9) DDS_STAT.STATE ≠ 0) ∧
    (t.get (FLD 9) DDS_CTRL.STEP_SRC = 3 ∧ t.get (FLD 9) DDS_STAT.STATE ≠ 0 ∧ t.atBoundary = true ∧
      Int.ofNat t.tick - Int.ofNat (t.dds 9).runTick ≠ 0 ∧
      (Int.ofNat t.tick - Int.ofNat (t.dds 9).runTick) % Int.ofNat (t.get (FLD 9) DDS_CTRL.NTICK) = 0 ∧ (t.dds 9).tickStep ≠ t.time.ticks + 1) := by
  decide +kernel

theorem digitiser_cases : let b := (on0 id).blk
    let w := (on0 (fun b => (b.set (FLD 1) DIG_STAT.STATE 1).updDig 1 (fun d => { d with t0 := some 0 }))).blk
    let r := (on0 (fun b => { (b.set (FLD 1) DIG_STAT.STATE 2).updDig 1 (fun d => { d with nsamp := 2 }) with
      time := { b.time with lastB := 100, now := 100 } })).blk
    (b.digHostOk 1 = true ∧ b.idle 1 = true ∧ b.get (FLD 1) DIG_STAT.STATE = 0) ∧
    (w.digHostOk 1 = true ∧ w.get (FLD 1) DIG_STAT.STATE = 1 ∧ (w.dig 1).t0 = some 0 ∧ 0 ≤ w.time.now) ∧
    (r.get (FLD 1) DIG_STAT.STATE = 2 ∧ r.atBoundary = true ∧ r.ripe (r.dig 1).lastAt = true ∧ [5, 6].length = (r.dig 1).nsamp ∧ (b.dig 1).t0 = none) := by decide +kernel

/-! ### CaptureEnginesArmTakeAndEndRecords -/

theorem capture_requests : let h := (on0 (fun b => b.set (8 * 36) HASP_ENT.OWNER 3)).blk
    let due := fun (c post : Nat) => (on0 (fun b => { ((b.set (FLD 2) CAP_LEN.POST post).updCap 2 (fun x => { x with reqs := [(c, 0, 0)] }))
      with time := { b.time with lastB := 100, now := 100 } })).blk
    (on0 id).blk.seqHeld (16 * 2 + 4) = false ∧ h.seqHeld (16 * 2 + 4) = true ∧
    (due 1 0).capDue 2 1 ≠ [] ∧ (on0 id).blk.capDue 2 1 = [] ∧ (due 3 0).capDue 2 3 ≠ [] ∧ (on0 id).blk.capDue 2 3 = [] := by
  decide +kernel

theorem capture_entries : let b := (on0 (fun b => ((b.set (FLD 2) CAP_STAT.STATE 3).set (FLD 2) CAP_LEN.POST 9).updCap 2 (fun x => { x with feed := [(7, 0, 0)] }))).blk
    let a := (on0 (fun b => ((b.set (FLD 2) CAP_STAT.STATE 2).set (FLD 2) CAP_CFG.MODE 2).updCap 2 (fun x => { x with fullTick := some 0 })) |>.on
      (fun b => { b with time := { b.time with ticks := 2 ^ 40 } })).blk
    let t := (on0 (fun b => ((b.setFlag (FLD 2) CAP_CFG.STREAM true).set 0 HBM_STAT.STATE 1).updCap 2 (fun x => { x with page := some 700, waiting := [1, 2], word := 4095 }))).blk
    (b.capActive 2 = true ∧ (b.cap 2).ending = 0 ∧ b.get (FLD 2) CAP_CFG.SRC = 0 ∧ (b.cap 2).feed = (7, 0, 0) :: [] ∧ b.get (FLD 2) CAP_STAT.STATE = 3 ∧
      b.get (FLD 2) CAP_TRG.TSRC ≠ 5 ∧ b.flag (FLD 2) CAP_CFG.MASK_EN = false ∧ b.flag (FLD 2) CAP_CFG.STREAM = false ∧ (b.cap 2).trigs = [] ∧
      (b.cap 2).entry - (b.cap 2).trigEntry + 1 ≠ b.get (FLD 2) CAP_LEN.POST ∧ b.capNextTime 2 = some 0) ∧ (on0 id).blk.capNextTime 2 = none ∧
    ((a.cap 2).fullTick = some 0 ∧ a.get (FLD 2) CAP_CFG.MODE = 2 ∧ a.get (FLD 2) CAP_STAT.STATE = 2 ∧ a.atBoundary = true ∧
      0 + a.get (FLD 2) CAP_TRG.TOUT ≤ a.time.ticks) ∧
    (t.hbmTakes = true ∧ (t.cap 2).tail = [] ∧ t.flag (FLD 2) CAP_CFG.STREAM = true ∧ (t.cap 2).page = some 700) ∧
    (t.set 0 HBM_STAT.STATE 4).hbmTakes = false ∧ ((t.updCap 2 (fun x => { x with tail := [(9, 9)] })).cap 2).tail ≠ [] := by decide +kernel

/-! ### ResultsReachTheRingAndWafersAreSigned -/

/-- A parametric record of field 2. -/
def aRecord : QRec := ⟨0x1200000000000000, 5, 6, 7, 2, false, none, 0, false⟩

/-- A record waits, the ring is enabled. -/
def recordWaits (b : Block) : Block := ({ b with res := { b.res with queue := [aRecord] } }).set 0 RES_CTRL.EN 1

theorem ring_cases : let b := (on0 recordWaits).blk
    let full := (on0 (fun b => (recordWaits b).set 0 RES_PROD.COUNT (2 ^ 40))).blk
    (b.flag 0 RES_CTRL.EN = true ∧ b.get 0 RES_PROD.COUNT - b.get 0 RES_CONS.COUNT < b.ringSize ∧
      Block.ringNext [] b.res.queue = some (aRecord, [])) ∧
    ¬ (full.get 0 RES_PROD.COUNT - full.get 0 RES_CONS.COUNT < full.ringSize) ∧
    (on0 id).blk.flag 0 RES_CTRL.EN = false ∧ bit (1#64).toNat 0 = true ∧ bit (0#64).toNat 0 = false ∧ (on0 id).blk.res.queue = [] := by
  decide +kernel

/-- Queue pair 3 is a User, an attestation key exists, and a wafer is open. -/
def signer (wafer : Nat) (b : Block) : Block :=
  let b := ((b.set 0 KR_ROLE_USER.BITS 8).set 0 KR_STAT.STATE 1).set 0 RES_STAT.WAFER wafer
  { b with kr := { b.kr with att := some default } }

theorem wafer_cases : let o := (on0 (fetched 3 0x30 [77])).blk
    let busy := (on0 (fun b => { fetched 3 0x30 [77] b with steps := [{ mask := 1 }] })).blk
    let n := (on0 (fun b => fetched 3 0x31 [] (signer 0 b))).blk
    let w := (on0 (fun b => fetched 3 0x31 [] (signer 1 b))).blk
    let d := (on0 (slotAt 9 0x31 [0x31 * 2 ^ 56, 0, 4096])).blk
    (o.cmdOf 3 0x30 = some [0x30 * 2 ^ 56, 77, 0, 0, 0, 0, 0, 0] ∧ o.moduleIdle = true ∧ o.res.queue = []) ∧
    (busy.cmdOf 3 0x30 = some [0x30 * 2 ^ 56, 77, 0, 0, 0, 0, 0, 0] ∧ busy.moduleIdle = false) ∧
    (n.cmdOf 3 0x31 = some [0x31 * 2 ^ 56, 0, 0, 0, 0, 0, 0, 0] ∧ n.krRefuse 3 0x31 1 = 0 ∧ n.kr.att.isSome = true ∧ n.flag 0 RES_STAT.WAFER = false) ∧
    (w.cmdOf 3 0x31 = some [0x31 * 2 ^ 56, 0, 0, 0, 0, 0, 0, 0] ∧ w.krRefuse 3 0x31 1 = 0 ∧ w.kr.att.isSome = true ∧ w.flag 0 RES_STAT.WAFER = true ∧
      w.moduleIdle = true ∧ w.res.queue = [] ∧ w.freeSlot = some 0) ∧ d.slotRuns 9 0x31 = true := by decide +kernel

/-! ### InterruptWordsChangeBitByBit -/

theorem irq_operands : 658 ≤ (1023#64).toNat % 1024 ∧ (657#64).toNat % 1024 < 658 ∧ 82 ≤ (82#64).toNat % 128 ∧ (81#64).toNat % 128 < 82 := by decide

/-! ### SkewCalibrationAndSyncPulses -/

theorem skew_cases : let a := (on0 (fetched 3 0x38 [])).blk
    a.cmdOf 3 0x38 = some [0x38 * 2 ^ 56, 0, 0, 0, 0, 0, 0, 0] ∧ (on0 id).blk.cmdOf 3 0x38 = none ∧
    (on0 (slotAt 9 0x38 [])).blk.slotRuns 9 0x38 = true ∧ (on0 id).blk.slotRuns 9 0x38 = false := by decide +kernel

theorem pulse_cases : let m := (on0 (fun b => (b.setFlag 0 SYNC_CTRL.SOUT true).setFlag 0 SYNC_STAT.WAIT true |>.setFlag 0 SYNC_CTRL.AUTO_LOCAL true)).blk
    let l := (on0 (fun b => { ticking b with sync := { b.sync with locals := [0], b0At := some 0 } })).blk
    (m.flag 0 SYNC_CTRL.SOUT = true ∧ m.flag 0 SYNC_STAT.WAIT = true ∧ m.flag 0 SYNC_CTRL.AUTO_LOCAL = true ∧ m.sync.locals = [] ∧ m.sync.b0At = none) ∧
    (on0 (fun b => b.setFlag 0 SYNC_CTRL.SOUT false)).blk.flag 0 SYNC_CTRL.SOUT = false ∧
    (l.sync.locals = 0 :: [] ∧ l.sync.b0At = some 0 ∧ 0 ≤ l.time.now ∧ l.clocksGood = true) := by decide +kernel

/-! ### CommitsAreJudgedHeldAndApplied -/

/-- The commit `c` is pending at 1 ms of a running tick generator. -/
def committing (c : CommitRec) (b : Block) : Block :=
  { (ticking b) with sync := { b.sync with commit := some c }, time := { b.time with now := 100000 } }

theorem commit_commands : let a := (on0 (fetched 4 0x11 [0x10001, 9])).blk
    let r := (on0 (fetched 4 0x11 [0x10002, 9])).blk
    (a.cmdOf 4 0x11 = some [0x11 * 2 ^ 56, 0x10001, 9, 0, 0, 0, 0, 0] ∧ a.commitRefusal (bits 0x10001 0 16) 9 (!bit 0x10001 16) = 0) ∧
    (r.cmdOf 4 0x11 = some [0x11 * 2 ^ 56, 0x10002, 9, 0, 0, 0, 0, 0] ∧ r.commitRefusal (bits 0x10002 0 16) 9 (!bit 0x10002 16) ≠ 0) := by
  decide +kernel

theorem commit_phases : let j : CommitRec := { gen := 1, target := 1, writes := 0, shared := true, queue := 4, judged := true, ready := true }
    let r := (on0 (committing { j with judged := false, ready := false })).blk
    let h := (on0 (committing j)).blk
    let driven := (on0 (fun b => ((committing j b).setFlag 0 SYNC_CTRL.HOLD_EN true).setFlag 0 SYNC_STAT.LOCAL_SCOPE false)).blk
    let a := (on0 (fun b => { committing { j with apply := true, target := 0 } b with time := b.time })).blk
    (r.sync.commit = some { j with judged := false, ready := false } ∧ 1 ≤ r.tick + 1 ∧ r.time.lastB + 10 ≤ r.time.now ∧
      r.flag 0 TB_STAT.TICK_RUN = true) ∧
    (h.sync.commit = some j ∧ h.time.lastB + 20 ≤ h.time.now ∧ h.time.lastB + h.k - 20 ≤ h.time.now ∧ h.flag 0 TB_STAT.TICK_RUN = true ∧
      (h.setFlag 0 SYNC_CTRL.HOLD_EN false).holdDriven = false) ∧
    (driven.sync.commit = some j ∧ driven.holdDriven = true) ∧
    (a.sync.commit = some { j with apply := true, target := 0 } ∧ a.atBoundary = true ∧ 0 ≤ a.tick) := by decide +kernel

/-! ### FramesPassAndLinksComeAndGo -/

/-- A PTP message of 64 bytes with no tag. -/
def aFrame (bad : Fin 3) (kind : EthKind) : EthFrame :=
  { len := 64, bad := bad, dst := 0x011B19000000, tags := [], etype := 0x88F7, kind := kind, ident := 1, corr := 0 }

/-- Master 7 of domain 0. -/
def master7 : PtpMaster := ⟨7, 0, 128, 6, 33, 4, 128, 7, 0, 100000⟩

theorem frame_cases : let b := (on0 (fun b => (b.setFlag 0 ETH_STAT.UP true).setFlag 8 ETH_STAT.UP true)).blk
    let d := (on0 (fun b => (b.setFlag 0 ETH_STAT.UP false).setFlag 8 ETH_STAT.UP false)).blk
    let full := b.updEth 1 (fun d => { d with queue := [({ aFrame 0 .followUp with len := 65536 }, 0)] })
    let old := { (full.set 0 PTP_CTRL.TC_EN 1) with time := { full.time with now := 100000000 } }
    (b.ethUp 1 = true ∧ b.ethUp (1 - 1) = true ∧ d.ethUp 1 = false ∧ d.ethUp (1 - 1) = false) ∧
    (full.set 0 PTP_CTRL.TC_EN 0).ethNext 1 = some ({ aFrame 0 .followUp with len := 65536 }, 0) ∧
    (old.eth 1).queue.find? (fun x => Block.ethKindOf x.1 == .followUp && !old.ethReady 1 x.1 && decide (x.2 + 100000000 ≤ old.time.now)) =
      some ({ aFrame 0 .followUp with len := 65536 }, 0) := by decide +kernel

theorem clock_cases : let st := (on0 (fun b => { b with ptp := { b.ptp with step := some (5, 0) } })).blk
    let h := (on0 (fun b => { b.set 0 PTP_STAT.STATE 2 with ptp := { b.ptp with master := some (master7, 0) } })).blk
    st.ptp.step = some (5, 0) ∧ h.ptp.master = some (master7, 0) ∧ h.get 0 PTP_STAT.STATE ≠ 0 ∧
    (on0 id).blk.ptp.step = none ∧ (on0 id).blk.ptp.master = none ∧ (on0 id).blk.get 0 PTP_STAT.STATE = 0 := by decide +kernel

/-! ### ThePtpClockFollowsItsMaster -/

/-- The clock of domain 0 listens on port 0 to master 7, with exchanges under way. -/
def listening (xs : List PtpExch) (b : Block) : Block :=
  { ((b.set 0 PTP_STAT.STATE 1).setFlag 0 ETH_STAT.UP true).set 0 PTP_CTRL.DOMAIN 0 with
    ptp := { b.ptp with master := some (master7, 0), exchs := xs } }

theorem ptp_message_cases : let x : PtpExch := { seq := 4, reqSeq := some 9 }
    let b := (on0 (listening [])).blk
    let c := (on0 (listening [{ x with seq := 3, reqSeq := some 8 }, x])).blk
    (b.ptpHears 0 0 = true ∧ b.ptpHears 0 1 = false ∧ b.fromMaster 0 7 0 = true ∧ b.fromMaster 0 8 0 = false ∧ b.ptp.lastReq = none) ∧
    (c.ptp.exchs = [{ x with seq := 3, reqSeq := some 8 }] ++ x :: [] ∧ c.fromMaster 0 7 0 = true ∧ x.seq = 4 ∧ x.t1 = none ∧ x.reqSeq = some 9) ∧
    ({ b with ptp := { b.ptp with lastReq := some 0 } }.ptp.lastReq.all (fun t => decide (t + 6250000 ≤ b.time.now))) = false := by decide +kernel

/-! ### GrantsRetirementAndRefetchOfPages -/

/-- The controller is in operation and a sequencer's read of page 700 waits. -/
def reading (b : Block) : Block := { (b.set 0 HBM_STAT.STATE 1) with hbm := { b.hbm with reqs := [{ port := 6, page := 700, unit := 2, at_ := 0 }] } }

theorem grant_cases : let b := (on0 reading).blk
    let i := (on0 (fun b => b.set 0 HBM_STAT.STATE 1)).blk
    (b.get 0 HBM_STAT.STATE = 1 ∧ (b.refresh (b.pgPc 700)).pick (b.pgPc 700) = some { port := 6, page := 700, unit := 2, at_ := 0 }) ∧
    (i.get 0 HBM_STAT.STATE = 1 ∧ (i.refresh 31).pick 31 = none) ∧ (on0 (fun b => b.set 0 HBM_STAT.STATE 4)).blk.get 0 HBM_STAT.STATE ≠ 1 := by
  decide +kernel

theorem page_cases : let b := (on0 (fun b => { slotAt 9 0x24 [0x24 * 2 ^ 56, 700] b with hbm := { b.hbm with
      copying := [(700, 1, 32768)], refBusy := [700], refq := [701, 702] } })).blk
    let f := (on0 (fetched 2 0x24 [700])).blk
    let full := { f with regs := (List.range 256).foldl (fun r k => Sparse.set 0 (fkey (8 * k) OPSTAT.STATE) 1 r) f.regs }
    (b.hbm.copying.find? (fun c => c.1 == 700) = some (700, 1, 32768) ∧ b.hbm.refBusy.contains 700 = true ∧ b.refetchSlot 700 = some 9 ∧
      b.hbm.refq = 701 :: [702] ∧ b.pageMoves 700 = true ∧ b.pgProt 700 = false) ∧ (on0 id).blk.pageMoves 700 = false ∧
    (on0 id).blk.hbm.refBusy = [] ∧ (b.setFlag (16 * 700) DIR_ENT0.PROT true).pgProt 700 = true ∧
    (f.cmdOf 2 0x24 = some [0x24 * 2 ^ 56, 700, 0, 0, 0, 0, 0, 0] ∧ f.freeSlot = some 0) ∧
    (full.cmdOf 2 0x24 = some [0x24 * 2 ^ 56, 700, 0, 0, 0, 0, 0, 0] ∧ full.freeSlot = none) ∧ (on0 id).blk.hbm.refq = [] := by decide +kernel

theorem late_and_empty_cases : let b := (on0 (fun b => { b with time := { b.time with now := 2 ^ 20 }, hbm := { b.hbm with
      reqs := [{ port := 1, page := 700, unit := 2, at_ := 0 }] } })).blk
    let e := (on0 (fun b => (b.set (16 * 31) HBM_PC.STATE 2).setBacked 31 0)).blk
    b.hbm.reqs.any (fun r : HReq => r.port == 1 && !r.late && decide (4 * b.get (8 * 1) HBM_PORT.TARGET < b.time.now - r.at_)) = true ∧
    (on0 id).blk.hbm.reqs = [] ∧ e.get (16 * 31) HBM_PC.STATE = 2 ∧ e.backedBy 31 = 0 ∧
    (on0 id).blk.get 0 HBM_STAT.STATE ≠ 4 ∧ (on0 id).blk.get (16 * 31) HBM_PC.STATE ≠ 3 ∧ (on0 id).blk.get (16 * 31) HBM_PC.STATE ≠ 2 := by decide +kernel

/-! ### PatternMemoryTrainsAndRests -/

theorem training_cases : let run := (on0 (fun b => fetched 2 0x28 [] (b.set 0 HBM_STAT.STATE 1))).blk
    let busy := (on0 (fun b => { fetched 2 0x28 [] b with steps := [{ mask := 1 }] })).blk
    let due := (on0 (fun b => (b.set 0 HBM_STAT.STATE 1).setFlag (16 * 31) HBM_PC.RT_DUE true)).blk
    (run.cmdOf 2 0x28 = some [0x28 * 2 ^ 56, 0, 0, 0, 0, 0, 0, 0] ∧ run.moduleIdle = true ∧ run.get 0 HBM_STAT.STATE = 1 ∧ run.freeSlot = some 0) ∧
    (busy.cmdOf 2 0x28 = some [0x28 * 2 ^ 56, 0, 0, 0, 0, 0, 0, 0] ∧ busy.moduleIdle = false) ∧
    (run.cmdOf 3 0x28 = none ∧ (run.set 0 HBM_STAT.STATE 2).get 0 HBM_STAT.STATE ≠ 1) ∧
    (due.trainDue = true ∧ due.moduleIdle = true ∧ due.bwork = [] ∧ due.atBoundary = true ∧ due.get 0 HBM_STAT.STATE = 1) := by decide +kernel

theorem quiet_cases : let at_ := fun (n : Nat) => (on0 (fun b => b.set 0 HBM_STAT.STATE n)).blk
    ((at_ 1).quietOk = true ∧ (at_ 2).quietOk = false ∧ (at_ 1).trainDue = false) ∧ ((at_ 4).get 0 HBM_STAT.STATE = 4 ∧ (at_ 1).get 0 HBM_STAT.STATE ≠ 4) ∧
    ((at_ 3).get 0 HBM_STAT.STATE = 3 ∧ (at_ 3).hbm.reqs = []) ∧ (on0 reading).blk.hbm.reqs ≠ [] ∧ (at_ 5).get 0 HBM_STAT.STATE = 5 ∧
    (at_ 2).get 0 HBM_STAT.STATE = 2 := by decide +kernel

/-! ### FaultCollectionDrainsConfiguresAndRecovers -/

theorem bucket_and_alive_cases : let b := (on0 (fun b => { (b.set (8 * 639) FC_STATE.BUCKET 2) with flt := { b.flt with drain := [(639, 10000)] } })).blk
    let h := (on0 (fun b => { (b.setFlag 0 FC_ALIVE.HB true) with time := { b.time with now := 200000 } })).blk
    (b.get (8 * 639) FC_STATE.BUCKET ≠ 0 ∧ b.drainWin 639 ≤ Sparse.get 0 639 b.flt.drain ∧ b.get (8 * 5) FC_STATE.BUCKET = 0) ∧
    (h.flag 0 FC_ALIVE.HB = true ∧ h.flt.heartbeat + 200000 ≤ h.time.now) ∧ (on0 id).blk.flt.degraded = [] ∧ (on0 id).blk.flag 0 FC_ALIVE.HB = false ∧
    (on0 (fun b => b.set 0 FC_ALIVE.STATE 0)).blk.get 0 FC_ALIVE.STATE = 0 ∧ (on0 (fun b => b.set 0 FC_ALIVE.STATE 1)).blk.get 0 FC_ALIVE.STATE ≠ 0 := by
  decide +kernel

theorem fc_cfg_operands : let v := 0xFFFEFEFF00010100#64
    v.toNat % 2 ^ 32 + v.toNat / 2 ^ 32 = 2 ^ 32 - 1 ∧ ¬ ((0#64).toNat % 2 ^ 32 + (0#64).toNat / 2 ^ 32 = 2 ^ 32 - 1) := by decide

theorem recovery_cases : let ask := fun (g : Bool) (bolts : List BoltRec) => (on0 (fun b => { (b.set 0 FC_RECOVER.UNIT 20) with
      flt := { b.flt with recover := true, grave := g, bolts := bolts } })).blk
    ((ask true []).flt.recover = true ∧ (ask true []).atBoundary = true ∧ (ask true []).flt.grave = true ∧ (ask true []).recoverTarget = none) ∧
    ((ask false []).flt.grave = false ∧ (ask false []).recoverTarget = none) ∧ ((on0 id).blk.flt.recover && (on0 id).blk.atBoundary) = false ∧
    ((ask false [⟨0, 20, []⟩]).recoverTarget = some ⟨0, 20, []⟩ ∧ (ask false [⟨0, 20, []⟩]).recoverResult = 1) := by decide +kernel

/-! ### TheRepairManagerReplacesAndSaves -/

theorem rm_cmd_operands : bit (0x8000000500000000#64).toNat 63 = true ∧ bits (0x8000000500000000#64).toNat 48 2 ≠ 3 ∧ bit (0#64).toNat 63 = false ∧
    bits (0x8001002100000000#64).toNat 48 2 = 1 ∧ bits (0x8001002100000000#64).toNat 32 9 < 34 ∧ bits (0x8002001000000000#64).toNat 48 2 = 2 ∧
    bits (0x8002001000000000#64).toNat 32 9 < 17 ∧ bits (0x8003000000000000#64).toNat 48 2 = 3 ∧ bits (0#64).toNat 48 2 ≠ 3 := by decide

theorem repair_cases : let l := (on0 (fun b => { b with flt := { b.flt with laneDue := [3], mapDirty := true } })).blk
    let e := (on0 (fun b => { b with flt := { b.flt with laneBusy := [(3, true)] }, flash := { b.flash with ended := [(0, 0, true)] } })).blk
    ((l.flt.laneDue.contains 3 && l.moduleIdle && l.bwork.isEmpty && l.atBoundary) = true ∧ l.get (8 * 3) (Block.spareLanes true) < 4 ∧
      (l.flt.mapDirty && !l.flag 0 RM_STAT.SAVE_PEND) = true) ∧ e.flt.laneDue.contains 3 = false ∧
    (e.flt.laneBusy.find? (fun x => x.1 == 3) = some (3, true) ∧ e.flashOutcome 0 0 = some true ∧ e.flt.mapDirty = false) ∧
    l.flashOutcome 0 0 = none := by decide +kernel

theorem dps_substitution_cases : let b := (on0 (fun b => { b with flt := { b.flt with due := [(1, 5)] } })).blk
    let e := (on0 (fun b => { (b.setFlag (DPS 5) DPS_CTRL.EN true) with flt := { b.flt with due := [(1, 5)] } })).blk
    (b.dpsLand 5 = some 5 ∧ b.flt.due.contains (1, 5) = true ∧ b.idle (5 / 2) = true ∧ b.boundaryBusy (5 / 2) = false ∧ b.atBoundary = true ∧
      b.get (DPS 32) DPS_ID.ROLE = 1 ∧ b.flag (DPS 32) DPS_STAT.BOLTED = false ∧ b.flag (DPS 5) DPS_CTRL.EN = false ∧
      b.flag (DPS 5) DPS_STAT.RAMP = false ∧ b.flag (DPS 5) DPS_STAT.OUT_SW = false) ∧ e.flag (DPS 5) DPS_CTRL.EN = true ∧
    b.flt.due.contains (1, 6) = false := by decide +kernel

/-! ### Bar0AccessesFollowTheAccessCodes -/

theorem bar0_cases : let r := (on0 (fun b => b.setFlag 0 HQ_STAT.READY true)).blk
    (inBlock 0xF8000 = false ∧ inBlock 0xF8 = true ∧ regAt 0xF8 = none ∧ (on0 id).blk.unreadable 0xF8000 = true) ∧
    ((on0 id).blk.unreadable 0xF8 = false ∧ 0xF8 % 8 = 0) ∧
    (let a := 0xC0000
     (regAt a).isSome = true ∧ inBlock a = true) ∧
    (let a := CAL_CTRL.AUTO.off
     (regAt a).map Prod.fst = some 0 ∧ (regAt a).map (fun x => x.2.off) = some a ∧ a ∉ moduleActs ∧ a ∉ moduleReads ∧ r.unreadable a = false) ∧
    (let a := Q_CFG.EN.off + 32 * 63
     (regAt a).map (fun x => (x.1, x.2.off)) = some (32 * 63, Q_CFG.EN.off) ∧ Q_CFG.EN.off ∈ moduleActs) ∧
    (let a := FLD 15 + TS_CTRL.VIEW.off
     (regAt a).isSome = true ∧ a / 0x10000 = 0x10 + 15 ∧ TS_CTRL.VIEW.off ∉ fieldActs ∧ TS_CTRL.VIEW.off ∉ fieldWindows) ∧
    (let a := FLD 15 + SEQ_PMD.DATA.off
     (regAt a).map (fun x => x.2.off) = some SEQ_PMD.DATA.off ∧ a / 0x10000 = 0x10 + 15 ∧ r.unreadable a = false) ∧
    (let a := SLC 271 + CAL_Q.DRIFT.off
     (regAt a).isSome = true ∧ 0x200000 ≤ a ∧ a < 0x310000 ∧ (a - 0x200000) / 0x1000 = 271 ∧ r.slcRole 271 = 1) ∧
    (let a := SLC 5 + TIA_POP.STAMP.off
     (regAt a).isSome = true ∧ 0x200000 ≤ a ∧ a < 0x310000 ∧ r.slcRole 5 = 0 ∧ r.unreadable a = false) ∧
    (let a := DPS 33 + DPS_STAT.OUT_SW.off
     (regAt a).isSome = true ∧ 0x400000 ≤ a ∧ a < 0x422000 ∧ a % 8 = 0 ∧ r.unreadable a = false ∧ r.get (DPS 33) DPS_ID.ROLE = 1) := by
  decide +kernel

theorem read_regs_cases : let a := (on0 (fetched 3 0x01 [0x200 * 2 ^ 32])).blk
    a.cmdOf 3 0x01 = some [0x01 * 2 ^ 56, 0x200 * 2 ^ 32, 0, 0, 0, 0, 0, 0] ∧ bits (0x200 * 2 ^ 32) 32 10 = 512 := by decide +kernel

/-! ### QueuePairsFetchCompleteAndReport -/

/-- Queue pair 5 is idle with 16 entries on each side and one submission waits. -/
def idlePair (b : Block) : Block :=
  let b := (b.set 160 Q_CFG.EN 1).set 160 Q_STAT.STATE 1
  let b := ((b.set 160 Q_CFG.SQ_LOG2 4).set 160 Q_CFG.CQ_LOG2 4).set 80 Q_SQDB.INDEX 1
  let b := b.setFlag 0 HQ_STAT.READY true
  { b with host := { b.host with linkUp := true, perst := false } }

theorem fetch_cases : let b := (on0 idlePair).blk
    let z := (on0 id).blk
    (b.flag 0 HQ_STAT.READY && b.linkOpen && b.qState 5 == 1 && b.get 160 Q_STAT.SQ_HEAD != b.get 80 Q_SQDB.INDEX) = true ∧
    b.flag 160 Q_CFG.EN = true ∧ b.pairIdle 5 = true ∧ z.flag 0 HQ_STAT.READY = false ∧ z.flag 160 Q_CFG.EN = false ∧
    (z.flag 0 HQ_STAT.READY && z.linkOpen && z.qState 5 == 1 && z.get 160 Q_STAT.SQ_HEAD != z.get 80 Q_SQDB.INDEX) = false ∧
    (argMasks 0x10 = some (maskAt 0 16, 2 ^ 64 - 1, 0) ∧
      operandsOk 0x10 [0x10 * 2 ^ 56, 0, 0, 0, 0, 0, 0, 0] (maskAt 0 16, 2 ^ 64 - 1, 0) = false ∧
      operandsOk 0x10 [0x10 * 2 ^ 56, 0xFFFF, 7, 0, 0, 0, 0, 0] (maskAt 0 16, 2 ^ 64 - 1, 0) = true) := by decide +kernel

theorem q_cfg_cases : let b := (on0 (fun b => { idlePair b with host := { (idlePair b).host with comps := [⟨5, 1, 2⟩] } })).blk
    b.flag 160 Q_CFG.EN = true ∧ b.pairIdle 5 = false ∧
    (bits 0x040401 8 5 = b.get 160 Q_CFG.SQ_LOG2 ∧ bits 0x040401 16 5 = b.get 160 Q_CFG.CQ_LOG2 ∧ bit 0x040401 0 = true) ∧
    (bits 0x051001 8 5 ≠ b.get 160 Q_CFG.SQ_LOG2 ∧ bit 0x051001 0 = true) ∧ bit 0x040400 0 = false := by decide +kernel

theorem slot_cases : let a := (on0 (fun b => (slotAt 255 0x18 [] b).set 2040 OPSTAT.STATE 1)).blk
    (a.get 2040 OPSTAT.STATE = 1 ∧ ¬ (Block.keyringOp (a.get 2040 OPSTAT.OPC) = true ∧ a.get 0 KR_STAT.STATE = 0) ∧
      ¬ (a.get 2040 OPSTAT.OPC = 0x49 ∧ a.get 0 KR_STAT.STATE = 3)) ∧
    3 ≤ ((on0 (fun b => b.set 2040 OPSTAT.STATE 3)).blk).get 2040 OPSTAT.STATE ∧
    ((on0 id).blk).get 0 OPSTAT.STATE < 3 ∧ ¬ ((on0 id).blk).get 0 OPSTAT.STATE = 1 := by decide +kernel

/-! ### LinkPowerStatesAndTimeExchange -/

theorem link_cases : let u := (on0 (fun b => { b with host := { b.host with linkUp := true, perst := false } })).blk
    let d := (on0 (fun b => { b with host := { b.host with d3 := true, ptmBusy := true } })).blk
    let p := (on0 (fun b => { (b.setFlag 0 PTM_CTRL.AUTO true).set 0 PTM_CTRL.INTV 1 with time := { b.time with now := 100000 } })).blk
    u.host.linkUp = true ∧ (u.host.perst = false ∧ u.host.d3 = false ∧ u.linkOpen = true ∧ u.host.comps = [] ∧ u.host.owed = [] ∧
      u.res.queue = [] ∧ u.res.waiting = [] ∧ u.host.ptmBusy = false ∧ ∀ v < 64, u.msixReady v = true → u.masked v = true) ∧
    ((on0 id).blk.host.linkUp = false ∧ (on0 id).blk.linkOpen = false ∧ (on0 id).blk.host.ptmBusy = false ∧
      (on0 id).blk.flag 0 PTM_CTRL.AUTO = false ∧ (on0 (fun b => { b with host := { b.host with perst := true } })).blk.host.perst = true) ∧
    (d.host.d3 = true ∧ d.host.ptmBusy = true) ∧
    (p.flag 0 PTM_CTRL.AUTO = true ∧ p.host.ptmAt + p.get 0 PTM_CTRL.INTV * 100000 ≤ p.time.now) := by decide +kernel

/-! ### ProgramsAndPagesMoveIntoTheMemories -/

theorem prog_load_cases : let b := (on0 (fetched 2 0x08 [3])).blk
    let u := ({ b with steps := [{ mask := 8, start := 2 }] } : Block)
    b.cmdOf 2 0x08 = some [0x08 * 2 ^ 56, 3, 0, 0, 0, 0, 0, 0] ∧ b.idle (bits 3 0 4) = true ∧ (on0 id).blk.cmdOf 2 0x08 = none ∧
    u.cmdOf 2 0x08 = some [0x08 * 2 ^ 56, 3, 0, 0, 0, 0, 0, 0] ∧ u.idle (bits 3 0 4) = false ∧
    (let i : ProgImage := { readable := true, prog := [1], data := [2], events := [(63, 0x8001)], entry := 32767, evbase := 64 }
     i.readable = true ∧ i.prog.length ≤ 32768 ∧ i.data.length ≤ 1024 ∧ (∀ e ∈ i.events, e.1 < 64) ∧ i.entry < 32768 ∧ i.evbase < 32768) ∧
    (let i : ProgImage := { readable := true, prog := [1], data := [2], events := [(64, 0x8001)], entry := 0, evbase := 64 }
     ¬ ∀ e ∈ i.events, e.1 < 64) := by decide +kernel

theorem page_dma_cases : let b := (on0 (fun b => ((slotAt 9 0x25 [0x25 * 2 ^ 56, 16 * 2 ^ 20 + 5, 0, 8] b).set (16 * 5) DIR_ENT0.STATE 1).set (16 * 5) DIR_ENT0.OWNER 1)).blk
    let h := (on0 (slotAt 9 0x25 [0x25 * 2 ^ 56, 2 ^ 63 + 5, 0, 8])).blk
    (b.hbmKnock.slotRuns 9 0x25 = true ∧ b.hbmKnock.dmaPlan 9 = ([(5, 16, 8)], false) ∧
      (1 ≤ (b.hbmKnock.dmaPlan 9).1.length ∧ ((b.hbmKnock.dmaPlan 9).1.take 1).foldl (fun t c => t + c.2.2) 0 ≤ 1 * 8)) ∧
    (h.hbmKnock.slotRuns 9 0x25 = true ∧ bit (h.hbmKnock.slotWord 9 1) 63 = true) ∧ (on0 id).blk.hbmKnock.slotRuns 9 0x25 = false := by decide +kernel

/-! ### ResetStartUpAndSupplies -/

/-- An image file that passes every check of a firmware image. -/
def goodImage : SignedImage :=
  { header := [0x4752544801000000 + 0xB0, 0x0256 * 2 ^ 48 + 0x000100020000, 0, 0, 0, 0, 0, 0, 0, 0, 0, 0]
    len := 16480, fuseOk := true, keyOk := true, sigOk := true, gcmOk := true, digestOk := true
    patch := { rom := 3, words := [], traps := [] } }

/-- The same as a patch. -/
def goodPatch : SignedImage := { goodImage with header := [0x4752544802000000 + 0xB0, 0x0256 * 2 ^ 48 + 0x000100030000, 0, 0, 0, 0, 0, 0, 0, 0, 0, 0] }

/-- What start-up reads where everything is in order. -/
def boots (images : List (Option SignedImage)) : BootOutcome :=
  { fuseOk := true, katOk := true, id0 := some 1, id1 := none, images := images, patches := [], stuck := [], map := none, mirror := none, eyes := []
    d2dEyes := [], clr := none, factory := [], refOk := true, cal := [], dpsPairs := [], holdOk := true }

theorem ill_formed_outcomes : Instr.wf (.perstDeassert { boots [] with d2dEyes := [256] }) = false ∧
    Instr.wf (.perstDeassert { boots [] with patches := [{ goodImage with badRows := [(17, 0)] }] }) = false ∧
    Instr.wf (.perstDeassert { boots [] with stuck := [17] }) = false := by decide

theorem start_cases : let b := (on0 (fun b => b.setFlag 0 SP_STAT.MAIN true)).blk
    let up := fun (o : BootOutcome) (b : Block) =>
      let b := (((({ b with host := { b.host with perst := false } } : Block).set 0 KR_STAT.STATE 1).updKr (fun r => { r with drbg := true })).arrive 594)
      (b.set 0 BF_ID.ID0 (o.id0.getD 0)).set 0 BF_ID.ID1 (o.id1.getD 0)
    (b.host.perst = true ∧ b.host.perstAt = none ∧ b.keeper.vaux = true ∧ b.flag 0 SP_STAT.MAIN = true) ∧
    (Block.bootTry (boots [some goodImage]) (up (boots [some goodImage]) b).bootOrder (up (boots [some goodImage]) b)).2 = some (0, goodImage) ∧
    (Block.bootTry (boots []) (up (boots []) b).bootOrder (up (boots []) b)).2 = none := by decide +kernel

theorem ready_cases : let b := (on0 (fun b => { b.set 0 BOOT_PROG.STAGE 8 with host := { b.host with perst := false } })).blk
    (b.host.perst = false ∧ b.get 0 BOOT_PROG.STAGE = 8 ∧ b.flag 0 HQ_STAT.READY = false ∧ ∀ p < 32, b.get (16 * p) HBM_PC.STATE ≠ 2) ∧
    (on0 id).blk.get 0 BOOT_PROG.STAGE ≠ 8 := by decide +kernel

theorem core_reset_cases : let b := (on0 (fun b => { b with time := { b.time with now := 1000000 }, host := { b.host with perst := true, perstAt := some 0 } })).blk
    (b.host.perstAt = some 0 ∧ 0 + 1000000 ≤ b.time.now ∧ b.flt.grave = false ∧ b.flag 0 CLR_STAT.CLR_IN = false) ∧
    (on0 id).blk.host.perstAt = none := by decide +kernel

theorem supply_cases : let b := (on0 (fun b => b.setFlag 0 SP_STAT.MAIN true)).blk
    let r := (on0 (fun b => { b.setFlag 0 SP_STAT.MAIN true with host := { b.host with perst := false } })).blk
    let z := (on0 (fun b => { b.setFlag 0 SP_STAT.MAIN false with keeper := { b.keeper with vaux := true } })).blk
    let v := (on0 (fun b => { b with keeper := { b.keeper with vaux := false } })).blk
    (b.flag 0 SP_STAT.MAIN = true ∧ b.host.perst = true) ∧ (r.flag 0 SP_STAT.MAIN = true ∧ r.host.perst = false) ∧
    (z.flag 0 SP_STAT.MAIN = false ∧ z.keeper.vaux = true) ∧ v.keeper.vaux = false := by decide +kernel

/-! ### StoresRowsTakeoverAndPatches -/

theorem scrub_cases : let b := (on0 id).blk
    let x := (on0 (fun b => { b with uc := { b.uc with bad := [(3, 0)] } })).blk
    (b.scrubs 3 = true ∧ b.uc.bad.contains (3, b.uPlace 3 (b.uc.scrub.getD 3 0)) = false) ∧
    (x.scrubs 3 = true ∧ x.uc.bad.contains (3, x.uPlace 3 (x.uc.scrub.getD 3 0)) = true) ∧
    (seqAt 3 0 id).blk.scrubs 3 = false := by decide +kernel

theorem row_cases : let g := fun n => (on0 (fun b => { b.set 24 UC_SEQ.SPARE_ROWS n with flt := { b.flt with rowDue := [(3, 255)] } })).blk
    let d := (on0 (fun b => { b with hbm := { b.hbm with badRows := [65535] } })).blk
    ((g 0).get (8 * 3) UC_SEQ.SPARE_ROWS = 0 ∧ ((g 0).atBoundary && (g 0).idle 3 && (g 0).flt.rowDue.contains (3, 255)) = true) ∧
    ((g 64).get (8 * 3) UC_SEQ.SPARE_ROWS = 64 ∧ ((g 64).atBoundary && (g 64).idle 3 && (g 64).flt.rowDue.contains (3, 255)) = true) ∧
    (d.atBoundary && d.moduleIdle && d.hbm.badRows.contains 65535) = true ∧ (g 0).hbm.badRows = [] ∧ d.flt.rowDue = [] := by decide +kernel

theorem takeover_cases : let b := (on0 (fun b => { b with flt := { b.flt with due := [(2, 3)] } })).blk
    let t := (on0 (fun b => b.workStart (some 3) 3 3)).blk
    (b.atBoundary && b.idle 3 && !b.boundaryBusy 3 && b.flt.due.contains (2, 3) && b.phys 3 == 3 &&
      !b.flt.bolts.any (fun r => r.scope == 2 && r.unit == 16)) = true ∧ t.flt.due = [] ∧ t.takingOver 3 = true ∧ b.takingOver 3 = false := by
  decide +kernel

theorem patch_load_cases : let b := (on0 (fun b => (fetched 2 0x3A [0, 0, 16480] (b.set 0 KR_STAT.STATE 1)).set 0 KR_ROLE_CO.BITS 4)).blk
    (b.cmdOf 2 0x3A ≠ none ∧ b.krRefuse 2 0x3A 2 = 0 ∧ b.moduleIdle = true ∧ b.bwork = [] ∧ b.freeSlot = some 0) ∧
    (on0 id).blk.cmdOf 2 0x3A = none := by decide +kernel

/-! ### CalibrationRunsItsTasksAndTheSubTickPasses -/

theorem task_cases : let b := (on0 (fun b => b.setFlag 0 HQ_STAT.READY true)).blk
    let d := (on0 (fun b => ((b.setFlag 0 HQ_STAT.READY true).set 64 CAL_TASK.STATE 2).set 136 CAL_TASK.STATE 2)).blk
    let sift := fun b : Block => b.calCandidates.foldl (fun c x => if b.calSkips x then c else c.calDefer x) b
    (b.flag 0 HQ_STAT.READY = true ∧ b.atBoundary = true ∧ b.cal.run = none ∧ b.calCandidates = []) ∧
    (d.flag 0 HQ_STAT.READY = true ∧ d.atBoundary = true ∧ d.cal.run = none ∧ d.calCandidates.filter d.calSkips = [] ∧
      d.calCandidates.filter (fun x => !d.calSkips x && (sift d).calState x.1 x.2 != 5) = [] ++ (1, 0) :: [(2, 1)] ∧
      ¬ (sift d).get (Block.calAt 1 0) CAL_TASK.AGE < (sift d).get (Block.calAt 2 1) CAL_TASK.AGE) ∧
    (on0 id).blk.flag 0 HQ_STAT.READY = false := by decide +kernel

theorem cal_run_cases : let w := 2 ^ 63 + 2 ^ 22 + 2 ^ 15
    let b := (on0 (fetched 2 0x39 [w])).blk
    let d := (on0 (fun b => (slotAt 9 0x39 [0x39 * 2 ^ 56, w] b).opres 9 15 (2 ^ 6))).blk
    let u := (on0 (slotAt 9 0x39 [0x39 * 2 ^ 56, w])).blk
    (b.cmdOf 2 0x39 = some [0x39 * 2 ^ 56, w, 0, 0, 0, 0, 0, 0] ∧ b.freeSlot = some 0) ∧
    (d.slotRuns 9 0x39 = true ∧ ∀ g < 16, bit (d.slotWord 9 1) g = true → d.calFieldOver 9 g = true) ∧
    (u.slotRuns 9 0x39 = true ∧ bit (u.slotWord 9 1) 15 = true ∧ u.calFieldOver 9 15 = false) := by decide +kernel

/-! ### SupervisorPortFramesAndReplies -/

theorem port_cases : let b := (on0 (fun b => { b.setFlag 0 SP_STAT.MAIN true with keeper := { b.keeper with armed := true, addr := 4, past := false } })).blk
    let n := (on0 (fun b => { b with keeper := { b.keeper with addr := 3, past := false } })).blk
    let p := (on0 (fun b => b.set 0 SP_PAGE.PAGE 3)).blk
    let o := (on0 (fun b => { b with keeper := { b.keeper with vaux := false } })).blk
    let k := (on0 (fun b => ((b.set (8 * 632) IC_ROUTE.TARGET 17).icEnSet (632 / 64) (2 ^ (632 % 64))).arrive 632)).blk
    (b.keeper.vaux = true ∧ b.keeper.armed = true ∧ b.flag 0 SP_STAT.MAIN = true ∧ Block.spInBlock 4 = true ∧ Block.spInBlock 5 = false ∧
      Block.spInBlock (min (b.keeper.addr + 1) 0xFFF) = false) ∧
    (n.keeper.vaux = true ∧ n.keeper.past = false ∧ n.keeper.addr ≠ 0xFFF ∧ Block.spInBlock (min (n.keeper.addr + 1) 0xFFF) = true ∧
      n.keeper.armed = false) ∧
    (p.keeper.vaux = true ∧ p.get 0 SP_PAGE.PAGE = 3) ∧ (on0 id).blk.get 0 SP_PAGE.PAGE ≠ 3 ∧ o.keeper.vaux = false ∧
    (k.keeper.vaux = true ∧ k.icHits 17 632 = true) ∧
    0xE00 ≤ (on0 (fun b => b.set 0 KP_RA.ADDR 0xE00)).blk.get 0 KP_RA.ADDR ∧ (on0 id).blk.get 0 KP_RA.ADDR < 0xE00 := by decide +kernel

/-! ### LoginSelfTestAndUnlock -/

/-- The Keyring is operational and provisioned, and pair 5 carries out `opc` with operand word 1. -/
def asks (opc w : Nat) (b : Block) : Block := ((fetched 5 opc [w, 0x1000] b).set 0 KR_STAT.STATE 1).set 0 KR_STAT.PROV 1

/-- Pair 5 holds nonce 7 of time 0. -/
def challenged (b : Block) : Block := b.updKr (fun r => { r with nonces := [(5, (7, 0))] })

theorem login_cases : let c := (on0 (asks 0x40 0)).blk
    let b := (on0 (fun b => challenged (asks 0x41 1 b))).blk
    let l := (on0 (fun b => (challenged (asks 0x41 1 b)).setFlag 0 KR_STAT.LOCK_CO true)).blk
    let n := (on0 (asks 0x41 1)).blk
    let u := (on0 (fun b => (challenged (asks 0x41 1 b)).set 0 KR_STAT.PROV 0)).blk
    let o := (on0 (asks 0x42 0)).blk
    (c.cmdOf 5 0x40 = some [0x40 * 2 ^ 56, 0, 0x1000, 0, 0, 0, 0, 0] ∧ c.get 0 KR_STAT.STATE ≠ 0 ∧ c.get 0 KR_STAT.STATE ≠ 3 ∧ c.krRefuse 5 0x40 0 = 0) ∧
    (b.cmdOf 5 0x41 = some [0x41 * 2 ^ 56, 1, 0x1000, 0, 0, 0, 0, 0] ∧ b.get 0 KR_STAT.STATE ≠ 0 ∧ b.get 0 KR_STAT.STATE ≠ 3 ∧ b.krRefuse 5 0x41 0 = 0 ∧
      b.flag 0 KR_STAT.LOCK_CO = false ∧ b.nonceOf 5 = some 7 ∧ b.get 0 KR_STAT.PROV = 1 ∧ b.kr.failCo < 7) ∧
    (l.flag 0 KR_STAT.LOCK_CO = true ∧ n.nonceOf 5 = none ∧ u.get 0 KR_STAT.PROV ≠ 1 ∧ u.nonceOf 5 = some 7) ∧
    (o.cmdOf 5 0x42 = some [0x42 * 2 ^ 56, 0, 0x1000, 0, 0, 0, 0, 0] ∧ o.krRefuse 5 0x42 0 = 0) := by decide +kernel

/-- A number is read back from its 256-digits, least significant first. -/
theorem bytesLE_of_digits (l : List Nat) (h : ∀ d ∈ l, d < 256) :
    bytesLE (l.foldr (fun d n => d + 256 * n) 0) l.length = l := by
  induction l with
  | nil => rfl
  | cons d t ih =>
    have ih := ih (fun x hx => h x (List.mem_cons_of_mem _ hx))
    have hd : d < 256 := h d List.mem_cons_self
    simp only [bytesLE, List.length_cons, List.foldr_cons, List.range_succ_eq_map, List.map_cons, List.map_map] at ih ⊢
    refine List.cons_eq_cons.2 ⟨by simp [bits]; omega, ?_⟩
    refine Eq.trans (List.map_congr_left fun i _ => ?_) ih
    simp only [Function.comp, bits, Nat.succ_eq_add_one, Nat.mul_add, Nat.pow_add]
    rw [Nat.mul_comm (2 ^ (8 * i)), ← Nat.div_div_eq_div_mul]
    norm_num
    rw [show (d + 256 * List.foldr (fun d n => d + 256 * n) 0 t) / 256 = List.foldr (fun d n => d + 256 * n) 0 t by omega]

/-- Some response is the right one, and another is not. -/
theorem login_response_cases : ∃ r w, Block.loginResponse 7 0 1 = bytesLE r 32 ∧ Block.loginResponse 7 0 1 ≠ bytesLE w 32 := by
  generalize e : sha256 (bytesLE 7 32 ++ bytesLE 0 32 ++ bytesBE Config.serno 8 ++ [1]) = x
  have h : Block.loginResponse 7 0 1 = bytesBE x 32 := by rw [Block.loginResponse, e]
  refine ⟨(bytesBE x 32).foldr (fun d n => d + 256 * n) 0, if bytesBE x 32 = bytesLE 0 32 then 1 else 0, ?_, ?_⟩
  · rw [h]
    have := bytesLE_of_digits (bytesBE x 32) (by
      intro d hd
      simp only [bytesBE, List.mem_map] at hd
      obtain ⟨i, -, rfl⟩ := hd
      exact Nat.mod_lt _ (by decide))
    rw [show (bytesBE x 32).length = 32 by simp [bytesBE]] at this
    exact this.symm
  · rw [h]
    split
    · rename_i g; rw [g]; decide
    · assumption

theorem expiry_cases : let b := (on0 (fun b => { (challenged b).setFlag 0 KR_STAT.LOCK_USER true with time := { b.time with now := 6000000000 } })).blk
    Sparse.find 5 b.kr.nonces = some (7, 0) ∧ 0 + 1000000000 ≤ b.time.now ∧ b.flag 0 KR_STAT.LOCK_USER = true ∧ b.kr.lockUser + 6000000000 ≤ b.time.now ∧
    (on0 challenged).blk.time.now < 0 + 1000000000 ∧ Sparse.find 5 (on0 challenged).blk.kr.nonces = some (7, 0) := by decide +kernel

theorem self_test_and_unlock_cases : let t := (on0 (asks 0x49 0)).blk
    let d := (on0 (slotAt 255 0x49 [])).blk
    let u := (on0 (fun b => (asks 0x4E 0 b).set 0 KR_STAT.PROV 2)).blk
    let g := fun v => (on0 (fun b => { slotAt 9 0x4E [] b with host := { (slotAt 9 0x4E [] b).host with slots := [(9, { words := [], aux := [v] })] } })).blk
    (t.cmdOf 5 0x49 = some [0x49 * 2 ^ 56, 0, 0x1000, 0, 0, 0, 0, 0] ∧ t.krRefuse 5 0x49 0 = 0) ∧ (d.slotRuns 255 0x49 = true ∧ d.kr.katBad = false) ∧
    (u.cmdOf 5 0x4E = some [0x4E * 2 ^ 56, 0, 0x1000, 0, 0, 0, 0, 0] ∧ u.krRefuse 5 0x4E 0 = 0 ∧ u.get 0 KR_STAT.PROV = 2) ∧
    (on0 id).blk.slotRuns 9 0x4E = false ∧ (on0 id).blk.slotRuns 9 0x49 = false ∧ ((g 1).slotRuns 9 0x4E = true ∧ ((g 1).slot 9).aux.getD 0 0 = 1) ∧ ((g 0).slotRuns 9 0x4E = true ∧ ((g 0).slot 9).aux.getD 0 0 ≠ 1) := by
  decide +kernel

/-! ### KeysProvisioningAndAttestation -/

/-- Pair 5 holds the User role as well. -/
def asksUser (opc w : Nat) (b : Block) : Block := (asks opc w b).set 0 KR_ROLE_USER.BITS 32

/-- Slot 9 runs an import of 16 bytes into the chain of page 700 under key slot 63. -/
def importing9 (aux : Nat) (b : Block) : Block :=
  let b := slotAt 9 0x45 [0x45 * 2 ^ 56, 63 * 2 ^ 32 + 700, 0, 96] (onePage 1 b)
  { b with host := { b.host with slots := [(9, { words := [0x45 * 2 ^ 56, 63 * 2 ^ 32 + 700, 0, 96], aux := [aux, 16] })] } }

theorem provision_cases : let a := (on0 (fun b => (asks 0x43 0 b).setFlag 0 KR_STAT.ANALYSED true)).blk
    let p := (on0 (asks 0x43 0)).blk
    let e := (on0 (fun b => ((asks 0x43 0 b).set 0 KR_STAT.PROV 0).set 0 KR_STAT.EPOCH 32)).blk
    let g := (on0 (fun b => (asks 0x43 0 b).set 0 KR_STAT.PROV 2)).blk
    let d := fun ok => (on0 (fun b => { slotAt 9 0x43 [] b with flash := { b.flash with ended := [(4, 9, ok)] } })).blk
    (a.cmdOf 5 0x43 = some [0x43 * 2 ^ 56, 0, 0x1000, 0, 0, 0, 0, 0] ∧ a.krRefuse 5 0x43 0 = 0 ∧ a.flag 0 KR_STAT.ANALYSED = true) ∧
    (p.krRefuse 5 0x43 0 = 0 ∧ p.flag 0 KR_STAT.ANALYSED = false ∧ p.get 0 KR_STAT.PROV = 1) ∧
    (e.krRefuse 5 0x43 0 = 0 ∧ e.flag 0 KR_STAT.ANALYSED = false ∧ e.get 0 KR_STAT.PROV ≠ 1 ∧ 32 ≤ e.get 0 KR_STAT.EPOCH) ∧
    (g.krRefuse 5 0x43 0 = 0 ∧ g.flag 0 KR_STAT.ANALYSED = false ∧ g.get 0 KR_STAT.PROV ≠ 1 ∧ g.get 0 KR_STAT.EPOCH < 32) ∧
    (∀ ok, (d ok).slotRuns 9 0x43 = true ∧ (d ok).flashOutcome 4 9 = some ok) := by decide +kernel

theorem key_cases : let i := (on0 (asksUser 0x44 (63 * 2 ^ 32 + 0xFFFF))).blk
    let u := (on0 (fun b => (asksUser 0x44 0 b).set 0 KR_STAT.PROV 2)).blk
    let c := (on0 (asksUser 0x46 63)).blk
    let a := (on0 (fun b => (asksUser 0x47 0 b).updKr (fun r => { r with att := some 0 }))).blk
    let n := (on0 (asksUser 0x47 0)).blk
    let x := (on0 (asks 0x47 0)).blk
    let r := (on0 (asks 0x4D 0)).blk
    (i.cmdOf 5 0x44 = some [0x44 * 2 ^ 56, 63 * 2 ^ 32 + 0xFFFF, 0x1000, 0, 0, 0, 0, 0] ∧ i.krRefuse 5 0x44 1 = 0 ∧ i.get 0 KR_STAT.STATE ≠ 0 ∧
      i.get 0 KR_STAT.STATE ≠ 3 ∧ i.get 0 KR_STAT.PROV = 1) ∧ (u.krRefuse 5 0x44 1 = 0 ∧ u.get 0 KR_STAT.PROV ≠ 1) ∧
    (c.cmdOf 5 0x46 = some [0x46 * 2 ^ 56, 63, 0x1000, 0, 0, 0, 0, 0] ∧ c.krRefuse 5 0x46 1 = 0) ∧
    (a.cmdOf 5 0x47 = some [0x47 * 2 ^ 56, 0, 0x1000, 0, 0, 0, 0, 0] ∧ a.krRefuse 5 0x47 1 = 0 ∧ a.kr.att ≠ none) ∧
    (n.krRefuse 5 0x47 1 = 0 ∧ n.kr.att = none) ∧ (x.krRefuse 5 0x47 1 = 0x60 ∧ 0x60 ≠ 0) ∧
    (r.cmdOf 5 0x4D = some [0x4D * 2 ^ 56, 0, 0x1000, 0, 0, 0, 0, 0] ∧ r.krRefuse 5 0x4D 0 = 0) ∧
    (on0 (slotAt 9 0x47 [])).blk.slotRuns 9 0x47 = true := by decide +kernel

theorem import_cases : let w := 63 * 2 ^ 32 + 700
    let g := fun l => (on0 (fun b => (fetched 5 0x45 [w, 0, l] ((onePage 1 b).set 0 KR_STAT.STATE 1)).set 0 KR_ROLE_USER.BITS 32 |>.set 0 KR_SLOTS.BITS (2 ^ 63))).blk
    (let b := g 96
     b.cmdOf 5 0x45 = some [0x45 * 2 ^ 56, w, 0, 96, 0, 0, 0, 0] ∧ b.krRefuse 5 0x45 1 = 0 ∧ b.freeSlot = some 0 ∧
       b.importCode [0x45 * 2 ^ 56, w, 0, 96, 0, 0, 0, 0] 16 = 0) ∧
    (let b := g 95
     b.krRefuse 5 0x45 1 = 0 ∧ b.importCode [0x45 * 2 ^ 56, w, 0, 95, 0, 0, 0, 0] 16 = 0x6F ∧ 0x6F ≠ 0) ∧
    (let b := (on0 (importing9 7)).blk
     b.slotRuns 9 0x45 = true ∧ (b.slot 9).aux.getD 0 0 ≠ b.get (8 * bits (b.slotWord 9 1) 32 6) KR_SLOT_TAG.TAG) ∧
    (let b := (on0 (importing9 0)).blk
     b.slotRuns 9 0x45 = true ∧ (b.slot 9).aux.getD 0 0 = b.get (8 * bits (b.slotWord 9 1) 32 6) KR_SLOT_TAG.TAG ∧
       b.chain (b.slotWord 9 1 % 2 ^ 20) = [700] ∧ (b.slot 9).aux.getD 1 0 = 16) := by decide +kernel

/-! ### ZeroisationStoredImagesAndReturns -/

/-- Pair 5 holds the Crypto Officer role as well. -/
def asksCo (opc : Nat) (b : Block) : Block := (asks opc 0 b).set 0 KR_ROLE_CO.BITS 32

/-- Slot 9 runs `opc`; the flash job of a kind for it has ended with `ok`. -/
def stored9 (opc kind : Nat) (ok : Bool) (b : Block) : Block :=
  { slotAt 9 opc [opc * 2 ^ 56, 0, 0, 16480] b with flash := { b.flash with ended := [(kind, 9, ok)] } }

theorem zeroise_cases : let b := (on0 (asksCo 0x48)).blk
    let u := ({ b with steps := [{ mask := 8, start := 2 }] } : Block)
    let d := fun ok => (on0 (stored9 0x48 4 ok)).blk
    (b.cmdOf 5 0x48 = some [0x48 * 2 ^ 56, 0, 0x1000, 0, 0, 0, 0, 0] ∧ b.krRefuse 5 0x48 2 = 0 ∧ b.moduleIdle = true ∧ b.freeSlot = some 0) ∧
    (u.krRefuse 5 0x48 2 = 0 ∧ u.moduleIdle = false) ∧ (∀ ok, (d ok).slotRuns 9 0x48 = true ∧ (d ok).flashOutcome 4 9 = some ok) ∧
    (on0 id).blk.flashOutcome 4 9 = none := by decide +kernel

theorem firmware_cases : let b := (on0 (asksCo 0x4A)).blk
    let d := fun (img : SignedImage) ok => (on0 (fun b => (stored9 0x4A 2 ok b).updKr (fun r => { r with stored := [(9, img)] }))).blk
    (b.cmdOf 5 0x4A = some [0x4A * 2 ^ 56, 0, 0x1000, 0, 0, 0, 0, 0] ∧ b.krRefuse 5 0x4A 2 = 0 ∧ b.freeSlot = some 0) ∧
    ((d goodPatch true).slotRuns 9 0x4A = true ∧ (d goodPatch true).storedImg 9 = some goodPatch ∧
      (d goodPatch true).imageCode goodPatch 1 ((d goodPatch true).slotWord 9 3) = 0x6F ∧ 0x6F ≠ 0) ∧
    (∀ ok, (d goodImage ok).slotRuns 9 0x4A = true ∧ (d goodImage ok).fwCode 9 = 0 ∧ (d goodImage ok).flashOutcome 2 9 = some ok) := by
  decide +kernel

theorem clear_store_cases : let b := (on0 (asksCo 0x4B)).blk
    let d := fun v => (on0 (fun b => { stored9 0x4B 3 true b with host := { (stored9 0x4B 3 true b).host with slots := [(9, { words := [], aux := [v] })] } })).blk
    (b.cmdOf 5 0x4B = some [0x4B * 2 ^ 56, 0, 0x1000, 0, 0, 0, 0, 0] ∧ b.krRefuse 5 0x4B 1 = 0) ∧
    ((d 0x6F).slotRuns 9 0x4B = true ∧ ((d 0x6F).slot 9).aux.getD 0 0 = 0x6F ∧ 0x6F ≠ 0) ∧
    ((d 0).slotRuns 9 0x4B = true ∧ ((d 0).slot 9).aux.getD 0 0 = 0 ∧ (d 0).flashOutcome 3 9 = some true) := by decide +kernel

theorem return_cases : let b := (on0 (asksCo 0x4C)).blk
    let n := (on0 (asks 0x4C 0)).blk
    let g := ({ n with flt := { n.flt with grave := true } } : Block)
    let u := ({ b with steps := [{ mask := 8, start := 2 }] } : Block)
    let d := fun ok => (on0 (stored9 0x4C 5 ok)).blk
    (b.cmdOf 5 0x4C = some [0x4C * 2 ^ 56, 0, 0x1000, 0, 0, 0, 0, 0] ∧ b.flt.grave = false ∧ b.hasCo 5 = true ∧ b.moduleIdle = true) ∧
    (n.flt.grave = false ∧ n.hasCo 5 = false) ∧ g.flt.grave = true ∧ (u.hasCo 5 = true ∧ u.moduleIdle = false) ∧
    (∀ ok, (d ok).slotRuns 9 0x4C = true ∧ (d ok).flashOutcome 5 9 = some ok) := by decide +kernel

/-! ### AStepRunsTheFrontCommand -/

theorem step_cases : ({ State.reset with pending := [.clrNDeassert, .pllLock] } : State).pending = .clrNDeassert :: [.pllLock] ∧
    State.reset.pending = [] := by decide

/-! ### EveryFieldResetsToItsTableValue -/

theorem reset_field_case : regAt 0x60000 = some (0, CAL_CTRL.reg) ∧ CAL_CTRL.TWARN ∈ CAL_CTRL.reg.flds ∧ CAL_CTRL.TWARN.rst 0x60000 = 0x64 := by
  refine ⟨rfl, ?_, rfl⟩
  simp [CAL_CTRL.reg]

/-! ### AWindowMonitorSampleSetsRaw -/

theorem sample_cases : let b := (on0 (fun b => ((b.setFlag (SLC 271) WM_CTRL.EN true).set (SLC 271) WM_TH.TH_HI 3000).set (SLC 271) WM_TH.TH_LO 1000)).blk
    let d := (on0 (fun b => ((b.setFlag (DPS 33) DPS_WM_CTRL.EN true).set (DPS 33) DPS_WM_TH.TH_HI 3000).set (DPS 33) DPS_WM_TH.TH_LO 1000)).blk
    (b.flag (SLC 271) WM_CTRL.EN = true ∧ b.wmSkips (monSlice 271) = false ∧ (b.wmThresholds (monSlice 271)).2 < (b.wmThresholds (monSlice 271)).1) ∧
    ((d.wm (272 + 33)).chk = 0 ∧ d.flag (DPS 33) DPS_CTRL.GUARD = false ∧ d.flag (DPS 33) DPS_WM_CTRL.EN = true ∧ d.wmSkips (monDps 33) = false ∧
      (d.wmThresholds (monDps 33)).2 < (d.wmThresholds (monDps 33)).1) := by decide +kernel

/-! ### BranchConditionsReadTheFlags -/

theorem reserved_condition : 14 ≤ 31 ∧ 31 < 32 ∧ 32767 < 32768 ∧ decodeWord 0x020001F000007FFF = .error causeOperand := by decide +kernel

/-! ### CommandsKeepTheQueueAndOnlyStoresWrite -/

theorem frame_case : exec (.clrNDeassert) State.reset = .next (State.reset.on (fun b => b.setFlag 0 CLR_STAT.CLR_IN false)) ∧
    mayStore .clrNDeassert = false := ⟨rfl, rfl⟩

/-! ### DecodingAnEncodedInstructionGivesItBack -/

theorem well_formed_instruction : (Halyr.sweep 1 2 31 0xFFFF 9 1023 15 15).wf = true := by decide

/-! ### EveryStepKeepsTheMemoriesCanonical -/

theorem canonical_state : Inv State.reset ∧ ∃ t, step State.reset = .next t := ⟨rfl, _, rfl⟩

end Sys2Proof.Tests
end

section
/-!
SUPPORT. The register map: which register stands at an offset of BAR0, and where its fields lie (R5, R356).
-/
namespace Sys2Proof.Machine

/-- The register at offset `a` is one of the registers of its block, and its base lies that register's own offset below `a`. -/
theorem regAt_some {a base : Nat} {d : RegDef} (h : regAt a = some (base, d)) :
    d ∈ (regsOf a).2 ∧ (regsOf a).1 + d.off ≤ a ∧ base = a - d.off := by
  simp only [regAt, Option.map_eq_some_iff, Prod.mk.injEq] at h
  obtain ⟨_, hx, rfl, rfl⟩ := h
  have hp := List.find?_some hx
  simp only [Bool.and_eq_true, decide_eq_true_eq] at hp
  exact ⟨List.mem_of_find?_eq_some hx, hp.1, rfl⟩

/-- Every field of these registers lies in the word at its register's offset (R5). -/
def fieldsInPlace (l : List RegDef) : Bool := l.all (fun d => d.flds.all (fun F => F.off == d.off))

theorem fieldsInPlace_ite {c : Prop} [Decidable c] {l m : List RegDef} (hl : fieldsInPlace l = true) (hm : fieldsInPlace m = true) :
    fieldsInPlace (if c then l else m) = true := by
  split
  · exact hl
  · exact hm

theorem fieldsInPlace_moduleRegs (a : Nat) : fieldsInPlace (moduleRegs a) = true := by
  unfold moduleRegs
  repeat' apply fieldsInPlace_ite
  all_goals decide +kernel

theorem fieldsInPlace_regsOf (a : Nat) : fieldsInPlace (regsOf a).2 = true := by
  unfold regsOf
  by_cases h : a < 0x100000
  · rw [if_pos h]
    exact fieldsInPlace_moduleRegs a
  · rw [if_neg h]
    repeat' split
    all_goals (dsimp only; decide +kernel)

/-- A field of the register at offset `a` lies at `a`. -/
theorem base_add_off {a base : Nat} {d : RegDef} {F : Fld} (h : regAt a = some (base, d)) (hF : F ∈ d.flds) : base + F.off = a := by
  obtain ⟨hd, hle, rfl⟩ := regAt_some h
  have hall := fieldsInPlace_regsOf a
  simp only [fieldsInPlace, List.all_eq_true, beq_iff_eq] at hall
  rw [hall d hd F hF]
  omega

end Sys2Proof.Machine
end

section
/-!
SUPPORT. Writes of BAR0 (R5 to R8, R356, R357): which operation an aligned write reaches, block by block, and the registers that a write takes
by their access codes alone.
-/
namespace Sys2Proof.Machine

/-- The register `d` with base `base` stands at the aligned offset `a` of a block of BAR0. -/
def Stands (a base : Nat) (d : RegDef) : Prop := a % 8 = 0 ∧ inBlock a = true ∧ regAt a = some (base, d)

theorem Stands.off_le {a base : Nat} {d : RegDef} (h : Stands a base d) : d.off ≤ a := by
  obtain ⟨-, -, hr⟩ := h
  have hle := (regAt_some hr).2.1
  omega

/-- The block from 0xC0000 holds the registers of the hasps, none of which has a lower offset. -/
theorem Stands.hasp_off {a base : Nat} {d : RegDef} (h : Stands a base d) (hlo : 0xC0000 ≤ a) (hhi : a < 0x100000) : 0xC0000 ≤ d.off := by
  obtain ⟨-, -, hr⟩ := h
  have hd := (regAt_some hr).1
  have hregs : (regsOf a).2 = haspRegs := by
    unfold regsOf moduleRegs
    rw [if_pos hhi]
    repeat rw [if_neg (by omega)]
  rw [hregs] at hd
  have hall : ∀ x ∈ haspRegs, 0xC0000 ≤ x.off := by decide
  exact hall d hd

/-- Two changes of the block that agree on the state's block. -/
theorem State.on_congr {s : State} {f g : Block → Block} (h : f s.blk = g s.blk) : s.on f = s.on g := by
  rw [State.on, State.on, h]

/-! ### The commands -/

theorem exec_registerWrite (a len : Nat) (v : Word) (s : State) : exec (.registerWrite a len v) s = .next (bar0Write s a len v.toNat) := rfl

theorem exec_registerWrite_other {a len : Nat} (h : ¬ (len = 8 ∧ a % 8 = 0)) (v : Word) (s : State) :
    exec (.registerWrite a len v) s = .next (s.on (fun b => (b.badWrite a).fault 400 0)) := by
  rw [exec_registerWrite, bar0Write, if_neg h]

theorem exec_registerWrite_aligned {a : Nat} (h : a % 8 = 0) (v : Word) (s : State) :
    exec (.registerWrite a 8 v) s = .next (regWrite s a v.toNat) := by
  rw [exec_registerWrite, bar0Write, if_pos ⟨rfl, h⟩]

theorem regWrite_outside {a : Nat} (h : inBlock a = false) (v : Nat) (s : State) : regWrite s a v = s.on (fun b => b.badWrite a) := by
  simp only [regWrite, h, Bool.not_false, if_true]

theorem regWrite_none {a : Nat} (hb : inBlock a = true) (h : regAt a = none) (v : Nat) (s : State) : regWrite s a v = s := by
  simp only [regWrite, hb, h, Bool.not_true, Bool.false_eq_true, if_false]

/-- A field register whose write does more than its access codes say is none of the memory windows. -/
theorem not_window_of_fieldActs : ∀ o ∈ fieldActs, o ∉ fieldWindows := by decide

section
variable {a base : Nat} {d : RegDef} (h : Stands a base d) (v : Word) (s : State)
include h

/-- A write of the module blocks. -/
theorem exec_registerWrite_module (ha : a < 0x100000) :
    exec (.registerWrite a 8 v) s = .next (s.on (fun b => b.moduleWrite base d v.toNat)) := by
  obtain ⟨ha8, hb, hr⟩ := h
  simp only [exec_registerWrite_aligned ha8, regWrite, hb, hr, Bool.not_true, Bool.false_eq_true, if_false, if_pos ha]

/-- A write of a field block, the memory windows left out. -/
theorem exec_registerWrite_field {f : Nat} (hf : a / 0x10000 = 0x10 + f) (hf16 : f < 16) (hw : d.off ∉ fieldWindows) :
    exec (.registerWrite a 8 v) s = .next (s.on (fun b => b.fieldRegWrite f base d v.toNat)) := by
  obtain ⟨ha8, hb, hr⟩ := h
  have hfe : (a - 0x100000) / 0x10000 = f := by omega
  simp only [fieldWindows, List.mem_cons, List.not_mem_nil, or_false, not_or] at hw
  obtain ⟨h1, h2, h3, h4⟩ := hw
  simp only [exec_registerWrite_aligned ha8, regWrite, hb, hr, Bool.not_true, Bool.false_eq_true, if_false,
    if_neg (show ¬ a < 0x100000 by omega), if_pos (show a < 0x200000 by omega), h1, h2, h3, h4, hfe]

/-- A write of a slice block. -/
theorem exec_registerWrite_slice (hlo : 0x200000 ≤ a) (hhi : a < 0x310000) :
    exec (.registerWrite a 8 v) s = .next (s.on (fun b => b.sliceWrite ((a - 0x200000) / 0x1000) base d v.toNat)) := by
  obtain ⟨ha8, hb, hr⟩ := h
  simp only [exec_registerWrite_aligned ha8, regWrite, hb, hr, Bool.not_true, Bool.false_eq_true, if_false,
    if_neg (show ¬ a < 0x100000 by omega), if_neg (show ¬ a < 0x200000 by omega), if_pos hhi]

/-- A write of a regulator block. -/
theorem exec_registerWrite_regulator (hlo : 0x400000 ≤ a) (hhi : a < 0x422000) :
    exec (.registerWrite a 8 v) s = .next (s.on (fun b => b.dpsWrite ((a - 0x400000) / 0x1000) base d v.toNat)) := by
  obtain ⟨ha8, hb, hr⟩ := h
  simp only [exec_registerWrite_aligned ha8, regWrite, hb, hr, Bool.not_true, Bool.false_eq_true, if_false,
    if_neg (show ¬ a < 0x100000 by omega), if_neg (show ¬ a < 0x200000 by omega), if_neg (show ¬ a < 0x310000 by omega), if_pos hhi]

/-- A write of a read-only block: the hasps, and the page directory. -/
theorem exec_registerWrite_readOnly (ha : (0xC0000 ≤ a ∧ a < 0x100000) ∨ 0x422000 ≤ a) : exec (.registerWrite a 8 v) s = .next s := by
  rcases ha with ⟨hlo, hhi⟩ | ha
  · have hoff := h.hasp_off hlo hhi
    have hkeep : ∀ b : Block, b.moduleWrite base d v.toNat = b := by
      intro b
      unfold Block.moduleWrite
      repeat rw [if_neg (by omega)]
    simp only [exec_registerWrite_module h v s hhi, hkeep, State.on]
  · obtain ⟨ha8, hb, hr⟩ := h
    simp only [exec_registerWrite_aligned ha8, regWrite, hb, hr, Bool.not_true, Bool.false_eq_true, if_false,
      if_neg (show ¬ a < 0x100000 by omega), if_neg (show ¬ a < 0x200000 by omega), if_neg (show ¬ a < 0x310000 by omega),
      if_neg (show ¬ a < 0x422000 by omega)]

/-- Where a write of a module register does `f`, it is the command that does `f`. -/
theorem exec_registerWrite_as (ha : a < 0x100000) {i : Instr} {f : Block → Block} (hi : exec i s = .next (s.on f))
    (hf : ∀ b : Block, b.moduleWrite base d v.toNat = f b) : exec (.registerWrite a 8 v) s = exec i s := by
  rw [exec_registerWrite_module h v s ha, hi, funext hf]

/-- A write of a memory window of a field block is the command that accesses the memory. -/
theorem exec_registerWrite_window {f : Fin 16} (hf : a / 0x10000 = 0x10 + f) :
    (d.off = SEQ_PMD.DATA.off → exec (.registerWrite a 8 v) s = exec (.seqPmdAccess f (some v)) s) ∧
    (d.off = SEQ_DSD.DATA.off → exec (.registerWrite a 8 v) s = exec (.seqDsdAccess f (some v)) s) ∧
    (d.off = SOW_DCD.DATA.off → exec (.registerWrite a 8 v) s = exec (.sowDcdAccess f (some v)) s) ∧
    (d.off = DDS_LD.DATA.off → exec (.registerWrite a 8 v) s = exec (.ddsLdAccess f (some v)) s) := by
  obtain ⟨ha8, hb, hr⟩ := h
  have hfe : (a - 0x100000) / 0x10000 = f := by omega
  simp only [exec_registerWrite_aligned ha8, regWrite, hb, hr, Bool.not_true, Bool.false_eq_true, if_false,
    if_neg (show ¬ a < 0x100000 by omega), if_pos (show a < 0x200000 by omega), hfe]
  refine ⟨fun ho => ?_, fun ho => ?_, fun ho => ?_, fun ho => ?_⟩ <;> rw [ho] <;> rfl

end

end Sys2Proof.Machine
end

section
/-!
SUPPORT. What the write of one register does: by its access codes alone, or by the operation that the register stands for.
-/
namespace Sys2Proof.Machine.Block

/-! ### By the access codes alone -/

theorem moduleWrite_plain {d : RegDef} (h : d.off ∉ moduleActs) (hlo : d.off < 0xC0000) (b : Block) (base v : Nat) :
    b.moduleWrite base d v = b.plainWrite base d v [] := by
  simp only [moduleActs, List.mem_cons, List.not_mem_nil, or_false, not_or] at h
  simp only [moduleWrite, hostqWrite, icWrite, fcWrite, syncWrite, resWrite, h, hlo, or_self, if_false, if_true, ite_self]

theorem fieldRegWrite_plain {d : RegDef} (h : d.off ∉ fieldActs) (b : Block) (f base v : Nat) :
    b.fieldRegWrite f base d v = b.plainWrite base d v [] := by
  simp only [fieldActs, List.mem_cons, List.not_mem_nil, or_false, not_or] at h
  have hi : idleOnly d.off = false := by simp [idleOnly, h]
  simp only [fieldRegWrite, hi, h, Bool.false_eq_true, or_self, if_false]

theorem sliceWrite_plain {d : RegDef} (h : d.off ∉ sliceActs) {b : Block} {i : Nat} (hr : ¬ (b.slcRole i = 1 ∨ b.slcRole i = 3)) (base v : Nat) :
    b.sliceWrite i base d v = b.plainWrite base d v [] := by
  simp only [sliceActs, List.mem_cons, List.not_mem_nil, or_false, not_or] at h
  simp only [sliceWrite, if_neg hr, h, if_false]

theorem dpsWrite_plain {d : RegDef} (h : d.off ∉ dpsActs) {b : Block} {r : Nat}
    (hr : ¬ (b.get (DPS r) DPS_ID.ROLE = 1 ∨ b.get (DPS r) DPS_ID.ROLE = 3)) (base v : Nat) :
    b.dpsWrite r base d v = b.plainWrite base d v [] := by
  simp only [dpsActs, List.mem_cons, List.not_mem_nil, or_false, not_or] at h
  simp only [dpsWrite, if_neg hr, h, if_false]

/-! ### A slice or a regulator that serves nothing, or is retired, refuses -/

theorem sliceWrite_refused {b : Block} {i : Nat} (hr : b.slcRole i = 1 ∨ b.slcRole i = 3) (base : Nat) (d : RegDef) (v : Nat) :
    b.sliceWrite i base d v = b.fault i 0 := by
  rw [sliceWrite, if_pos hr]

theorem dpsWrite_refused {b : Block} {r : Nat} (hr : b.get (DPS r) DPS_ID.ROLE = 1 ∨ b.get (DPS r) DPS_ID.ROLE = 3) (base : Nat) (d : RegDef)
    (v : Nat) : b.dpsWrite r base d v = b.fault (322 + r) 0 := by
  simp only [dpsWrite, if_pos hr]

/-! ### By a command -/

section
variable {d : RegDef} {base k : Nat} (b : Block) (v : Nat)

theorem moduleWrite_qCfg (hb : base = 32 * k) (h : d.off = Q_CFG.EN.off) : b.moduleWrite base d v = b.qCfgWrite k v := by
  obtain rfl : k = base / 32 := by omega
  cases d; cases h; rfl
theorem moduleWrite_sqdb (hb : base = 16 * k) (h : d.off = Q_SQDB.INDEX.off) : b.moduleWrite base d v = b.sqDoorbell k v := by
  obtain rfl : k = base / 16 := by omega
  cases d; cases h; rfl
theorem moduleWrite_cqdb (hb : base = 16 * k) (h : d.off = Q_CQDB.INDEX.off) : b.moduleWrite base d v = b.cqDoorbell k v := by
  obtain rfl : k = base / 16 := by omega
  cases d; cases h; rfl
theorem moduleWrite_icPend (hb : base = 8 * k) (h : d.off = IC_PEND.BITS.off) : b.moduleWrite base d v = b.icPendClear k v := by
  obtain rfl : k = base / 8 := by omega
  cases d; cases h; rfl
theorem moduleWrite_icEnSet (hb : base = 8 * k) (h : d.off = IC_EN_SET.BITS.off) : b.moduleWrite base d v = b.icEnSet k v := by
  obtain rfl : k = base / 8 := by omega
  cases d; cases h; rfl
theorem moduleWrite_icEnClr (hb : base = 8 * k) (h : d.off = IC_EN_CLR.BITS.off) : b.moduleWrite base d v = b.icEnClr k v := by
  obtain rfl : k = base / 8 := by omega
  cases d; cases h; rfl
theorem moduleWrite_icRoute (hb : base = 8 * k) (h : d.off = IC_ROUTE.TARGET.off) : b.moduleWrite base d v = b.icRouteWrite k v := by
  obtain rfl : k = base / 8 := by omega
  cases d; cases h; rfl
theorem moduleWrite_fcCfg (hb : base = 8 * k) (h : d.off = FC_CFG.BASE.off) : b.moduleWrite base d v = b.fcCfgWrite k v := by
  obtain rfl : k = base / 8 := by omega
  cases d; cases h; rfl
theorem moduleWrite_fcSticky (hb : base = 8 * k) (h : d.off = FC_STICKY.BITS.off) : b.moduleWrite base d v = b.stickyWrite k v := by
  obtain rfl : k = base / 8 := by omega
  cases d; cases h; rfl
theorem moduleWrite_fcRecover (h : d.off = FC_RECOVER.GO.off) : b.moduleWrite base d v = b.recoverWrite v := by
  cases d; cases h; rfl
theorem moduleWrite_rmCmd (h : d.off = RM_CMD.GO.off) : b.moduleWrite base d v = b.rmCmd v := by
  cases d; cases h; rfl
theorem moduleWrite_resCtrl (h : d.off = RES_CTRL.EN.off) : b.moduleWrite base d v = b.resCtrl v := by
  cases d; cases h; rfl
theorem moduleWrite_kpRd (h : d.off = KP_RD.DATA.off) : b.moduleWrite base d v = b.kpWrite (v % 2 ^ 32) := by
  cases d; cases h; rfl

end

end Sys2Proof.Machine.Block
end

section
/-!
SUPPORT. Reads of BAR0 (R5, R357): the halves of a word, what a read answers by the access codes, and the registers whose read is a command.
-/
namespace Sys2Proof.Machine

/-! ### The commands -/

theorem exec_registerRead (a len : Nat) (s : State) : exec (.registerRead a len) s = .next (bar0Read s a len) := rfl

/-- A read of 8 bytes answers the register's word. -/
theorem exec_registerRead_word {a : Nat} (h : a % 8 = 0) (s : State) :
    exec (.registerRead a 8) s = .next ((regRead s a 0 63).1.on (fun b => returned b (regRead s a 0 63).2)) := by
  rw [exec_registerRead, bar0Read, if_pos ⟨rfl, h⟩]
  rfl

/-- A read of the low 4 bytes answers the low half of the word. -/
theorem exec_registerRead_low {a : Nat} (h : a % 8 = 0) (s : State) :
    exec (.registerRead a 4) s = .next ((regRead s a 0 31).1.on (fun b => returned b ((regRead s a 0 31).2 % 2 ^ 32))) := by
  have ha : a / 8 * 8 = a := by omega
  rw [exec_registerRead, bar0Read, if_neg (by omega), if_pos ⟨rfl, by omega⟩]
  simp only [h, ha, Nat.mul_zero, Nat.zero_add, pow_zero, Nat.div_one]
  rfl

/-- A read of the high 4 bytes answers the high half. -/
theorem exec_registerRead_high {a : Nat} (h : a % 8 = 0) (s : State) :
    exec (.registerRead (a + 4) 4) s =
      .next ((regRead s a 32 63).1.on (fun b => returned b ((regRead s a 32 63).2 / 2 ^ 32 % 2 ^ 32))) := by
  have ha : (a + 4) / 8 * 8 = a := by omega
  have hm : (a + 4) % 8 = 4 := by omega
  rw [exec_registerRead, bar0Read, if_neg (by omega), if_pos ⟨rfl, by omega⟩]
  simp only [hm, ha]
  rfl

theorem exec_registerRead_other {a len : Nat} (h8 : ¬ (len = 8 ∧ a % 8 = 0)) (h4 : ¬ (len = 4 ∧ a % 4 = 0)) (s : State) :
    exec (.registerRead a len) s = .next s := by
  rw [exec_registerRead, bar0Read, if_neg h8, if_neg h4]

/-! ### A register's word -/

theorem regRead_unreadable {s : State} {a : Nat} (h : s.blk.unreadable a = true) (lo hi : Nat) : regRead s a lo hi = (s, 2 ^ 64 - 1) := by
  simp only [regRead, h, if_true]

theorem regRead_none {s : State} {a : Nat} (h : s.blk.unreadable a = false) (hr : regAt a = none) (lo hi : Nat) :
    regRead s a lo hi = (s, 0) := by
  simp only [regRead, h, hr, Bool.false_eq_true, if_false]

/-- The registers at offset `a` whose read does more than answer their word. -/
def ReadActs (a : Nat) (d : RegDef) : Prop :=
  (a < 0x100000 ∧ d.off ∈ moduleReads) ∨ ((0x100000 ≤ a ∧ a < 0x200000) ∧ d.off ∈ fieldReads) ∨
    ((0x200000 ≤ a ∧ a < 0x310000) ∧ d.off ∈ sliceReads)

section
variable {s : State} {a base : Nat} {d : RegDef} (h : Stands a base d) (hu : s.blk.unreadable a = false)
include h hu

/-- Any other register answers its word by the access codes, and its RC fields that the read covers are cleared. -/
theorem regRead_plain (hp : ¬ ReadActs a d) (lo hi : Nat) :
    regRead s a lo hi = (s.on (fun b => b.rcClear base d lo hi), s.blk.regWord base d) := by
  obtain ⟨-, -, hr⟩ := h
  simp only [ReadActs, not_or, not_and] at hp
  obtain ⟨hm, hf, hs⟩ := hp
  simp only [moduleReads, List.mem_cons, List.not_mem_nil, or_false, not_or] at hm
  simp only [fieldReads, fieldWindows, List.mem_cons, List.not_mem_nil, or_false, not_or] at hf
  simp only [sliceReads, List.mem_cons, List.not_mem_nil, or_false, not_or] at hs
  simp only [regRead, hu, hr, Bool.false_eq_true, if_false]
  by_cases h1 : a < 0x100000
  · simp only [h1, if_true, hm h1, if_false]
  · by_cases h2 : a < 0x200000
    · simp only [h1, h2, if_true, if_false, hf ⟨by omega, h2⟩]
    · by_cases h3 : a < 0x310000
      · simp only [h1, h2, h3, if_true, if_false, hs ⟨by omega, h3⟩]
      · simp only [h1, h2, h3, if_false]

end

/-! ### Reads that are commands -/

/-- A read that answers in `lastRead` leaves that answer alone when it is returned to the host. -/
theorem returned_answer {t : State} {x : Nat} (h : t.blk.host.lastRead = [x]) :
    (answered t).1.on (fun b => returned b (answered t).2) = t := by
  have hx : t.blk.answer = x := by rw [Block.answer, h]; rfl
  simp only [answered, hx, State.on, returned, ← h]

/-- A read whose register answers through `lastRead` in the state `t` is the command that ends in `t`. -/
theorem exec_registerRead_as {s t : State} {a x : Nat} {i : Instr} (ha : a % 8 = 0) (hi : exec i s = .next t)
    (ht : t.blk.host.lastRead = [x]) (hr : regRead s a 0 63 = answered t) : exec (.registerRead a 8) s = exec i s := by
  rw [exec_registerRead_word ha, hr, returned_answer ht, hi]

theorem refqPop_answers (b : Block) : ∃ x, b.refqPop.host.lastRead = [x] := by
  unfold Block.refqPop
  split
  · exact ⟨_, rfl⟩
  · exact ⟨_, rfl⟩

theorem tiaPop_answers (b : Block) (i : Nat) : ∃ x, (b.tiaPop i).host.lastRead = [x] := by
  unfold Block.tiaPop
  split
  · exact ⟨_, rfl⟩
  · split
    · exact ⟨_, rfl⟩
    · exact ⟨_, rfl⟩

section
variable {s : State} {a base : Nat} {d : RegDef} (h : Stands a base d) (hu : s.blk.unreadable a = false)
include h hu

/-- The registers of the module blocks whose read is a command or answers from the latch of the time exchange (R331, R351, R375, R457). -/
theorem exec_registerRead_module (ha : a < 0x100000) :
    (d.off = HBM_REFQ.PAGE.off → exec (.registerRead a 8) s = exec .hbmRefqPop s) ∧
    (d.off = HBM_LOST.PAGE.off → exec (.registerRead a 8) s = exec .hbmLostPop s) ∧
    (d.off = PTP_NOW_S.SEC.off → exec (.registerRead a 8) s = exec .ptpNowRead s) ∧
    (d.off = PTM_STAT.OFS.off → exec (.registerRead a 8) s = exec .ptmStatRead s) ∧
    (d.off = PTM_TICK.VALUE.off → exec (.registerRead a 8) s =
      .next (s.on (fun b => returned b ((s.blk.host.ptmLatch.map Prod.fst).getD (s.blk.get 0 PTM_TICK.VALUE))))) ∧
    (d.off = PTM_HOST.VALUE.off → exec (.registerRead a 8) s =
      .next (s.on (fun b => returned b ((s.blk.host.ptmLatch.map Prod.snd).getD (s.blk.get 0 PTM_HOST.VALUE))))) ∧
    (d.off = KP_RD.DATA.off → exec (.registerRead a 8) s = exec (.kpRdAccess none false) s) := by
  obtain ⟨ha8, -, hr⟩ := h
  obtain ⟨x, hx⟩ := refqPop_answers s.blk
  refine ⟨fun ho => exec_registerRead_as ha8 rfl hx ?_, fun ho => exec_registerRead_as ha8 rfl rfl ?_,
    fun ho => exec_registerRead_as ha8 rfl rfl ?_, fun ho => exec_registerRead_as ha8 rfl rfl ?_,
    fun ho => (exec_registerRead_word ha8 s).trans ?_, fun ho => (exec_registerRead_word ha8 s).trans ?_,
    fun ho => (exec_registerRead_word ha8 s).trans ?_⟩
  all_goals
    simp only [regRead, hu, hr, Bool.false_eq_true, if_false, if_pos ha, ho]
    rfl

/-- The memory windows of a field block: their read is the command that accesses the memory (R160, R208, R251, R275). -/
theorem exec_registerRead_window {f : Fin 16} (hf : a / 0x10000 = 0x10 + f) :
    (d.off = SEQ_PMD.DATA.off → exec (.registerRead a 8) s = exec (.seqPmdAccess f none) s) ∧
    (d.off = SEQ_DSD.DATA.off → exec (.registerRead a 8) s = exec (.seqDsdAccess f none) s) ∧
    (d.off = SOW_DCD.DATA.off → exec (.registerRead a 8) s = exec (.sowDcdAccess f none) s) ∧
    (d.off = DDS_LD.DATA.off → exec (.registerRead a 8) s = exec (.ddsLdAccess f none) s) ∧
    (d.off = CAP_MD.DATA.off → exec (.registerRead a 8) s = exec (.capMdRead f) s) := by
  obtain ⟨ha8, -, hr⟩ := h
  have hfe : (a - 0x100000) / 0x10000 = f := by omega
  refine ⟨fun ho => exec_registerRead_as ha8 rfl rfl ?_, fun ho => exec_registerRead_as ha8 rfl rfl ?_,
    fun ho => exec_registerRead_as ha8 rfl rfl ?_, fun ho => exec_registerRead_as ha8 rfl rfl ?_,
    fun ho => exec_registerRead_as ha8 rfl rfl ?_⟩
  all_goals
    simp only [regRead, hu, hr, Bool.false_eq_true, if_false, if_neg (show ¬ a < 0x100000 by omega),
      if_pos (show a < 0x200000 by omega), hfe, ho]
    rfl

/-- The TIA registers of a slice block (R232): a read of the stamp takes it, a read of the event counts ends what its loss signalled. -/
theorem exec_registerRead_tia {i : Fin 272} (hlo : 0x200000 ≤ a) (hhi : a < 0x310000) (hi : (a - 0x200000) / 0x1000 = i) :
    (d.off = TIA_POP.STAMP.off → exec (.registerRead a 8) s = exec (.tiaPop i) s) ∧
    (d.off = TIA_EVCNT.LOST.off → exec (.registerRead a 8) s = .next (s.on (fun b =>
      returned ((b.rcClear base d 0 63).updTia i (fun t => { t with lostSignalled := false })) (s.blk.regWord base d)))) := by
  obtain ⟨ha8, -, hr⟩ := h
  obtain ⟨x, hx⟩ := tiaPop_answers s.blk i
  refine ⟨fun ho => exec_registerRead_as ha8 rfl hx ?_, fun ho => (exec_registerRead_word ha8 s).trans ?_⟩
  all_goals
    simp only [regRead, hu, hr, Bool.false_eq_true, if_false, if_neg (show ¬ a < 0x100000 by omega),
      if_neg (show ¬ a < 0x200000 by omega), if_pos hhi, hi, ho]
    rfl

end

end Sys2Proof.Machine
end

section
/-!
SUPPORT. The write and the word of a register in terms of the access codes (R5, R8, R318).
-/
namespace Sys2Proof.Machine.Block

/-- The field carries a reserved encoding in the word `v` (R8). -/
def reservedIn (v : Nat) (F : Fld) : Bool := (F.acc == .rw || F.acc == .rws || F.acc == .wo) && !F.ok (bits v F.lo F.w)

/-- A commit of another generation than STAGE_GEN's is pending and has staged the register (R318). -/
def stagedByOther (b : Block) (base : Nat) (d : RegDef) : Bool :=
  (b.sync.commit.map (fun c => b.get 0 STAGE_GEN.GEN != c.gen &&
    d.flds.any (fun F => F.acc == .rws && Sparse.get 0 (fkey base F) b.tags == c.gen + 1))).getD false

/-- The write of a register: a pending commit of another generation stops it; otherwise each field is written by its access code, the
words of the generation that is being staged are counted, and a reserved encoding is reported (R5, R8, R318). `g` and `o` are any spelling of
the write of one field and of the guard. -/
theorem plainWrite_eq (b : Block) (base : Nat) (d : RegDef) (v : Nat) {g : Block → Fld → Block} {o : Bool}
    (hg : ∀ x F, g x F = fieldWrite base v (b.get 0 STAGE_GEN.GEN) (reservedIn v) x F) (ho : o = b.stagedByOther base d) :
    b.plainWrite base d v [] =
      if o then b.fault (cfgSource (base + d.off)) 0
      else
        let w := d.flds.foldl g b
        let w := if d.flds.any (fun F => F.acc == .rws) && !d.flds.any (reservedIn v) &&
          b.get 0 STAGE_GEN.GEN == (w.get 0 MODE_GEN.GEN + 1) % 65536 then w.count 0 COMMIT_STAT.WCNT 1 else w
        if d.flds.any (reservedIn v) then w.kPendSync.fault (cfgSource (base + d.off)) 0 else w.kPendSync := by
  have hbad : (fun F : Fld => (F.acc == .rw || F.acc == .rws || F.acc == .wo) &&
      (!F.ok (bits v F.lo F.w) || ([] : List Nat).contains F.lo)) = reservedIn v := by
    funext F
    rw [List.contains_nil, Bool.or_false, reservedIn]
  obtain rfl : g = fieldWrite base v (b.get 0 STAGE_GEN.GEN) (reservedIn v) := funext₂ hg
  subst ho
  simp only [plainWrite, hbad, stagedByOther, faultIf]
  rfl

theorem fieldWrite_rw {F : Fld} (h : F.acc = .rw) (b : Block) (base v gen : Nat) (bad : Fld → Bool) :
    fieldWrite base v gen bad b F = if bad F then b else b.set base F (bits v F.lo F.w) := by
  rw [fieldWrite, h]

theorem any_calCtrl (p : Fld → Bool) :
    CAL_CTRL.reg.flds.any p = (p CAL_CTRL.TWARN || p CAL_CTRL.DRIFT_LIM || p CAL_CTRL.CAL_DT || p CAL_CTRL.AUTO) := by
  simp [CAL_CTRL.reg, Bool.or_assoc]

/-- CAL_CTRL, written by its access codes (R427). -/
theorem plainWrite_calCtrl (b : Block) (n : Nat) :
    b.plainWrite 0 CAL_CTRL.reg n [] =
      (let b := b.set 0 CAL_CTRL.TWARN (bits n 56 8)
      let b := if bits n 32 16 = 0 then b else b.set 0 CAL_CTRL.DRIFT_LIM (bits n 32 16)
      let b := if bits n 8 8 < 8 then b else b.set 0 CAL_CTRL.CAL_DT (bits n 8 8)
      ((b.set 0 CAL_CTRL.AUTO (bits n 0 1)).kPendSync).faultIf (decide (bits n 32 16 = 0 ∨ bits n 8 8 < 8)) 406 0) := by
  have hstaged : CAL_CTRL.reg.flds.any (fun F => F.acc == .rws) = false := rfl
  have hother : b.stagedByOther 0 CAL_CTRL.reg = false := by
    cases hc : b.sync.commit <;> simp [stagedByOther, hc, any_calCtrl, CAL_CTRL.TWARN, CAL_CTRL.DRIFT_LIM, CAL_CTRL.CAL_DT, CAL_CTRL.AUTO]
  have ht : reservedIn n CAL_CTRL.TWARN = false := rfl
  have ha : reservedIn n CAL_CTRL.AUTO = false := rfl
  have hl : reservedIn n CAL_CTRL.DRIFT_LIM = decide (bits n 32 16 = 0) := by
    by_cases h : bits n 32 16 = 0 <;> simp [reservedIn, CAL_CTRL.DRIFT_LIM, h]
  have hd : reservedIn n CAL_CTRL.CAL_DT = decide (bits n 8 8 < 8) := by
    by_cases h : bits n 8 8 < 8 <;> simp [reservedIn, CAL_CTRL.CAL_DT, h, Nat.le_of_not_lt]
  have hbad : CAL_CTRL.reg.flds.any (reservedIn n) = decide (bits n 32 16 = 0 ∨ bits n 8 8 < 8) := by
    rw [any_calCtrl, ht, hl, hd, ha, Bool.false_or, Bool.or_false, Bool.decide_or]
  rw [plainWrite_eq b 0 CAL_CTRL.reg n (fun _ _ => rfl) rfl, hother, hstaged, hbad]
  simp only [CAL_CTRL.reg, List.foldl, fieldWrite_rw (F := CAL_CTRL.TWARN) rfl, fieldWrite_rw (F := CAL_CTRL.DRIFT_LIM) rfl,
    fieldWrite_rw (F := CAL_CTRL.CAL_DT) rfl, fieldWrite_rw (F := CAL_CTRL.AUTO) rfl, ht, hl, hd, ha, Bool.false_eq_true, if_false,
    Bool.false_and, decide_eq_true_eq, faultIf]
  rfl

end Sys2Proof.Machine.Block
end

section
/-!
PROOFS. The scope of BAR0: what its registers hold after reset (R6), and which accesses take effect (R5 to R8, R356, R357, R369, R370).
-/
namespace Sys2Proof.Proofs
open Sys2Proof.Machine

/-- Settles O52: the stores of fields list nothing after reset, so each field reads its reset value for the address of its register,
and a field lies at the address at which its register stands. -/
theorem everyFieldResetsToItsTableValue : Obligations.EveryFieldResetsToItsTableValue := by
  intro a base d F h hF
  have hreset : State.reset.blk.get base F = F.rst (base + F.off) ∧ State.reset.blk.getSh base F = F.rst (base + F.off) := ⟨rfl, rfl⟩
  rwa [base_add_off h hF] at hreset

/-- Settles O53: the memories after reset list no byte, and an unlisted byte reads zero. -/
theorem resetMeetsTheInvariant : Obligations.ResetMeetsTheInvariant :=
  ⟨Memory.wf_reset, rfl, fun a => Sparse.get_nil 0 a⟩

/-- Settles O40: a write reaches the operation of its block, and where no register of that block does more it is `plainWrite`, which is the
write by the access codes; a read answers `regWord` and clears by `rcClear`, or is the command that its register stands for. -/
theorem bar0AccessesFollowTheAccessCodes : Obligations.Bar0AccessesFollowTheAccessCodes := by
  intro s a len v base d b n here reserved plain word cleared answers slice regulator field readable acts
  have hplain : s.on (fun b => b.plainWrite base d n []) = plain := by
    refine congrArg s.on (funext fun b => Block.plainWrite_eq b base d n (fun x F => ?_) ?_)
    · unfold Block.fieldWrite
      cases F.acc <;> rfl
    · unfold Block.stagedByOther
      cases b.sync.commit <;> rfl
  have hword : s.blk.regWord base d = word := by
    refine List.foldl_ext _ _ _ fun w F _ => ?_
    unfold Block.fieldRead
    cases F.acc <;> rfl
  refine ⟨fun h => exec_registerWrite_other h v s, fun ha hb => ?_, fun ha hb hr => ?_, fun h ha => exec_registerWrite_readOnly h v s ha,
    fun h ha ho => ?_, fun h ha _ => exec_registerWrite_module h v s (by omega), fun h ha => ?_, fun h f hf => ?_,
    fun h ⟨hlo, hhi⟩ => ?_, fun h ⟨hlo, hhi⟩ => ?_, fun ha hu => ?_, fun ha hu hr => ?_, fun ⟨h, hu⟩ hp => ?_, fun ⟨h, hu⟩ hp => ?_,
    fun ⟨h, hu⟩ hp => ?_, fun ⟨h, hu⟩ ha => exec_registerRead_module h hu ha, fun ⟨h, hu⟩ f hf => exec_registerRead_window h hu hf,
    fun ⟨h, hu⟩ i ⟨hlo, hhi⟩ hi => ?_, fun h8 h4 => exec_registerRead_other h8 h4 s, rfl, fun q => rfl,
    fun ha => exec_registerRead_word ha s, fun e m => ⟨rfl, fun he => ?_, fun he => ?_⟩, ?_⟩
  -- writes outside every block, and where no register stands
  · rw [exec_registerWrite_aligned ha, regWrite_outside hb]
    rfl
  · rw [exec_registerWrite_aligned ha, regWrite_none hb hr]
  -- writes of the module blocks: by the access codes, and by a command
  · rw [exec_registerWrite_module h v s (by omega), ← hplain]
    exact congrArg _ (State.on_congr (Block.moduleWrite_plain ho (Stands.off_le h |>.trans_lt ha) _ base n))
  · have hm : a < 0x100000 := by omega
    exact ⟨fun _ hb ho => exec_registerWrite_as h v s hm rfl fun k => k.moduleWrite_qCfg _ hb ho,
      fun _ hb ho => exec_registerWrite_as h v s hm rfl fun k => k.moduleWrite_sqdb _ hb ho,
      fun _ hb ho => exec_registerWrite_as h v s hm rfl fun k => k.moduleWrite_cqdb _ hb ho,
      fun _ hb ho => exec_registerWrite_as h v s hm rfl fun k => k.moduleWrite_icPend _ hb ho,
      fun _ hb ho => exec_registerWrite_as h v s hm rfl fun k => k.moduleWrite_icEnSet _ hb ho,
      fun _ hb ho => exec_registerWrite_as h v s hm rfl fun k => k.moduleWrite_icEnClr _ hb ho,
      fun _ hb ho => exec_registerWrite_as h v s hm rfl fun k => k.moduleWrite_icRoute _ hb ho,
      fun _ hb ho => exec_registerWrite_as h v s hm rfl fun k => k.moduleWrite_fcCfg _ hb ho,
      fun _ hb ho => exec_registerWrite_as h v s hm rfl fun k => k.moduleWrite_fcSticky _ hb ho,
      fun ho => exec_registerWrite_as h v s hm rfl fun k => k.moduleWrite_fcRecover _ ho,
      fun ho => exec_registerWrite_as h v s hm rfl fun k => k.moduleWrite_rmCmd _ ho,
      fun ho => exec_registerWrite_as h v s hm rfl fun k => k.moduleWrite_resCtrl _ ho,
      fun ho => exec_registerWrite_as h v s hm rfl fun k => k.moduleWrite_kpRd _ ho⟩
  -- writes of a field, a slice and a regulator
  · refine ⟨fun ho hw => ?_, fun ho => exec_registerWrite_field h v s hf f.isLt (not_window_of_fieldActs _ ho),
      exec_registerWrite_window h v s hf⟩
    rw [exec_registerWrite_field h v s hf f.isLt hw, ← hplain]
    exact congrArg _ (State.on_congr (Block.fieldRegWrite_plain ho _ f base n))
  · rw [exec_registerWrite_slice h v s hlo hhi, ← hplain]
    exact ⟨fun hr => congrArg _ (State.on_congr (Block.sliceWrite_refused hr base d n)),
      fun hr ho => congrArg _ (State.on_congr (Block.sliceWrite_plain ho hr base n)), fun _ => rfl⟩
  · rw [exec_registerWrite_regulator h v s hlo hhi, ← hplain]
    exact ⟨fun hr => congrArg _ (State.on_congr (Block.dpsWrite_refused hr base d n)),
      fun hr ho => congrArg _ (State.on_congr (Block.dpsWrite_plain ho hr base n)), fun _ => rfl⟩
  -- reads
  · rw [exec_registerRead_word ha, regRead_unreadable hu]
    rfl
  · rw [exec_registerRead_word ha, regRead_none hu hr]
    rfl
  · rw [exec_registerRead_word h.1, regRead_plain h hu hp, hword]
    rfl
  · rw [exec_registerRead_low h.1, regRead_plain h hu hp, hword]
    rfl
  · rw [exec_registerRead_high h.1, regRead_plain h hu hp, hword]
    rfl
  · obtain ⟨hpop, hcnt⟩ := exec_registerRead_tia h hu hlo hhi hi
    exact ⟨hpop, hword ▸ hcnt⟩
  -- the words of READ_REGS
  · rw [regsRead, if_neg (by omega)]
  · rw [regsRead, if_pos he]
  -- a write of CAL_CTRL
  · have hcal : Stands 0x60000 0 CAL_CTRL.reg := ⟨rfl, rfl, rfl⟩
    rw [exec_registerWrite_module hcal v s (by decide)]
    refine congrArg _ (State.on_congr ?_)
    rw [Block.moduleWrite_plain (d := CAL_CTRL.reg) (by decide) (by decide), Block.plainWrite_calCtrl]

end Sys2Proof.Proofs
end

section
/-!
SUPPORT. A command whose arm changes the block alone: what it does, or that it does nothing, is a fact about the block it meets.
-/
namespace Sys2Proof.Machine

/-- A command that does `f` to the block does `g` where the two agree on the block it meets. -/
theorem exec_of_on {i : Instr} {s : State} (f : Block → Block) {g : Block → Block} (hi : exec i s = .next (s.on f))
    (h : f s.blk = g s.blk) : exec i s = .next (s.on g) := by
  rw [hi, State.on_congr h]

/-- A command that does `f` to the block changes nothing where `f` leaves the block it meets. -/
theorem exec_self_of_on {i : Instr} {s : State} (f : Block → Block) (hi : exec i s = .next (s.on f)) (h : f s.blk = s.blk) :
    exec i s = .next s := exec_of_on f hi (g := id) h

end Sys2Proof.Machine
end

section
/-!
SUPPORT. The substitution through the hinge bus (R76), where its steps do not read off their definitions.
-/
namespace Sys2Proof.Machine.Block

/-- A slice that serves no channel is not substituted. -/
theorem substStart_none {b : Block} {w : Nat} (h : b.slcChan w = none) : b.substStart w = b := by
  simp only [substStart, h]

/-- A count made only where a condition fails may take its number as if the condition failed. -/
theorem ite_count_ite {c : Prop} [Decidable c] (a d : Block) (base : Nat) (F : Fld) (n : Nat) :
    (if c then a else d.count base F (if c then 0 else n)) = if c then a else d.count base F n := by
  split <;> rfl

end Sys2Proof.Machine.Block
end

section
/-!
SUPPORT. HASP_CLAIM and HASP_RELEASE as what the table answers and the completion made of it (R19 to R24, R364); when no flash job
starts (R432).
-/
namespace Sys2Proof.Machine

/-- The completion of HASP_CLAIM by what the claim answers: the holder on a conflict goes to RESULT (R364). -/
def claimAnswer (q : Nat) (r : Block × Nat × Nat) : Block := r.1.complete q (r.2.2 * 256) r.2.1

/-- The completion of HASP_RELEASE by what the release answers (R364). -/
def releaseAnswer (q : Nat) (r : Block × Nat) : Block := r.1.complete q 0 r.2

section
variable {q : Fin 64} {s : State} {ws : List Nat}

theorem exec_haspClaim (h : s.blk.cmdOf q 0x18 = some ws) : exec (.haspClaim q) s =
    .next (s.on (fun b => claimAnswer q (b.haspClaim (0x20 + q) (bits (ws.getD 1 0) 0 9) (bits (ws.getD 1 0) 16 16)))) :=
  exec_of_on _ rfl (by simp only [h]; rfl)

theorem exec_haspClaim_none (h : s.blk.cmdOf q 0x18 = none) : exec (.haspClaim q) s = .next s :=
  exec_self_of_on _ rfl (by simp only [h])

theorem exec_haspRelease (h : s.blk.cmdOf q 0x19 = some ws) : exec (.haspRelease q) s =
    .next (s.on (fun b => releaseAnswer q (b.haspRelease (0x20 + q) (bits (ws.getD 1 0) 0 9) (bit (ws.getD 1 0) 63)))) :=
  exec_of_on _ rfl (by simp only [h]; rfl)

theorem exec_haspRelease_none (h : s.blk.cmdOf q 0x19 = none) : exec (.haspRelease q) s = .next s :=
  exec_self_of_on _ rfl (by simp only [h])

end

/-- The refusals of a release in their order, with every test a proposition. -/
theorem Block.haspRelease_eq (b : Block) (o i : Nat) (force : Bool) :
    b.haspRelease o i force =
      if haspExists i = false then (b, 0x22)
      else if b.haspOwner i = 0 then (b, if force then 0 else 0x25)
      else if haspOpen i = false ∨ (force ∧ 0x60 ≤ b.haspOwner i) then (b, 0x23)
      else if b.haspOwner i ≠ o ∧ ¬ force then (b, 0x25)
      else if b.haspActive i = true ∨ (b.haspOwner i ≠ o ∧ b.haspOwner i ≤ 0x11 ∧ b.idle (b.ownerField (b.haspOwner i)) = false) then
        (b, 0x24)
      else (b.haspFree i, 0) := by
  simp only [haspRelease, Bool.not_eq_true', Bool.not_eq_true]

/-- No flash job starts while one runs or none waits (R432). -/
theorem Block.flashStart_self {b : Block} (h : b.flash.running ≠ none ∨ b.flash.queue = []) : b.flashStart = b := by
  unfold flashStart
  split
  · next hr hq =>
    simp [hr, hq] at h
  · rfl

end Sys2Proof.Machine
end

section
/-!
SUPPORT. The operations of the repair manager (R291, R406 to R409), where a match or a guard stands between them and what they do.
-/
namespace Sys2Proof.Machine.Block

/-- A fold whose steps keep the fault state keeps it. -/
theorem foldl_flt {α : Type} {f : Block → α → Block} (h : ∀ b a, (f b a).flt = b.flt) (l : List α) (b : Block) :
    (l.foldl f b).flt = b.flt := by
  induction l generalizing b with
  | nil => rfl
  | cons a l ih => rw [List.foldl_cons, ih, h]

/-- Settings taken over by another unit leave the fault state. -/
theorem copyUnit_flt (regs : List RegDef) (x y : Nat) (b : Block) : (copyUnit regs x y b).flt = b.flt :=
  foldl_flt (fun _ _ => foldl_flt (fun _ _ => foldl_flt (f := copyFld _ _) (fun _ _ => rfl) _ _) _ _) regs b

theorem haspTake_flt (b : Block) (i : Nat) : (b.haspTake i).flt = b.flt := rfl

/-- Worn regulator `r` hands land `l` over to the spare `sp`, which has its settings: roles, the map, the calibration set and the last
results (R291). -/
def dpsHandOver (b : Block) (r l sp : Nat) : Block :=
  let b := (b.set (DPS r) DPS_ID.ROLE 3).set (DPS r) DPS_ID.LAND 0x3F
  let b := (b.set (DPS sp) DPS_ID.ROLE 2).set (DPS sp) DPS_ID.LAND l
  let b := if sp = 32 then (b.setFlag 0 RM_DPSMAP.SUB32 true).set 0 RM_DPSMAP.LAND32 l
    else (b.setFlag 0 RM_DPSMAP.SUB33 true).set 0 RM_DPSMAP.LAND33 l
  let b := b.set 0 RM_STAT.SPARE_DPS (b.get 0 RM_STAT.SPARE_DPS - 1)
  let b := b.updDps sp (fun d => { d with calSet := l, meas := (b.dps r).meas })
  b.updWm (272 + sp) (fun w => { w with hist := (b.wm (272 + r)).hist })

/-- What follows the hand-over (R291, R408): the mark of a Degraded land, the record of the substitution and its source. -/
def dpsHandedOver (b : Block) (r l sp displaced : Nat) (degraded : Bool) : Block :=
  let b := if degraded then b.mark 1 (300 + l / 2) else b
  let b := { b with flt := { b.flt with due := b.flt.due.filter (fun e => e != (1, r)) } }
  (((b.dpsSync r).dpsSync sp).rmRecord 1 0 displaced r sp).mapChanged.arrive 610

/-- The hand-over leaves the fault state. -/
theorem dpsHandOver_flt (b : Block) (r l sp : Nat) : (b.dpsHandOver r l sp).flt = b.flt := by
  unfold dpsHandOver
  rw [updWm_flt, updDps_flt, set_flt]
  split <;> rw [set_flt, setFlag, set_flt, set_flt, set_flt, set_flt, set_flt]

/-- DPS_SUBSTITUTION of a regulator that serves no land does nothing. -/
theorem dpsSubst_none {b : Block} {r : Nat} (hl : b.dpsLand r = none) : b.dpsSubst r = b := by
  rw [dpsSubst, hl]

/-- DPS_SUBSTITUTION by its guards (R291): deferred while the worn regulator is on or ramps, else carried out. -/
theorem dpsSubst_some {b : Block} {r l : Nat} (hl : b.dpsLand r = some l) :
    b.dpsSubst r =
      let sp := if l < 16 then 32 else 33
      let c := ((b.haspTake (272 + (sp - 32))).copyUnit dpsRegs (DPS r) (DPS sp)).dpsHandOver r l sp
      if b.flt.due.contains (1, r) ∧ b.idle (l / 2) ∧ !b.boundaryBusy (l / 2) ∧ b.atBoundary ∧ b.get (DPS sp) DPS_ID.ROLE = 1 ∧
          !b.flag (DPS sp) DPS_STAT.BOLTED then
        if b.flag (DPS r) DPS_CTRL.EN || b.flag (DPS r) DPS_STAT.RAMP || b.flag (DPS r) DPS_STAT.OUT_SW then
          (b.rmRecord 1 1 0 r sp).arrive 611
        else c.dpsHandedOver r l sp (b.get (8 * (272 + (sp - 32))) HASP_ENT.OWNER) (c.flt.degraded.any (fun d => d.1 == 322 + r))
      else b := by
  rw [dpsSubst, hl]
  rfl

/-- Without GO, a write of RM_CMD whose KIND is not reserved does nothing (R407). -/
theorem rmCmd_of_not_go {v : Nat} (hk : bits v 48 2 ≠ 3) (hg : bit v 63 = false) (b : Block) : b.rmCmd v = b := by
  simp only [rmCmd, if_neg hk, hg, Bool.not_false, if_true]

/-- With GO, the unit of the kind is due, if there is one of that number (R407). -/
theorem rmCmd_of_go {v : Nat} (hk : bits v 48 2 ≠ 3) (hg : bit v 63 = true) (b : Block) :
    b.rmCmd v =
      if bits v 48 2 = 0 ∧ bits v 32 9 < 272 then b.substDue (bits v 32 9)
      else if bits v 48 2 = 1 ∧ bits v 32 9 < 34 then b.substDue (272 + bits v 32 9)
      else if bits v 48 2 = 2 ∧ bits v 32 9 < 17 then b.substDue (306 + bits v 32 9) else b := by
  have hlt : bits v 48 2 < 4 := Nat.mod_lt _ (by decide)
  simp only [rmCmd, if_neg hk, hg, Bool.not_true, Bool.false_eq_true, if_false]
  generalize bits v 48 2 = k at hk hlt
  obtain rfl | rfl | rfl : k = 0 ∨ k = 1 ∨ k = 2 := by omega
  all_goals simp

end Sys2Proof.Machine.Block
end

section
/-!
PROOFS. The architecture chapter: the substitution of a slice, the hasp table with the trigger lines and flash jobs, and the repair manager.
-/
namespace Sys2Proof.Proofs
open Sys2Proof.Machine

/-- Settles O19: each step of R76 is one guarded change of the block. SUBST_WORN_RETIRE counts lost stamps only where the field has no
chain, so that the count needs no second case for the chain. -/
theorem substitutionThroughTheHingeBus : Obligations.SubstitutionThroughTheHingeBus := by
  intro s w f c b x p g start retire
  refine ⟨fun hc h => exec_of_on (·.substStart w) rfl ?_, fun h => exec_self_of_on (·.substStart w) rfl ?_,
    fun h => exec_of_on (·.substRetire f) rfl ?_, fun h => exec_self_of_on (·.substRetire f) rfl (if_neg h),
    fun h => exec_of_on (·.substConnect f) rfl (if_pos h), fun h => exec_self_of_on (·.substConnect f) rfl (if_neg h),
    fun h hB => exec_of_on (·.substRestore f) rfl (if_pos ⟨h, hB⟩), fun h => exec_self_of_on (·.substRestore f) rfl (if_neg ?_)⟩
  · simp only [Block.substStart, hc, Bool.not_eq_true', b]
    exact if_pos h
  · obtain hc | h := h
    · exact Block.substStart_none hc
    · cases hc : s.blk.slcChan w with
      | none => exact Block.substStart_none hc
      | some _ =>
        simp only [Block.substStart, hc, Bool.not_eq_true']
        exact if_neg h
  · rw [Block.substRetire, if_pos h]
    simp only [Block.ite_count_ite]
    rfl
  · rintro ⟨h3, hB⟩
    obtain h | h := h
    · exact h h3
    · exact Bool.false_ne_true (h.symm.trans hB)

/-- Settles O25: a claim and a release complete with what the table answers, refusal by refusal; the lines and the flash jobs are guarded
changes of the block. -/
theorem haspsLinesAndFlashJobs : Obligations.HaspsLinesAndFlashJobs := by
  intro s q n c ws rising wide ok a j t b i tag force w me pulse at_
  refine ⟨fun h => (exec_haspClaim h).trans ?_, exec_haspClaim_none, fun h => (exec_haspRelease h).trans ?_, exec_haspRelease_none,
    fun h => exec_of_on _ rfl (if_pos ?_), fun h => exec_of_on _ rfl (if_neg ?_),
    fun h => exec_of_on (·.trgPulseEnd n) rfl (if_pos h), fun h => exec_self_of_on (·.trgPulseEnd n) rfl (if_neg h),
    fun hw ha => exec_of_on (·.trgInEdge n rising wide a) rfl (if_neg ?_),
    fun h => exec_self_of_on (·.trgInEdge n rising wide a) rfl (if_pos ?_),
    fun hr hq => exec_of_on Block.flashStart rfl ?_, fun h => exec_self_of_on Block.flashStart rfl (Block.flashStart_self h),
    fun h => exec_of_on (·.flashDone ok a) rfl ?_, fun h => exec_self_of_on (·.flashDone ok a) rfl ?_⟩
  · refine congrArg _ (State.on_congr ?_)
    simp only [Block.haspClaim, Bool.not_eq_true', apply_ite (claimAnswer q)]
    simp only [claimAnswer, Nat.zero_mul]
    rfl
  · refine congrArg _ (State.on_congr ?_)
    simp only [Block.haspRelease_eq, apply_ite (releaseAnswer q)]
    rfl
  · rw [Block.trgFree, Bool.not_eq_true']
    exact h
  · rw [Block.trgFree, Bool.not_eq_true', Bool.not_eq_false]
    exact h
  · rw [not_or, Bool.not_eq_true', Bool.not_eq_false, Nat.not_le]
    exact ⟨hw, ha⟩
  · rw [Bool.not_eq_true']
    exact h
  · simp only [Block.flashStart, hr, hq, b]
  · simp only [Block.flashDone, h, b]
  · simp only [Block.flashDone, h, b]

/-- Settles O39. The statement asks whether the worn regulator is Degraded before the hand-over to the spare, the model after it: the two
agree because the hand-over leaves the fault state. -/
theorem theRepairManagerReplacesAndSaves : Obligations.TheRepairManagerReplacesAndSaves := by
  intro s v d out good lane eye rp pe r b u kind go laneNow landOf sub worn
  refine ⟨fun h3 => exec_of_on (·.rmCmd v.toNat) rfl (if_pos h3),
    fun h3 hg => exec_of_on (·.rmCmd v.toNat) rfl (Block.rmCmd_of_not_go h3 hg _),
    fun h3 hg => exec_of_on (·.rmCmd v.toNat) rfl (Block.rmCmd_of_go h3 hg _),
    fun h => exec_of_on (·.laneRepair d out) rfl (if_pos h), fun h => exec_of_on (·.laneRepair d out) rfl (if_neg h),
    exec_of_on (·.laneDone d eye) rfl ?_, rfl, fun h => exec_of_on Block.mapSave rfl (if_pos h),
    fun h => exec_of_on Block.mapSave rfl (if_neg (Bool.not_eq_true _ ▸ h)),
    exec_of_on (·.mapSaveDone good) rfl ?_, fun h => exec_of_on (·.dpsSubst r) rfl ?_,
    fun l hl h => exec_of_on (·.dpsSubst r) rfl ?_⟩
  · unfold Block.laneDone
    rw [← List.isSome_find?]
    cases hd : s.blk.flt.laneBusy.find? (fun x => x.1 == d.val) with
    | none => simp only [Option.isSome_none, Bool.false_eq_true, if_false, hd]
    | some x => simp only [Option.isSome_some, if_true, Block.laneEye, Block.set_flt, hd]
  · unfold Block.mapSaveDone
    cases hj : s.blk.flashOutcome 0 0 <;> rfl
  · cases hl : s.blk.dpsLand r with
    | none => exact Block.dpsSubst_none hl
    | some l =>
      rw [← Bool.not_eq_true] at h
      simp only [sub, landOf, b, hl, Bool.and_eq_true, beq_iff_eq, and_assoc] at h
      rw [Block.dpsSubst_some hl]
      exact if_neg h
  · replace hl : s.blk.dpsLand r = some l := hl
    simp only [sub, landOf, b, hl, Bool.and_eq_true, beq_iff_eq, and_assoc] at h
    rw [Block.dpsSubst_some hl]
    dsimp only
    rw [if_pos h, Block.dpsHandOver_flt, Block.copyUnit_flt, Block.haspTake_flt]
    rfl

end Sys2Proof.Proofs
end

section
/-!
SUPPORT. One-bit fields written and read back, and the steps of the tick generator (R33 to R38) under the conditions at which they act.
-/
namespace Sys2Proof.Machine.Block

/-! ### One-bit fields -/

theorem flag_setFlag_self {F : Fld} (h : 0 < F.w) (b : Block) (base : Nat) (v : Bool) : (b.setFlag base F v).flag base F = v := by
  have h2 : 1 < 2 ^ F.w := Nat.one_lt_two_pow h.ne'
  cases v <;> simp [flag, setFlag, b01, Nat.mod_eq_of_lt h2]

theorem flag_setFlag_ne {base base' : Nat} {F G : Fld} (h : fkey base' G ≠ fkey base F) (b : Block) (v : Bool) :
    (b.setFlag base F v).flag base' G = b.flag base' G := by
  rw [flag, setFlag, get_set_ne _ _ h, ← flag]

/-! ### The tick generator -/

theorem tickBoundary_stopped {b : Block} (h : b.flag 0 TB_STAT.TICK_RUN = false) : b.tickBoundary = b := by
  simp only [tickBoundary, h, Bool.not_false, if_true]

theorem tickBoundary_running {b : Block} (h : b.flag 0 TB_STAT.TICK_RUN = true) :
    b.tickBoundary =
      let c := (b.tickMove.tickResults b.tick).tickCounters.framesPass
      if c.commitDue then c else c.boundaryRest := by
  simp only [tickBoundary, h, Bool.not_true, Bool.false_eq_true, if_false]

/-- TICKNO counts modulo 2^64 (R38). -/
theorem tickMove_tick (b : Block) : b.tickMove.tick = (b.tick + 1) % 2 ^ 64 := get_set_self _ _ _ _

/-- The flags that the stop of the tick generator clears (R36, R320). -/
theorem tickStop_flags (b : Block) :
    b.tickStop.flag 0 TB_STAT.TICK_RUN = false ∧ b.tickStop.flag 0 SYNC_STAT.WAIT = false ∧
      b.tickStop.flag 0 SYNC_STAT.LEAD_RUN = false ∧ b.tickStop.flag 0 SYNC_STAT.HOLD_REL = false := by
  unfold tickStop
  refine ⟨?_, ?_, ?_, flag_setFlag_self (by decide) _ _ _⟩
  · rw [flag_setFlag_ne (by decide), flag_setFlag_ne (by decide), flag_setFlag_ne (by decide), flag_setFlag_self (by decide)]
  · rw [flag_setFlag_ne (by decide), flag_setFlag_ne (by decide), flag_setFlag_self (by decide)]
  · rw [flag_setFlag_ne (by decide), flag_setFlag_self (by decide)]

/-- With a clock missing PLL_LOCK has the DLLs calibrated only where PLL_TIM was not locked, and starts ticks only at power-up (R37, R38,
R236). -/
theorem pllLock_missing {b : Block} (h : b.clocksGood = false) :
    b.pllLock =
      let c := ([TB_STAT.REF_OK, TB_STAT.CORE_LOCK, TB_STAT.TIM_LOCK, TB_STAT.D2D_LOCK, TB_STAT.HBM_LOCK]).foldl
        (fun b F => b.setFlag 0 F true) b
      let c : Block := { c with time := { c.time with lockSince := some c.time.now } }
      let c : Block := if b.flag 0 TB_STAT.TIM_LOCK then c
        else (List.range 272).foldl (fun b s => b.updTia s (fun t => { t with dllDue := true })) c
      if c.time.waitSync ∨ c.flag 0 TB_STAT.TICK_RUN then c else c.tickFirst := by
  unfold pllLock
  cases b.flag 0 TB_STAT.TIM_LOCK <;> simp only [h, Bool.false_eq_true, Bool.not_false, Bool.not_true, if_false, if_true]

/-- PLL_UNLOCK of a locked PLL, numbered as the command numbers it (R36, R236). -/
theorem pllUnlock_locked {b : Block} {p : Fin 4} (h : b.flag 0 (lockBit p) = true) :
    b.pllUnlock p =
      let c : Block := if p = 1 then (List.range 272).foldl (fun b s =>
        (b.setFlag (SLC s) TIA_STAT.DLL_LOCK false).updTia s (fun t => { t with dllAt := none })) b else b
      (((c.setFlag 0 (lockBit p) false).count 0 TB_EVCNT.UNLOCK 1).tickStop).fault 396 0 := by
  have h1 : (p = 1) = ((p : Nat) = 1) := propext Fin.ext_iff
  simp only [pllUnlock, h, h1, if_true]

theorem tickRestart_due {b : Block} {t : Nat} (hl : b.time.lockSince = some t) (hw : b.time.waitSync = true)
    (hc : b.clocksGood = true) (ht : t + 1000000 ≤ b.time.now) (hr : b.flag 0 TB_STAT.TICK_RUN = false) :
    b.tickRestart = b.setFlag 0 SYNC_STAT.WAIT true := by
  simp only [tickRestart, hl, hw, hc, ht, hr, Bool.not_false, and_self, if_true]

end Sys2Proof.Machine.Block
end

section
/-!
SUPPORT. The vector stream and the Sower (R117, R166, R207, R219, R221) and the table check (R131), under the conditions at which they act.
-/
namespace Sys2Proof.Machine
namespace Block

/-! ### Vectors -/

/-- No vector starts while the stream is empty or its first vector is still to come (R117). -/
theorem vectorStart_not_due {b : Block} {f : Nat} {nodes : List NodeTrace} {r : OutRun} {rest : List OutRun}
    (h : (b.sow f).out = [] ∨ ((b.sow f).out = r :: rest ∧ (b.time.now + 1) * 20000 ≤ r.start)) : b.vectorStart f nodes = b := by
  obtain h | ⟨h, ht⟩ := h
  · simp only [vectorStart, h]
  · simp only [vectorStart, h, ht, if_true]

/-- The vector fails and was issued since F was last cleared, asked either way round (R139). -/
theorem ite_failed {α : Type} (fails k n : Nat) (x y : α) :
    (if fails = 0 ∨ n < k then x else y) = if fails ≠ 0 ∧ k ≤ n then y else x := by
  simp only [← ite_not (fails = 0 ∨ n < k), not_or, Nat.not_lt, ne_eq]

/-- No vector is judged while none waits or the oldest is not due (R166). -/
theorem vectorJudged_not_due {b : Block} {f : Nat} {j : JudgeVec} {js : List JudgeVec}
    (h : (b.sow f).judge = [] ∨ ((b.sow f).judge = j :: js ∧ b.time.lastB * 20000 < j.due)) : b.vectorJudged f = b := by
  obtain h | ⟨h, ht⟩ := h
  · simp only [vectorJudged, h]
  · simp only [vectorJudged, h, if_neg (Nat.not_le.mpr ht)]

/-! ### Streams -/

theorem sow_updSow_self (b : Block) (f : Nat) (g : SowSt → SowSt) : (b.updSow f g).sow f = g (b.sow f) := Sparse.get_set_self _ _ _ _

/-- Changes of a Sower that agree on its state. -/
theorem updSow_congr {b : Block} {f : Nat} {g h : SowSt → SowSt} (e : g (b.sow f) = h (b.sow f)) : b.updSow f g = b.updSow f h := by
  rw [updSow, updSow, e]

/-- Changes of a sequencer that agree on its state. -/
theorem updSeq_congr {b : Block} {f : Nat} {g h : SeqSt → SeqSt} (e : g (b.seq f) = h (b.seq f)) : b.updSeq f g = b.updSeq f h := by
  rw [updSeq, updSeq, e]

/-- `n` fallow vectors of the item `i` at the front go out, and `rest` waits behind them (R146). -/
def fallowPut (b : Block) (f i n : Nat) (rest : List SowItem) : Block :=
  ((b.sowPut f i n symX (b.headSet f) (b.period f (b.headSet f)) 0 1).updSow f (fun s => { s with queue := rest })).set (FLD f)
    SOW_STAT.STATE 4

@[simp] theorem sow_set (b : Block) (base : Nat) (F : Fld) (v f : Nat) : (b.set base F v).sow f = b.sow f := rfl

@[simp] theorem fallowPut_queue (b : Block) (f i n : Nat) (rest : List SowItem) : ((b.fallowPut f i n rest).sow f).queue = rest := by
  rw [fallowPut, sow_set, sow_updSow_self]

@[simp] theorem fallowPut_cur (b : Block) (f i n : Nat) (rest : List SowItem) :
    ((b.fallowPut f i n rest).sow f).cur = (b.sow f).cur := by
  rw [fallowPut, sow_set, sow_updSow_self, sowPut, sow_updSow_self]

@[simp] theorem fallowPut_seq (b : Block) (f i n : Nat) (rest : List SowItem) (g : Nat) : (b.fallowPut f i n rest).seq g = b.seq g := rfl

/-! ### Pages and jumps -/

/-- A fetch does not end while none runs or its content is awaited (R219, R337 to R339). -/
theorem fetchDone_waits {b : Block} {f p err : Nat}
    (h : (b.sow f).fetch = none ∨ ((b.sow f).fetch = some p ∧ (b.hbmWaits 0 p f = true ∨ b.pageHeld p = true))) :
    b.fetchDone f err = b := by
  obtain h | ⟨h, hw⟩ := h
  · simp only [fetchDone, h]
  · simp only [fetchDone, h, hw, if_true]

/-- The page fetched is resident where its directory row has been read (R218, R219). -/
theorem fetchDone_there {b x : Block} {f p err : Nat} {r : Bool} (h : (b.sow f).fetch = some p) (hw : b.hbmWaits 0 p f = false)
    (hp : b.pageHeld p = false) (hr : b.dirRead p err = (x, r)) :
    b.fetchDone f err =
      if r then ((x.updSow f (fun s => { s with res := s.res ++ [p], fetch := none })).sowSync f).prefetch f else x := by
  simp only [fetchDone, h, hw, hp, hr, Bool.false_eq_true, or_self, if_false]

/-- A due jump that discards no play only counts (R221). -/
theorem jumpApply_one {b : Block} {f i n : Nat} (h : (b.seq f).acts = [(i, n, .sjmp [])]) (hi : i ≤ b.time.ticks) :
    b.jumpApply f = ((b.updSeq f (fun q => { q with acts := [] })).count (FLD f) SOW_EVCNT.JUMPS 1).sowSync f := by
  have hdue : decide (i ≤ b.time.ticks) = true := decide_eq_true hi
  simp only [jumpApply, h, List.filter_cons, List.filter_nil, hdue, Bool.and_self, if_true, List.foldl_cons, List.foldl_nil]
  exact congrArg (fun c : Block => (c.count (FLD f) SOW_EVCNT.JUMPS 1).sowSync f) (updSeq_congr (by simp [h, hdue]))

/-! ### Table checks -/

theorem tsRun_idle {b : Block} {f : Nat} (h : (b.ts f).running = false) :
    b.tsRun f =
      let r := (tsFirst b.getSh f).getD (0, 0, 0)
      (b.set (FLD f) TS_CHK.STATE 3).setTs f
        { running := true, set := r.1, chan := r.2.1, rule := r.2.2, gen := b.get 0 MODE_GEN.GEN + 1 } := by
  rw [tsRun, h]
  rfl

theorem tsDone_idle {b : Block} {f : Nat} (h : (b.ts f).running = false) : b.tsDone f = b := by
  simp only [tsDone, h, Bool.false_eq_true, if_false]

end Block

/-! ### Expansion of fallow vectors -/

section
variable {m : List Host.Cell} {f lim : Nat} {free dictErr : Bool} {x : Exp}

/-- Expansion stops at the first action that the Sower cannot take. -/
theorem sowRun_stop {fuel : Nat} (h : sowStep m f lim free dictErr x = none) : sowRun m f lim free dictErr fuel x = x := by
  cases fuel with
  | zero => rfl
  | succ n => rw [sowRun, h]

/-- One action, after which there is none, is all that a cycle does. -/
theorem sowRun_one {fuel : Nat} {y : Exp} (h : sowStep m f lim free dictErr x = some y) (hy : sowStep m f lim free dictErr y = none) :
    sowRun m f lim free dictErr (fuel + 1) x = y := by
  rw [sowRun, h]
  exact sowRun_stop hy

/-- With nothing in expansion and nothing waiting the Sower does nothing. -/
theorem sowStep_empty (hc : (x.b.sow f).cur = none) (hq : (x.b.sow f).queue = []) : sowStep m f lim free dictErr x = none := by
  simp only [sowStep, hc, hq]

/-- Waiting fallow vectors for which cycle and tick have room go out together, and the item leaves (R146, R207). -/
theorem sowStep_fallow {i n : Nat} {rest : List SowItem} (hc : (x.b.sow f).cur = none) (hq : (x.b.sow f).queue = .fallow i n :: rest)
    (h1 : 1 ≤ n) (hv : n ≤ x.vecs) (hr : n ≤ x.b.sowRoom f lim (x.b.period f (x.b.headSet f))) :
    sowStep m f lim free dictErr x = some { x with b := x.b.fallowPut f i n rest, vecs := x.vecs - n } := by
  have hk : min x.vecs (min n (x.b.sowRoom f lim (x.b.period f (x.b.headSet f)))) = n := by
    rw [Nat.min_eq_left hr, Nat.min_eq_right hv]
  have h0 : n ≠ 0 := Nat.one_le_iff_ne_zero.mp h1
  simp only [sowStep, hc, hq, sowFill, hk, h0, if_true, if_false]
  rw [Block.fallowPut, Block.updSow_congr]
  simp only [Block.sowPut, Block.sow_updSow_self, hq, List.drop_succ_cons, List.drop_zero]

theorem sowBlocked_empty {b : Block} (hc : (b.sow f).cur = none) (hq : (b.sow f).queue = []) : b.sowBlocked f lim = false := by
  simp only [Block.sowBlocked, hc, hq, Bool.and_false]

/-- With up to 4 fallow vectors all that waits, and room for them in the ticks ahead, a cycle emits them and has nothing more to do (R146,
R207, R226). -/
theorem Block.sowCycle_fallow {b : Block} {i n : Nat} (hc : (b.sow f).cur = none) (hq : (b.sow f).queue = [.fallow i n])
    (hh : (b.seq f).headland = false) (h1 : 1 ≤ n) (h4 : n ≤ 4)
    (hr : n ≤ b.sowRoom f (b.bHalf (b.time.ticks + 3)) (b.period f (b.headSet f))) :
    b.sowCycle m f dictErr = (b.fallowPut f i n []).set (FLD f) SOW_STAT.STATE 0 := by
  have hcur : ((b.fallowPut f i n []).sow f).cur = none := (fallowPut_cur ..).trans hc
  have hqueue := b.fallowPut_queue f i n []
  have hstep := sowStep_fallow (m := m) (free := false) (dictErr := dictErr) (x := { b := b, words := 2, vecs := 4 }) hc hq h1 h4 hr
  have hrun := sowRun_one (fuel := 63) hstep (sowStep_empty hcur hqueue)
  simp only [sowCycle, hrun, sowBlocked_empty hcur hqueue, fallowPut_seq, hh, hcur, hqueue, Option.isNone_none, List.isEmpty_nil, and_self,
    Bool.false_eq_true, if_true, if_false]

end

end Sys2Proof.Machine
end

section
/-!
SUPPORT. The alignment of modules (R310 to R315): its conditions as propositions, and each step where it is due and where it is not.
-/
namespace Sys2Proof.Machine
namespace Block

/-! ### Skew calibration (R311) -/

/-- SKEW_CAL is refused in a busy module, then while a trigger line is claimed. -/
theorem skewCal_eq (b : Block) (q : Nat) :
    b.skewCal q =
      if b.moduleIdle = false then b.complete q 0 0x04
      else if (List.range 16).any (fun i => b.haspOwner (256 + i) != 0) = true then b.complete q 0 0x21
      else b.takeSlot q [] := by
  simp only [skewCal, Bool.not_eq_true']

/-- A pair fails where no pulse returned, or where half its round trip is above the target. -/
theorem pairResult_eq (b : Block) (i : Nat) (m : LineMeas) :
    b.pairResult i m =
      if m.loop = false then b.set (8 * i) LINE_CAL.STATE 2
      else
        let b := (b.set (8 * i) LINE_CAL.RTT m.rtt).set (8 * i) LINE_CAL.SPREAD (min 255 m.spread)
        let target := b.skewTarget
        if 2 * target < m.rtt then b.set (8 * i) LINE_CAL.STATE 3
        else (b.set (8 * i) LINE_CAL.STATE 1).set (8 * i) LINE_CAL.DLY (target - m.rtt / 2) := by
  simp only [pairResult, Bool.not_eq_true']

/-! ### The sync pulse (R312 to R315) -/

/-- A pulse can name a boundary, as a proposition (R36, R37). -/
theorem pulseUsable_iff (b : Block) :
    b.pulseUsable = true ↔ b.flag 0 TB_STAT.TICK_RUN = true ∨
      (b.clocksGood = true ∧ b.time.lockSince.any (fun t => decide (t + 1000000 ≤ b.time.now)) = true) := by
  simp only [pulseUsable, Bool.or_eq_true, Bool.and_eq_true]

/-- A sampled pulse is accepted with no step, no lead, and a boundary to name, else refused (R313, R314). -/
theorem pulseSampled_eq (b : Block) (loc : Bool) :
    b.pulseSampled loc =
      if b.steps = [] ∧ b.sync.b0At = none ∧ b.pulseUsable = true then
        let b := b.count 0 SYNC_EVCNT.PULSES 1
        let b := { b with sync := { b.sync with b0At := some (b.time.now + b.get 0 SYNC_CTRL.LEAD) } }
        ((b.setFlag 0 SYNC_STAT.LEAD_RUN true).setFlag 0 SYNC_STAT.SRC_LOCAL loc).setFlag 0 SYNC_STAT.REFUSED false
      else (((b.setFlag 0 SYNC_STAT.REFUSED true).count 0 SYNC_EVCNT.REFUSED 1).setFlag 0 SYNC_STAT.SYNCED false).arrive 571 := by
  simp only [pulseSampled, Bool.and_eq_true, List.isEmpty_iff, Option.isNone_iff_eq_none, and_assoc]

/-- A module makes itself a pulse where it waits for one, may do so, and none is under way (R315). -/
theorem autoLocal_eq (b : Block) :
    b.autoLocal =
      if b.flag 0 SYNC_STAT.WAIT = true ∧ b.flag 0 SYNC_CTRL.AUTO_LOCAL = true ∧ b.sync.locals = [] ∧ b.sync.b0At = none then b.syncLocal
      else b := by
  simp only [autoLocal, Bool.and_eq_true, List.isEmpty_iff, Option.isNone_iff_eq_none, and_assoc]

/-- A local pulse is sampled once its edge has come (R315). -/
theorem pulseSample_local {b : Block} {t : Nat} {rest : List Nat} (h : b.sync.locals = t :: rest) (wide : Bool) :
    b.pulseSample true wide =
      if t ≤ b.time.now then ({ b with sync := { b.sync with locals := rest } }).pulseSampled true else b := by
  simp only [pulseSample, h, if_true]

theorem pulseSample_local_none {b : Block} (h : b.sync.locals = []) (wide : Bool) : b.pulseSample true wide = b := by
  simp only [pulseSample, h, if_true]

/-! ### B(0) (R313) -/

/-- SYNC_B0 does nothing without a lead that is over or without good clocks. -/
theorem syncB0_not_due {b : Block} (h : ¬ (b.clocksGood = true ∧ ∃ t, b.sync.b0At = some t ∧ t ≤ b.time.now)) : b.syncB0 = b := by
  unfold syncB0
  split
  · next t ht => exact if_neg fun hdue => h ⟨hdue.2, t, ht, hdue.1⟩
  · rfl

end Block

section
variable {q : Fin 64} {s : State}

theorem exec_skewCal {ws : List Nat} (h : s.blk.cmdOf q 0x38 = some ws) : exec (.skewCal q) s = .next (s.on (·.skewCal q)) :=
  exec_of_on _ rfl (by simp only [h])

theorem exec_skewCal_none (h : s.blk.cmdOf q 0x38 = none) : exec (.skewCal q) s = .next s :=
  exec_self_of_on _ rfl (by simp only [h])

end

end Sys2Proof.Machine
end

section
/-!
PROOFS. The tick chapter: the tick generator with its clocks, the frames, vectors and Sower of a field, and the alignment of modules.
-/
namespace Sys2Proof.Proofs
open Sys2Proof.Machine

/-- Settles O15: the boundary and the clock changes are guarded changes of the block; a stop of the tick generator clears its four flags
with the lead and the local pulses. -/
theorem ticksAdvanceAndTheReferenceIsWatched : Obligations.TicksAdvanceAndTheReferenceIsWatched := by
  intro s p level t b
  obtain ⟨hrun, hwait, hlead, hrel⟩ := b.tickStop_flags
  exact ⟨fun h => ⟨exec_of_on Block.tickBoundary rfl (Block.tickBoundary_running h), b.tickMove_tick, rfl, rfl, rfl⟩,
    fun h => exec_of_on Block.refLoss rfl (if_pos h), ⟨hrun, hwait, hlead, hrel, rfl, rfl, rfl, rfl⟩,
    fun h => exec_self_of_on Block.tickBoundary rfl (Block.tickBoundary_stopped h),
    fun h => exec_of_on (·.pllUnlock p) rfl (Block.pllUnlock_locked h),
    fun h => exec_of_on Block.pllLock rfl (Block.pllLock_missing h),
    fun hl hw hc ht hr => exec_of_on Block.tickRestart rfl (Block.tickRestart_due hl hw hc ht hr), rfl⟩

/-- Settles O16: each command is one guarded change of the block; a cycle of the Sower with nothing but fallow vectors waiting is two
actions, of which the second finds nothing to do. -/
theorem fieldFramesVectorsAndSower : Obligations.FieldFramesVectorsAndSower := by
  intro s f upTo within after r rest j js n i p e x de b
  refine ⟨rfl, rfl, fun h ht => exec_of_on (·.vectorStart f (nodeTraces upTo within after)) rfl ?_,
    fun h => exec_self_of_on (·.vectorStart f (nodeTraces upTo within after)) rfl (Block.vectorStart_not_due h),
    fun h ht => exec_of_on (·.vectorJudged f) rfl ?_,
    fun h => exec_self_of_on (·.vectorJudged f) rfl (Block.vectorJudged_not_due h), rfl, rfl,
    fun h => exec_self_of_on (·.fetchDone f e) rfl (Block.fetchDone_waits h),
    fun h hw hp hr => exec_of_on (·.fetchDone f e) rfl (Block.fetchDone_there h hw hp hr),
    fun h hw hp hr => exec_of_on (·.fetchDone f e) rfl (Block.fetchDone_there h hw hp hr),
    fun hc hq hh h1 h4 hr => exec_of_on (·.sowCycle s.mem f de) rfl (Block.sowCycle_fallow hc hq hh h1 h4 hr),
    fun h hi => exec_of_on (·.jumpApply f) rfl (Block.jumpApply_one h hi),
    fun h => exec_of_on (·.tsRun f) rfl (Block.tsRun_idle h), fun h => exec_self_of_on (·.tsRun f) rfl (if_pos h),
    fun h => exec_self_of_on (·.tsDone f) rfl (Block.tsDone_idle h), fun h => exec_of_on (·.tsDone f) rfl (if_pos h)⟩
  · rw [Block.vectorStart, h]
    exact if_neg (Nat.not_le.mpr ht)
  · simp only [Block.vectorJudged, h, if_pos ht, Block.ite_failed, b]

/-- Settles O32: each step of the alignment is a guarded change of the block; at B(0) the lead that the guard asks for is the one that
ends. -/
theorem skewCalibrationAndSyncPulses : Obligations.SkewCalibrationAndSyncPulses := by
  intro s q k pairs ws b sampled localPulse auto b0
  have hsampled : ∀ loc (c : Block), c.pulseSampled loc = sampled loc c := fun loc c => by
    rw [Block.pulseSampled_eq]
    simp only [Block.pulseUsable_iff, sampled]
  refine ⟨fun h => exec_of_on (·.skewCal q) (exec_skewCal h) (Block.skewCal_eq _ _), exec_skewCal_none,
    fun h => exec_of_on (·.skewCalDone k pairs) rfl ?_,
    fun h => exec_self_of_on (·.skewCalDone k pairs) rfl (if_neg (Bool.not_eq_true _ ▸ h)), fun h => exec_of_on Block.syncIssue rfl (if_pos h),
    fun h => exec_self_of_on Block.syncIssue rfl (if_neg (Bool.not_eq_true _ ▸ h)), rfl,
    fun h => exec_of_on Block.autoLocal rfl ((Block.autoLocal_eq _).trans (if_pos h)),
    fun h => exec_self_of_on Block.autoLocal rfl ((Block.autoLocal_eq _).trans (if_neg h)),
    exec_of_on (·.pulseSample false true) rfl (hsampled false s.blk), rfl,
    fun t rest wide h => exec_of_on (·.pulseSample true wide) rfl ?_,
    fun wide h => exec_self_of_on (·.pulseSample true wide) rfl (Block.pulseSample_local_none h wide),
    fun h => exec_of_on Block.syncB0 rfl ?_, fun h => exec_self_of_on Block.syncB0 rfl (Block.syncB0_not_due h)⟩
  · simp only [Block.skewCalDone, h, if_true, Block.pairResult_eq, b]
    rfl
  · exact (Block.pulseSample_local h wide).trans (by rw [hsampled])
  · obtain ⟨hgood, t, ht, hnow⟩ := h
    simp only [Block.syncB0, Block.zeroBoundary, Block.syncEpoch, ht, hnow, hgood, and_self, if_true, b]

end Sys2Proof.Proofs
end

section
/-!
SUPPORT. The conversions, clamps and paths of a channel slice (R62 to R74), with their conditions as propositions.
-/
namespace Sys2Proof.Machine.Block

/-! ### Conversions, driver limit and clamps -/

theorem measCurrent_iff (m : Nat) : measCurrent m = true ↔ m = 1 ∨ m = 4 := by
  simp only [measCurrent, Bool.or_eq_true, beq_iff_eq]

/-- OVR, as a proposition about the 18 bits of the code (R64, R66). -/
theorem measOver_eq (m c : Nat) :
    measOver m c = decide (if m = 1 ∨ m = 4 then c % 2 ^ 18 = 131071 ∨ c % 2 ^ 18 = 131072
      else c % 2 ^ 18 < 13108 ∨ 249036 < c % 2 ^ 18) := by
  simp only [measOver, measCurrent_iff]
  split
  · rw [Bool.eq_iff_iff, decide_eq_true_iff, Bool.or_eq_true, beq_iff_eq, beq_iff_eq]
  · rfl

/-- A PMU that is off or retired, or has converted in this tick, does not convert (R62, R68, R76). -/
theorem pmuConversion_not_due {b : Block} {s : Nat} (vc ic : Nat) (clI clV : Bool)
    (h : b.get (SLC s) PMU_CFG.MODE = 0 ∨ b.slcRole s = 3 ∨ (b.slc s).measNext ≠ none) : b.pmuConversion s vc ic clI clV = b :=
  if_neg fun ⟨hm, hr, hn⟩ => h.elim hm fun h => h.elim hr fun h => h hn

/-- A driver out of limit has no limit to leave. -/
theorem limitExit_out {b : Block} {s : Nat} (h : b.flag (SLC s) SLC_STAT.DRV_OVL = false) : b.limitExit s = b :=
  if_neg (Bool.not_eq_true _ ▸ h)

/-- A driver limit that began at `t` raises its fault after 1 µs, unless it has done so (R80). -/
theorem limitOverload_some {b : Block} {s t : Nat} (h : (b.slc s).limitAt = some t) :
    b.limitOverload s =
      if b.flag (SLC s) SLC_STAT.DRV_OVL = true ∧ (b.slc s).limitRaised = false ∧ t + 100 ≤ b.time.now then
        (b.updSlc s (fun x => { x with limitRaised := true })).fault s 1
      else b := by
  simp only [limitOverload, h, Bool.and_eq_true, Bool.not_eq_true', decide_eq_true_eq, and_assoc]

/-- A driver out of limit raises no overload. -/
theorem limitOverload_out {b : Block} {s : Nat} (h : b.flag (SLC s) SLC_STAT.DRV_OVL = false) : b.limitOverload s = b := by
  cases hl : (b.slc s).limitAt with
  | none => simp only [limitOverload, hl]
  | some t => exact (limitOverload_some hl).trans (if_neg fun hdue => Bool.false_ne_true (h.symm.trans hdue.1))

/-- No overload is raised while no limit runs, once it has been raised, or before its 1 µs (R80). -/
theorem limitOverload_not_due {b : Block} {s t : Nat}
    (h : (b.slc s).limitAt = none ∨
      ((b.slc s).limitAt = some t ∧ ((b.slc s).limitRaised = true ∨ b.time.now < t + 100))) : b.limitOverload s = b := by
  obtain h | ⟨h, hw⟩ := h
  · simp only [limitOverload, h]
  · rw [limitOverload_some h, if_neg]
    rintro ⟨-, hr, ht⟩
    obtain hw | hw := hw
    · exact Bool.false_ne_true (hr.symm.trans hw)
    · exact Nat.not_lt.mpr ht hw

/-! ### Paths -/

theorem rangeDrop_eq (b : Block) (s : Nat) :
    b.rangeDrop s =
      if b.get (SLC s) SLC_STAT.PATH = 1 ∧ (b.slc s).downDone = true ∧ b.atBoundary = true ∧ b.substHolds s = false then
        (((b.set (SLC s) SLC_STAT.PATH 2).set (SLC s) SLC_STAT.IRANGE_ACT 0).updSlc s
          (fun x => { x with dropped := true, changed := false })).slcSync s
      else b := by
  simp only [rangeDrop, Bool.not_eq_true']

theorem holdEnd_eq (b : Block) (s : Nat) :
    b.holdEnd s =
      if b.get (SLC s) SLC_STAT.PATH = 2 ∧ (b.slc s).changed = true ∧ b.atBoundary = true ∧ b.substHolds s = false then
        (((b.set (SLC s) SLC_STAT.PATH 3).set (SLC s) SLC_STAT.IRANGE_ACT (b.get (SLC s) PMU_CFG.IRANGE)).slcSync s).pathRamp s
      else b := by
  simp only [holdEnd, Bool.not_eq_true']

/-- A ramp up that is the last phase of a path ends the path and counts it (R71). -/
theorem rampUpEnd_path {b : Block} {s : Nat} (h : b.get (SLC s) SLC_STAT.PATH = 3) :
    b.rampUpEnd s =
      (((((b.set (SLC s) SLC_STAT.PATH 0).count (SLC s) SLC_EVCNT.PATHS 1).forceMove s false).updSlc s
        (fun x => { x with rampEnd := some b.time.now })).slcSync s).pathOver s := by
  simp only [rampUpEnd, h, beq_self_eq_true, if_true]
  rfl

end Sys2Proof.Machine.Block
end

section
/-!
SUPPORT. Generators, read-back supervision and window monitors (R93 to R111), with their conditions as propositions.
-/
namespace Sys2Proof.Machine.Block

/-! ### Generators -/

theorem genStart_eq (b : Block) (u : Unit2) :
    b.genStart u =
      let r := genRegs u
      if b.flag r.base r.run = true ∧ b.flag r.base r.act = false ∧ b.genQuiet u = true ∧ b.held = false ∧
          (b.gen r.unit).needOff = false ∧ b.atBoundary = true then
        let b := b.updGen r.unit (fun g => { g with lfsr := b.get r.base r.seed, leg := 0, pos := 0, offs := 0 })
        (b.setFlag r.base r.act true).set r.base r.out (b.get r.base r.target)
      else b := by
  simp only [genStart, Bool.and_eq_true, Bool.not_eq_true', and_assoc]

/-- A generator takes its next point about the target, held to the valid codes (R93, R94). -/
def genPoint (b : Block) (u : Unit2) : Block :=
  let r := genRegs u
  let b := b.genBase u
  let g := genNext (b.get r.base r.wave) (b.get r.base r.ampl) (b.get r.base r.gstep) (b.gen r.unit)
  let b := b.updGen r.unit (fun _ => g)
  let v : Int := Int.ofNat (b.get r.base r.target) + g.offs
  if v < Int.ofNat (b.genRange u).1 then (b.set r.base r.out (b.genRange u).1).count r.base r.clips 1
  else if Int.ofNat (b.genRange u).2 < v then (b.set r.base r.out (b.genRange u).2).count r.base r.clips 1
  else b.set r.base r.out v.toNat

theorem genStep_eq (b : Block) (u : Unit2) :
    b.genStep u =
      if b.flag (genRegs u).base (genRegs u).act = true ∧ onGrid b 0 (b.get (genRegs u).base (genRegs u).gintv) = true then
        if b.genLimitOk u = false then b.fault (unitSource u) 7 else b.genPoint u
      else b := by
  simp only [genStep, genPoint, Bool.and_eq_true, Bool.not_eq_true']

/-! ### Read-back supervision -/

/-- The slot that started at `t` ends whole: its entry is judged, and the next one chosen (R98, R99). -/
def rbSlotDone (b : Block) (f t : Nat) (uv : Int) : Block :=
  match b.rbEntryNow f t with
  | none => b.rbChoose f
  | some n => ((if n < rbLen f then b else b.rbCycle f).rbJudge f t (n % rbLen f) uv).rbChoose f

theorem rbSlotDone_none {b : Block} {f t : Nat} {uv : Int} (h : b.rbEntryNow f t = none) : b.rbSlotDone f t uv = b.rbChoose f := by
  rw [rbSlotDone, h]

theorem rbSlotDone_some {b : Block} {f t n : Nat} {uv : Int} (h : b.rbEntryNow f t = some n) :
    b.rbSlotDone f t uv = ((if n < rbLen f then b else b.rbCycle f).rbJudge f t (n % rbLen f) uv).rbChoose f := by
  rw [rbSlotDone, h]

theorem rbSlot_eq (b : Block) (f : Nat) (uv : Int) :
    b.rbSlot f uv =
      if b.flag (FLD f) RB_CTRL.EN = true ∧ b.rbFits f (b.time.now - 240) = true ∧ (b.rb f).used ≤ b.time.now - 240 then
        b.rbSlotDone f (b.time.now - 240) uv
      else b := by
  change (if (b.flag (FLD f) RB_CTRL.EN && b.rbWhole f (b.time.now - 240)) = true then b.rbSlotDone f (b.time.now - 240) uv else b) = _
  simp only [rbWhole, Bool.and_eq_true, decide_eq_true_eq]

/-- Asked for the age that is still allowed, and not for the one that is not (R100). -/
theorem rbOverdue_eq (b : Block) (f : Nat) :
    b.rbOverdue f =
      if b.rbAge f ≤ b.get (FLD f) RB_CTRL.MAXAGE then b.updRb f (fun r => { r with overdue := false })
      else if (b.rb f).overdue then b else (b.updRb f (fun r => { r with overdue := true })).fault (272 + f) 1 := by
  simp only [rbOverdue, ← Nat.not_le, ite_not]

/-! ### Window monitors -/

/-- A monitor that is not enabled does not sample (R101). -/
theorem wmSample_disabled {b : Block} {m : MonRegs} (raw : Nat → Nat → Nat → Nat → Nat) (h : b.flag m.base m.en = false) :
    b.wmSample m raw = b := by
  simp only [wmSample, h, Bool.not_false, if_true]

/-- An enabled monitor skips its sample, or takes INVALID or the RAW of its voltage (R101 to R104). -/
theorem wmSample_enabled {b : Block} {m : MonRegs} (raw : Nat → Nat → Nat → Nat → Nat) (h : b.flag m.base m.en = true) :
    b.wmSample m raw =
      if b.wmSkips m = true then b.count m.base m.skips 1
      else
        let th := b.wmThresholds m
        b.wmTake m (if th.1 ≤ th.2 then 5 else raw (b.get m.base m.raw) th.1 th.2 (b.get m.base m.hys)) := by
  simp only [wmSample, h, Bool.not_true, Bool.false_eq_true, if_false, apply_ite (b.wmTake m)]

theorem sampleUnit_slice (b : Block) (i : Fin 272) (uv : Int) (hi lo : Bool) :
    b.sampleUnit (.slice i) uv hi lo = b.wmSample (monSlice i) (fun p hi lo h => rawChan p uv hi lo h) := rfl

end Sys2Proof.Machine.Block
end

section
/-!
PROOFS. The channel slices with their conversions, clamps and safe-value paths; the generators, read-back supervision and window monitors
of the levels.
-/
namespace Sys2Proof.Proofs
open Sys2Proof.Machine

/-- Settles O17: the word of a conversion is the model's, with OVR as a proposition about the code; limit and clamp changes are guarded
changes of the block. -/
theorem pmuConversionsClampsAndDriverLimits : Obligations.PmuConversionsClampsAndDriverLimits := by
  intro s i vc ic t0 clI clV volt b m c ovr
  refine ⟨fun hm hr hn => exec_of_on (·.pmuConversion i vc ic clI clV) rfl ?_,
    fun h => exec_self_of_on (·.pmuConversion i vc ic clI clV) rfl (Block.pmuConversion_not_due _ _ _ _ h),
    fun h => ⟨exec_of_on (·.limitEntry i) rfl (if_neg (Bool.not_eq_true _ ▸ h)),
      exec_self_of_on (·.limitExit i) rfl (Block.limitExit_out h), exec_self_of_on (·.limitOverload i) rfl (Block.limitOverload_out h)⟩,
    fun h => ⟨exec_of_on (·.limitExit i) rfl (if_pos h), exec_self_of_on (·.limitEntry i) rfl (if_pos h),
      fun hl hr ht => exec_of_on (·.limitOverload i) rfl ((Block.limitOverload_some hl).trans (if_pos ⟨h, hr, ht⟩)),
      fun hw => exec_self_of_on (·.limitOverload i) rfl (Block.limitOverload_not_due hw)⟩,
    fun h => exec_of_on (·.clampEnter i volt) rfl (if_neg (Bool.not_eq_true _ ▸ h)),
    fun h => exec_self_of_on (·.clampEnter i volt) rfl (if_pos h), rfl⟩
  refine (if_pos ⟨hm, hr, hn⟩).trans ?_
  simp only [Block.measWord, Block.measOver_eq, Block.measCurrent_iff, ovr, c, m, b]
  rfl

/-- Settles O18: each phase of a path is one guarded change of the block. -/
theorem safeValuePathsRunTheirFourPhases : Obligations.SafeValuePathsRunTheirFourPhases := by
  intro s i b path drop change hold bolt
  exact ⟨fun h => exec_of_on (·.rangeDrop i) rfl ((Block.rangeDrop_eq _ _).trans (if_pos h)),
    fun h => exec_self_of_on (·.rangeDrop i) rfl ((Block.rangeDrop_eq _ _).trans (if_neg h)),
    fun h => exec_of_on (·.changeover i) rfl (if_pos h), fun h => exec_self_of_on (·.changeover i) rfl (if_neg h),
    fun h => exec_of_on (·.holdEnd i) rfl ((Block.holdEnd_eq _ _).trans (if_pos h)), Block.rampUpEnd_path,
    fun h => exec_self_of_on (·.holdEnd i) rfl ((Block.holdEnd_eq _ _).trans (if_neg h)),
    fun h => exec_of_on (·.boltOpen i) rfl (if_pos h), fun h => exec_self_of_on (·.boltOpen i) rfl (if_neg h)⟩

/-- Settles O21: the generators, slots and self-checks are guarded changes of the block; a slice's sample is that of any monitor with the
voltages of R487 judged first. -/
theorem generatorsReadbackAndMonitors : Obligations.GeneratorsReadbackAndMonitors := by
  intro s u f i r uv hi lo b g start point t slot n m auto
  refine ⟨fun h => exec_of_on (·.genStart u) rfl ((Block.genStart_eq _ _).trans (if_pos h)),
    fun h => exec_self_of_on (·.genStart u) rfl ((Block.genStart_eq _ _).trans (if_neg h)),
    fun h hok => exec_of_on (·.genStep u) rfl ?_, fun h hbad => exec_of_on (·.genStep u) rfl ?_,
    fun h => exec_self_of_on (·.genStep u) rfl ((Block.genStep_eq _ _).trans (if_neg h)),
    fun h hn => exec_of_on (·.rbSlot f uv) rfl ?_, fun k h hn => exec_of_on (·.rbSlot f uv) rfl ?_,
    fun h => exec_self_of_on (·.rbSlot f uv) rfl ((Block.rbSlot_eq _ _ _).trans (if_neg h)),
    exec_of_on (·.rbOverdue f) rfl (Block.rbOverdue_eq _ _),
    fun h => exec_of_on (·.sampleUnit (.slice i) uv hi lo) rfl ?_,
    fun h => exec_self_of_on (·.sampleUnit (.slice i) uv hi lo) rfl ?_,
    fun h => exec_of_on (·.dpsSample r uv hi lo) rfl (if_pos h),
    fun h => exec_of_on (·.dpsSample r uv hi lo) rfl (if_neg (not_not.mpr h)), rfl, rfl,
    fun h => exec_of_on (·.chkRequest r) rfl (if_pos h), fun h => exec_self_of_on (·.chkRequest r) rfl (if_neg h),
    fun h => exec_of_on (·.chkAuto r) rfl (if_pos h), fun h => exec_self_of_on (·.chkAuto r) rfl (if_neg h)⟩
  · rw [Block.genStep_eq, if_pos h, if_neg (Bool.not_eq_false _ ▸ hok)]
    rfl
  · rw [Block.genStep_eq, if_pos h, if_pos hbad]
  · exact (Block.rbSlot_eq _ _ _).trans ((if_pos h).trans (Block.rbSlotDone_none hn))
  · exact (Block.rbSlot_eq _ _ _).trans ((if_pos h).trans (Block.rbSlotDone_some hn))
  · rw [Block.sampleUnit_slice, Block.wmSample_enabled _ h]
    simp only [rawChan, m, b]
  · rw [Block.sampleUnit_slice, Block.wmSample_disabled _ h]

end Sys2Proof.Proofs
end

section
/-!
SUPPORT. The slew limiters of the DACs, clearing and its release (R84, R89 to R91), with their conditions as propositions.
-/
namespace Sys2Proof.Machine.Block

/-! ### Slew limiters -/

theorem lvlStep_eq (b : Block) (s i : Nat) :
    b.lvlStep s i =
      let ramp := b.get (SLC s) LVL_ACT1.RAMP
      if bit ramp i = true ∧ onGrid b 0 (b.get (SLC s) LVL_SLEW.INTV) = true then
        let v := slewTo (b.get (SLC s) LVL_SLEW.STEP) (b.get (SLC s) (lvlAct i)) (b.get (SLC s) (lvlTarget i))
        let b := (b.set (SLC s) (lvlAct i) v).touch s i
        if v = b.get (SLC s) (lvlTarget i) then b.set (SLC s) LVL_ACT1.RAMP (clrBit ramp i) else b
      else b := by
  simp only [lvlStep, Bool.and_eq_true]

/-- A step that falls short of the destination only moves the DAC; the step that reaches it ends the ramp (R71, R84). -/
theorem forceSlew_eq (b : Block) (s : Nat) :
    b.forceSlew s =
      let ph := b.get (SLC s) SLC_STAT.PATH
      if (b.slc s).moving = true ∧ onGrid b (if ph = 4 then (b.slc s).rampFrom else 0) (b.get (SLC s) FORCE_SLEW.INTV) = true then
        let v := slewTo (b.get (SLC s) FORCE_SLEW.STEP) (b.slc s).forcePos (b.forceDest s)
        let c := b.forceAt s v
        if v ≠ b.forceDest s then c
        else if ph = 1 ∨ ph = 4 then ((c.forceMove s false).updSlc s (fun x => { x with downDone := true })).endReaction
        else c.rampUpEnd s
      else b := by
  simp only [forceSlew, Bool.and_eq_true, ite_not]

theorem dpsSlew_eq (b : Block) (r : Nat) :
    b.dpsSlew r =
      if (b.dps r).moving = true ∧ onGrid b (if (b.dps r).bolt = 2 then (b.dps r).rampFrom else 0) (b.get (DPS r) DPS_SLEW.INTV) = true then
        let dest := if (b.dps r).bolt = 2 ∨ (b.dps r).ending = true then 0 else b.get (DPS r) DPS_V.CODE
        let v := slewTo (b.get (DPS r) DPS_SLEW.STEP) (b.dps r).pos dest
        let b := b.dpsAt r v
        if v = dest then (b.dpsMove r false).endReaction else b
      else b := by
  simp only [dpsSlew, Bool.and_eq_true]

/-! ### The release of clearing -/

theorem clrApply_eq (b : Block) :
    b.clrApply =
      if b.flt.relPend = true ∧ b.flag 0 CLR_STAT.HELD = true ∧ b.atBoundary = true then
        let b := { b.setFlag 0 CLR_STAT.HELD false with flt := { b.flt with relPend := false } }
        ((List.range 34).foldl dpsUnclear ((List.range 272).foldl slcUnclear b)).mark 3 0
      else b := by
  simp only [clrApply, held, Bool.and_eq_true, and_assoc]

end Sys2Proof.Machine.Block
end

section
/-!
PROOFS. The slew steps of the DACs, clearing and its release.
-/
namespace Sys2Proof.Proofs
open Sys2Proof.Machine

/-- Settles O20: the steps are guarded changes of the block; a force or supply DAC takes the step towards its clear code first, and its
slew limiter meets the block that this leaves. -/
theorem slewStepsClearingAndItsRelease : Obligations.SlewStepsClearingAndItsRelease := by
  intro s i j r b ramp lvl released
  exact ⟨fun h => exec_of_on (·.lvlStep i j) rfl ((Block.lvlStep_eq _ _ _).trans (if_pos h)),
    fun h => exec_self_of_on (·.lvlStep i j) rfl ((Block.lvlStep_eq _ _ _).trans (if_neg h)),
    exec_of_on (·.forceStep i) rfl (Block.forceSlew_eq _ _), exec_of_on (·.dpsStep r) rfl (Block.dpsSlew_eq _ _),
    fun h => exec_of_on Block.clrAssert rfl (if_neg (Bool.not_eq_true _ ▸ h)),
    fun h => exec_self_of_on Block.clrAssert rfl (if_pos h), rfl, rfl,
    fun h => exec_of_on Block.clrApply rfl ((Block.clrApply_eq _).trans (if_pos h)),
    fun h => exec_self_of_on Block.clrApply rfl ((Block.clrApply_eq _).trans (if_neg h))⟩

end Sys2Proof.Proofs
end

section
/-!
SUPPORT. The word of an instruction and its fields (R141, R142): the fields of a word are those it was joined from, and the decoder reads each
operand back from the place at which the encoder put it.
-/
namespace Sys2Proof.Machine

/-- The instruction that the fields of a word say. -/
def HWord.decode (h : HWord) : Except Nat Halyr :=
  if h.op < 0x20 then h.decodeFlow
  else if h.op < 0x40 then h.decodeArith
  else if h.op < 0x60 then h.decodeStream
  else if h.op < 0x80 then h.decodeSet
  else if h.op < 0xA0 then h.decodeMeas
  else if h.op < 0xC0 then h.decodeUnits
  else if h.op < 0xE0 then h.decodeResults
  else h.decodeLong

/-- Each field lies in its width. -/
def HWord.Fits (h : HWord) : Prop := h.op < 2 ^ 8 ∧ h.d < 2 ^ 5 ∧ h.a < 2 ^ 5 ∧ h.b < 2 ^ 5 ∧ h.i < 2 ^ 41

theorem HWord.split_join {h : HWord} (hf : h.Fits) : HWord.split h.join = h := by
  obtain ⟨op, d, a, b, i⟩ := h
  obtain ⟨ho, hd, ha, hb, hi⟩ := hf
  simp only [HWord.split, HWord.join, bits, HWord.mk.injEq] at *
  refine ⟨?_, ?_, ?_, ?_, ?_⟩ <;> omega

theorem decodeWord_join {h : HWord} (hf : h.Fits) : decodeWord h.join = h.decode := by
  rw [← congrArg HWord.decode (HWord.split_join hf)]
  rfl

theorem b01_lt (c : Bool) : b01 c < 2 := by cases c <;> decide

theorem fits_encodeSetting {op sel : Nat} (ho : op < 2 ^ 8) (hs : sel < 32) (m : Src 65536) (v : Src (2 ^ 18)) :
    (encodeSetting op sel m v).Fits := by
  cases m <;> cases v <;> simp only [HWord.Fits, encodeSetting] <;> omega

theorem fits_encodeTick {op d c : Nat} (ho : op < 2 ^ 8) (hd : d < 32) (hc : c < 2 ^ 24) (m : TickSel) : (encodeTick op d m c).Fits := by
  cases m <;> simp only [HWord.Fits, encodeTick] <;> omega

theorem Halyr.fits_fields (h : Halyr) : h.fields.Fits := by
  cases h with
  | waitt k => cases k <;> simp only [HWord.Fits, Halyr.fields] <;> omega
  | alu op d a b => cases op <;> simp only [HWord.Fits, Halyr.fields, AluOp.code] <;> omega
  | shift op d a n => cases op <;> cases n <;> simp only [HWord.Fits, Halyr.fields, ShiftOp.code] <;> omega
  | fallow n => cases n <;> simp only [HWord.Fits, Halyr.fields] <;> omega
  | signalI an n => 
    have := b01_lt an
    cases n <;> simp only [HWord.Fits, Halyr.fields] <;> omega
  | setting op sel m v => exact fits_encodeSetting (by cases op <;> decide) sel.isLt m v
  | tiastamp sel m v => exact fits_encodeSetting (by decide) sel.isLt m v
  | meas d m c => exact fits_encodeTick (by decide) d.isLt (by omega) m
  | verd d m c => exact fits_encodeTick (by decide) d.isLt (by omega) m
  | verdall d m => exact fits_encodeTick (by decide) d.isLt (by omega) m
  | rete c | ext _ _ _ _ c | fmask _ c | measall _ _ _ _ c | bmove _ _ _ _ c =>
    have := b01_lt c
    simp only [HWord.Fits, Halyr.fields]
    omega
  | _ =>
    simp only [HWord.Fits, Halyr.fields]
    omega

@[simp] theorem need_eq_ok {c : Bool} {x y : Halyr} : need c x = .ok y ↔ c = true ∧ x = y := by
  cases c <;> simp [need]

namespace HWord

@[simp] theorem z_iff {h : HWord} {lo w : Nat} : h.z lo w = true ↔ bits h.i lo w = 0 := beq_iff_eq
@[simp] theorem noD_iff {h : HWord} : h.noD = true ↔ h.d = 0 := beq_iff_eq
@[simp] theorem noA_iff {h : HWord} : h.noA = true ↔ h.a = 0 := beq_iff_eq
@[simp] theorem noB_iff {h : HWord} : h.noB = true ↔ h.b = 0 := beq_iff_eq
@[simp] theorem noRegs_iff {h : HWord} : h.noRegs = true ↔ h.d = 0 ∧ h.a = 0 ∧ h.b = 0 := by simp [noRegs, and_assoc]
@[simp] theorem ofNat_eq_iff {n k : Nat} [NeZero n] {v : Fin n} : Fin.ofNat n k = v ↔ k % n = v.val := by simp only [Fin.ext_iff, Fin.ofNat]
@[simp] theorem rd_eq_iff {h : HWord} {r : Reg} : h.rd = r ↔ h.d % 32 = r.val := ofNat_eq_iff
@[simp] theorem ra_eq_iff {h : HWord} {r : Reg} : h.ra = r ↔ h.a % 32 = r.val := ofNat_eq_iff
@[simp] theorem rb_eq_iff {h : HWord} {r : Reg} : h.rb = r ↔ h.b % 32 = r.val := ofNat_eq_iff
@[simp] theorem fld_eq_iff {h : HWord} {n lo w : Nat} [NeZero n] {v : Fin n} : h.fld n lo w = v ↔ bits h.i lo w % n = v.val := ofNat_eq_iff

@[simp] theorem z_eq_false_iff {h : HWord} {lo w : Nat} : h.z lo w = false ↔ bits h.i lo w ≠ 0 := by
  rw [← Bool.not_eq_true, z_iff]

end HWord

/-! ### The two forms of an operand -/



@[simp] theorem b01_true : b01 true = 1 := rfl
@[simp] theorem b01_false : b01 false = 0 := rfl

theorem bit_eq_iff {n i : Nat} {c : Bool} : bit n i = c ↔ bits n i 1 = b01 c := by
  have hlt : bits n i 1 < 2 := Nat.mod_lt _ (by decide)
  have hb : bit n i = (bits n i 1 == 1) := rfl
  rw [hb]
  cases c <;> simp
  omega

/-- The operand stands in a register. -/
def Src.inReg {n : Nat} : Src n → Bool
  | .imm _ => false
  | .reg _ => true

section
variable {op : Nat} (sel : Fin 32) (m : Src 65536) (v : Src (2 ^ 18))

@[simp] theorem op_encodeSetting : (encodeSetting op sel m v).op = op := rfl

theorem bit_mask_encodeSetting : bit (encodeSetting op sel m v).i 23 = m.inReg := by
  cases m <;> cases v <;> simp only [encodeSetting, Src.inReg, bit_eq_iff, bits, b01_true, b01_false] <;> omega

theorem bit_value_encodeSetting : bit (encodeSetting op sel m v).i 24 = v.inReg := by
  cases m <;> cases v <;> simp only [encodeSetting, Src.inReg, bit_eq_iff, bits, b01_true, b01_false] <;> omega

@[simp] theorem mask_encodeSetting : (encodeSetting op sel m v).mask = m := by
  rw [HWord.mask, bit_mask_encodeSetting]
  cases m <;> cases v <;> simp [-Nat.reducePow, encodeSetting, Src.inReg, bits] <;> omega

@[simp] theorem value_encodeSetting : (encodeSetting op sel m v).value = v := by
  rw [HWord.value, bit_value_encodeSetting]
  cases m <;> cases v <;> simp [-Nat.reducePow, encodeSetting, Src.inReg, bits] <;> omega

@[simp] theorem setOk_encodeSetting : (encodeSetting op sel m v).setOk = true := by
  rw [HWord.setOk, bit_mask_encodeSetting, bit_value_encodeSetting]
  cases m <;> cases v <;> simp [-Nat.reducePow, encodeSetting, Src.inReg, bits] <;> omega

theorem sel_encodeSetting : bits (encodeSetting op sel m v).i 18 5 % 32 = sel := by
  cases m <;> cases v <;> simp only [encodeSetting, bits] <;> omega

end

section
variable {op d c : Nat} (m : TickSel)

@[simp] theorem op_encodeTick : (encodeTick op d m c).op = op := by cases m <;> rfl
@[simp] theorem d_encodeTick : (encodeTick op d m c).d = d := by cases m <;> rfl
@[simp] theorem b_encodeTick : (encodeTick op d m c).b = 0 := by cases m <;> rfl

/-- The bits below the tick selector are those given. -/
theorem low_encodeTick : (encodeTick op d m c).i % 2 ^ 24 = c % 2 ^ 24 := by
  cases m <;> simp only [encodeTick] <;> omega

variable (hc : c < 2 ^ 24)
include hc

theorem selOk_encodeTick : (encodeTick op d m c).selOk = true := by
  cases m with
  | rel o =>
    have hb : bit (o.val * 2 ^ 24 + c) 40 = false := by simp only [bit_eq_iff, bits, b01_false]; omega
    simp [-Nat.reducePow, HWord.selOk, encodeTick, hb]
  | abs a =>
    have hb : bit (2 ^ 40 + c) 40 = true := by simp only [bit_eq_iff, bits, b01_true]; omega
    simp [-Nat.reducePow, HWord.selOk, encodeTick, hb, bits]
    omega

theorem sel_encodeTick : (encodeTick op d m c).sel = m := by
  cases m with
  | rel o =>
    have hb : bit (o.val * 2 ^ 24 + c) 40 = false := by simp only [bit_eq_iff, bits, b01_false]; omega
    simp [-Nat.reducePow, HWord.sel, encodeTick, hb, bits]
    omega
  | abs a =>
    have hb : bit (2 ^ 40 + c) 40 = true := by simp only [bit_eq_iff, bits, b01_true]; omega
    simp [-Nat.reducePow, HWord.sel, encodeTick, hb]

end

/-! ### Decoding -/

/-- The fields of a well-formed instruction say that instruction. -/
theorem decode_fields {h : Halyr} (hw : h.wf = true) : h.fields.decode = .ok h := by
  cases h with
  -- no operand, registers alone, and registers with one field of the immediate
  | nop | endI | ret | syncf | syncs | ctrig | cstop | ddsstep | ddsstop => rfl
  | waitev | cmp | mov | mfs | mts | tselr | play | sjmp | carm | digacq =>
    simp [Halyr.fields, HWord.decode, HWord.decodeFlow, HWord.decodeArith, HWord.decodeStream, HWord.decodeUnits, bits]
  | alu op => cases op <;> simp [Halyr.fields, AluOp.code, HWord.decode, HWord.decodeArith, bits]
  | jmp | callI | loopI | ldl =>
    simp only [Halyr.fields]
    simp [-Nat.reducePow, HWord.decode, HWord.decodeFlow]
    simp only [bits]
    omega
  | addi | cmpi | movi | movhi | ldd | std | ldh =>
    simp only [Halyr.fields]
    simp [-Nat.reducePow, HWord.decode, HWord.decodeArith]
    simp only [bits]
    omega
  | tseli =>
    simp only [Halyr.fields]
    simp [-Nat.reducePow, HWord.decode, HWord.decodeStream]
    simp only [bits]
    omega
  | limit | freq | freqrd =>
    simp only [Halyr.fields]
    simp [-Nat.reducePow, HWord.decode, HWord.decodeMeas]
    simp only [bits]
    omega
  | trgout | ddsrun | hconn =>
    simp only [Halyr.fields]
    simp [-Nat.reducePow, HWord.decode, HWord.decodeUnits]
    simp only [bits]
    omega
  | binI | hclaim | hrel =>
    simp only [Halyr.fields]
    simp [-Nat.reducePow, HWord.decode, HWord.decodeResults]
    simp only [bits]
    omega
  -- an operand in the immediate or in a register
  | waitt k =>
    cases k with
    | imm k =>
      have hb : bit k.val 16 = false := by simp only [bit_eq_iff, bits, b01_false]; omega
      simp [-Nat.reducePow, Halyr.fields, HWord.decode, HWord.decodeFlow, hb, bits]
      omega
    | reg a => simp [Halyr.fields, HWord.decode, HWord.decodeFlow, bits, bit]
  | shift op d a k =>
    cases k with
    | imm n =>
      have hb : bit (2 ^ 6 + n.val) 6 = true := by simp only [bit_eq_iff, bits, b01_true]; omega
      cases op <;>
      · simp [-Nat.reducePow, Halyr.fields, ShiftOp.code, HWord.decode, HWord.decodeArith, HWord.decodeShift, hb, bits]
        omega
    | reg b =>
      cases op <;> simp [Halyr.fields, ShiftOp.code, HWord.decode, HWord.decodeArith, HWord.decodeShift, bit, bits]
  | fallow k =>
    cases k with
    | imm n =>
      have hb : bit n.val 32 = false := by simp only [bit_eq_iff, bits, b01_false]; omega
      simp [-Nat.reducePow, Halyr.fields, HWord.decode, HWord.decodeStream, hb, bits]
      omega
    | reg a => simp [Halyr.fields, HWord.decode, HWord.decodeStream, bits, bit]
  | signalI c k =>
    have hc := b01_lt c
    cases k with
    | imm n =>
      have hb : bit (b01 c * 2 ^ 10 + n.val) 11 = false := by simp only [bit_eq_iff, bits, b01_false]; omega
      simp [-Nat.reducePow, Halyr.fields, HWord.decode, HWord.decodeResults, hb, bit_eq_iff, bits]
      omega
    | reg a =>
      have hb : bit (2 ^ 11 + b01 c * 2 ^ 10) 11 = true := by simp only [bit_eq_iff, bits, b01_true]; omega
      simp [-Nat.reducePow, Halyr.fields, HWord.decode, HWord.decodeResults, hb, bit_eq_iff, bits]
      omega
  | evackSrc n =>
    have hb : bit n.val 11 = false := by simp only [bit_eq_iff, bits, b01_false]; omega
    simp [-Nat.reducePow, Halyr.fields, HWord.decode, HWord.decodeResults, hb, bits]
    omega
  | evackLine l =>
    have hb : bit (2 ^ 11 + l.val) 11 = true := by simp only [bit_eq_iff, bits, b01_true]; omega
    simp [-Nat.reducePow, Halyr.fields, HWord.decode, HWord.decodeResults, hb, bits]
    omega
  -- the setting format and the tick selector
  | setting op sel m v =>
    have hs := sel_encodeSetting (op := op.code) sel m v
    cases op <;> simpa [Halyr.fields, HWord.decode, SetOp.code, HWord.decodeSet] using hs
  | tiastamp sel m v =>
    have hs := sel_encodeSetting (op := 0x85) sel m v
    simpa [Halyr.fields, HWord.decode, HWord.decodeMeas] using hs
  | meas d m c =>
    have hc : c.val < 2 ^ 24 := by omega
    have hlow := low_encodeTick (op := 0x80) (d := d) (c := c) m
    simp only [Halyr.fields]
    simp [-Nat.reducePow, HWord.decode, HWord.decodeMeas, selOk_encodeTick m hc, sel_encodeTick m hc]
    simp only [bits]
    omega
  | verd d m c =>
    have hc : c.val < 2 ^ 24 := by omega
    have hlow := low_encodeTick (op := 0x81) (d := d) (c := c) m
    simp only [Halyr.fields]
    simp [-Nat.reducePow, HWord.decode, HWord.decodeMeas, selOk_encodeTick m hc, sel_encodeTick m hc]
    simp only [bits]
    omega
  | verdall d m =>
    have hc : 0 < 2 ^ 24 := by decide
    simp only [Halyr.fields]
    simp [-Nat.reducePow, HWord.decode, HWord.decodeMeas, selOk_encodeTick m hc, sel_encodeTick m hc]
    have hlow := low_encodeTick (op := 0x82) (d := d) (c := 0) m
    simp only [bits]
    omega
  -- a flag of the immediate
  | rete c | fmask d c =>
    cases c <;> simp [Halyr.fields, HWord.decode, HWord.decodeFlow, HWord.decodeMeas] <;> decide
  | ext d a l m c =>
    simp only [Halyr.wf, decide_eq_true_eq] at hw
    have hc := b01_lt c
    simp only [Halyr.fields]
    simp [-Nat.reducePow, HWord.decode, HWord.decodeArith, bit_eq_iff]
    simp only [bits]
    omega
  | measall d b m o c =>
    have hc := b01_lt c
    have hb : bit (m.val * 2 ^ 25 + o.val * 2 ^ 9 + b01 c) 0 = c := by simp only [bit_eq_iff, bits]; omega
    simp only [Halyr.wf, Bool.or_eq_true, beq_iff_eq, Fin.val_eq_zero_iff] at hw
    simp only [Halyr.fields]
    simp [-Nat.reducePow, HWord.decode, HWord.decodeLong, hb, hw]
    simp only [bits]
    omega
  | bmove d a b n c =>
    have hc := b01_lt c
    have hb : bit (b01 c * 2 ^ 12 + n.val) 12 = c := by simp only [bit_eq_iff, bits]; omega
    simp only [Halyr.wf, Bool.and_eq_true, Bool.or_eq_true, decide_eq_true_eq, Bool.not_eq_true', beq_iff_eq, Fin.val_eq_zero_iff] at hw
    obtain ⟨hn, hB⟩ := hw
    simp only [Halyr.fields]
    simp [-Nat.reducePow, HWord.decode, HWord.decodeLong, hb, hB]
    simp only [bits]
    omega
  -- operands with rules of their own
  | sweep d a b m s n w c =>
    simp only [Halyr.wf, Bool.and_eq_true, bne_iff_ne, ne_eq] at hw
    simp only [Halyr.fields]
    simp [-Nat.reducePow, HWord.decode, HWord.decodeLong]
    simp only [bits]
    omega
  | searchI d a b k s j w t =>
    simp only [Halyr.wf, Bool.and_eq_true, Bool.or_eq_true, decide_eq_true_eq, beq_iff_eq, bne_iff_ne, ne_eq] at hw
    simp only [Halyr.fields]
    simp [-Nat.reducePow, HWord.decode, HWord.decodeLong]
    simp only [bits]
    omega
  | result a s t k kind =>
    simp only [Halyr.wf, HWord.resultUsesA, Bool.or_eq_true, beq_iff_eq] at hw
    simp only [Halyr.fields]
    simp [-Nat.reducePow, HWord.decode, HWord.decodeResults, HWord.resultUsesA]
    simp only [bits]
    omega

end Sys2Proof.Machine
end

section
/-!
PROOFS. The sequencer chapter: the encoding, the words of the tables and the branch conditions.
-/
namespace Sys2Proof.Proofs
open Sys2Proof.Machine

/-- Settles O59: the word of an instruction splits into the fields it was joined from, and these say the instruction. -/
theorem decodingAnEncodedInstructionGivesItBack : Obligations.DecodingAnEncodedInstructionGivesItBack :=
  fun h hw => (decodeWord_join h.fits_fields).trans (decode_fields hw)

/-- Settles O56: each word is one that the decoder reads. -/
theorem wordsReadAsTheirTablesSay : Obligations.WordsReadAsTheirTablesSay := by
  unfold Obligations.WordsReadAsTheirTablesSay
  decide

theorem decodeWord_reservedCond {c t : Nat} (hc : 14 ≤ c) (hc32 : c < 32) (ht : t < 32768) {op : Nat} (hop : op = 2 ∨ op = 3) :
    decodeWord (op * 2 ^ 56 + c * 2 ^ 36 + t) = .error causeOperand := by
  have hfits : HWord.Fits ⟨op, 0, 0, 0, c * 2 ^ 36 + t⟩ := by
    simp only [HWord.Fits]
    omega
  have hjoin : op * 2 ^ 56 + c * 2 ^ 36 + t = HWord.join ⟨op, 0, 0, 0, c * 2 ^ 36 + t⟩ := by
    simp only [HWord.join]
    omega
  have hcond : ¬ bits (c * 2 ^ 36 + t) 36 5 < 14 := by
    simp only [bits]
    omega
  rw [hjoin, decodeWord_join hfits]
  obtain rfl | rfl := hop <;>
    simp [-Nat.reducePow, HWord.decode, HWord.decodeFlow, need, hcond]

/-- Settles O55: the conditions of the fourteen codes are those of the table; a branch with another code is refused by the decoder. -/
theorem branchConditionsReadTheFlags : Obligations.BranchConditionsReadTheFlags := by
  intro fl c t z n k f p o s
  exact ⟨rfl, fun hc hc32 ht => ⟨decodeWord_reservedCond hc hc32 ht (.inl rfl), decodeWord_reservedCond hc hc32 ht (.inr rfl)⟩⟩

end Sys2Proof.Proofs
end

section
/-!
SUPPORT. What a command may do to the memories: it keeps the queue and the canonical form, and only the listed commands write a byte.
-/
namespace Sys2Proof.Machine

/-! ### Operations that leave queue and memories -/

theorem SameStore.refl (s : State) : SameStore s s := ⟨rfl, rfl⟩

theorem SameStore.trans {s t u : State} (h : SameStore s t) (k : SameStore t u) : SameStore s u := ⟨k.1.trans h.1, k.2.trans h.2⟩

theorem SameStore.keeps {s t : State} (h : SameStore s t) : Keeps s t := ⟨h.1, fun w => h.2 ▸ w⟩

@[simp] theorem sameStore_on (s : State) (f : Block → Block) : SameStore s (s.on f) := ⟨rfl, rfl⟩

@[simp] theorem sameStore_on_on (s : State) (f g : Block → Block) : SameStore s ((s.on f).on g) := ⟨rfl, rfl⟩

@[simp] theorem sameStore_blk_on (s : State) (b : Block) (f : Block → Block) : SameStore s (State.on { s with blk := b } f) := ⟨rfl, rfl⟩

@[simp] theorem sameStore_blk (s : State) (b : Block) : SameStore s { s with blk := b } := ⟨rfl, rfl⟩

theorem SameStore.on {s t : State} (h : SameStore s t) (f : Block → Block) : SameStore s (t.on f) := h.trans (sameStore_on t f)

/-- The answer of an effect leaves the queue and the memories. -/
def Stays (s : State) (r : Except Nat State) : Prop := ∀ t, r = .ok t → SameStore s t

@[simp] theorem stays_error (s : State) (c : Nat) : Stays s (.error c) := fun _ h => nomatch h

@[simp] theorem stays_ok (s t : State) : Stays s (.ok t) ↔ SameStore s t :=
  ⟨fun h => h t rfl, fun h _ e => Except.ok.inj e ▸ h⟩

@[simp] theorem stays_other (s : State) : Stays s (other s) := (stays_ok s s).mpr (.refl s)

@[simp] theorem stays_plain (f n : Nat) (g : Block → Except Nat Block) (s : State) : Stays s (plain f n g s) := by
  unfold plain
  split <;> simp

@[simp] theorem stays_branch (f n a : Nat) (s : State) : Stays s (branch f n a s) := by simp [branch]

@[simp] theorem stays_branch_on (f n a : Nat) (g : Block → Block) (s : State) : Stays s (branch f n a (s.on g)) := by simp [branch]

@[simp] theorem stays_branch_blk (f n a : Nat) (b : Block) (s : State) : Stays s (branch f n a { s with blk := b }) := by
  rw [branch, stays_ok]
  exact ⟨rfl, rfl⟩

@[simp] theorem stays_plain_on (f n : Nat) (g : Block → Except Nat Block) (k : Block → Block) (s : State) :
    Stays s (plain f n g (s.on k)) := fun _ h => (sameStore_on s k).trans (stays_plain f n g _ _ h)

@[simp] theorem stays_measure (f n : Nat) (m : Int) (g : Block → Block) (s : State) : Stays s (measure f n m g s) := by simp [measure]

@[simp] theorem stays_recordOr (f n site : Nat) (g : Block → Block) (s : State) : Stays s (recordOr f n site g s) := by
  unfold recordOr
  split <;> simp

theorem stays_needHasp {f i : Nat} {s : State} {go : State → Except Nat State} (h : Stays s (go s)) : Stays s (needHasp f i s go) := by
  unfold needHasp
  split <;> simp [h]

theorem sameStore_microEnd {s t : State} (h : SameStore s t) (f : Nat) (w : UWalk) (r : Option LongSt) :
    SameStore s (t.microEnd f w r) := by
  unfold State.microEnd
  split
  · exact h.on _
  · exact h.on _

theorem sameStore_seqExec (s : State) (f : Nat) (w : UWalk) (h : Halyr) {body : Effect} (hb : ∀ h s, Stays s (body h s)) :
    SameStore s (seqExec s f w h body) := by
  unfold seqExec
  split
  · exact sameStore_on _ _
  · rename_i t ht
    exact sameStore_microEnd (hb _ _ _ ht) _ _ _

/-- An instruction whose effect leaves the memories leaves them, whatever the memories and the microwords show. -/
theorem sameStore_seqRun (s : State) (f op : Nat) (e : SeqErr) {body : Effect} (hb : ∀ h s, Stays s (body h s)) :
    SameStore s (seqRun s f op e body) := by
  have decoded : ∀ u : State, SameStore s u → ∀ w, SameStore s (match decodeWord (u.instrWord f) with
      | .error c => u.on (fun b => b.progFault f c)
      | .ok h => if e = .dstore ∧ h.readsStore then u.on (fun b => b.progFault f 9) else seqExec u f w h body) := by
    intro u h w
    split
    · exact h.on _
    · split
      · exact h.on _
      · exact h.trans (sameStore_seqExec _ _ _ _ hb)
  unfold seqRun
  dsimp only
  split
  · exact .refl s
  · split
    · exact sameStore_on_on s _ _
    · split
      · exact sameStore_on s _
      · split
        · exact sameStore_on_on s _ _
        · exact decoded _ (sameStore_on s _) _

theorem sameStore_withMicro {s : State} {f : Nat} {op : Option Nat} {due : Bool} {e : SeqErr} {go : UWalk → State → State}
    (hg : ∀ w u, SameStore u (go w u)) : SameStore s (withMicro s f op due e go) := by
  unfold withMicro
  dsimp only
  split
  · exact sameStore_on_on _ _ _
  · exact (sameStore_on s _).trans (hg _ _)

theorem sameStore_eventService (s : State) (f : Nat) (e : SeqErr) : SameStore s (eventService s f e) := by
  unfold eventService
  split
  · split
    · exact sameStore_withMicro (fun _ u => sameStore_on u _)
    · exact .refl s
  · exact .refl s

theorem sameStore_waitevTimeout (s : State) (f : Nat) (e : SeqErr) : SameStore s (waitevTimeout s f e) := by
  unfold waitevTimeout
  split
  · exact sameStore_withMicro (fun _ u => sameStore_microEnd (sameStore_on u _) _ _ _)
  · exact .refl s

/-! ### Reads of registers -/

theorem sameStore_regRead (s : State) (a lo hi : Nat) : SameStore s (regRead s a lo hi).1 := by
  unfold regRead answered
  dsimp only
  repeat' split
  all_goals exact ⟨rfl, rfl⟩

theorem sameStore_bar0Read (s : State) (a len : Nat) : SameStore s (bar0Read s a len) := by
  unfold bar0Read
  dsimp only
  split
  · exact (sameStore_regRead _ _ _ _).on _
  · split
    · exact (sameStore_regRead _ _ _ _).on _
    · exact .refl s

theorem sameStore_regsRead (e n : Nat) : ∀ s a, SameStore s (regsRead e n s a).1 := by
  induction n with
  | zero => intro s a; exact .refl s
  | succ n ih =>
    intro s a
    unfold regsRead
    dsimp only
    split
    · exact (sameStore_regRead _ _ _ _).trans (ih _ _)
    · exact .refl s

theorem sameStore_readRegs (s : State) (q : Nat) : SameStore s (readRegs s q) := by
  unfold readRegs
  split
  · exact .refl s
  · dsimp only
    split
    · exact sameStore_on _ _
    · exact (sameStore_regsRead _ _ _ _).on _

/-! ### Every command -/

/-- Where the outcome is a next state, it keeps the queue and the canonical form of the memories, and the memories themselves where the
command is none of those that may store. -/
def Frames (c : Instr) (s : State) (o : Host.Outcome State Fault Refusal) : Prop :=
  ∀ t, o = .next t → Keeps s t ∧ (mayStore c = false → t.mem = s.mem)

theorem frames_of_keeps {c : Instr} {s t : State} (hc : mayStore c = true) (h : Keeps s t) : Frames c s (.next t) := by
  rintro _ ⟨⟩
  exact ⟨h, fun hm => absurd (hc.symm.trans hm) (by decide)⟩

theorem frames_of_sameStore {c : Instr} {s t : State} (h : SameStore s t) : Frames c s (.next t) := by
  rintro _ ⟨⟩
  exact ⟨h.keeps, fun _ => h.2⟩

/-- An instruction of a sequencer whose effect leaves the memories. -/
theorem frames_seqRun {c : Instr} {s : State} {f op : Nat} {e : SeqErr} {body : Effect} (hb : ∀ h s, Stays s (body h s)) :
    Frames c s (.next (seqRun s f op e body)) := frames_of_sameStore (sameStore_seqRun _ _ _ _ hb)

theorem frames_exec (c : Instr) (s : State) : Frames c s (exec c s) := by
  cases c with
  -- the commands that may store
  | registerWrite => exact frames_of_keeps rfl (keeps_bar0Write _ _ _ _)
  | bar2Write a data =>
    change Frames _ _ (if _ then _ else _)
    split
    · exact fun _ h => nomatch h
    · exact frames_of_keeps rfl (keeps_bar2Write _ _ _)
  | seqPmdAccess | seqDsdAccess => exact frames_of_keeps rfl (keeps_seqWordAccess _ _ _ _ _ _)
  | sowDcdAccess => exact frames_of_keeps rfl (keeps_dictAccess _ _ _)
  | ddsLdAccess => exact frames_of_keeps rfl (keeps_ddsListAccess _ _ _)
  | progLoad => exact frames_of_keeps rfl (keeps_progLoad _ _ _)
  | pageDmaDone => exact frames_of_keeps rfl (keeps_pageDma _ _ _ _)
  | segFreeDone => exact frames_of_keeps rfl (keeps_segFreeDone _ _)
  | pageRefetchDone => exact frames_of_keeps rfl (keeps_refetchDone _ _ _ _)
  | hbmGrant => exact frames_of_keeps rfl (keeps_hbmGrant _ _ _ _)
  | takeoverDone => exact frames_of_keeps rfl (keeps_takeoverDone _ _ _)
  | spillWrite => exact frames_of_keeps rfl (keeps_spillWrite _ _)
  | stampWrite => exact frames_of_keeps rfl (keeps_stampWrite _ _)
  | stampFlush => exact frames_of_keeps rfl (keeps_stampFlush _ _)
  | pageRetireSwitch => exact frames_of_keeps rfl (keeps_pageSwitch _ _ _)
  | coreReset =>
    refine frames_of_keeps rfl ?_
    split
    · exact keeps_coreReset s
    · exact .refl s
  | vauxLoss => exact frames_of_keeps rfl (keeps_vauxLoss _)
  | krStreamImportDone => exact frames_of_keeps rfl (keeps_streamImportDone _ _ _)
  | krZeroiseDone => exact frames_of_keeps rfl (keeps_zeroiseDone _ _)
  | returnPrepDone => exact frames_of_keeps rfl (keeps_returnPrepDone _ _)
  | std => exact frames_of_keeps rfl (keeps_seqRun _ _ _ _ (keeps_stdEffect _))
  | measall => exact frames_of_keeps rfl (keeps_seqRun _ _ _ _ (keeps_measallEffect _))
  | bmove => exact frames_of_keeps rfl (keeps_seqRun _ _ _ _ (keeps_bmoveEffect _ _))
  | tickWaitEnd => exact frames_of_keeps rfl (keeps_tickWaitEnd _ _ _)
  | hbmDataArrival => exact frames_of_keeps rfl (keeps_dataArrival _ _ _)
  -- instructions that store nothing
  | nop | endI | jmp | callI | ret | rete | loopI | ldl | waitev | syncf | waitt =>
    refine frames_seqRun fun h s => ?_
    simp only [nopEffect, endEffect, jmpEffect, callEffect, retEffect, reteEffect, loopEffect, ldlEffect, waitevEffect, syncfEffect, waittEffect]
    repeat' split
    all_goals simp
  | add | subI | addi | mul | andI | orI | xorI | shl | shr | sar | cmp | cmpi | mov | movi | movhi | ext | mfs | mts | ldd | ldh =>
    refine frames_seqRun fun h s => ?_
    simp only [aluEffect, addiEffect, shiftEffect, cmpEffect, cmpiEffect, movEffect, moviEffect, movhiEffect, extEffect, mfsEffect, mtsEffect,
      lddEffect, ldhEffect, result, compared, moved]
    repeat' split
    all_goals simp
  | tseli | tselr | play | fallow | sjmp | syncs =>
    refine frames_seqRun fun h s => ?_
    simp only [tseliEffect, tselrEffect, playEffect, fallowEffect, sjmpEffect, syncsEffect, playNow]
    repeat' split
    all_goals simp
  | setlvl | setpmu | setslc | setslew | setgen | setwm | setdps | tiastamp =>
    refine frames_seqRun fun h s => ?_
    simp only [settingEffect, tiastampEffect]
    repeat' split
    all_goals simp [stays_needHasp]
  | meas | verd | verdall | limit | fmask | freq | freqrd =>
    refine frames_seqRun fun h s => ?_
    simp only [measEffect, verdEffect, verdallEffect, limitEffect, fmaskEffect, freqEffect, freqrdEffect]
    repeat' split
    all_goals simp
  | carm f e =>
    refine frames_seqRun fun h s => ?_
    unfold carmEffect
    split
    · refine stays_needHasp ?_
      split <;> simp
    · exact stays_other s
  | ctrig | cstop | trgout | ddsrun | ddsstep | ddsstop | digacq | hconn | result | binI | signalI | evack | hclaim | hrel =>
    refine frames_seqRun fun h s => ?_
    simp only [ctrigEffect, cstopEffect, trgoutEffect, ddsrunEffect, ddsstepEffect, ddsstopEffect, digacqEffect, hconnEffect,
      resultEffect, binEffect, signalEffect, evackEffect, hclaimEffect, hrelEffect]
    repeat' split
    all_goals simp [stays_needHasp]
  | sweep | searchI =>
    refine frames_seqRun fun h s => ?_
    simp only [sweepEffect, searchEffect, sweepNext, searchNext]
    repeat' split
    all_goals simp
  | illegalOpcode f e =>
    refine frames_of_sameStore ?_
    split
    · exact .refl s
    · exact sameStore_seqRun _ _ _ _ fun _ s => stays_other s
  -- the other commands that do not change the block alone
  | bar2Read a n =>
    change Frames _ _ (if _ then _ else _)
    split
    · exact fun _ h => nomatch h
    · exact frames_of_sameStore (sameStore_blk _ _)
  | waitevTimeout => exact frames_of_sameStore (sameStore_waitevTimeout _ _ _)
  | eventService => exact frames_of_sameStore (sameStore_eventService _ _ _)
  | registerRead => exact frames_of_sameStore (sameStore_bar0Read _ _ _)
  | readRegs => exact frames_of_sameStore (sameStore_readRegs _ _)
  | bar0UnsupportedRequest => exact frames_of_sameStore (.refl s)
  -- a command that changes the block alone
  | _ => exact frames_of_sameStore (sameStore_on _ _)

end Sys2Proof.Machine
end

section
/-!
PROOFS. The memories under every command and every step.
-/
namespace Sys2Proof.Proofs
open Sys2Proof.Machine

/-- Settles O58: a memory that is as before has every byte as before. -/
theorem commandsKeepTheQueueAndOnlyStoresWrite : Obligations.CommandsKeepTheQueueAndOnlyStoresWrite := by
  intro c s t h
  obtain ⟨⟨hq, -⟩, hm⟩ := frames_exec c s t h
  exact ⟨hq, fun hc => ⟨hm hc, fun a => congrArg (Memory.byte · a) (hm hc)⟩⟩

/-- Settles O60: the step is idle, or the front command, which keeps the canonical form. -/
theorem everyStepKeepsTheMemoriesCanonical : Obligations.EveryStepKeepsTheMemoriesCanonical := by
  intro s t hs h
  unfold step at h
  split at h
  · cases h
    exact hs
  · obtain ⟨⟨-, hwf⟩, -⟩ := frames_exec _ _ t h
    exact hwf hs

end Sys2Proof.Proofs
end

section
/-!
SUPPORT. An instruction of a ready field: the state after it follows from the answer of its effect (R140, R145, R158).
-/
namespace Sys2Proof.Machine

section
variable {i : Instr} {s : State} {f op : Nat} {h : Halyr} {e : SeqErr} {body : Effect}

/-- An effect that answers a state is followed by the end of an instruction. -/
theorem exec_ready {t : State} (hi : exec i s = .next (seqRun s f op e body)) (he : cleanErr e = true) (r : Ready s f op h)
    (hb : body h s = .ok t) : exec i s = .next (t.on (fun b => b.seqEpilogue f)) := by
  rw [hi, seqRun_clean r he hb]

/-- An effect on the block that sets PC and spends its cycles itself. `u` is the state that the effect's writes of the memories leave. -/
theorem exec_carriedOut {u : State} {g : Block → Block} (hi : exec i s = .next (seqRun s f op e body)) (he : cleanErr e = true)
    (r : Ready s f op h) (hb : body h s = .ok (u.on g)) : exec i s = .next (carriedOut u f g) := by
  rw [exec_ready hi he r hb, State.on_on]
  rfl

/-- An effect on the block in a fixed number of cycles that goes on at the next address. -/
theorem exec_executed {u : State} {n : Nat} {k : Block → Except Nat Block} {g : Block → Block}
    (hi : exec i s = .next (seqRun s f op .none body)) (r : Ready s f op h) (hb : body h s = plain f n k u)
    (hk : k u.blk = .ok (g u.blk)) : exec i s = .next (executed u f n g) :=
  exec_carriedOut (g := fun b => ((g b).spend f n).pcNext f) hi rfl r (hb.trans (plain_ok hk))

/-- An effect that answers a cause is the program fault of that cause. -/
theorem exec_faulted {c : Nat} (hi : exec i s = .next (seqRun s f op .none body)) (r : Ready s f op h) (hb : body h s = .error c) :
    exec i s = .next (faulted s f c) := by
  rw [hi, seqRun_fault r hb]

end

/-- A read of the directory that an instruction makes meets the failed reads that its error shows (R218). -/
theorem pageRead_eq {b : Block} {f p : Nat} {e : SeqErr} (he : cleanErr e = true) :
    pageRead b f p e =
      if b.pageReadable p = false then .error 6
      else
        let r := b.dirRead p (dirErr e)
        .ok (if r.2 then (r.1.hbmReq 6 p f).waitData f else r.1.progFault f 6) := by
  cases e with
  | none | dir => simp only [pageRead, Bool.not_eq_true']; rfl
  | pmem | dstore | micro => cases he

/-- An entry goes onto a return stack that has room (R149). -/
theorem push_of_room {b : Block} {f : Nat} (h : (b.seq f).stack.length < 16) (x : RetEntry) :
    b.push f x = .ok ((b.updSeq f (fun q => { q with stack := x :: q.stack })).depthSync f) := if_neg (Nat.not_le.mpr h)

/-- None goes onto a full one (R149). -/
theorem push_of_full {b : Block} {f : Nat} (h : 16 ≤ (b.seq f).stack.length) (x : RetEntry) : b.push f x = .error causeStackOver := if_pos h

end Sys2Proof.Machine
end

section
/-!
PROOFS. The instructions of flow control, data, streams and settings, and the waits that they enter.
-/
namespace Sys2Proof.Proofs
open Sys2Proof.Machine

/-- Settles O3: a special register, a store word and a page are read and written as the effects say; the bytes outside a stored word are as
before. -/
theorem specialRegistersAndTheDataStore : Obligations.SpecialRegistersAndTheDataStore := by
  intro s f d a b sr i w at_
  refine ⟨fun v r hv => exec_executed (k := fun b => .ok (b.setG f d v)) rfl r ?_ rfl,
    fun t r ht => exec_executed (k := fun b => specialWrite b f sr (b.greg f a)) rfl r rfl ht,
    fun r hlt => exec_executed (k := fun b => .ok (b.setG f d (s.store f at_))) rfl r (if_pos hlt) rfl,
    fun r hlt => ⟨exec_executed (k := .ok) rfl r (if_pos hlt) rfl, Memory.word_setWord _ _ _ _, Memory.byte_setWord_out _ _ _ _⟩,
    fun e t ok r he hread hdir => exec_carriedOut rfl he r ?_⟩
  · simp only [mfsEffect, hv]
    rfl
  · simp only [ldhEffect, pageRead_eq he, hread, hdir]
    rfl

/-- Settles O4: the branches take the target or the next address by their condition, and the stack's entries are pushed and popped. -/
theorem flowInstructionsMoveThePc : Obligations.FlowInstructionsMoveThePc := by
  intro s f c t l v ab x rest
  dsimp only
  refine ⟨fun r => exec_executed (k := .ok) rfl r rfl rfl, fun r => exec_carriedOut rfl rfl r rfl, fun r => ?_,
    fun r hc => exec_executed (k := .ok) rfl r (if_neg (Bool.not_eq_true _ ▸ hc)) rfl, fun r hc hlt => exec_carriedOut rfl rfl r ?_,
    fun r hs hx => exec_carriedOut rfl rfl r ?_, fun r hs hx => exec_carriedOut rfl rfl r ?_, fun r => ?_,
    fun r => exec_executed (k := fun b => .ok (b.setL f l v)) rfl r rfl rfl⟩
  · by_cases hc : condHolds (s.blk.flags f) c = true
    · rw [if_pos hc]
      exact exec_carriedOut rfl rfl r (if_pos hc)
    · rw [if_neg hc]
      exact exec_executed (k := .ok) rfl r (if_neg hc) rfl
  · simp only [callEffect, hc, if_true, push_of_room hlt]
    rfl
  · simp only [retEffect, hs, hx]
    rfl
  · simp only [reteEffect, hs, hx]
    rfl
  · by_cases hn : 2 ≤ s.blk.lreg f l
    · rw [if_pos hn]
      exact exec_carriedOut rfl rfl r (if_pos hn)
    · rw [if_neg hn]
      exact exec_carriedOut rfl rfl r (if_neg hn)

/-- Settles O5: each wait is entered, or passed, by the condition that its instruction meets after 4 cycles. -/
theorem waitInstructionsCompleteOrWait : Obligations.WaitInstructionsCompleteOrWait := by
  intro s f d a k
  dsimp only
  refine ⟨fun v r hv => exec_carriedOut rfl rfl r ?_, fun r hn => exec_carriedOut rfl rfl r ?_, fun r hle => exec_carriedOut rfl rfl r ?_,
    fun r hlt => exec_carriedOut rfl rfl r ?_, fun r => ?_, fun r => ?_⟩
  · simp only [waitevEffect, State.on, hv]
  · simp only [waitevEffect, State.on, hn]
    rfl
  · simp only [syncfEffect, State.on, if_pos hle]
    rfl
  · simp only [syncfEffect, State.on, if_neg (Nat.not_le.mpr hlt)]
  · by_cases hk : k.val = 0
    · rw [if_pos hk]
      exact exec_carriedOut rfl rfl r (by simp only [waittEffect, hk]; rfl)
    · rw [if_neg hk]
      exact exec_carriedOut rfl rfl r (by simp only [waittEffect, hk]; rfl)
  · by_cases hk : s.blk.greg f a = 0
    · rw [if_pos hk]
      exact exec_carriedOut rfl rfl r (by simp only [waittEffect, State.on, hk]; rfl)
    · rw [if_neg hk]
      exact exec_carriedOut rfl rfl r (by simp only [waittEffect, State.on, hk]; rfl)

/-- Settles O6: a play that passes its checks is issued where the queue has room, a jump also where it makes room. -/
theorem streamInstructionsIssueVectors : Obligations.StreamInstructionsIssueVectors := by
  intro s f a t n x good e
  dsimp only
  refine ⟨fun r => exec_executed (k := fun b => .ok (b.set (FLD f) SEQ_TSEL.SET t)) rfl r rfl rfl,
    fun r hlt => exec_executed
      (k := fun b => if b.greg f a < 64 then .ok (b.set (FLD f) SEQ_TSEL.SET (b.greg f a)) else .error causeOperand) rfl r rfl (if_pos hlt),
    fun r he hx => exec_carriedOut rfl he r ?_,
    fun r => exec_executed (k := fun b => .ok (b.pushFallow f n)) rfl r rfl rfl,
    fun r => exec_executed (k := fun b => .ok (b.pushFallow f (b.greg f a % 2 ^ 32))) rfl r rfl rfl,
    fun r he hx => exec_carriedOut rfl he r ?_,
    fun r => exec_executed (k := fun b => .ok (b.fillTo f (b.syncsTo f))) rfl r rfl rfl⟩
  · cases good with
    | false => simp only [playEffect, hx, Bool.not_false, if_true, State.on, causePage]
    | true =>
      simp only [playEffect, hx, Bool.not_true, Bool.false_eq_true, Bool.true_eq_false, if_false]
      by_cases hroom : x.playCount f < 32
      · simp only [if_neg (Nat.not_le.mpr hroom), if_pos hroom, playNow, State.on]
      · simp only [if_pos (Nat.not_lt.mp hroom), if_neg hroom, State.on]
  · cases good with
    | false => simp only [sjmpEffect, hx, Bool.not_false, if_true, State.on, causePage]
    | true =>
      simp only [sjmpEffect, hx, Bool.not_true, Bool.false_eq_true, Bool.true_eq_false, if_false]
      by_cases hroom : x.playCount f < 32 ∨ x.jumpHeads s.mem f (x.seq f).frame ≠ []
      · have hno : ¬ (32 ≤ x.playCount f ∧ x.jumpHeads s.mem f (x.seq f).frame = []) := by
          rintro ⟨hfull, hnone⟩
          exact hroom.elim (Nat.not_lt.mpr hfull) (fun h => h hnone)
        simp only [if_neg hno, if_pos hroom, State.on]
      · have hfull : 32 ≤ x.playCount f ∧ x.jumpHeads s.mem f (x.seq f).frame = [] := by
          rwa [not_or, not_not, Nat.not_lt] at hroom
        simp only [if_pos hfull, if_neg hroom, State.on]

/-- Settles O7: the seven settings differ in their opcode alone, so one argument serves them: mask and value are judged together, and what
passes is queued for the frame under construction. -/
theorem settingsAreQueuedForTheirBoundary : Obligations.SettingsAreQueuedForTheirBoundary := by
  intro s f sel mask value m v queued does
  have hm : setMask s.blk f mask = if m < 65536 then .ok m else .error causeOperand := by
    cases mask with
    | imm n => exact (if_pos n.isLt).symm
    | reg a => rfl
  have hv : setValue s.blk f value = v := by cases value <;> rfl
  have setting : ∀ (op : SetOp) (i : Instr), exec i s = .next (seqRun s f op.code .none (settingEffect f)) →
      Ready s f op.code (.setting op sel mask value) → exec i s = does op := by
    intro op i hi r
    by_cases hok : setValueOk op sel v = true ∧ m < 65536 ∧ (op = .dps → m < 4)
    · obtain ⟨hval, hlt, hdps⟩ := hok
      have hgood : ¬ ((!setValueOk op sel v) = true ∨ (op = .dps ∧ 4 ≤ m)) := by
        rintro (h | ⟨h, h4⟩)
        · rw [hval] at h
          exact absurd h (by decide)
        · exact absurd (hdps h) (Nat.not_lt.mpr h4)
      have heff : settingEffect f (.setting op sel mask value) s =
          plain f 6 (fun b => .ok (if m = 0 then b else b.act f (.set op.code sel m v))) s := by
        simp only [settingEffect, hm, hv, if_pos hlt, if_neg hgood]
      exact (exec_executed hi r heff rfl).trans (congrArg _ (if_pos ⟨hval, hlt, hdps⟩).symm)
    · have heff : settingEffect f (.setting op sel mask value) s = .error 2 := by
        by_cases hlt : m < 65536
        · have hbad : (!setValueOk op sel v) = true ∨ (op = .dps ∧ 4 ≤ m) := by grind
          simp only [settingEffect, hm, hv, if_pos hlt, if_pos hbad, causeOperand]
        · simp only [settingEffect, hm, if_neg hlt, causeOperand]
      exact (exec_faulted hi r heff).trans (congrArg _ (if_neg hok).symm)
  refine ⟨setting .lvl _ rfl, setting .pmu _ rfl, setting .slc _ rfl, setting .slew _ rfl, setting .gen _ rfl, setting .wm _ rfl,
    setting .dps _ rfl, fun r => ?_⟩
  by_cases hbad : 65536 ≤ m ∨ 4 ≤ sel.val ∨ v ≠ 0
  · rw [if_pos hbad]
    refine exec_faulted rfl r ?_
    by_cases hlt : m < 65536
    · have hsel : 4 ≤ sel.val ∨ v ≠ 0 := hbad.resolve_left (Nat.not_le.mpr hlt)
      simp only [tiastampEffect, hm, hv, if_pos hlt, if_pos hsel, causeOperand]
    · simp only [tiastampEffect, hm, if_neg hlt, causeOperand]
  · rw [if_neg hbad]
    rw [not_or, Nat.not_le] at hbad
    obtain ⟨hlt, hsel⟩ := hbad
    have heff : tiastampEffect f (.tiastamp sel mask value) s =
        needHasp f (16 * f + 5) s (plain f 6 (fun b => .ok (if m = 0 then b else b.act f (.set 0x85 sel m 0)))) := by
      simp only [tiastampEffect, hm, hv, if_pos hlt, if_neg hsel]
    by_cases hh : s.blk.holds f (16 * f + 5) = true
    · rw [if_pos hh]
      exact exec_executed rfl r (heff.trans (if_pos hh)) rfl
    · rw [if_neg hh]
      exact exec_faulted rfl r (heff.trans (if_neg hh))

end Sys2Proof.Proofs
end

section
/-!
SUPPORT. What the microwords of an instruction show (R190, R195 to R197): replays are paid before the effect and leave what it is fetched
from, and a machine check leaves out the effect or takes the place of the instruction's end. Opcodes that are not assigned (R142).
-/
namespace Sys2Proof.Machine

/-! ### Replays paid -/

/-- The number of clean replays lies apart from every field that starts at another bit. -/
theorem get_count_replays {b : Block} {p base n : Nat} {F : Fld} (h : F.lo < 24) :
    (b.count (8 * p) UC_SEQ.REPLAYS n).get base F = b.get base F := by
  refine Block.get_set_ne _ _ ?_
  simp only [fkey, UC_SEQ.REPLAYS]
  omega

/-- The fields that start below the number of replays are as before. -/
theorem get_uPay {b : Block} {f p base : Nat} {e : SeqErr} {w : UWalk} {F : Fld} (h : F.lo < 24) :
    (b.uPay f p e w).get base F = b.get base F := by
  cases e with
  | micro ws eff => exact get_count_replays (b := b.updSeq f _) h
  | _ => rfl

/-- The word at PC is that before the replays were paid. -/
@[simp] theorem instrWord_uPay (s : State) (f : Nat) (e : SeqErr) (w : UWalk) :
    (s.on (fun b => b.uPay f (b.phys f) e w)).instrWord f = s.instrWord f := by
  simp only [State.instrWord, State.on_blk, State.on_mem, Block.phys, Block.pc, get_uPay (show SEQ_STAT.PHYS.lo < 24 by decide),
    get_uPay (show SEQ_PC.PC.lo < 24 by decide)]

/-- Paying spends cycles and leaves the rest of the sequencer. -/
theorem seq_uPay_long (b : Block) (f p : Nat) (e : SeqErr) (w : UWalk) : ((b.uPay f p e w).seq f).long = (b.seq f).long := by
  cases e with
  | micro ws eff =>
    have hspent : ∀ g : SeqSt → SeqSt, ((b.updSeq f g).seq f).long = (g (b.seq f)).long := fun g => by rw [Block.seq_updSeq_self]
    exact hspent (fun q => { q with cycles := q.cycles + (4 * w.replays + if w.check.isSome then w.cycles else 0) })
  | _ => rfl

/-! ### The effect and what follows it -/

section
variable {s t : State} {f : Nat} {h : Halyr} {body : Effect} {w : UWalk}

theorem seqExec_error {c : Nat} (hb : body h s = .error c) : seqExec s f w h body = faulted s f c := by
  simp only [seqExec, hb, faulted]

theorem seqExec_clean (hb : body h s = .ok t) (hw : w.check = none) : seqExec s f w h body = t.on (fun b => b.seqEpilogue f) := by
  simp only [seqExec, hb, State.microEnd, hw]

/-- A machine check after the effect takes the place of the instruction's end (R196, R197). -/
theorem seqExec_check {c : Nat × Bool} (hb : body h s = .ok t) (hw : w.check = some c) :
    seqExec s f w h body = t.on (fun b => b.machineCheck f c (t.restartProgress f (s.blk.seq f).long)) := by
  simp only [seqExec, hb, State.microEnd, hw]

end

/-! ### What the microwords of an instruction show -/

section
variable {s : State} {f op : Nat} {h : Halyr} {body : Effect} (r : Ready s f op h)
include r

/-- An uncorrected error of the data store stops an instruction that reads it, and no other (R160, R140). -/
theorem seqRun_dstore : seqRun s f op .dstore body = if h.readsStore then faulted s f 9 else seqRun s f op .none body := by
  obtain ⟨hl, ho, hw, hd, hc, hop, hh⟩ := r
  simp only [FirstReads] at hc
  cases hr : h.readsStore <;> simp [seqRun, seqExec, hl, ho, hw, hd, hop, hc, hh, hr, faulted, State.on]

variable (ws : List UFetch) (late : Bool)

/-- An instruction whose microwords are fetched, replayed where needed. -/
theorem seqRun_micro :
    let w := s.blk.uWalk (s.blk.phys f) (s.blk.firstWord f op) false (.micro ws late)
    let paid := s.on (fun k => k.uPay f (k.phys f) (.micro ws late) w)
    seqRun s f op (.micro ws late) body =
      if w.check.isSome ∧ late = false then
        paid.on (fun b => b.machineCheck f (w.check.getD (0, false)) (paid.restartProgress f (s.blk.seq f).long))
      else seqExec paid f w h body := by
  obtain ⟨hl, ho, hw, hd, -, hop, hh⟩ := r
  simp [-State.on_on, seqRun, hl, ho, hw, hd, hop, hh, lateCheck]

end

/-! ### Opcodes that are not assigned -/

namespace HWord
variable {h : HWord}

theorem decodeFlow_unassigned (ho : 0x0A < h.op) : h.decodeFlow = .error causeIllegal := by
  unfold decodeFlow
  split
  rotate_right
  · rfl
  all_goals omega

theorem decodeArith_unassigned (ho : h.op < 0x20 ∨ 0x34 < h.op) : h.decodeArith = .error causeIllegal := by
  unfold decodeArith
  split
  rotate_right
  · rfl
  all_goals omega

theorem decodeStream_unassigned (ho : h.op < 0x40 ∨ 0x45 < h.op) : h.decodeStream = .error causeIllegal := by
  unfold decodeStream
  split
  rotate_right
  · rfl
  all_goals omega

theorem decodeSet_unassigned (ho : h.op < 0x60 ∨ 0x66 < h.op) : h.decodeSet = .error causeIllegal := by
  unfold decodeSet
  split
  rotate_right
  · rfl
  all_goals omega

theorem decodeMeas_unassigned (ho : h.op < 0x80 ∨ 0x87 < h.op) : h.decodeMeas = .error causeIllegal := by
  unfold decodeMeas
  split
  rotate_right
  · rfl
  all_goals omega

theorem decodeUnits_unassigned (ho : h.op < 0xA0 ∨ (0xA3 < h.op ∧ h.op < 0xB0) ∨ 0xB4 < h.op) : h.decodeUnits = .error causeIllegal := by
  unfold decodeUnits
  split
  rotate_right
  · rfl
  all_goals omega

theorem decodeResults_unassigned (ho : h.op < 0xC0 ∨ (0xC1 < h.op ∧ h.op < 0xD0) ∨ 0xD3 < h.op) :
    h.decodeResults = .error causeIllegal := by
  unfold decodeResults
  split
  rotate_right
  · rfl
  all_goals omega

theorem decodeLong_unassigned (ho : h.op < 0xE0 ∨ 0xE3 < h.op) : h.decodeLong = .error causeIllegal := by
  unfold decodeLong
  split
  rotate_right
  · rfl
  all_goals omega

end HWord

/-- A word of an opcode that ch. 7 does not assign is ILLEGAL (R142). -/
theorem decodeWord_unassigned {w : Nat} (h : opAssigned (bits w 56 8) = false) : decodeWord w = .error causeIllegal := by
  change (HWord.split w).decode = _
  simp only [opAssigned, Bool.or_eq_false_iff, decide_eq_false_iff_not, beq_eq_false_iff_ne, ne_eq] at h
  have hop : (HWord.split w).op = bits w 56 8 := rfl
  have hlt : bits w 56 8 < 2 ^ 8 := Nat.mod_lt _ (by decide)
  rw [← hop] at h hlt
  unfold HWord.decode
  split
  · exact HWord.decodeFlow_unassigned (by omega)
  split
  · exact HWord.decodeArith_unassigned (by omega)
  split
  · exact HWord.decodeStream_unassigned (by omega)
  split
  · exact HWord.decodeSet_unassigned (by omega)
  split
  · exact HWord.decodeMeas_unassigned (by omega)
  split
  · exact HWord.decodeUnits_unassigned (by omega)
  split
  · exact HWord.decodeResults_unassigned (by omega)
  · exact HWord.decodeLong_unassigned (by omega)

end Sys2Proof.Machine
end

section
/-!
PROOFS. The refusals of instructions and the errors of memories and microcode.
-/
namespace Sys2Proof.Proofs
open Sys2Proof.Machine

/-- Settles O12: a refused check is the cause that the effect answers, row by row; what the memories and the microwords show is judged before
and after an effect in one place for every instruction. -/
theorem refusedInstructionsTakeTheirProgramFault : Obligations.RefusedInstructionsTakeTheirProgramFault := by
  intro s f c t d a b sr i x rest ab anchor ch g n site bin mask sel count dwell judge dwell8 taddr
  dsimp only
  refine ⟨fun r hc hfull => exec_faulted rfl r ?_, fun r hs => exec_faulted rfl r ?_, fun r hs => exec_faulted rfl r ?_,
    fun r hs hx => exec_faulted rfl r ?_, fun r hs hx => exec_faulted rfl r ?_, fun r hout => exec_faulted rfl r (if_neg (Nat.not_lt.mpr hout)),
    fun r hout => exec_faulted rfl r (if_neg (Nat.not_lt.mpr hout)), fun r => exec_faulted rfl r rfl, fun r hp => exec_faulted rfl r ?_,
    fun r hsr => exec_faulted rfl r ?_, fun r hv => exec_faulted rfl r ?_, fun r hbad => exec_faulted rfl r ?_,
    fun r hg => exec_faulted rfl r (if_pos hg), fun r hn => exec_faulted rfl r ?_, fun r hsite => exec_carriedOut rfl rfl r ?_,
    fun r hh => exec_faulted rfl r (if_neg (Bool.not_eq_true _ ▸ hh)), fun r hnew hlong => exec_faulted rfl r ?_,
    fun r hnew hle => exec_faulted rfl r ?_, fun h r => ?_, fun p hp h r => ?_, fun hl ho hw hd => ⟨fun p hp hc hop cause he => ?_, fun hc hu => ?_⟩⟩
  · simp only [callEffect, hc, if_true, push_of_full hfull, causeStackOver]
  · simp only [retEffect, hs, causeStackUnder]
  · simp only [reteEffect, hs, causeStackUnder]
  · simp only [retEffect, hs, hx, if_true, causeStackKind]
  · simp only [reteEffect, hs, hx, Bool.not_false, if_true, causeStackKind]
  · simp only [ldhEffect, pageRead_eq (e := .none) rfl, hp, if_true]
  · have hro : sr.val = 0 ∨ sr.val = 4 ∨ sr.val = 5 ∨ sr.val = 6 := by
      obtain rfl | rfl | rfl | rfl := hsr <;> decide
    simp only [mtsEffect, plain, specialWrite, if_pos hro, causeReadOnly]
  · simp only [mfsEffect, hv, causeOperand]
  · simp only [tselrEffect, plain, if_neg (Nat.not_lt.mpr hbad), causeOperand]
  · simp only [signalEffect, plain, if_pos hn, causeOperand]
  · simp only [binEffect, recordOr, hsite, Bool.not_false, if_true, causeOperand]
  · have hfit : storeFits (s.blk.greg f d) count = false := decide_eq_false (Nat.not_le.mpr hlong)
    simp only [sweepEffect, hnew, hfit, Bool.not_false, if_true, causeDstore]
  · simp only [searchEffect, hnew, hle, true_or, if_true, causeOperand]
  · exact congrArg _ (seqRun_pmem r)
  · obtain ⟨hnone, hpmem, hdstore, hmicro⟩ := seqRows_exec hp s
    refine ⟨fun cause he => ?_, ?_, ?_, fun ws late => ?_⟩
    · rw [hnone, seqRun_fault r he]
    · rw [hpmem, seqRun_pmem r]
    · rw [hdstore, hnone, seqRun_dstore r]
      cases h.readsStore <;> rfl
    · rw [hmicro, seqRun_micro r]
      generalize s.blk.uWalk (s.blk.phys f) (s.blk.firstWord f p.1) false (.micro ws late) = w
      have hlong := seq_uPay_long s.blk f (s.blk.phys f) (.micro ws late) w
      generalize hpaid : s.on (fun k => k.uPay f (k.phys f) (.micro ws late) w) = paid
      have hl : (paid.blk.seq f).long = (s.blk.seq f).long := by rw [← hpaid, State.on_blk, hlong]
      refine ⟨fun hw => ?_, fun at_ hw hearly => ?_, fun at_ hw hlate => ?_⟩
      · simp only [hw, Option.isSome_none, Bool.false_eq_true, false_and, if_false]
        cases hb : p.2.2 h paid with
        | error c => rw [seqExec_error hb]
        | ok t => rw [seqExec_clean hb hw]
      · simp only [hw, hearly, Option.isSome_some, and_self, if_true, Option.getD_some]
      · simp only [hlate, Bool.true_eq_false, and_false, if_false]
        cases hb : p.2.2 h paid with
        | error c => rw [seqExec_error hb]
        | ok t => rw [seqExec_check hb hw, hl]
  · rw [(seqRows_exec hp s).1, seqRun_undecoded hl ho hw hd hc hop he]
  · have hrun := seqRun_undecoded (body := fun _ st => other st) hl ho hw hd hc rfl (decodeWord_unassigned hu)
    change Host.Outcome.next (if _ then _ else _) = _
    rw [if_neg (Bool.not_eq_true _ ▸ hu), hrun, causeIllegal]

end Sys2Proof.Proofs
end

section
/-!
SUPPORT. The commands of a sequencer that stands in a wait or at a restart point (R152, R162, R196): a machine check before the effect, and
the effect after the replays are paid.
-/
namespace Sys2Proof.Machine

section
variable {s : State} {f : Nat} {op : Option Nat} {due : Bool} {e : SeqErr} {go : UWalk → State → State}

/-- A machine check before the effect leaves it out. -/
theorem withMicro_check {c : Nat × Bool} (hc : (s.blk.uWalk (s.blk.phys f) op due e).check = some c) (h : due = true ∨ lateCheck e = false) :
    withMicro s f op due e go =
      let paid := s.on (fun b => b.uPay f (b.phys f) e (s.blk.uWalk (s.blk.phys f) op due e))
      paid.on (fun b => b.machineCheck f c (paid.restartProgress f (s.blk.seq f).long)) := by
  have hstop : (s.blk.uWalk (s.blk.phys f) op due e).check.isSome = true ∧ (due = true ∨ (!lateCheck e) = true) :=
    ⟨by rw [hc, Option.isSome_some], h.imp_right (fun hl => by rw [hl, Bool.not_false])⟩
  unfold withMicro
  dsimp only
  rw [if_pos hstop, hc, Option.getD_some]

/-- Without one the effect follows. -/
theorem withMicro_go (h : ¬ ((s.blk.uWalk (s.blk.phys f) op due e).check ≠ none ∧ (due = true ∨ lateCheck e = false))) :
    withMicro s f op due e go =
      go (s.blk.uWalk (s.blk.phys f) op due e) (s.on (fun b => b.uPay f (b.phys f) e (s.blk.uWalk (s.blk.phys f) op due e))) := by
  refine if_neg ?_
  rwa [Option.isSome_iff_ne_none, Bool.not_eq_true']

end

/-! ### The end of a tick wait -/

/-- What follows the end of tick wait `w` once its microwords are fetched (R155, R162). -/
def tickEnd (f : Nat) (w : Wait) (e : SeqErr) (x : UWalk) (u : State) : State :=
  match w with
  | .woken d => (u.on (fun b => b.endWaitev f d ((b.eventCode f).getD 66))).microEnd f x none
  | _ =>
    match decodeWord (u.instrWord f) with
    | .ok h =>
      if e = .dstore ∧ h.judgesByStore then u.on (fun b => b.progFault f 9)
      else (tickFinish f w h (u.on (fun b => b.clearWait f))).microEnd f x none
    | .error _ => u

theorem tickWaitEnd_over {s : State} {f : Nat} {w : Wait} (e : SeqErr) (hl : s.blk.seqLive f = true) (ho : (s.blk.seq f).opened = true)
    (hw : (s.blk.seq f).wait = some w) (hov : s.blk.waitOver f w = true) :
    tickWaitEnd s f e = withMicro s f none false e (tickEnd f w e) := by
  simp only [tickWaitEnd, hw, hl, ho, hov, and_self, if_true]
  rfl

/-- A wait other than that of a woken WAITEV ends with the instruction at PC. -/
theorem tickEnd_of_ok {f : Nat} {w : Wait} {e : SeqErr} {x : UWalk} {u : State} {h : Halyr} (hw : ∀ d, w ≠ .woken d)
    (hh : decodeWord (u.instrWord f) = .ok h) :
    tickEnd f w e x u = if e = .dstore ∧ h.judgesByStore = true then u.on (fun b => b.progFault f 9)
      else (tickFinish f w h (u.on (fun b => b.clearWait f))).microEnd f x none := by
  unfold tickEnd
  split
  · exact absurd rfl (hw _)
  · rw [hh]

/-! ### The entry into event service -/

theorem enterService_eq (b : Block) (f i : Nat) :
    b.enterService f i =
      let q := b.seq f
      let b := match q.long with
        | some l => ((b.setG f 31 (Block.longWord l)).set (FLD f) SEQ_PROG.PROGRESS (Block.longWord l)).setFlag (FLD f) SEQ_PROG.SUSP true
        | none => b
      let e : RetEntry := { svc := true, addr := b.pc f, flags := b.flags f, wait := q.wait, long := q.long }
      if 16 ≤ (b.seq f).stack.length then b.progFault f 3
      else
        let b := (b.updSeq f (fun q => { q with stack := e :: q.stack })).depthSync f
        let b := (b.setFlag (FLD f) SEQ_STAT.INSVC true).setPc f (b.get (FLD f) SEQ_EVBASE.BASE + i)
        ((b.updSeq f (fun q => { q with wait := none, long := none })).spend f 12).seqEpilogue f := by
  have pushed : ∀ (c : Block) (x : RetEntry) (g : Block → Block), (match c.push f x with
      | .error k => c.progFault f k
      | .ok b => g b) = if 16 ≤ (c.seq f).stack.length then c.progFault f 3
        else g ((c.updSeq f (fun q => { q with stack := x :: q.stack })).depthSync f) := by
    intro c x g
    by_cases hfull : 16 ≤ (c.seq f).stack.length
    · rw [push_of_full hfull, if_pos hfull, causeStackOver]
    · rw [push_of_room (Nat.not_le.mp hfull), if_neg hfull]
  unfold Block.enterService
  dsimp only
  cases (b.seq f).long with
  | none =>
    exact pushed b _ _
  | some l =>
    exact pushed (((b.setG f 31 (Block.longWord l)).set (FLD f) SEQ_PROG.PROGRESS (Block.longWord l)).setFlag (FLD f) SEQ_PROG.SUSP true) _ _

/-- Where a line is due, and the sequencer stands neither in a WAITEV nor in a data wait, service is entered (R152). -/
theorem eventService_due {s : State} {f i : Nat} (e : SeqErr) (hl : s.blk.seqLive f = true) (ho : (s.blk.seq f).opened = true)
    (hd : s.blk.dueLine f = some i) (hev : ∀ d t, (s.blk.seq f).wait ≠ some (.ev d t)) (hwk : ∀ d, (s.blk.seq f).wait ≠ some (.woken d))
    (hdata : ∀ t, (s.blk.seq f).wait ≠ some (.data t)) :
    eventService s f e =
      withMicro s f (s.blk.firstWord f (bits (s.instrWord f) 56 8)) true e (fun _ u => u.on (fun b => b.enterService f i)) := by
  have hserve : s.blk.mayServe f = true := by
    simp only [Block.mayServe, hl, ho, Bool.true_and]
    split
    · rfl
    · next h => exact absurd h (hev _ _)
    · next h => exact absurd h (hwk _)
    · next h => exact absurd h (hdata _)
    · rfl
  simp only [eventService, hd, hserve, if_true]

end Sys2Proof.Machine
end

section
/-!
PROOFS. The ends of waits and the entry into event service.
-/
namespace Sys2Proof.Proofs
open Sys2Proof.Machine

/-- Settles O13: each command acts where its condition holds, through the one place that judges the microwords. -/
theorem waitsEndAndServiceIsEntered : Obligations.WaitsEndAndServiceIsEntered := by
  intro s f h w e hl ho x long paid early checked
  have hgo : ¬ early → ¬ (x.check ≠ none ∧ (false = true ∨ lateCheck e = false)) := by
    simp only [Bool.false_eq_true, false_or]
    exact id
  refine ⟨fun t hw hh hr => ?_, fun hw hov => ⟨fun at_ hc hlate => ?_, fun hn d hwd => ?_, fun hn hwd hh hds => ?_, fun hwd hh hds hj => ?_⟩,
    fun d i hw hi => ?_, fun i hd hev hwk hdata => ?_⟩
  · have hrun : dataArrival s f e = withMicro s f none false e (fun x st =>
        (dataFinish f h (st.on (fun b => (b.spend f (20 * b.time.now - t)).clearWait f))).microEnd f x none) := by
      simp only [dataArrival, hw, hl, ho, hh, hr, and_self, if_true]
    refine ⟨fun at_ hc hlate => ?_, fun hn => ?_⟩
    · exact congrArg _ (hrun.trans (withMicro_check hc (.inr hlate)))
    · exact congrArg _ (hrun.trans (withMicro_go (hgo hn)))
  · exact congrArg _ ((tickWaitEnd_over e hl ho hw hov).trans (withMicro_check hc (.inr hlate)))
  · exact congrArg _ ((tickWaitEnd_over e hl ho hw hov).trans ((withMicro_go (hgo hn)).trans (by rw [hwd]; rfl)))
  · refine congrArg _ ((tickWaitEnd_over e hl ho hw hov).trans ((withMicro_go (hgo hn)).trans ?_))
    rw [tickEnd_of_ok hwd ((congrArg decodeWord (instrWord_uPay _ _ _ _)).trans hh), if_neg hds]
    rfl
  · subst hds
    refine congrArg _ ((tickWaitEnd_over _ hl ho hw hov).trans ((withMicro_go ?_).trans ?_))
    · exact fun hc => hc.1 rfl
    · rw [tickEnd_of_ok hwd ((congrArg decodeWord (instrWord_uPay _ _ _ _)).trans hh), if_pos ⟨rfl, hj⟩]
      rfl
  · have hdue : s.blk.waitevDue f = some d := by simp only [Block.waitevDue, hw, hl, ho, hi, and_self, if_true]
    have hrun : waitevTimeout s f e = withMicro s f none false e (fun x u => (u.on (fun b => b.waitevExpire f d)).microEnd f x none) := by
      simp only [waitevTimeout, hdue]
    exact ⟨fun at_ hc hlate => congrArg _ (hrun.trans (withMicro_check hc (.inr hlate))),
      fun hn => congrArg _ (hrun.trans (withMicro_go (hgo hn)))⟩
  · have hrun := eventService_due e hl ho hd hev hwk hdata
    refine ⟨fun at_ hc => congrArg _ (hrun.trans (withMicro_check hc (.inl rfl))),
      fun hc => congrArg _ (hrun.trans ((withMicro_go (fun hx => hx.1 hc)).trans (State.on_congr (enterService_eq _ _ _))))⟩

end Sys2Proof.Proofs
end

section
/-!
SUPPORT. A commit through HOLD_N (R318 to R323): what each of its commands does to the pending commit it meets.
-/
namespace Sys2Proof.Machine
namespace Block

variable {b : Block} {c : CommitRec}

/-- With a commit pending, readiness is judged where it is not judged yet and its time has come (R319). -/
theorem readiness_of (hc : b.sync.commit = some c) :
    b.readiness = if c.judged = false ∧ c.target ≤ b.tick + 1 ∧ b.time.lastB + 10 ≤ b.time.now ∧ b.flag 0 TB_STAT.TICK_RUN = true then
      let r := b.tablesCheck c.gen
      let why := if b.get 0 COMMIT_STAT.WCNT ≠ c.writes then 1 else if !r.2 then 2 else if b.stepHolds c.gen then 3
        else if b.leadRuns then 5 else 0
      let b := r.1.set 0 COMMIT_STAT.WHY why
      { b with sync := { b.sync with commit := some { c with judged := true, ready := why == 0 } } }
    else b := by
  simp only [readiness, hc, Bool.not_eq_true']

/-- With a commit pending, HOLD_N is released where the commit is judged, ready and shared (R320). -/
theorem holdRelease_of (hc : b.sync.commit = some c) :
    b.holdRelease = if c.judged = true ∧ c.ready = true ∧ c.shared = true ∧ b.time.lastB + 20 ≤ b.time.now ∧
        b.flag 0 TB_STAT.TICK_RUN = true then b.setFlag 0 SYNC_STAT.HOLD_REL true else b := by
  simp only [holdRelease, hc]

/-- What the sample of HOLD_N decides about a judged commit, in the block whose HOLD_IN already follows the net (R319 to R323). -/
def sampled (b : Block) (c : CommitRec) (high : Bool) : Block :=
  if !c.shared then
    if c.ready then { b with sync := { b.sync with commit := some { c with apply := true } } } else b.commitSlip c
  else if b.holdDriven && high then b.holdStuck
  else
    let b := b.setFlag 0 SYNC_STAT.HOLD_REL false
    let b := if b.holdDriven then b.holdLevel false else b
    if high then { b with sync := { b.sync with commit := some { c with apply := true } } }
    else (if c.ready then b.set 0 COMMIT_STAT.WHY 4 else b).commitSlip c

/-- With a commit pending, the sample decides it where it is judged, not decided yet and its time has come. -/
theorem holdSample_of (hc : b.sync.commit = some c) (high : Bool) :
    b.holdSample high = if c.judged = true ∧ c.apply = false ∧ b.time.lastB + b.k - 20 ≤ b.time.now ∧ b.flag 0 TB_STAT.TICK_RUN = true then
      (b.setFlag 0 SYNC_STAT.HOLD_IN high).sampled c high
    else b.setFlag 0 SYNC_STAT.HOLD_IN high := by
  have hk : (b.setFlag 0 SYNC_STAT.HOLD_IN high).k = b.k := get_set_ne _ _ (by decide)
  have hrun : (b.setFlag 0 SYNC_STAT.HOLD_IN high).flag 0 TB_STAT.TICK_RUN = b.flag 0 TB_STAT.TICK_RUN := flag_setFlag_ne (by decide) _ _
  have hwhen : (c.judged = true ∧ c.apply = false ∧ b.time.lastB + b.k - 20 ≤ b.time.now ∧ b.flag 0 TB_STAT.TICK_RUN = true) ↔
      ¬ ((!c.judged) = true ∨ c.apply = true ∨ b.time.now < b.time.lastB + b.k - 20 ∨ (!b.flag 0 TB_STAT.TICK_RUN) = true) := by
    simp only [not_or, Bool.not_eq_true', Bool.not_eq_false, Bool.not_eq_true, not_lt]
  have hcommit : (b.setFlag 0 SYNC_STAT.HOLD_IN high).sync.commit = some c := hc
  simp only [holdSample, holdLevel, hcommit, hk, hrun, hwhen]
  exact (ite_not ..).symm

/-- Without a commit the sample only takes the level. -/
theorem holdSample_none (hc : b.sync.commit = none) (high : Bool) : b.holdSample high = b.setFlag 0 SYNC_STAT.HOLD_IN high := by
  have hcommit : (b.setFlag 0 SYNC_STAT.HOLD_IN high).sync.commit = none := hc
  simp only [holdSample, holdLevel, hcommit]

/-- With a commit pending, its generation comes into force at the boundary for which it was decided (R321). -/
theorem commitApply_of (hc : b.sync.commit = some c) :
    b.commitApply = if c.apply = true ∧ b.atBoundary = true ∧ c.target ≤ b.tick then
      let old := b
      let ks := b.tagged c.gen
      let x := ks.foldl tagApply (b, ({} : Touched))
      let b := x.1.set 0 TICK_K_ACT.K (x.1.get 0 TICK_K.K)
      let b := (List.range 16).foldl (fun b f => if b.inStep f && periodsTagged f ks then b.restream f else b) b
      let b := underruns old b
      let y := (List.range 16).foldl (fun y f => progWrites y.1 f y.2) (b, x.2)
      let b := ((List.range 16).foldl progActs (latchUnits old y.1 y.2)).tickFields
      let b := { b with sync := { b.sync with commit := none } }
      let b := (((b.set 0 MODE_GEN.GEN c.gen).set 0 COMMIT_STAT.WCNT 0).set 0 COMMIT_STAT.STATE 2).set 0 COMMIT_STAT.LTICK b.tick
      ((b.kPendSync).complete c.queue b.tick 0).arrive 575
    else b := by
  simp only [commitApply, hc]

end Block
end Sys2Proof.Machine
end

section
/-!
PROOFS. A staged generation from COMMIT to COMMIT_APPLY.
-/
namespace Sys2Proof.Proofs
open Sys2Proof.Machine

/-- Settles O33: each command by what it does to the pending commit; where it is not due it is the command that leaves the block. -/
theorem commitsAreJudgedHeldAndApplied : Obligations.CommitsAreJudgedHeldAndApplied := by
  intro s q ws high
  dsimp only
  refine ⟨fun hq hw => ?_, fun hq hw => ?_, fun hq => ?_, fun hc => ⟨?_, ?_, ?_, ?_⟩, fun c hc => ?_⟩
  · exact exec_of_on _ rfl (by simp only [hq]; exact if_pos hw)
  · exact exec_of_on _ rfl (by simp only [hq]; exact if_neg (not_not.mpr hw))
  · exact exec_self_of_on _ rfl (by simp only [hq])
  · exact exec_self_of_on _ rfl (by simp only [Block.readiness, hc])
  · exact exec_self_of_on _ rfl (by simp only [Block.holdRelease, hc])
  · exact exec_self_of_on _ rfl (by simp only [Block.commitApply, hc])
  · exact exec_of_on _ rfl (Block.holdSample_none hc high)
  · refine ⟨fun h => ?_, fun h => ?_, fun h => ?_, fun h => ?_, fun h => ?_, fun h => ?_, fun h => ?_, fun h => ?_⟩
    · exact exec_of_on _ rfl ((Block.readiness_of hc).trans (if_pos h))
    · exact exec_self_of_on _ rfl ((Block.readiness_of hc).trans (if_neg h))
    · exact exec_of_on _ rfl ((Block.holdRelease_of hc).trans (if_pos h))
    · exact exec_self_of_on _ rfl ((Block.holdRelease_of hc).trans (if_neg h))
    · exact exec_of_on _ rfl ((Block.holdSample_of hc high).trans ((if_pos h).trans (by
        simp only [Block.sampled, Bool.not_eq_true', Bool.and_eq_true]; rfl)))
    · exact exec_of_on _ rfl ((Block.holdSample_of hc high).trans (if_neg h))
    · exact exec_of_on _ rfl ((Block.commitApply_of hc).trans (if_pos h))
    · exact exec_self_of_on _ rfl ((Block.commitApply_of hc).trans (if_neg h))

end Sys2Proof.Proofs
end

section
/-!
PROOFS. Page DMA that the host ends early: a chunk that no longer fits is passed over, and a later, shorter one still moves.
-/
namespace Sys2Proof.Proofs
open Sys2Proof.Machine

/-- Slot 0 moves 32,832 bytes of a chain of two pages to the host: one whole page and the first 64 bytes of the next (R364). -/
def twoPageDma : State := State.reset.on (fun b =>
  let b := (b.set 0 OPSTAT.STATE 2).set 0 OPSTAT.OPC 0x25
  let b := (b.set 0 DIR_ENT0.STATE 1).set 0 DIR_ENT0.NEXT 1
  let b := (b.set 16 DIR_ENT0.STATE 1).setFlag 16 DIR_ENT0.LAST true
  { b with host := { b.host with slots := Sparse.set {} 0 { words := [0, 2 ^ 63, 0, 32832] } b.host.slots } })

theorem twoPageDma_plan : twoPageDma.blk.hbmKnock.dmaPlan 0 = ([(0, 0, 32768), (1, 0, 64)], false) := by decide +kernel

/-- The bytes that the operation of slot 0 reports as moved. -/
def movedBytes : Host.Outcome State Fault Refusal → Nat
  | .next t => t.blk.get 0 OPRES.VALUE
  | _ => 0

/-- The host took 64 bytes: the first chunk does not fit into them, the second does, and the model moves it. -/
theorem twoPageDma_moves_last : movedBytes (exec (.pageDmaDone 0 (List.replicate 8 0) true) twoPageDma) = 64 := by decide +kernel

/-- Refutes O43: a transfer to the host that fails after 64 bytes, before the end of its first chunk, still moves the second chunk, which
has 64 bytes; the chunks do not move in order as far as the transfer went. -/
theorem not_programsAndPagesMoveIntoTheMemories : ¬ Obligations.ProgramsAndPagesMoveIntoTheMemories := by
  intro h
  obtain ⟨-, -, -, -, hmoves, -⟩ := h twoPageDma 0 0 0 none (List.replicate 8 0) true 0
  have hnone := hmoves (by decide +kernel) 0 (by rw [Fin.val_zero, twoPageDma_plan]; decide)
  have hsame := congrArg movedBytes hnone
  rw [twoPageDma_moves_last] at hsame
  exact absurd hsame (by decide +kernel)

end Sys2Proof.Proofs
end

section
/-!
PROOFS. The repair of a patch row where the count of spare rows in use stands beyond the 64 that there are.
-/
namespace Sys2Proof.Proofs
open Sys2Proof.Machine

/-- Row 0 of sequencer 0 waits for its repair, and SPARE_ROWS, which has 7 bits, reads 65. -/
def rowDuePastSpares : State := State.reset.on (fun b =>
  { b.set 0 UC_SEQ.SPARE_ROWS 65 with flt := { b.flt with rowDue := [(0, 0)] } })

/-- SPARE_ROWS of sequencer 0 after a command. -/
def spareRowsInUse : Host.Outcome State Fault Refusal → Nat
  | .next t => t.blk.get 0 UC_SEQ.SPARE_ROWS
  | _ => 0

/-- The model takes no spare row there: `Block.rowMapTo` takes one only below 64. -/
theorem rowDuePastSpares_takes_none :
    spareRowsInUse (exec (.boundaryWorkStart (.patchRow 0 0)) rowDuePastSpares) = 65 := by decide +kernel

/-- An image for the commands of the statement that the counterexample does not use. -/
def noImage : SignedImage :=
  { len := 0, header := [], fuseOk := false, keyOk := false, sigOk := false, gcmOk := false, digestOk := false, patch := ⟨0, [], []⟩ }

/-- Refutes O45: with SPARE_ROWS at 65 the statement, which excepts 64 alone, has a due row take spare row 65, and the model maps none. -/
theorem not_storesRowsTakeoverAndPatches : ¬ Obligations.StoresRowsTakeoverAndPatches := by
  intro h
  obtain ⟨-, -, -, -, -, hrow, -⟩ := h rowDuePastSpares 0 0 0 0 0 [] 0 0 0 noImage false false
  have htaken := congrArg spareRowsInUse (hrow (by decide +kernel))
  rw [rowDuePastSpares_takes_none] at htaken
  exact absurd htaken (by decide +kernel)

end Sys2Proof.Proofs
end

section
/-!
SUPPORT. The shapes that the effects of instructions share: a result with its flags, a value moved, a compare, a hasp that must be held, a
record that is issued or waits (R167, R176, R177), and a long instruction that starts or goes on from a restart point (R181 to R186).
-/
namespace Sys2Proof.Machine

section
variable {i : Instr} {s : State} {f op n d v : Nat} {h : Halyr} {body : Effect} {e : SeqErr}

/-- An effect that gives its state away at once is followed by the end of an instruction. -/
theorem exec_carriedOut_of_ok {t : State} (hi : exec i s = .next (seqRun s f op e body)) (he : cleanErr e = true) (r : Ready s f op h)
    (hb : body h s = .ok t) : exec i s = .next (carriedOut t f id) := exec_ready hi he r hb

variable (hi : exec i s = .next (seqRun s f op .none body)) (r : Ready s f op h)
include hi r

/-- An effect on the block that is always made. -/
theorem exec_plain {g : Block → Block} (hb : body h s = plain f n (fun b => .ok (g b)) s) : exec i s = .next (executed s f n g) :=
  exec_executed hi r hb rfl

/-- An effect on the block that is made where `p` holds, and is else a program fault. -/
theorem exec_plain_if {p : Prop} [Decidable p] {c : Nat} {k : Block → Except Nat Block} {g : Block → Block}
    (hb : body h s = plain f n k s) (hok : p → k s.blk = .ok (g s.blk)) (hbad : ¬ p → k s.blk = .error c) :
    exec i s = .next (if p then executed s f n g else faulted s f c) := by
  by_cases hp : p
  · rw [if_pos hp]
    exact exec_executed hi r hb (hok hp)
  · rw [if_neg hp]
    exact exec_faulted hi r (hb.trans (plain_error (hbad hp)))

/-- A result in D with Z, N and C of it (R167). -/
theorem exec_result {c : Bool} (hb : body h s = result f d n (v, c) s) :
    exec i s = .next (executed s f n (fun k => (k.setG f d v).setFlags f (znc (s.blk.flags f) v c))) := exec_executed hi r hb rfl

/-- The flags of a difference that is written nowhere (R167). -/
theorem exec_compared {c : Bool} (hb : body h s = compared f (v, c) s) :
    exec i s = .next (executed s f 1 (fun k => k.setFlags f (znc (s.blk.flags f) v c))) := exec_executed hi r hb rfl

/-- A value moved to D, with no flag (R167). -/
theorem exec_moved (hb : body h s = moved f d n v s) : exec i s = .next (executed s f n (fun k => k.setG f d v)) :=
  exec_plain hi r hb

/-- An instruction that needs a hasp is a HASP fault without it (R176). -/
theorem exec_hasp {x : Nat} {t : State} (hnot : ¬ s.blk.holds f x = true → body h s = .error causeHasp)
    (hheld : s.blk.holds f x = true → exec i s = .next t) :
    exec i s = .next (if s.blk.holds f x = true then t else faulted s f 10) := by
  by_cases hx : s.blk.holds f x = true
  · rw [if_pos hx]
    exact hheld hx
  · rw [if_neg hx]
    exact exec_faulted hi r (hnot hx)

/-- The same for an effect on the block that is always made. -/
theorem exec_hasp_plain {x : Nat} {g : Block → Block} (hb : body h s = needHasp f x s (plain f n (fun b => .ok (g b)))) :
    exec i s = .next (if s.blk.holds f x = true then executed s f n g else faulted s f 10) :=
  exec_hasp hi r (fun hx => hb.trans (if_neg hx)) (fun hx => exec_plain hi r (hb.trans (if_pos hx)))

end

/-! ### Records, signals and acknowledgements -/

/-- A record is issued where the queue has room, and waits for room as for data; a site without a channel in the field is a fault (R177,
R178). -/
theorem recordOr_eq (f n site : Nat) (go : Block → Block) (s : State) :
    recordOr f n site go s = .ok (s.on (fun b =>
      if b.siteHere f site = false then (b.siteScan f).progFault f 2
      else if (b.spend f n).recRoom then go (b.spend f n)
      else ((b.spend f n).waitData f).count 0 RES_STAT.QWAITS 1)) := by
  cases hsite : s.blk.siteHere f site with
  | false => simp only [recordOr, State.on, hsite, Bool.not_false, if_true, causeOperand]
  | true => simp only [recordOr, State.on, hsite, Bool.not_true, Bool.false_eq_true, Bool.true_eq_false, if_false]

/-- The record of a RESULT of each kind: P for kinds 0 and 1, Ga for 1 and 4, and the vectors to be judged for 2 and 3 (R177, R178). -/
theorem issueResult_eq (b : Block) (f a site test k : Nat) (kind : Fin 5) :
    issueResult b f a site test k kind = (b.issueRec f 1 site test k kind (if kind.val < 2 then b01 (bit (b.flags f) 4) else 0) 0
      (if kind.val = 1 ∨ kind.val = 4 then b.greg f a else 0)
      (if kind.val = 2 ∨ kind.val = 3 then some (b.seq f).issued else none)).pcNext f := by
  match kind with
  | 0 | 1 | 2 | 3 | 4 => rfl

/-- The source that a SIGNAL names (R179). -/
def signalSource (b : Block) (f : Nat) : Src 1024 → Nat
  | .imm v => v.val
  | .reg a => b.greg f a % 1024

theorem signalEffect_eq (s : State) (f : Nat) (anchor : Bool) (src : Src 1024) :
    signalEffect f (.signalI anchor src) s = plain f 3 (fun b => if signalSource b f src < 658 then .error 2
      else .ok (if anchor then b.act f (.signal (signalSource b f src)) else b.arrive (signalSource b f src))) s := by
  cases src with
  | imm | reg => rfl

/-- SIGNAL raises a source from 658 on, at once or at its boundary; a lower one is a fault (R179). -/
theorem exec_signal {s : State} {f : Fin 16} {anchor : Bool} {src : Src 1024} {m : Nat} (r : Ready s f 0xD0 (.signalI anchor src))
    (hm : signalSource s.blk f src = m) :
    exec (.signalI f .none) s = .next (if m < 658 then faulted s f 2
      else executed s f 3 (fun b => if anchor then b.act f (.signal m) else b.arrive m)) := by
  subst hm
  by_cases hlow : signalSource s.blk f src < 658
  · rw [if_pos hlow]
    exact exec_faulted rfl r ((signalEffect_eq ..).trans (plain_error (if_pos hlow)))
  · rw [if_neg hlow]
    exact exec_executed rfl r (signalEffect_eq ..) (if_neg hlow)

theorem evackEffect_line (s : State) (f : Nat) (l : Fin 64) :
    evackEffect f (.evackLine l) s = plain f 3 (fun b =>
      if b.flag (FLD f + 8 * l.val) EV_SRC.VALID = true then .ok (evack f (b.get (FLD f + 8 * l.val) EV_SRC.SRC) b) else .error 2) s := rfl

/-! ### Long instructions -/

section
variable {s : State} {f : Nat} {d a b : Reg} {l : LongSt}

section
variable {mask : Fin 65536} {sel : Fin 10} {count : Fin 1024} {dwell mch : Fin 16}

theorem sweepEffect_resumed (hold : s.resumed f 0xE0 = some l) :
    sweepEffect f (.sweep d a b mask sel count dwell mch) s = .ok (sweepNext f mask sel count dwell s l) := by
  simp only [sweepEffect, hold]

/-- SWEEP starts where its points fit the store and its codes are valid (R181, R182). -/
theorem sweepEffect_start (hnew : s.resumed f 0xE0 = none) (hfit : s.blk.greg f d + count ≤ 1024)
    (hcodes : ∀ i < count.val, dacCodeOk sel (sweepCode (s.blk.greg f a) (s.blk.greg f b) i) = true) :
    sweepEffect f (.sweep d a b mask sel count dwell mch) s =
      let l : LongSt := { op := 0xE0, pc := s.blk.pc f, gd := s.blk.greg f d, ga := s.blk.greg f a, gb := s.blk.greg f b }
      .ok (sweepNext f mask sel count dwell (s.on (fun x => x.longStart f 6 l)) l) := by
  have hfits : storeFits (s.blk.greg f d) count = true := decide_eq_true hfit
  have hall : (List.range count).all (fun i => dacCodeOk sel (sweepCode (s.blk.greg f a) (s.blk.greg f b) i)) = true :=
    List.all_eq_true.mpr (fun i hi => hcodes i (List.mem_range.mp hi))
  simp only [sweepEffect, hnew, hfits, hall, Bool.not_true, Bool.false_eq_true, if_false]

end

section
variable {k : Fin 16} {sel : Fin 10} {judge : Fin 4} {dwell : Fin 8} {taddr : Fin 1024}

theorem searchEffect_resumed (hold : s.resumed f 0xE1 = some l) :
    searchEffect f (.searchI d a b k sel judge dwell taddr) s = .ok (searchNext f d k sel dwell s l) := by
  simp only [searchEffect, hold]

/-- SEARCH starts between two valid codes, the lower first (R181, R183). -/
theorem searchEffect_start (hnew : s.resumed f 0xE1 = none) (hlt : toSigned 64 (s.blk.greg f a) < toSigned 64 (s.blk.greg f b))
    (hlo : dacCodeOk sel (toSigned 64 (s.blk.greg f a)) = true) (hhi : dacCodeOk sel (toSigned 64 (s.blk.greg f b)) = true) :
    searchEffect f (.searchI d a b k sel judge dwell taddr) s =
      let l : LongSt := { op := 0xE1, pc := s.blk.pc f, ga := s.blk.greg f a, gb := s.blk.greg f b }
      .ok (searchNext f d k sel dwell (s.on (fun x => x.longStart f 6 l)) l) := by
  simp only [searchEffect, hnew, hlo, hhi, Int.not_le.mpr hlt, Bool.not_true, Bool.false_eq_true, or_self, if_false]

end

section
variable {mask ofs : Fin 65536} {lim : Bool}

/-- MEASALL starts where its results, and its limits with LIM, fit the store (R181, R184). -/
theorem measallEffect_start (hnew : s.resumed f 0xE2 = none) (hfit : s.blk.greg f d + 16 ≤ 1024)
    (hlim : lim = true → s.blk.greg f b + 32 ≤ 1024) :
    measallEffect f (.measall d b mask ofs lim) s =
      let m := tickOf s.blk f (.rel ofs)
      let l : LongSt := { op := 0xE2, pc := s.blk.pc f, gd := s.blk.greg f d, ga := ofSigned 64 m, gb := s.blk.greg f b }
      let t := s.on (fun x => x.longStart f 4 l)
      .ok (if tickReady t.blk m then measallStop f mask lim l t else t.on (fun x => x.waitFor f (.meas m.toNat))) := by
  have hfits : storeFits (s.blk.greg f d) 16 = true := decide_eq_true hfit
  have hlims : ¬ (lim = true ∧ (!storeFits (s.blk.greg f b) 32) = true) := by
    rintro ⟨hl, hno⟩
    rw [show storeFits (s.blk.greg f b) 32 = true from decide_eq_true (hlim hl)] at hno
    exact absurd hno (by decide)
  simp only [measallEffect, hnew, hfits, hlims, Bool.not_true, Bool.false_eq_true, or_self, if_false]

/-- From a restart point MEASALL goes on to its next masked channel (R186). -/
theorem measallEffect_channel {c : Nat} (hold : s.resumed f 0xE2 = some l) (hnext : measallNext mask l.done = some c) :
    measallEffect f (.measall d b mask ofs lim) s =
      let r := measallChan f l.gd l.gb lim (toSigned 64 l.ga) (s, l.failed) c
      .ok (measallStop f mask lim { l with done := c + 1, failed := r.2 } r.1) := by
  simp only [measallEffect, hold, measallRun, hnext]

/-- From a restart point behind its last masked channel MEASALL completes (R184). -/
theorem measallEffect_end (hold : s.resumed f 0xE2 = some l) (hnext : measallNext mask l.done = none) :
    measallEffect f (.measall d b mask ofs lim) s =
      .ok (s.on (fun x => (if lim then x.setFlags f (putP (x.flags f) (!l.failed)) else x).longEnd f)) := by
  simp only [measallEffect, hold, measallRun, measallStop, hnext]

end

section
variable {n : Fin 2048} {e : SeqErr}

theorem bmoveEffect_resumed {dir : Bool} (hold : s.resumed f 0xE3 = some l) :
    bmoveEffect f e (.bmove d a b n dir) s = .ok (if dir then bmoveCopy f n s l else bmoveNext f n s l) := by
  simp only [bmoveEffect, hold]

/-- BMOVE within the data store starts where both its ranges fit (R181, R185). -/
theorem bmoveEffect_store (hnew : s.resumed f 0xE3 = none) (hto : s.blk.greg f d + n ≤ 1024) (hfrom : s.blk.greg f a + n ≤ 1024) :
    bmoveEffect f e (.bmove d a b n true) s =
      let l : LongSt := { op := 0xE3, pc := s.blk.pc f, gd := s.blk.greg f d, ga := s.blk.greg f a, gb := s.blk.greg f b % 4096 }
      .ok (bmoveCopy f n (s.on (fun x => x.longStart f 0 l)) l) := by
  have hd : storeFits (s.blk.greg f d) n = true := decide_eq_true hto
  have ha : storeFits (s.blk.greg f a) n = true := decide_eq_true hfrom
  simp only [bmoveEffect, hnew, hd, ha, Bool.not_true, Bool.false_eq_true, and_false, or_self, if_false, if_true]

/-- BMOVE from a page that may be read starts with the request for it, unless its directory row cannot be read (R181, R185). -/
theorem bmoveEffect_page (he : cleanErr e = true) (hnew : s.resumed f 0xE3 = none) (hto : s.blk.greg f d + n ≤ 1024)
    (hfrom : s.blk.greg f b % 4096 + n ≤ 4096) (hread : s.blk.pageReadable (s.blk.greg f a) = true) :
    bmoveEffect f e (.bmove d a b n false) s =
      let r := s.blk.dirRead (s.blk.greg f a) (dirErr e)
      let x := if r.2 then (r.1.hbmReq 6 (s.blk.greg f a) f).waitData f else r.1.progFault f 6
      .ok (s.on (fun _ => if x.seqLive f then (x.longStart f 0
        { op := 0xE3, pc := s.blk.pc f, gd := s.blk.greg f d, ga := s.blk.greg f a, gb := s.blk.greg f b % 4096 }).waitData f else x)) := by
  have hd : storeFits (s.blk.greg f d) n = true := decide_eq_true hto
  simp only [bmoveEffect, hnew, hd, pageRead_eq he, hread, Nat.not_lt.mpr hfrom, Bool.not_true, Bool.false_eq_true, Bool.true_eq_false,
    false_and, or_self, if_false]
  exact (apply_ite (fun x : Block => (Except.ok { s with blk := x } : Except Nat State)) (_ = true) _ _).symm

end

end

end Sys2Proof.Machine
end

section
/-!
PROOFS. The instruction reference: arithmetic and moves, measurements, the units, records and events, and the long instructions.
-/
namespace Sys2Proof.Proofs
open Sys2Proof.Machine

/-- Settles O1: each effect is a result of Ga and Gb, or of Ga and the immediate. -/
theorem arithmeticInstructionsWriteTheirResults : Obligations.ArithmeticInstructionsWriteTheirResults := by
  intro s f d a b i
  exact ⟨fun r => exec_result rfl r rfl, fun r => exec_result rfl r rfl, fun r => exec_result rfl r rfl, fun r => exec_result rfl r rfl,
    fun r => exec_result rfl r rfl, fun r => exec_result rfl r rfl, fun r => exec_result rfl r rfl⟩

/-- Settles O2: shifts and EXT are results, compares write flags alone, and moves write D alone. -/
theorem shiftsComparesAndMovesWriteTheirResults : Obligations.ShiftsComparesAndMovesWriteTheirResults := by
  intro s f d a b n lsb msb i h sg
  exact ⟨fun r => exec_result rfl r rfl, fun r => exec_result rfl r rfl, fun r => exec_result rfl r rfl, fun r => exec_result rfl r rfl,
    fun r => exec_result rfl r rfl, fun r => exec_result rfl r rfl, fun r => exec_compared rfl r rfl, fun r => exec_compared rfl r rfl,
    fun r => exec_moved rfl r rfl, fun r => exec_moved rfl r rfl, fun r => exec_moved rfl r rfl, fun r => exec_result rfl r rfl⟩

/-- Settles O8: what is measured ends or waits as its tick or gate says; LIMIT and FREQ pass their range checks. -/
theorem measurementsReturnTheirWords : Obligations.MeasurementsReturnTheirWords := by
  intro s f d a x ch t clear g
  refine ⟨fun r => exec_carriedOut rfl rfl r rfl, fun r => exec_carriedOut rfl rfl r rfl, fun r => exec_carriedOut rfl rfl r rfl,
    fun r hlt => exec_plain rfl r (if_neg (Nat.ne_of_lt hlt)), fun r => exec_plain rfl r rfl,
    fun r hmin hmax => exec_plain rfl r (if_neg ?_), fun r => exec_carriedOut rfl rfl r rfl⟩
  exact not_or.mpr ⟨Nat.not_lt.mpr hmin, Nat.not_lt.mpr hmax⟩

/-- Settles O9: every instruction asks for its hasp first; CARM then for that of the stream, and DDSRUN for an entry of the list. -/
theorem unitInstructionsActOnTheirUnits : Obligations.UnitInstructionsActOnTheirUnits := by
  intro s f d line act e k given ask source
  refine ⟨fun r => exec_hasp rfl r (fun hnot => if_neg hnot) fun held => ?carm, fun r => exec_hasp_plain rfl r rfl,
    fun r => exec_hasp_plain rfl r rfl, fun r => exec_hasp_plain rfl r rfl,
    fun r => exec_hasp rfl r (fun hnot => if_neg hnot) fun held => ?ddsrun, fun r => exec_hasp_plain rfl r rfl,
    fun r => exec_hasp_plain rfl r rfl, fun r => exec_hasp_plain rfl r rfl, fun r => exec_hasp_plain rfl r rfl⟩
  case carm =>
    by_cases hstream : s.blk.flag (FLD f) CAP_CFG.STREAM = true ∧ s.blk.holds f (16 * f + 6) = false
    · rw [if_pos hstream]
      refine exec_faulted rfl r ((if_pos held).trans (if_pos ?_))
      rwa [Bool.and_eq_true, Bool.not_eq_true']
    · rw [if_neg hstream]
      refine exec_plain rfl r ((if_pos held).trans (if_neg ?_))
      rwa [Bool.and_eq_true, Bool.not_eq_true']
  case ddsrun =>
    refine exec_plain_if rfl r (if_pos held) (fun hin => if_neg ?_) (fun hout => if_pos ?_)
    · exact not_or.mpr (hin.imp Nat.not_lt.mpr Nat.not_lt.mpr)
    · exact (not_and_or.mp hout).imp Nat.not_le.mp Nat.not_le.mp

/-- Settles O10: RESULT and BIN share the way of a record, the two forms of SIGNAL its source; EVACK by line needs a valid one. -/
theorem recordAndEventInstructionsComplete : Obligations.RecordAndEventInstructionsComplete := by
  intro s f a d site test k kind bin anchor n l i tag signal record ack
  refine ⟨fun r => exec_carriedOut rfl rfl r ?result,
    fun r => exec_carriedOut rfl rfl r (recordOr_eq f 6 site (fun b => issueBin b f site bin) s), fun r => exec_signal r rfl,
    fun r => exec_signal r rfl, fun r => exec_plain rfl r rfl, fun r => ?evackLine, fun r => exec_plain rfl r rfl,
    fun r => exec_plain rfl r rfl⟩
  case result =>
    simp only [resultEffect, issueResult_eq]
    exact recordOr_eq ..
  case evackLine => exact exec_plain_if rfl r (evackEffect_line s f l) (fun hvalid => if_pos hvalid) (fun hnot => if_neg hnot)

/-- Settles O11: a long instruction starts where its bounds hold, and goes on from a restart point as its kind does. -/
theorem longInstructionsStartWithinTheirBounds : Obligations.LongInstructionsStartWithinTheirBounds := by
  intro s f d a b mask ofs sel count dwell mch k judge dwell8 taddr lim n l c e
  exact ⟨fun r hnew hfit hcodes => exec_carriedOut_of_ok rfl rfl r (sweepEffect_start hnew hfit hcodes),
    fun r hold => exec_carriedOut_of_ok rfl rfl r (sweepEffect_resumed hold),
    fun r hnew hlt hlo hhi => exec_carriedOut_of_ok rfl rfl r (searchEffect_start hnew hlt hlo hhi),
    fun r hold => exec_carriedOut_of_ok rfl rfl r (searchEffect_resumed hold),
    fun r hnew hfit hlim => exec_carriedOut_of_ok rfl rfl r (measallEffect_start hnew hfit hlim),
    fun r hold hnext => exec_carriedOut_of_ok rfl rfl r (measallEffect_channel hold hnext),
    fun r hold hnext => exec_carriedOut rfl rfl r (measallEffect_end hold hnext),
    fun r hnew hto hfrom => exec_carriedOut_of_ok rfl rfl r (bmoveEffect_store hnew hto hfrom),
    fun r hold => exec_carriedOut_of_ok rfl rfl r (bmoveEffect_resumed hold),
    fun r he hnew hto hfrom hread => exec_carriedOut rfl he r (bmoveEffect_page he hnew hto hfrom hread),
    fun r hold => exec_carriedOut rfl rfl r (bmoveEffect_resumed hold)⟩

end Sys2Proof.Proofs
end

section
/-!
SUPPORT. Bytes of the memories after a page is zeroed (R217), and after bytes are stored where a condition allows it (R216).
-/
namespace Sys2Proof.Machine

/-- Entries left out by their key are not found, the others as before. -/
theorem Sparse.find_filter_key {α : Type} (q : Nat → Bool) (k : Nat) (l : List (Nat × α)) :
    find k (l.filter (fun x => q x.1)) = if q k = true then find k l else none := by
  induction l with
  | nil => simp [find]
  | cons x t ih =>
    obtain ⟨j, v⟩ := x
    by_cases hj : j = k
    · subst hj
      by_cases hq : q j = true <;> simp [find, hq, ih]
    · by_cases hq : q j = true <;> simp [find, hq, hj, ih]

namespace Memory

/-- A page that is zero-filled reads zero; the other bytes are as before. -/
theorem byte_zeroPage (m : List Host.Cell) (p a : Nat) :
    byte (zeroPage m p) a = if a / 32768 = p then 0 else byte m a := by
  have hkey := Sparse.find_filter_key (fun k => !(decide (p * 32768 ≤ k) && decide (k < (p + 1) * 32768))) a m
  have hin : (!(decide (p * 32768 ≤ a) && decide (a < (p + 1) * 32768))) = true ↔ a / 32768 ≠ p := by
    simp only [Bool.not_eq_true', Bool.and_eq_false_iff, decide_eq_false_iff_not]
    omega
  simp only [byte, Sparse.get, zeroPage, zeroBytes, hkey, hin]
  split <;> rename_i h <;> simp [h]

/-- After pages are zero-filled in turn, each of their bytes is zero and every other byte is as before. -/
theorem byte_zeroPages (ps : List Nat) (m : List Host.Cell) (a : Nat) :
    byte (ps.foldl zeroPage m) a = if a / 32768 ∈ ps then 0 else byte m a := by
  induction ps generalizing m with
  | nil => simp
  | cons p ps ih =>
    rw [List.foldl_cons, ih, byte_zeroPage]
    by_cases hp : a / 32768 = p <;> simp [hp]

/-- Byte `x.1` stored at `x.2` bytes from `a`, where `q` allows that place. -/
def storeIf (q : Nat → Bool) (a : Nat) (m : List Host.Cell) (x : BitVec 8 × Nat) : List Host.Cell :=
  if q x.2 = true then setByte m (a + x.2) x.1 else m

/-- A byte that is stored at no allowed place is as before. -/
theorem byte_storeIf_ne {q : Nat → Bool} {a c : Nat} {x : BitVec 8 × Nat} (h : q x.2 = true → c ≠ a + x.2) (m : List Host.Cell) :
    byte (storeIf q a m x) c = byte m c := by
  unfold storeIf
  split
  · next hq => exact byte_setByte_ne _ (h hq)
  · rfl

theorem byte_foldl_storeIf_out {q : Nat → Bool} {a c : Nat} (l : List (BitVec 8 × Nat)) (h : ∀ x ∈ l, q x.2 = true → c ≠ a + x.2)
    (m : List Host.Cell) : byte (l.foldl (storeIf q a) m) c = byte m c := by
  induction l generalizing m with
  | nil => rfl
  | cons x l ih =>
    rw [List.foldl_cons, ih (fun y hy => h y (List.mem_cons_of_mem _ hy)), byte_storeIf_ne (h x List.mem_cons_self)]

/-- Bytes stored one after another, counted from `j`: an allowed place holds its byte. -/
theorem byte_foldl_storeIf {q : Nat → Bool} (a i : Nat) (data : List (BitVec 8)) (hi : i < data.length) :
    ∀ (j : Nat) (m : List Host.Cell), q (j + i) = true → byte ((data.zipIdx j).foldl (storeIf q a) m) (a + (j + i)) = data[i] := by
  induction data generalizing i with
  | nil => exact absurd hi (Nat.not_lt_zero _)
  | cons v data ih =>
    intro j m hq
    rw [List.zipIdx_cons, List.foldl_cons]
    cases i with
    | zero =>
      have hlater : ∀ x ∈ data.zipIdx (j + 1), q x.2 = true → a + (j + 0) ≠ a + x.2 := fun x hx _ => by
        have hle := List.le_snd_of_mem_zipIdx hx
        omega
      have hstored : storeIf q a m (v, j) = setByte m (a + (j + 0)) v := if_pos hq
      rw [byte_foldl_storeIf_out _ hlater, hstored, byte_setByte_self]
      rfl
    | succ i =>
      have hmove : j + (i + 1) = j + 1 + i := by omega
      rw [hmove] at hq ⊢
      exact ih i (Nat.lt_of_succ_lt_succ hi) (j + 1) _ hq

end Memory
end Sys2Proof.Machine
end

section
/-!
SUPPORT. The page window (R216, R217): what an access does where it is open, and what it leaves of the page directory.
-/
namespace Sys2Proof.Machine

/-- A field of a register below another's is written apart from it. -/
theorem Block.get_set_of_lt {base base' : Nat} {F G : Fld} (h : base + F.off < base' + G.off) (hF : F.lo < 64) (b : Block) (v : Nat) :
    (b.set base F v).get base' G = b.get base' G := by
  refine b.get_set_ne v ?_
  unfold fkey
  omega

/-! ### The page directory -/

/-- The page directory holds the same entries: its registers are those from 0x1000000 on (R213). -/
def SamePages (b c : Block) : Prop := ∀ (base : Nat) (F : Fld), 0x1000000 ≤ F.off → c.get base F = b.get base F

theorem SamePages.refl (b : Block) : SamePages b b := fun _ _ _ => rfl

theorem SamePages.trans {b c d : Block} (h : SamePages b c) (k : SamePages c d) : SamePages b d :=
  fun base F hF => (k base F hF).trans (h base F hF)

theorem samePages_foldl {α : Type} {f : Block → α → Block} (hf : ∀ b x, SamePages b (f b x)) (l : List α) :
    ∀ b, SamePages b (l.foldl f b) := by
  induction l with
  | nil => exact SamePages.refl
  | cons x l ih => exact fun b => (hf b x).trans (ih _)

/-- A module register lies below the page directory. -/
theorem samePages_set {F : Fld} (h : F.off < 0x1000000 ∧ F.lo < 64) (b : Block) (v : Nat) : SamePages b (b.set 0 F v) :=
  fun _ _ hG => Block.get_set_of_lt (by omega) h.2 b v

theorem samePages_hbmKnock (b : Block) : SamePages b b.hbmKnock := by
  unfold Block.hbmKnock
  split
  · exact (samePages_set (by decide) _ _).trans (samePages_set (by decide) _ _)
  · exact .refl b

theorem samePages_dirLast (b : Block) (p r c : Nat) : SamePages b (b.dirLast p r c) :=
  (((samePages_set (by decide) _ _).trans (samePages_set (by decide) _ _)).trans (samePages_set (by decide) _ _)).trans
    (samePages_set (by decide) _ _)

/-- A refused write is counted and recorded, and changes no page (R216). -/
theorem samePages_refused (b : Block) (p : Nat) : SamePages b ((b.count 0 DIR_STAT.WR_REFUSED 1).dirLast p 0x70 0x32) :=
  (samePages_set (by decide) _ _).trans (samePages_dirLast _ _ _ _)

section
variable {b c : Block} (h : SamePages b c) (p : Nat)
include h

theorem SamePages.pgState : c.pgState p = b.pgState p := h _ _ (by decide)
theorem SamePages.pgOwner : c.pgOwner p = b.pgOwner p := h _ _ (by decide)
theorem SamePages.pgProt : c.pgProt p = b.pgProt p := congrArg (· != 0) (h _ _ (by decide))

theorem SamePages.bar2Writable : bar2Writable c p = bar2Writable b p := by
  simp only [Machine.bar2Writable, h.pgState, h.pgOwner, h.pgProt]

end

/-! ### The accesses -/

theorem bar2Open_iff {b : Block} : bar2Open b = true ↔ b.flag 0 HQ_STAT.READY = true ∧ b.get 0 HBM_STAT.STATE ≠ 0 := by
  rw [bar2Open, Bool.and_eq_true, bne_iff_ne]

theorem exec_bar2Write {a : Nat} {data : List Byte} (h : a + data.length ≤ 2 ^ 35) (s : State) :
    exec (.bar2Write a data) s = .next (bar2Write s a data) := if_neg (Nat.not_lt.mpr h)

theorem exec_bar2Write_outside {a : Nat} {data : List Byte} (h : 2 ^ 35 < a + data.length) (s : State) :
    exec (.bar2Write a data) s = .fault .outsideWindow := if_pos h

theorem exec_bar2Read {a n : Nat} (h : a + n ≤ 2 ^ 35) (s : State) : exec (.bar2Read a n) s = .next (bar2Read s a n) :=
  if_neg (Nat.not_lt.mpr h)

theorem exec_bar2Read_outside {a n : Nat} (h : 2 ^ 35 < a + n) (s : State) : exec (.bar2Read a n) s = .fault .outsideWindow := if_pos h

/-- A write before the pages are reached changes nothing. -/
theorem bar2Write_closed {s : State} (h : bar2Open s.blk = false) (a : Nat) (data : List Byte) : bar2Write s a data = s := by
  simp only [bar2Write, h, Bool.not_false, if_true]

/-- A write stores its bytes on the pages that are writable as it comes: its own records leave the directory. -/
theorem bar2Write_mem {s : State} (h : bar2Open s.blk = true) (a : Nat) (data : List Byte) : (bar2Write s a data).mem =
    data.zipIdx.foldl (Memory.storeIf (fun i => bar2Writable s.blk ((a + i) / 32768)) a) s.mem := by
  have hsame := fun bad => (samePages_hbmKnock s.blk).trans (samePages_foldl samePages_refused bad s.blk.hbmKnock)
  simp only [bar2Write, h, Bool.not_true, Bool.false_eq_true, if_false, (hsame _).bar2Writable]
  rfl

/-- The byte that a read returns where the pages are reached is judged by the directory as it stands. -/
theorem bar2Read_byte {s : State} (h : bar2Open s.blk = true) (a : Nat) {n i : Nat} (hi : i < n) :
    (bar2Read s a n).blk.host.lastRead.getD i 0 = bar2Byte s.blk.hbmKnock s.mem a i := by
  simp [bar2Read, h, hi]

theorem bar2Read_length (s : State) (a n : Nat) : (bar2Read s a n).blk.host.lastRead.length = n := by
  simp [bar2Read]

theorem bar2Byte_prot {b : Block} {a i : Nat} (h : b.pgProt ((a + i) / 32768) = true) (m : List Host.Cell) : bar2Byte b m a i = 0xFF :=
  if_pos h

theorem bar2Byte_stored {b : Block} {a i : Nat} (h : b.pgProt ((a + i) / 32768) = false) (hframe : b.pgState ((a + i) / 32768) ≠ 4)
    (m : List Host.Cell) : bar2Byte b m a i = (Memory.byte m (a + i)).toNat := by
  rw [bar2Byte, if_neg (by rw [h]; decide), if_neg hframe]

/-! ### The end of SEG_FREE -/

section
variable {s : State} {k : Fin 256}

theorem exec_segFreeDone_freed (h : s.blk.slotRuns k 0x23 = true) (hc : s.blk.freeCode (s.blk.slotWord k 1 % 2 ^ 20) = 0) :
    exec (.segFreeDone k) s = .next { s with
      blk := (s.blk.chainFree (s.blk.slotWord k 1 % 2 ^ 20)).slotEnd k 0
      mem := (s.blk.chain (s.blk.slotWord k 1 % 2 ^ 20)).foldl zeroPage s.mem } :=
  congrArg Host.Outcome.next ((if_pos h).trans (if_pos hc))

theorem exec_segFreeDone_barred (h : s.blk.slotRuns k 0x23 = true) (hc : s.blk.freeCode (s.blk.slotWord k 1 % 2 ^ 20) ≠ 0) :
    exec (.segFreeDone k) s = .next { s with
      blk := (s.blk.dirLast (s.blk.slotWord k 1 % 2 ^ 20) (Block.queueOwner (s.blk.slot k).queue)
        (s.blk.freeCode (s.blk.slotWord k 1 % 2 ^ 20))).slotEnd k (s.blk.freeCode (s.blk.slotWord k 1 % 2 ^ 20)) } :=
  congrArg Host.Outcome.next ((if_pos h).trans (if_neg hc))

theorem exec_segFreeDone_not_run (h : s.blk.slotRuns k 0x23 = false) : exec (.segFreeDone k) s = .next s :=
  congrArg Host.Outcome.next (if_neg (ne_true_of_eq_false h))

end

end Sys2Proof.Machine
end

section
/-!
SUPPORT. SEG_SEAL, SEG_UNSEAL and SEG_FREE by the code that each ends with (R214), and the dictionary window (R208).
-/
namespace Sys2Proof.Machine
namespace Block

/-- A seal or unseal ends with its code, and sets the chain where that is 0 (R214). -/
def segSettle (b : Block) (q p st c : Nat) : Block := (if c = 0 then b.chainSet st p else b).segDone q p 0 c

/-- The code with which SEG_UNSEAL ends, 0 where it is done (R214). -/
def unsealCode (b : Block) (p : Nat) : Nat :=
  (b.chainRefuse p).getD (if b.pgOwner p ≠ 1 then 0x35 else if b.pgState p ≠ 2 then 0x32 else 0)

/-- No refusal of a chain has the code of success. -/
theorem chainRefuse_ne_zero {b : Block} {p c : Nat} (h : b.chainRefuse p = some c) : c ≠ 0 := by
  unfold chainRefuse at h
  repeat' split at h
  all_goals cases h
  all_goals decide

end Block

theorem sealCode_eq (m : List Host.Cell) (b : Block) (p : Nat) :
    sealCode m b p = (b.chainRefuse p).getD (if b.pgOwner p ≠ 1 then 0x35 else if b.pgState p ≠ 1 then 0x32
      else if headerOk m p = false then 0x33 else if headerPages m p ≠ (b.chain p).length then 0x34 else 0) := by
  unfold sealCode
  cases b.chainRefuse p <;> simp only [Option.getD, Bool.not_eq_true']

namespace Block

theorem segSeal_eq (b : Block) (m : List Host.Cell) (q p err : Nat) :
    b.segSeal m q p err =
      let r := b.dirRead p err
      r.1.segSettle q p 2 (if r.2 = false then 0x36 else sealCode m r.1 p) := by
  unfold segSeal
  obtain ⟨x, ok⟩ := b.dirRead p err
  cases ok <;> rfl

theorem segUnseal_eq (b : Block) (q p err : Nat) :
    b.segUnseal q p err =
      let r := b.dirRead p err
      r.1.segSettle q p 1 (if r.2 = false then 0x36 else r.1.unsealCode p) := by
  unfold segUnseal
  obtain ⟨x, ok⟩ := b.dirRead p err
  cases ok with
  | false => rfl
  | true =>
    cases hc : x.chainRefuse p with
    | some c =>
      simp only [hc, unsealCode, segSettle, Option.getD, if_neg (chainRefuse_ne_zero hc), Bool.not_true, Bool.false_eq_true,
        Bool.true_eq_false, if_false]
    | none =>
      simp only [hc, unsealCode, Option.getD, Bool.not_true, Bool.false_eq_true, Bool.true_eq_false, if_false]
      repeat' split
      all_goals rfl

theorem segFree_eq (b : Block) (q p err : Nat) :
    b.segFree q p err =
      let r := b.dirRead p err
      let c := if r.2 = false then 0x36 else r.1.freeCode p
      if c ≠ 0 then (r.1.dirLast p (0x20 + q) c).complete q 0 c
      else if r.1.pgProt p then (r.1.dirLast p (0x20 + q) (if r.1.freeSlot.isNone then 0x03 else 0)).takeSlot q []
      else ((r.1.chainFree p).dirLast p (0x20 + q) 0).complete q 0 0 := by
  unfold segFree
  obtain ⟨x, ok⟩ := b.dirRead p err
  cases ok <;> rfl

theorem segAlloc_eq (b : Block) (q kind field n hint err : Nat) :
    b.segAlloc q kind field n hint err =
      let r := b.dirRead hint err
      let ps := r.1.freePages 1048576 n hint
      if r.2 = false then (r.1.dirLast hint (0x20 + q) 0x36).complete q 0 0x36
      else if ps.length < n then (r.1.dirLast hint (0x20 + q) 0x30).complete q 0 0x30
      else ((r.1.chainAlloc kind field ps).dirLast (ps.headD 0) (0x20 + q) 0).complete q (ps.headD 0) 0 := by
  unfold segAlloc
  obtain ⟨x, ok⟩ := b.dirRead hint err
  cases ok <;> rfl

end Block

section
variable {s : State} {q : Fin 64} {e : Fin 5} {ws : List Nat}

theorem exec_segAlloc (h : s.blk.cmdOf q 0x20 = some ws) : exec (.segAlloc q e) s = .next (s.on (fun b =>
    b.segAlloc q (bits (ws.getD 1 0) 0 4) (bits (ws.getD 1 0) 4 4) (bits (ws.getD 1 0) 24 17) (bits (ws.getD 2 0) 0 20) e)) :=
  exec_of_on _ rfl (by simp only [h])

theorem exec_segSeal (h : s.blk.cmdOf q 0x21 = some ws) : exec (.segSeal q e) s = .next (s.on (fun b =>
    b.segSeal s.mem q (bits (ws.getD 1 0) 0 20) e)) := exec_of_on _ rfl (by simp only [h])

theorem exec_segUnseal (h : s.blk.cmdOf q 0x22 = some ws) : exec (.segUnseal q e) s = .next (s.on (fun b =>
    b.segUnseal q (bits (ws.getD 1 0) 0 20) e)) := exec_of_on _ rfl (by simp only [h])

theorem exec_segFree (h : s.blk.cmdOf q 0x23 = some ws) : exec (.segFree q e) s = .next (s.on (fun b =>
    b.segFree q (bits (ws.getD 1 0) 0 20) e)) := exec_of_on _ rfl (by simp only [h])

theorem exec_segAlloc_none (h : s.blk.cmdOf q 0x20 = none) : exec (.segAlloc q e) s = .next s :=
  exec_self_of_on _ rfl (by simp only [h])

theorem exec_segSeal_none (h : s.blk.cmdOf q 0x21 = none) : exec (.segSeal q e) s = .next s :=
  exec_self_of_on _ rfl (by simp only [h])

theorem exec_segUnseal_none (h : s.blk.cmdOf q 0x22 = none) : exec (.segUnseal q e) s = .next s :=
  exec_self_of_on _ rfl (by simp only [h])

theorem exec_segFree_none (h : s.blk.cmdOf q 0x23 = none) : exec (.segFree q e) s = .next s :=
  exec_self_of_on _ rfl (by simp only [h])

end

/-- A write of symbols to the dictionary of an idle field stores them (R208). -/
theorem dictAccess_write {s : State} {f v : Nat} (hi : s.blk.idle f = true) (hv : symbolsOk v = true) :
    dictAccess s f (some v) = { s with
      blk := bumpAddr s.blk (FLD f) SOW_DCA.ADDR 4096
      mem := setDictWord s.mem f (s.blk.get (FLD f) SOW_DCA.ADDR) v } := by
  simp only [dictAccess, hi, hv, Bool.not_true, Bool.false_eq_true, or_self, if_false]

/-- Any other write is a configuration error of the field (R226). -/
theorem dictAccess_refused {s : State} {f v : Nat} (h : s.blk.idle f = false ∨ symbolsOk v = false) :
    dictAccess s f (some v) = s.on (fun b => b.fault (272 + f) 0) :=
  if_pos (h.imp (Bool.not_eq_true' _).mpr (Bool.not_eq_true' _).mpr)

end Sys2Proof.Machine
end

section
/-!
PROOFS. The segment chapter: the commands that change the page directory, and the page window byte by byte.
-/
namespace Sys2Proof.Proofs
open Sys2Proof.Machine

/-- Settles O23: each command of a queue by the code that it ends with; the end of SEG_FREE and the dictionary window by their guards. -/
theorem segmentCommandsChangeTheDirectory : Obligations.SegmentCommandsChangeTheDirectory := by
  intro s q e k f ws w b w1 p hint n a sp
  refine ⟨fun h => ?allocates, fun h => ?seals, fun h => ?unseals, fun h => ?frees, exec_segAlloc_none, exec_segSeal_none, exec_segUnseal_none,
    exec_segFree_none, exec_segFreeDone_freed, exec_segFreeDone_barred, exec_segFreeDone_not_run, rfl,
    fun hi hv => congrArg _ (dictAccess_write hi hv), fun h => congrArg _ (dictAccess_refused h)⟩
  case allocates =>
    simp only [exec_segAlloc h, Block.segAlloc_eq]
    rfl
  case seals =>
    simp only [exec_segSeal h, Block.segSeal_eq, sealCode_eq]
    rfl
  case unseals =>
    simp only [exec_segUnseal h, Block.segUnseal_eq]
    rfl
  case frees =>
    simp only [exec_segFree h, Block.segFree_eq]
    rfl

/-- Settles O24: a write is a fold of its bytes over the memory, each stored where its page takes writes; the freed chain is zero-filled page
by page. -/
theorem pageWindowReadsAndWritesItsBytes : Obligations.PageWindowReadsAndWritesItsBytes := by
  intro s a n data k p ready
  have hready : bar2Open s.blk = true ↔ ready := bar2Open_iff
  refine ⟨fun hr hin => ?write, fun hr hin => ?_, fun hout => exec_bar2Write_outside hout s, fun hr hin => ?read,
    fun _ hin => ⟨_, exec_bar2Read hin s, rfl, bar2Read_length s a n⟩, fun hout => exec_bar2Read_outside hout s,
    fun hrun hc => ?freed, fun h => ?kept⟩
  case write =>
    refine ⟨_, exec_bar2Write hin s, ?_⟩
    dsimp only
    rw [bar2Write_mem (hready.mpr hr)]
    refine ⟨fun i h hw => ?_, fun i h hw => Memory.byte_foldl_storeIf_out _ (fun x _ hq e => ?_) _,
      fun x hx => Memory.byte_foldl_storeIf_out _ (fun y hy _ => ?_) _⟩
    · have hstored := Memory.byte_foldl_storeIf (q := fun i => bar2Writable s.blk ((a + i) / 32768)) a i data h 0 s.mem
      simp only [Nat.zero_add] at hstored
      exact hstored hw
    · obtain rfl : i = x.2 := Nat.add_left_cancel e
      exact Bool.false_ne_true (hw.symm.trans hq)
    · have hlt := List.snd_lt_of_mem_zipIdx hy
      omega
  · rw [exec_bar2Write hin, bar2Write_closed (Bool.eq_false_iff.mpr (mt hready.mp hr))]
  case read =>
    refine ⟨_, exec_bar2Read hin s, rfl, bar2Read_length s a n, fun i hi => ?_⟩
    have hsame := samePages_hbmKnock s.blk
    rw [bar2Read_byte (hready.mpr hr) a hi, ← hsame.pgProt, ← hsame.pgState]
    exact ⟨fun hp => bar2Byte_prot hp _, fun hp hframe => bar2Byte_stored hp hframe _⟩
  case freed =>
    refine ⟨_, exec_segFreeDone_freed hrun hc, fun x hx => ?_, fun x hx => ?_⟩
    · exact (Memory.byte_zeroPages _ _ x).trans (if_pos hx)
    · exact (Memory.byte_zeroPages _ _ x).trans (if_neg hx)
  case kept =>
    by_cases hrun : s.blk.slotRuns k 0x23 = true
    · exact ⟨_, exec_segFreeDone_barred hrun (h.resolve_left (ne_false_of_eq_true hrun)), rfl⟩
    · exact ⟨_, exec_segFreeDone_not_run (Bool.eq_false_iff.mpr hrun), rfl⟩

/-- Settles O57: every arm but the two of BAR2 answers a next state by its form; those two ask first whether the access ends in the window. -/
theorem nothingIsRefusedAndOnlyTheWindowFaults : Obligations.NothingIsRefusedAndOnlyTheWindowFaults := by
  intro c s
  cases c with
  | bar2Write a data =>
    rcases Nat.lt_or_ge (2 ^ 35) (a + data.length) with hout | hin
    · exact .inr ⟨exec_bar2Write_outside hout s, .inl ⟨a, data, rfl, hout⟩⟩
    · exact .inl ⟨_, exec_bar2Write hin s⟩
  | bar2Read a n =>
    rcases Nat.lt_or_ge (2 ^ 35) (a + n) with hout | hin
    · exact .inr ⟨exec_bar2Read_outside hout s, .inr ⟨a, n, rfl, hout⟩⟩
    · exact .inl ⟨_, exec_bar2Read hin s⟩
  | _ => exact .inl ⟨_, rfl⟩

end Sys2Proof.Proofs
end

section
/-!
SUPPORT. How a service of the Keyring is turned away or carried out (R438, R439, R446, R447), and what its ends do.
-/
namespace Sys2Proof.Machine
namespace Block

/-! ### A service asked for -/

/-- The code with which service `opc` of pair `q` is turned away, 0 where it is not, with every test a proposition (R439, R446). -/
def turnedAway (b : Block) (q opc need : Nat) : Nat :=
  if b.get 0 KR_STAT.STATE = 2 ∧ opc ∉ [0x48, 0x49, 0x4C, 0x4D] then 0x6B
  else if (need = 1 ∧ bit (b.get 0 KR_ROLE_USER.BITS) q = false ∧ bit (b.get 0 KR_ROLE_CO.BITS) q = false) ∨
    (need = 2 ∧ bit (b.get 0 KR_ROLE_CO.BITS) q = false) then 0x60
  else 0

theorem krRefuse_eq (b : Block) (q opc need : Nat) : b.krRefuse q opc need = b.turnedAway q opc need := by
  simp only [krRefuse, turnedAway, hasUser, hasCo, Bool.not_eq_true', Bool.or_eq_false_iff, List.contains_eq_mem, decide_eq_false_iff_not]

/-- A service on the words of its command: one that `waits` stays for a Keyring that tests itself or zeroises, any may be turned away, and
`f` carries it out. -/
def served (b : Block) (waits : Bool) (q opc need : Nat) (f : List Nat → Block → Block) : Block :=
  match b.cmdOf q opc with
  | none => b
  | some ws =>
    if waits = true ∧ (b.get 0 KR_STAT.STATE = 0 ∨ b.get 0 KR_STAT.STATE = 3) then b
    else if b.turnedAway q opc need ≠ 0 then b.complete q 0 (b.turnedAway q opc need) else f ws b

/-- Services carried out alike on the words that they may meet are the same. -/
theorem served_congr {b : Block} {f g : List Nat → Block → Block} (h : ∀ ws, f ws b = g ws b) (waits : Bool) (q opc need : Nat) :
    b.served waits q opc need f = b.served waits q opc need g := by
  unfold served
  cases b.cmdOf q opc with
  | none => rfl
  | some ws => simp only [h ws]

theorem krShort_eq (b : Block) (q opc need : Nat) (f : List Nat → Block → Block) :
    b.krShort q opc need f = b.served true q opc need f := by
  unfold krShort served
  cases b.cmdOf q opc with
  | none => rfl
  | some ws => simp only [krWaits, krRefuse_eq, Bool.or_eq_true, beq_iff_eq, true_and]

theorem krLong_eq (b : Block) (q opc need : Nat) (f : List Nat → Block → Block) :
    b.krLong q opc need f = b.served false q opc need f := by
  unfold krLong served
  cases b.cmdOf q opc with
  | none => rfl
  | some ws => simp only [krRefuse_eq, Bool.false_eq_true, false_and, if_false]

end Block

section
variable {i : Instr} {s : State} {q opc need : Nat} {f g : List Nat → Block → Block}

theorem exec_krShort (hi : exec i s = .next (s.on (fun b => b.krShort q opc need f))) (h : ∀ ws, f ws s.blk = g ws s.blk) :
    exec i s = .next (s.on (fun b => b.served true q opc need g)) :=
  exec_of_on _ hi ((Block.krShort_eq _ _ _ _ _).trans (Block.served_congr h _ _ _ _))

theorem exec_krLong (hi : exec i s = .next (s.on (fun b => b.krLong q opc need f))) (h : ∀ ws, f ws s.blk = g ws s.blk) :
    exec i s = .next (s.on (fun b => b.served false q opc need g)) :=
  exec_of_on _ hi ((Block.krLong_eq _ _ _ _ _).trans (Block.served_congr h _ _ _ _))

end

namespace Block

/-! ### Pattern keys and stream imports (R443, R444) -/

/-- The checks of a stream import in their order, with every test a proposition. -/
theorem importCode_eq (b : Block) (ws : List Nat) (plen : Nat) :
    b.importCode ws plen =
      let p := ws.getD 1 0 % 2 ^ 20
      if bit (b.get 0 KR_SLOTS.BITS) (bits (ws.getD 1 0) 32 6) = false then 0x68
      else if ws.getD 3 0 ≠ plen + 80 then 0x6F
      else if b.pgHead p = false then 0x31
      else if b.pgOwner p ≠ 1 then 0x35
      else if b.pgState p ≠ 1 ∨ b.importing p = true then 0x32
      else if (b.chain p).length * 32768 < plen then 0x34 else 0 := by
  simp only [importCode, Bool.not_eq_true']

/-- Clearing slot `i` forgets its key. -/
theorem find_keyClear_self (b : Block) (i : Nat) : Sparse.find i (b.keyClear i).kr.keys = none := Sparse.find_del_self i b.kr.keys

/-- Clearing slot `i` keeps every other key. -/
theorem find_keyClear_ne (b : Block) {i j : Nat} (h : j ≠ i) : Sparse.find j (b.keyClear i).kr.keys = Sparse.find j b.kr.keys :=
  Sparse.find_del_ne h b.kr.keys

theorem slots_keyClear (b : Block) (i : Nat) :
    (b.keyClear i).get 0 KR_SLOTS.BITS = clrBit (b.get 0 KR_SLOTS.BITS) i % 2 ^ 64 := by
  have hstat : fkey 0 KR_SLOTS.BITS ≠ fkey 0 KR_STAT.SLOTS := by decide
  have htag : fkey 0 KR_SLOTS.BITS ≠ fkey (8 * i) KR_SLOT_TAG.TAG := by
    simp only [fkey, KR_SLOTS.BITS, KR_SLOT_TAG.TAG]
    omega
  exact ((get_set_ne _ _ hstat).trans (get_set_ne _ _ htag)).trans (get_set_self _ _ _ _)

theorem tag_keyClear (b : Block) (i : Nat) : (b.keyClear i).get (8 * i) KR_SLOT_TAG.TAG = 0 := by
  have hstat : fkey (8 * i) KR_SLOT_TAG.TAG ≠ fkey 0 KR_STAT.SLOTS := by
    simp only [fkey, KR_SLOT_TAG.TAG, KR_STAT.SLOTS]
    omega
  exact (get_set_ne _ _ hstat).trans (get_set_self _ _ _ _)

end Block

/-! ### Ends that are not due (R444, R447, R449) -/

theorem streamImportDone_not_run {s : State} {k : Nat} (h : s.blk.slotRuns k 0x45 = false) (plain : Option (List Nat)) :
    streamImportDone s k plain = s := by
  simp only [streamImportDone, h, Bool.not_false, if_true]

theorem zeroiseDone_not_due {s : State} {k : Nat} (h : s.blk.slotRuns k 0x48 = false ∨ s.blk.flashOutcome 4 k = none) :
    zeroiseDone s k = s := by
  unfold zeroiseDone
  split
  · next hrun => simp only [h.resolve_left (ne_false_of_eq_true hrun)]
  · rfl

theorem returnPrepDone_not_due {s : State} {k : Nat} (h : s.blk.slotRuns k 0x4C = false ∨ s.blk.flashOutcome 5 k = none) :
    returnPrepDone s k = s := by
  unfold returnPrepDone
  split
  · next hrun => simp only [h.resolve_left (ne_false_of_eq_true hrun)]
  · rfl

end Sys2Proof.Machine
end

section
/-!
PROOFS. The Keyring: keys, provisioning and attestation; zeroisation, stored images and returns.
-/
namespace Sys2Proof.Proofs
open Sys2Proof.Machine

/-- Settles O49: a service is what the Keyring lets through, short or long, carried out on the words of its command; an end is a guarded
change of the block, that of a stream import of the pages too. -/
theorem keysProvisioningAndAttestation : Obligations.KeysProvisioningAndAttestation := by
  intro s q co user kek keyTag plen key k plain b refuse serve w aux pages zeroed
  have short : ∀ {i opc need f} g, exec i s = .next (s.on (fun b => b.krShort q opc need f)) → (∀ ws, f ws b = g ws b) →
      exec i s = .next (serve true opc need g) := fun g hi h => exec_of_on _ (exec_krShort hi h) rfl
  have long : ∀ {i opc need f} g, exec i s = .next (s.on (fun b => b.krLong q opc need f)) → (∀ ws, f ws b = g ws b) →
      exec i s = .next (serve false opc need g) := fun g hi h => exec_of_on _ (exec_krLong hi h) rfl
  refine ⟨long _ rfl fun _ => rfl, fun h => exec_of_on (·.provisionDone k) rfl (if_pos h),
    fun h => exec_self_of_on (·.provisionDone k) rfl (if_neg (ne_true_of_eq_false h)), short _ rfl fun ws => ?keyImport,
    long _ rfl fun ws => ?streamImport, fun h => congrArg _ (streamImportDone_not_run h _), fun h => ?streamDone,
    short _ rfl fun _ => rfl, fun i _ => ⟨b.find_keyClear_self i, fun j hj => b.find_keyClear_ne hj, b.slots_keyClear i, b.tag_keyClear i⟩,
    long _ rfl fun ws => ?attest, fun h => exec_of_on (·.attestDone k) rfl (if_pos h),
    fun h => exec_self_of_on (·.attestDone k) rfl (if_neg (ne_true_of_eq_false h)), short _ rfl fun _ => rfl⟩
  case keyImport => cases key <;> rfl
  case streamImport => simp only [Block.krStreamImport, Block.importCode_eq, Option.isNone_iff_eq_none]
  case streamDone =>
    have hrun : ¬ (!s.blk.slotRuns k 0x45) = true := by rw [h]; decide
    refine congrArg _ ((if_neg hrun).trans ?_)
    cases plain <;> rfl
  case attest => simp only [Block.krAttest, Option.isNone_iff_eq_none]

/-- Settles O50: as for the other services of the Keyring. The end of FW_UPDATE meets the stored image, its check and its flash job in turn. -/
theorem zeroisationStoredImagesAndReturns : Obligations.ZeroisationStoredImagesAndReturns := by
  intro s q img body k b refuse serve chains erased keysGone forget old
  have long : ∀ {i opc need f} g, exec i s = .next (s.on (fun b => b.krLong q opc need f)) → (∀ ws, f ws b = g ws b) →
      exec i s = .next (serve false opc need g) := fun g hi h => exec_of_on _ (exec_krLong hi h) rfl
  refine ⟨long _ rfl fun _ => ?zeroise, fun h good hf => congrArg Host.Outcome.next ?zeroised, fun h => congrArg _ (zeroiseDone_not_due h),
    long _ rfl fun _ => rfl, fun h => exec_self_of_on (·.fwUpdateDone k) rfl (if_neg (ne_true_of_eq_false h)),
    fun h => exec_of_on (·.fwUpdateDone k) rfl ?updated, long _ rfl fun _ => ?clrStore,
    fun h => exec_self_of_on (·.clrStoreDone k) rfl (if_neg (ne_true_of_eq_false h)),
    fun h => exec_of_on (·.clrStoreDone k) rfl (if_pos h), exec_of_on (·.krReturnPrep q) rfl ?returnPrep,
    fun h hf => congrArg Host.Outcome.next ?returned, fun h hf => congrArg Host.Outcome.next ?notRecorded,
    fun h => congrArg _ (returnPrepDone_not_due h)⟩
  case zeroise =>
    simp only [Block.krZeroise, Bool.not_eq_true']
    rfl
  case zeroised =>
    replace h : s.blk.slotRuns k 0x48 = true := h
    replace hf : s.blk.flashOutcome 4 k = some good := hf
    simp only [zeroiseDone, h, hf, if_true]
    rfl
  case updated =>
    replace h : s.blk.slotRuns k 0x4A = true := h
    simp only [Block.fwUpdateDone, h, if_true, Block.fwCode, Block.storedImg]
    cases Sparse.find k s.blk.kr.stored with
    | none => rfl
    | some img =>
      dsimp only
      split
      · rfl
      · cases s.blk.flashOutcome 2 k with
        | none => rfl
        | some good =>
          cases good with
          | false => exact if_neg Bool.false_ne_true
          | true => exact if_pos rfl
  case clrStore => cases body <;> rfl
  case returnPrep =>
    simp only [Block.krReturnPrep, Block.hasCo, Bool.not_eq_true']
    cases s.blk.cmdOf q 0x4C <;> rfl
  case returned =>
    replace h : s.blk.slotRuns k 0x4C = true := h
    replace hf : s.blk.flashOutcome 5 k = some true := hf
    simp only [returnPrepDone, h, hf, if_true]
    rfl
  case notRecorded =>
    replace h : s.blk.slotRuns k 0x4C = true := h
    replace hf : s.blk.flashOutcome 5 k = some false := hf
    simp only [returnPrepDone, h, hf, if_true]

end Sys2Proof.Proofs
end

section
/-!
SUPPORT. Stamps from the edge to the chain (R227 to R235), with the conditions of each operation as propositions.
-/
namespace Sys2Proof.Machine
namespace Block

/-! ### The edge -/

/-- What an edge does, for any spelling `live` of whether the open gate counts it (R228, R229, R240). -/
theorem tiaEdge_eq (b : Block) (s : Nat) (rising : Bool) (ofs : Nat) {live : Bool}
    (hlive : (rising && b.gateLive s (b.time.lastB * subHalf + ofs)) = live) :
    b.tiaEdge s rising ofs =
      let t := b.time.lastB * subHalf + ofs
      let sel := b.stampsEdge s rising t
      let b := if live then b.gateEdge s (fun g => { g with edges := g.edges + 1 }) else b
      if sel = false ∧ live = false then b
      else if (b.tia s).lastStamp.any (fun l => decide (t < l + 800)) = true then
        if sel then (b.count (SLC s) TIA_EVCNT.MISSED 1).updTia s (fun x => { x with gap := true }) else b
      else
        let full := decide (64 ≤ (b.tia s).fifo.length)
        let b := if live then (b.gateEdge s (fun g => gateStamp g t)).updTia s (fun x => { x with lastStamp := some t }) else b
        if sel = false then b
        else if full then b.stampLost s
        else
          (b.updTia s (fun x => { x with
            fifo := x.fifo ++ [(b.epochKey, t, b.stampWord s rising ofs)], gap := false, lastStamp := some t })).tiaLevel s := by
  simp only [tiaEdge, hlive, Bool.and_eq_true, Bool.not_eq_true']

/-! ### The chain's registers -/

theorem fchainWrite_eq (b : Block) (f v : Nat) :
    b.fchainWrite f v =
      let head := v % 2 ^ 20
      if b.idle f = true ∧ b.hostHeld (16 * f + 5) = true then
        if bit v 20 = true then
          if b.pgHead head = true ∧ b.pgOwner head = 3 ∧ b.pgUnit head = f ∧ b.pgState head = 1 then
            let b := (b.set (FLD f) TIA_FCHAIN.HEAD head).setFlag (FLD f) TIA_FCHAIN.EN true
            let b := (b.setFlag (FLD f) TIA_FCHAIN.FULL_SIG (bit v 21)).setFlag (FLD f) TIA_FSTAT.TRUNC false
            ((b.set (FLD f) TIA_FSTAT.PAGE head).set (FLD f) TIA_FSTAT.WORDS 0).updChain f
              (fun c => { c with epoch := none, detach := false })
          else b.fault (272 + f) 0
        else
          let b := (b.setFlag (FLD f) TIA_FCHAIN.FULL_SIG (bit v 21)).set (FLD f) TIA_FCHAIN.HEAD head
          if b.flag (FLD f) TIA_FCHAIN.EN then b.updChain f (fun c => { c with detach := true }) else b
      else b.fault (272 + f) 0 := by
  have refused : ((!b.idle f || !b.hostHeld (16 * f + 5)) = true) = ¬ (b.idle f = true ∧ b.hostHeld (16 * f + 5) = true) := by
    rw [← Bool.not_and, Bool.not_eq_true', ← Bool.not_eq_true, Bool.and_eq_true]
  simp only [fchainWrite, refused, ite_not]

theorem chainDetach_eq (b : Block) (f : Nat) :
    b.chainDetach f =
      if (b.chainSt f).detach = true ∧ (b.flag (FLD f) TIA_FSTAT.TRUNC = true ∨
          (b.get (FLD f) TIA_FSTAT.WORDS % 4096 = 0 ∧ b.nextFifo f = none)) then
        (b.setFlag (FLD f) TIA_FCHAIN.EN false).updChain f (fun c => { c with detach := false })
      else b := by
  simp only [chainDetach, Option.isNone_iff_eq_none]

/-- A read of TIA_POP that finds no stamp, or one that belongs to the chain, answers a padding word (R233). -/
theorem tiaPop_padding {b : Block} {s : Nat} (h : (b.tia s).fifo = [] ∨ b.flag (FLD (s / 17)) TIA_FCHAIN.EN = true) :
    b.tiaPop s = { b with host := { b.host with lastRead := [0] } } := by
  unfold tiaPop
  split
  · rfl
  · next hf => exact if_pos (h.resolve_left (by simp [hf]))

/-- Without a chain it takes the oldest stamp (R233, R245). -/
theorem tiaPop_stamp {b : Block} {s : Nat} {x : Nat × Nat × Nat} {rest : List (Nat × Nat × Nat)} (hf : (b.tia s).fifo = x :: rest)
    (he : b.flag (FLD (s / 17)) TIA_FCHAIN.EN = false) :
    b.tiaPop s =
      let b := (b.updTia s (fun t => { t with fifo := rest })).tiaLevel s
      { b with host := { b.host with lastRead := [x.2.2] } } := by
  simp only [tiaPop, hf, he, Bool.false_eq_true, if_false]

end Block

/-! ### The writer -/

section
variable {s : State} {f : Nat}

/-- Without a chain, or stopped at its end, the writer does nothing (R232, R235). -/
theorem stampWrite_stopped (h : ¬ (s.blk.flag (FLD f) TIA_FCHAIN.EN = true ∧ s.blk.flag (FLD f) TIA_FSTAT.TRUNC = false)) :
    stampWrite s f = s := by
  rw [not_and_or, Bool.not_eq_true, Bool.not_eq_false, ← Bool.not_eq_true'] at h
  exact if_pos h

variable (hchain : s.blk.flag (FLD f) TIA_FCHAIN.EN = true ∧ s.blk.flag (FLD f) TIA_FSTAT.TRUNC = false)
include hchain

/-- While the memory takes no request a stamp that waits only wakes it (R14, R350). -/
theorem stampWrite_asleep (ht : s.blk.hbmTakes = false) :
    stampWrite s f = s.on (fun b => if b.nextFifo f = none then b else b.hbmKnock) := by
  obtain ⟨hen, htrunc⟩ := hchain
  simp only [stampWrite, hen, htrunc, ht, Bool.not_true, Bool.not_false, Bool.false_eq_true, or_self, if_false, if_true,
    Option.isNone_iff_eq_none]
  exact (apply_ite (fun b => { s with blk := b }) (s.blk.nextFifo f = none) s.blk s.blk.hbmKnock).symm

/-- With every FIFO empty nothing is written. -/
theorem stampWrite_none (ht : s.blk.hbmTakes = true) (hn : s.blk.nextFifo f = none) : stampWrite s f = s := by
  obtain ⟨hen, htrunc⟩ := hchain
  simp only [stampWrite, hen, htrunc, ht, hn, Bool.not_true, Bool.false_eq_true, or_self, if_false]

/-- The oldest stamp of the next FIFO is appended, after an epoch word where one is due, unless that word filled the chain (R234, R235). -/
theorem stampWrite_some {j : Nat} {x : Nat × Nat × Nat} {rest : List (Nat × Nat × Nat)} (ht : s.blk.hbmTakes = true)
    (hn : s.blk.nextFifo f = some j) (hf : (s.blk.tia (17 * f + j)).fifo = x :: rest) :
    stampWrite s f =
      let u := if (s.blk.chainSt f).epoch = some x.1 then s else
          (chainAppend s f (Block.epochWord (s.blk.chainSt f).syncs x.1)).on (fun b =>
            b.updChain f (fun c => { c with epoch := some x.1, syncs := x.1 / 2 ^ 40 }))
      if u.blk.flag (FLD f) TIA_FSTAT.TRUNC = true then u
      else
        let k := u.blk.slcK (17 * f + j)
        (chainAppend (u.on (fun b => ((b.updTia (17 * f + j) (fun t => { t with fifo := rest })).tiaLevel (17 * f + j)).updChain f
          (fun c => { c with last := j }))) f x.2.2).on (fun b => b.capStamp f k x) := by
  obtain ⟨hen, htrunc⟩ := hchain
  simp only [stampWrite, hen, htrunc, ht, hn, hf, Bool.not_true, Bool.false_eq_true, or_self, if_false, bne_iff_ne, ite_not]

end

theorem stampFlush_eq (s : State) (f : Nat) :
    stampFlush s f =
      let b := s.blk
      let left := b.get (FLD f) TIA_FSTAT.WORDS % 4096
      if (b.flag (FLD f) TIA_FCHAIN.EN = true ∧ b.flag (FLD f) TIA_FSTAT.TRUNC = false) ∧ b.hbmTakes = true ∧ b.nextFifo f = none ∧
          left ≠ 0 ∧ ((b.chainSt f).detach = true ∨ (b.seq f).done = true ∨ b.idle f = true) then
        chainPad f (4096 - left) s
      else s := by
  simp only [stampFlush, Bool.not_eq_true', Option.isNone_iff_eq_none, and_assoc]

end Sys2Proof.Machine
end

section
/-!
SUPPORT. The DLL and the frequency unit (R236 to R242), with the conditions of each operation as propositions.
-/
namespace Sys2Proof.Machine.Block

theorem dllLock_eq (b : Block) (s : Nat) :
    b.dllLock s =
      if (b.tia s).dllAt ≠ none then b
      else if b.flag (SLC s) TIA_STAT.DLL_LOCK = false then b.updTia s (fun t => { t with dllAt := some b.time.now, dllDue := false })
      else if (b.tia s).dllDue = true ∧ b.idle (s / 17) = true ∧ b.atBoundary = true then
        (((b.setFlag (SLC s) TIA_STAT.DLL_LOCK false).gateBad s).updTia s
          (fun t => { t with dllAt := some b.time.now, dllDue := false })).workStart (some (s / 17)) 8 s
      else b := by
  simp only [dllLock, Option.isSome_iff_ne_none, Bool.not_eq_true']

theorem dllDone_eq (b : Block) (s : Nat) :
    b.dllDone s =
      if (b.tia s).dllAt ≠ none then
        ((b.setFlag (SLC s) TIA_STAT.DLL_LOCK true).updTia s (fun t => { t with dllAt := none })).workEnd 8 s
      else b := by
  simp only [dllDone, Option.isSome_iff_ne_none]

/-- An open gate whose time has come closes with its fitted line (R240). -/
theorem gateEnd_due {b : Block} {s : Nat} {g : GateSt} (hg : (b.tia s).gate = some g) (ho : g.opened = true) (he : g.endsAt ≤ b.time.now) :
    b.gateEnd s = ((b.setFlag (SLC s) TIA_STAT.GATE false).updTia s (fun t => { t with
      gate := none, lateGate := false, results := t.results ++ [(g.endsAt + 200, (b.gateFit g).1, (b.gateFit g).2)] })).freed := by
  simp only [gateEnd, hg]
  exact if_pos ⟨ho, he⟩

theorem gateEnd_not_due {b : Block} {s : Nat} (h : ∀ g, (b.tia s).gate = some g → g.opened = false ∨ b.time.now < g.endsAt) :
    b.gateEnd s = b := by
  unfold gateEnd
  split
  · next g hg =>
    refine if_neg fun ⟨ho, he⟩ => ?_
    exact (h g hg).elim (fun hc => Bool.false_ne_true (hc.symm.trans ho)) he.not_gt
  · rfl

/-- The oldest result is written at its boundary (R241). -/
theorem freqResult_due {b : Block} {s t r c : Nat} {rest : List (Nat × Nat × Nat)} (hr : (b.tia s).results = (t, r, c) :: rest)
    (ht : t ≤ b.time.lastB) :
    b.freqResult s = ((b.setFres s r c).updTia s (fun x => { x with
      results := rest, resultOwed := !rest.isEmpty || x.gate.isSome })).arriveIf (b.flag (SLC s) TIA_CTRL.IRQ) s := by
  simp only [freqResult, hr]
  exact if_pos ht

theorem freqResult_not_due {b : Block} {s : Nat} (h : ∀ t r c rest, (b.tia s).results = (t, r, c) :: rest → b.time.lastB < t) :
    b.freqResult s = b := by
  unfold freqResult
  split
  · next hr => exact if_neg (h _ _ _ _ hr).not_ge
  · rfl

theorem fctlStart_eq (b : Block) (s : Nat) :
    b.fctlStart s =
      if b.idle (s / 17) = false then b.fault (272 + s / 17) 0
      else b.gateStart s (b.get (SLC s) TIA_FCTL.GATE) (b.time.lastB + b.k) (decide (b.time.lastB + b.k < b.time.now + 100)) := by
  simp only [fctlStart, Bool.not_eq_true']

end Sys2Proof.Machine.Block
end

section
/-!
PROOFS. The time-interval analysers: stamps, the interpolator and the frequency unit.
-/
namespace Sys2Proof.Proofs
open Sys2Proof.Machine

/-- Settles O26: an edge, a write of TIA_FCHAIN, a detach and a pop are guarded changes of the block alone; the writer and its flush change
the pages too, and each is cited by the state in which it finds the chain. -/
theorem stampsAreTakenWrittenAndRead : Obligations.StampsAreTakenWrittenAndRead := by
  intro s i f uv ofs j v x rest b t pick new slice chain left flush head mine good detach
  refine ⟨fun h => exec_of_on (·.tiaNode i uv ofs) rfl (if_pos h),
    fun h => exec_of_on (·.tiaNode i uv ofs) rfl ((if_neg h).trans (Block.tiaEdge_eq _ _ _ _ (Bool.and_assoc _ _ _).symm)),
    fun hc ht hn hf => congrArg _ (stampWrite_some hc ht hn hf), fun hc ht => congrArg _ (stampWrite_asleep hc ht), ?idle,
    fun h => congrArg _ ((stampFlush_eq s f).trans (if_pos h)), fun h => congrArg _ ((stampFlush_eq s f).trans (if_neg h)),
    fun h => exec_of_on (·.fchainWrite f v.toNat) rfl ((Block.fchainWrite_eq _ _ _).trans ?refused),
    fun hm hv hg => exec_of_on (·.fchainWrite f v.toNat) rfl ((Block.fchainWrite_eq _ _ _).trans ?attached),
    fun hm hv => exec_of_on (·.fchainWrite f v.toNat) rfl ((Block.fchainWrite_eq _ _ _).trans ?asked),
    fun h => exec_of_on (·.chainDetach f) rfl ((Block.chainDetach_eq _ _).trans (if_pos h)),
    fun h => exec_self_of_on (·.chainDetach f) rfl ((Block.chainDetach_eq _ _).trans (if_neg h)),
    fun h => exec_of_on (·.tiaPop i) rfl (Block.tiaPop_padding h),
    fun hf he => exec_of_on (·.tiaPop i) rfl (Block.tiaPop_stamp hf he)⟩
  case idle =>
    intro h
    refine congrArg Host.Outcome.next ?_
    by_cases hc : chain
    · obtain ⟨ht, hn⟩ := h.resolve_left (not_not.mpr hc)
      exact stampWrite_none hc ht hn
    · exact stampWrite_stopped hc
  case refused =>
    by_cases hm : mine
    · obtain ⟨hv, hg⟩ := h.resolve_left (not_not.mpr hm)
      exact (if_pos hm).trans ((if_pos hv).trans (if_neg hg))
    · exact if_neg hm
  case attached => exact (if_pos hm).trans ((if_pos hv).trans (if_pos hg))
  case asked => exact (if_pos hm).trans (if_neg (ne_true_of_eq_false hv))

/-- Settles O27: each command is one guarded change of the block; the end of a gate and the result are cited by the gate and the result that
they find, and DLL_LOCK keeps the block while the DLL is locking or is locked and not due. -/
theorem interpolatorsCalibrateAndGatesMeasure : Obligations.InterpolatorsCalibrateAndGatesMeasure := by
  intro s i one two b x relock opens
  refine ⟨rfl, fun ha hl => exec_of_on (·.dllLock i) rfl ((Block.dllLock_eq _ _).trans ?unlocked),
    fun ha hr => exec_of_on (·.dllLock i) rfl ((Block.dllLock_eq _ _).trans ?relocked),
    fun h => exec_self_of_on (·.dllLock i) rfl ((Block.dllLock_eq _ _).trans ?lockKept),
    fun h => exec_of_on (·.dllDone i) rfl ((Block.dllDone_eq _ _).trans (if_pos h)),
    fun h => exec_self_of_on (·.dllDone i) rfl ((Block.dllDone_eq _ _).trans (if_neg (not_not.mpr h))),
    fun h => exec_of_on (·.gateOpen i) rfl (if_pos h), fun h => exec_self_of_on (·.gateOpen i) rfl (if_neg h),
    fun g hg ho he => exec_of_on (·.gateEnd i) rfl (Block.gateEnd_due hg ho he),
    fun h => exec_self_of_on (·.gateEnd i) rfl (Block.gateEnd_not_due h),
    fun t r c rest hr ht => exec_of_on (·.freqResult i) rfl (Block.freqResult_due hr ht),
    fun h => exec_self_of_on (·.freqResult i) rfl (Block.freqResult_not_due h),
    fun hi => exec_of_on (·.fctlStart i) rfl ((Block.fctlStart_eq _ _).trans (if_pos hi)),
    fun hi hb => exec_self_of_on (·.fctlStart i) rfl ((Block.fctlStart_eq _ _).trans ?bolted),
    fun hi hb => exec_of_on (·.fctlStart i) rfl ((Block.fctlStart_eq _ _).trans ?started)⟩
  case unlocked => exact (if_neg (not_not.mpr ha)).trans (if_pos hl)
  case relocked =>
    obtain ⟨hl, hdue⟩ := hr
    exact (if_neg (not_not.mpr ha)).trans ((if_neg (ne_false_of_eq_true hl)).trans (if_pos hdue))
  case lockKept =>
    by_cases ha : x.dllAt = none
    · obtain ⟨hl, hr⟩ := h.resolve_left (not_not.mpr ha)
      exact (if_neg (not_not.mpr ha)).trans ((if_neg (ne_false_of_eq_true hl)).trans (if_neg fun hdue => hr ⟨hl, hdue⟩))
    · exact if_pos ha
  case bolted => exact (if_neg (ne_false_of_eq_true hi)).trans (if_pos hb)
  case started => exact (if_neg (ne_false_of_eq_true hi)).trans (if_neg (ne_true_of_eq_false hb))

end Sys2Proof.Proofs
end

section
/-!
SUPPORT. The commands of the DDS source and the digitiser (R248 to R260), each by the branch in which it finds its field.
-/
namespace Sys2Proof.Machine
namespace Block

/-! ### Host commands of the DDS source -/

section
variable {b : Block} {f : Nat}

/-- While a sequencer holds the DDS output route every host command is a configuration error (R248). -/
theorem ddsHost_held (h : b.ddsHostOk f = false) (code e : Nat) : b.ddsHost f code e = b.fault (272 + f) 0 :=
  if_pos ((Bool.not_eq_true' _).mpr h)

variable (h : b.ddsHostOk f = true)
include h

/-- RUN waits for its boundary where its entry lies in the list (R252). -/
theorem ddsHost_run (e : Nat) :
    b.ddsHost f 1 e =
      if b.get (FLD f) DDS_LIST.FIRST ≤ e ∧ e ≤ b.get (FLD f) DDS_LIST.LAST then
        b.updDds f (fun d => { d with cmds := d.cmds ++ [(1, e, b.time.now)] })
      else b.fault (272 + f) 0 := by
  have outside : (e < b.get (FLD f) DDS_LIST.FIRST ∨ b.get (FLD f) DDS_LIST.LAST < e) ↔
      ¬ (b.get (FLD f) DDS_LIST.FIRST ≤ e ∧ e ≤ b.get (FLD f) DDS_LIST.LAST) := by omega
  simp only [ddsHost, h, outside, Bool.not_true, Bool.false_eq_true, ne_eq, not_true_eq_false, true_and, false_and, if_false, ite_not]

/-- STEP and STOP wait for their boundary where the source runs (R252, R255). -/
theorem ddsHost_other {code : Nat} (hc : code ≠ 1) (e : Nat) :
    b.ddsHost f code e =
      if b.get (FLD f) DDS_STAT.STATE = 0 then b
      else b.updDds f (fun d => { d with cmds := d.cmds ++ [(code, e, b.time.now)] }) := by
  simp only [ddsHost, h, hc, Bool.not_true, Bool.false_eq_true, ne_eq, not_false_eq_true, true_and, false_and, if_false]

end

/-! ### Requests at their boundary -/

section
variable {b : Block} {f code : Nat} (m : List Host.Cell) (g : Block → Nat → Block)

/-- The first request of the boundary is taken (R252). -/
theorem ddsFirst_due {e : Nat} {rest : List (Nat × Nat)} (h : b.ddsDue f = (code, e) :: rest) :
    b.ddsFirst m f code g = (g (b.ddsPop f) e).ddsSettle m f := by
  simp only [ddsFirst, h, if_true]

/-- A request of another kind, or none, is left. -/
theorem ddsFirst_not_due (h : (b.ddsDue f).head?.map Prod.fst ≠ some code) : b.ddsFirst m f code g = b := by
  unfold ddsFirst
  split
  · next hd => exact if_neg fun hc => h (by rw [hd, hc]; rfl)
  · rfl

end

/-! ### The digitiser -/

section
variable {b : Block} {f : Nat}

/-- A START while a sequencer holds the digitiser, or in a busy field, is a configuration error (R248, R259). -/
theorem digHost_refused (h : b.digHostOk f = false ∨ b.idle f = false) : b.digHost f = b.fault (272 + f) 0 :=
  if_pos (h.imp (Bool.not_eq_true' _).mpr (Bool.not_eq_true' _).mpr)

/-- A START of an idle digitiser waits for t0 (R259). -/
theorem digHost_allowed (ho : b.digHostOk f = true) (hi : b.idle f = true) :
    b.digHost f = if b.get (FLD f) DIG_STAT.STATE ≠ 0 then b else (b.set (FLD f) DIG_STAT.STATE 1).updDig f (fun d => { d with
      startReq := some b.time.now, t0 := none, prog := none, owner := b.haspOwner (16 * f + 3) }) := by
  simp only [digHost, ho, hi, Bool.not_true, Bool.false_eq_true, or_self, if_false]

/-- With t0 known a digitiser that waits starts once it has come (R259). -/
theorem digStart_of {t : Nat} (h : (b.dig f).t0 = some t) :
    b.digStart f = if b.get (FLD f) DIG_STAT.STATE = 1 ∧ t ≤ b.time.now then
      let n := b.get (FLD f) DIG_CFG.NSAMP
      (b.set (FLD f) DIG_STAT.STATE 2).updDig f (fun d => { d with
        nsamp := n, taken := 0, seen := [], lastAt := t + ceilDiv ((n - 1) * b.digPeriod f) 20000 })
    else b := by
  simp only [digStart, h]

theorem digStart_none (h : (b.dig f).t0 = none) : b.digStart f = b := by
  simp only [digStart, h]

end

end Block

/-! ### DDS_LD (R251) -/

section
variable {s : State} {f v : Nat}

/-- A write of the lists of a stopped source stores the word at DDS_LA, cut to its list's width, and moves on. -/
theorem ddsListAccess_write (ho : s.blk.ddsHostOk f = true) (hs : s.blk.get (FLD f) DDS_STAT.STATE = 0)
    (hw : s.blk.get (FLD f) DDS_LA.LIST = 0 → v % 2 ^ 48 ≤ ftwMax) :
    ddsListAccess s f (some v) = { s with
      blk := s.blk.set (FLD f) DDS_LA.INDEX ((s.blk.get (FLD f) DDS_LA.INDEX + 1) % 4096)
      mem := Memory.setWord s.mem (.dds f (s.blk.get (FLD f) DDS_LA.LIST)) (s.blk.get (FLD f) DDS_LA.INDEX)
        (if s.blk.get (FLD f) DDS_LA.LIST = 0 then v % 2 ^ 52 else v % 2 ^ 16) } := by
  refine if_neg ?_
  rintro (hh | hr | ⟨hl, hv⟩)
  · exact Bool.false_ne_true (((Bool.not_eq_true' _).mp hh).symm.trans ho)
  · exact hr hs
  · exact (hw hl).not_gt hv

/-- Any other write is a configuration error of the field. -/
theorem ddsListAccess_refused (h : ¬ (s.blk.ddsHostOk f = true ∧ s.blk.get (FLD f) DDS_STAT.STATE = 0 ∧
      (s.blk.get (FLD f) DDS_LA.LIST = 0 → v % 2 ^ 48 ≤ ftwMax))) :
    ddsListAccess s f (some v) = s.on (fun b => b.fault (272 + f) 0) := by
  refine if_pos ?_
  simp only [not_and_or, Classical.not_imp, Bool.not_eq_true, Nat.not_le] at h
  exact h.imp_left (Bool.not_eq_true' _).mpr

end

end Sys2Proof.Machine
end

section
/-!
PROOFS. The DDS sources and the digitisers.
-/
namespace Sys2Proof.Proofs
open Sys2Proof.Machine

/-- Settles O28: a host command is cited by who holds its unit, a request of a boundary by the place where it stands among those due, and the
others are one guarded change of the block; DDS_LD alone changes a memory too. -/
theorem sourcesAndDigitisersFollowTheirCommands : Obligations.SourcesAndDigitisersFollowTheirCommands := by
  intro s f entry level n codes w b st i l ask err inList d count listOk ds results
  refine ⟨fun h => ?held, fun h => ⟨fun hin => ?run, fun hout => ?outside, fun hst => ?running, fun hst => ?stopped⟩,
    fun e rest h => exec_of_on (·.ddsFirst s.mem f 1 _) rfl (Block.ddsFirst_due _ _ h),
    fun e rest h => exec_of_on (·.ddsFirst s.mem f 3 _) rfl (Block.ddsFirst_due _ _ h),
    fun h => exec_self_of_on (·.ddsFirst s.mem f 1 _) rfl (Block.ddsFirst_not_due _ _ h),
    fun h => exec_self_of_on (·.ddsFirst s.mem f 3 _) rfl (Block.ddsFirst_not_due _ _ h), rfl,
    fun h => exec_of_on (·.ddsTickCount f) rfl (if_pos h), fun h => exec_self_of_on (·.ddsTickCount f) rfl (if_neg h), rfl,
    fun ⟨ho, hs, hw⟩ => congrArg _ (ddsListAccess_write ho hs hw), fun h => congrArg _ (ddsListAccess_refused h),
    fun h => exec_of_on (·.digHost f) rfl (Block.digHost_refused h), fun h => exec_of_on _ rfl (if_neg (ne_true_of_eq_false h)),
    fun ho hi => exec_of_on (·.digHost f) rfl (Block.digHost_allowed ho hi), fun h => exec_of_on _ rfl (if_pos h),
    fun t0 h => exec_of_on (·.digStart f) rfl (Block.digStart_of h), fun h => exec_self_of_on (·.digStart f) rfl (Block.digStart_none h),
    fun h => exec_of_on (·.digResults f codes level n) rfl (if_pos h),
    fun h => exec_self_of_on (·.digResults f codes level n) rfl (if_neg h)⟩
  case held =>
    have refused : ∀ code e, s.on (fun b => b.ddsHost f code e) = err := fun code e => State.on_congr (Block.ddsHost_held h code e)
    exact ⟨congrArg _ (refused 1 _), congrArg _ (refused 2 0), congrArg _ (refused 3 0)⟩
  case run => exact exec_of_on (·.ddsHost f 1 _) rfl ((Block.ddsHost_run h _).trans (if_pos hin))
  case outside => exact exec_of_on (·.ddsHost f 1 _) rfl ((Block.ddsHost_run h _).trans (if_neg hout))
  case running =>
    exact ⟨exec_of_on (·.ddsHost f 2 0) rfl ((Block.ddsHost_other h (by decide) 0).trans (if_neg hst)),
      exec_of_on (·.ddsHost f 3 0) rfl ((Block.ddsHost_other h (by decide) 0).trans (if_neg hst))⟩
  case stopped =>
    exact ⟨exec_self_of_on (·.ddsHost f 2 0) rfl ((Block.ddsHost_other h (by decide) 0).trans (if_pos hst)),
      exec_self_of_on (·.ddsHost f 3 0) rfl ((Block.ddsHost_other h (by decide) 0).trans (if_pos hst))⟩

end Sys2Proof.Proofs
end

section
/-!
SUPPORT. The calibration engine (R415 to R427): which task starts, how its slices leave their pads, and where a task and a CAL_RUN end.
-/
namespace Sys2Proof.Machine
namespace Block

/-! ### The task that starts (R421) -/

/-- Of two tasks the first has the smaller AGE. -/
def ageLt (b : Block) (x y : Nat × Nat) : Prop := b.get (calAt x.1 x.2) CAL_TASK.AGE < b.get (calAt y.1 y.2) CAL_TASK.AGE

/-- The pick of a list that starts with the pick so far. -/
theorem calPick_cons_cons (b : Block) (y x : Nat × Nat) (l : List (Nat × Nat)) [Decidable (b.ageLt y x)] :
    b.calPick (y :: x :: l) = b.calPick ((if b.ageLt y x then x else y) :: l) := by
  refine congrArg (List.foldl _ · l) ?_
  dsimp only
  split <;> rename_i h
  · exact congrArg some (if_pos h).symm
  · exact congrArg some (if_neg h).symm

/-- A pick so far that no later task exceeds stays. -/
theorem calPick_head {b : Block} {x : Nat × Nat} {v : List (Nat × Nat)} (h : ∀ y ∈ v, ¬ b.ageLt x y) : b.calPick (x :: v) = some x := by
  classical
  induction v with
  | nil => rfl
  | cons y v ih =>
    obtain ⟨hy, hv⟩ := List.forall_mem_cons.mp h
    rw [calPick_cons_cons, if_neg hy]
    exact ih hv

/-- The task of largest AGE starts, of several the first in the order of the list. -/
theorem calPick_largest {b : Block} {u v : List (Nat × Nat)} {x : Nat × Nat} (hu : ∀ y ∈ u, b.ageLt y x) (hv : ∀ y ∈ v, ¬ b.ageLt x y) :
    b.calPick (u ++ x :: v) = some x := by
  classical
  induction u using List.twoStepInduction with
  | nil => exact calPick_head hv
  | singleton y =>
    rw [List.singleton_append, calPick_cons_cons, if_pos (hu y List.mem_cons_self)]
    exact calPick_head hv
  | cons_cons y z u _ ih =>
    obtain ⟨hy, hz, hr⟩ := by simpa only [List.forall_mem_cons] using hu
    rw [List.cons_append, List.cons_append, calPick_cons_cons]
    refine ih _ (List.forall_mem_cons.mpr ⟨?_, hr⟩)
    split
    · exact hz
    · exact hy

/-! ### The start of a task (R416, R417, R421, R422) -/

/-- The block in which the candidates that must be skipped are (R418). -/
def calSkipped (b : Block) : Block := (b.calCandidates.filter b.calSkips).foldl calSkip b

/-- The block in which the other candidates have been deferred or are due again, as their needs say (R422). -/
def calJudged (b : Block) : Block :=
  b.calCandidates.foldl (fun c x => if b.calSkipped.calSkips x then c else c.calDefer x) b.calSkipped

/-- The candidates that may start. -/
def calLeft (b : Block) : List (Nat × Nat) :=
  (b.calCandidates.filter (fun x => !b.calSkipped.calSkips x)).filter (fun x => b.calJudged.calState x.1 x.2 != 5)

/-- Deferring the candidates that are not skipped, one after another. -/
theorem foldl_calDefer (b : Block) :
    (b.calCandidates.filter (fun x => !b.calSkipped.calSkips x)).foldl calDefer b.calSkipped = b.calJudged := by
  simp only [List.foldl_filter, calJudged, Bool.not_eq_true', ← Bool.not_eq_true, ite_not]

/-- Task start acts only with READY, at a boundary, with the engine free (R421). -/
theorem calStart_eq (b : Block) (refOk : Bool) :
    b.calStart refOk =
      if b.flag 0 HQ_STAT.READY = true ∧ b.atBoundary = true ∧ b.cal.run = none then
        ((b.calJudged.calPick b.calLeft).elim b.calJudged (fun x => b.calJudged.calBegin refOk x.1 x.2)).calSync
      else b := by
  have ready : (b.flag 0 HQ_STAT.READY && b.atBoundary && b.cal.run.isNone) = true ↔
      b.flag 0 HQ_STAT.READY = true ∧ b.atBoundary = true ∧ b.cal.run = none := by
    rw [Bool.and_eq_true, Bool.and_eq_true, Option.isNone_iff_eq_none, and_assoc]
  have skipped : (b.calCandidates.filter b.calSkips).foldl calSkip b = b.calSkipped := rfl
  simp only [calStart, ready, skipped, foldl_calDefer, calLeft]
  refine if_congr Iff.rfl ?_ rfl
  generalize b.calJudged.calPick _ = p
  cases p <;> rfl

/-- A slice leaves its pad at once, or at the end of its path to OFF (R417). -/
theorem calOpen_eq (b : Block) (w : Nat) :
    b.calOpen w =
      let d := b.updSlc w (fun z => { z with cal := if b.calPaths w then 1 else 2 })
      (if b.calPaths w then d.pathStart w else d).slcSync w := by
  by_cases h : b.calPaths w = true
  · simp only [calOpen, h, if_true]
  · simp only [calOpen, h, Bool.false_eq_true, if_false]

/-! ### The end of a task (R417, R421) -/

theorem calEnd_none {b : Block} (h : b.cal.run = none) (m : CalMeas) : b.calEnd m = b := by
  simp only [calEnd, h]

/-- A task ends at a later boundary with no slice on its path to OFF: its slices return, and where none is under way it finishes. -/
theorem calEnd_some {b : Block} {r : CalRun} (h : b.cal.run = some r) (m : CalMeas) :
    b.calEnd m =
      if b.atBoundary = true ∧ r.since < b.time.now ∧ b.calAny r.field 1 = false then
        let b := ((List.range 17).map (fun j => 17 * r.field + j)).foldl calClose b
        if b.calAny r.field 3 then b else b.calFinish r m
      else b := by
  simp only [calEnd, h, Bool.not_eq_true']

/-! ### CAL_RUN (R423) -/

theorem takeSlot_full {b : Block} (h : b.freeSlot = none) (q : Nat) (aux : List Nat) : b.takeSlot q aux = b.complete q 0 0x03 := by
  simp only [takeSlot, h]

/-- Every named task of every named field has ended for slot `k`, as a proposition. -/
theorem calFieldsOver_iff (b : Block) (k : Nat) :
    (b.slotRuns k 0x39 && (List.range 16).all (fun g => !bit (b.slotWord k 1) g || b.calFieldOver k g)) = true ↔
      b.slotRuns k 0x39 = true ∧ ∀ g < 16, bit (b.slotWord k 1) g = true → b.calFieldOver k g = true := by
  simp only [Bool.and_eq_true, List.all_eq_true, List.mem_range, Bool.or_eq_true, Bool.not_eq_true', ← Bool.not_eq_true, ← imp_iff_not_or]

end Block
end Sys2Proof.Machine
end

section
/-!
PROOFS. The calibration engine and the sub-tick.
-/
namespace Sys2Proof.Proofs
open Sys2Proof.Machine

/-- Settles O46: a task start by what is left to start and which of it is picked, a task end and a CAL_RUN by what they find running or free;
the others are one change of the block, guarded or not. -/
theorem calibrationRunsItsTasksAndTheSubTickPasses : Obligations.CalibrationRunsItsTasksAndTheSubTickPasses := by
  intro s f t refOk m q k b ready older judged left warmed ended
  have started : ready → ∀ {p}, (judged s.blk).calPick left = p → exec (.calTaskStart refOk) s =
      .next (s.on (fun b => (p.elim (judged b) (fun x => (judged b).calBegin refOk x.1 x.2)).calSync)) := fun hr p hp =>
    exec_of_on (·.calStart refOk) rfl ((Block.calStart_eq _ _).trans ((if_pos hr).trans (hp ▸ rfl)))
  refine ⟨rfl, exec_of_on (·.tempSample (some f) t) rfl ?field,
    fun h => exec_self_of_on (·.calStart refOk) rfl ((Block.calStart_eq _ _).trans (if_neg h)),
    fun hr hl => started hr (p := none) (congrArg (judged s.blk).calPick hl),
    fun hr u v x hl hu hv => (started hr ((congrArg (judged s.blk).calPick hl).trans (Block.calPick_largest hu hv))).trans ?begun,
    exec_of_on (·.calEnd m) rfl ?ends, exec_of_on _ rfl ?accepted,
    fun h => exec_of_on (·.calRunDone k) rfl (if_pos ((Block.calFieldsOver_iff _ _).mpr h)),
    fun h => exec_self_of_on (·.calRunDone k) rfl (if_neg (mt (Block.calFieldsOver_iff _ _).mp h)), rfl⟩
  case field =>
    have hdie : 1 + f.val / 4 ≠ 0 := by omega
    have hsub : 1 + f.val / 4 - 1 = f.val / 4 := Nat.add_sub_cancel_left ..
    refine congrArg (Block.setLive _ _) ((if_neg hdie).trans ?_)
    rw [hsub]
    rfl
  case begun =>
    simp only [Option.elim, Block.calBegin, Block.calDetach, funext₂ Block.calOpen_eq]
  case ends =>
    dsimp only
    cases hr : s.blk.cal.run with
    | none => exact Block.calEnd_none hr m
    | some r => simp only [Block.calEnd_some hr, Block.calFinish, ite_not]
  case accepted =>
    dsimp only
    cases s.blk.cmdOf q 0x39 with
    | none => rfl
    | some ws =>
      cases hf : s.blk.freeSlot with
      | none => simp only [Block.calRunCmd, hf, Block.takeSlot_full hf]
      | some j => simp only [Block.calRunCmd, hf]

end Sys2Proof.Proofs
end

section
/-!
SUPPORT. The capture engine (R264 to R276), each operation by the branch in which it finds its engine.
-/
namespace Sys2Proof.Machine
namespace Block

section
variable {b : Block} {f : Nat}

/-! ### Requests of the host (R268, R276) -/

/-- While a sequencer holds the capture SRAM every request of the host is a configuration error. -/
theorem capHost_held (h : b.seqHeld (16 * f + 4) = true) (code : Nat) : b.capHost f code = b.fault (272 + f) 0 :=
  if_pos ((Bool.or_eq_true _ _).mpr (.inl h))

/-- Otherwise it waits, but for an ARM that needs a spill chain a sequencer holds. -/
theorem capHost_free (h : b.seqHeld (16 * f + 4) = false) (code : Nat) :
    b.capHost f code =
      if code = 1 ∧ b.flag (FLD f) CAP_CFG.STREAM = true ∧ b.seqHeld (16 * f + 6) = true then b.fault (272 + f) 0
      else b.updCap f (fun c => { c with reqs := c.reqs ++ [(code, b.time.now, b.haspOwner (16 * f + 4))] }) := by
  simp only [capHost, h, Bool.false_or, Bool.and_eq_true, beq_iff_eq, and_assoc]

/-! ### Requests at their boundary (R266, R273) -/

theorem capArmApply_due (h : b.capDue f 1 ≠ []) :
    b.capArmApply f = (b.capDue f 1).foldl (fun b o => b.capArm f o) (b.capDone f 1) := by
  unfold capArmApply
  split
  · next hd => exact absurd hd h
  · rfl

theorem capArmApply_none (h : b.capDue f 1 = []) : b.capArmApply f = b := by
  simp only [capArmApply, h]

theorem capStopApply_due (h : b.capDue f 3 ≠ []) : b.capStopApply f = (b.capDone f 3).capEnd f 2 := by
  unfold capStopApply
  split
  · next hd => exact absurd hd h
  · rfl

theorem capStopApply_none (h : b.capDue f 3 = []) : b.capStopApply f = b := by
  simp only [capStopApply, h]

/-! ### The next entry (R264) -/

/-- An engine without a record in progress, or whose record only waits for its words, takes nothing; nor does one to which its source brings
nothing. -/
theorem capTake_none (h : ¬ (b.capActive f = true ∧ (b.cap f).ending = 0) ∨
      (b.get (FLD f) CAP_CFG.SRC = 1 ∧ b.digNext f = none) ∨ (b.get (FLD f) CAP_CFG.SRC ≠ 1 ∧ (b.cap f).feed = [])) (code : Nat) :
    b.capTake f code = b := by
  by_cases ha : b.capActive f = true ∧ (b.cap f).ending = 0
  · obtain ⟨hact, hend⟩ := ha
    obtain ⟨hs, hn⟩ | ⟨hs, hn⟩ := h.resolve_left (not_not.mpr ⟨hact, hend⟩) <;>
      simp only [capTake, hact, hend, hs, hn, Bool.not_true, Bool.false_eq_true, ne_eq, not_true_eq_false, or_self, if_false, if_true]
  · rw [not_and_or, Bool.not_eq_true, ← Bool.not_eq_true'] at ha
    exact if_pos ha

section
variable (h : b.capActive f = true ∧ (b.cap f).ending = 0)
include h

/-- The next sample of the digitiser is taken with its code. -/
theorem capTake_sample (hs : b.get (FLD f) CAP_CFG.SRC = 1) {i t : Nat} (hn : b.digNext f = some (i, t)) (code : Nat) :
    b.capTake f code =
      let d := b.digCode f code
      (b.updDig f (fun x => { x with taken := i + 1, seen := Sparse.set 0 i (d.1 + 1) x.seen })).capRaw f
        (b.tickAt t % 65536 * 2 ^ 48 + b01 d.2 * 2 ^ 18 + d.1) t 0 := by
  obtain ⟨hact, hend⟩ := h
  simp only [capTake, hact, hend, hs, hn, Bool.not_true, Bool.false_eq_true, ne_eq, not_true_eq_false, or_self, if_false, if_true]

/-- Of another source the oldest entry offered is taken. -/
theorem capTake_offered (hs : b.get (FLD f) CAP_CFG.SRC ≠ 1) {e : Nat × Nat × Nat} {rest : List (Nat × Nat × Nat)}
    (hf : (b.cap f).feed = e :: rest) (code : Nat) :
    b.capTake f code = (b.updCap f (fun c => { c with feed := rest })).capRaw f e.1 e.2.1 e.2.2 := by
  obtain ⟨hact, hend⟩ := h
  simp only [capTake, hact, hend, hs, hf, Bool.not_true, Bool.false_eq_true, ne_eq, not_true_eq_false, or_self, if_false]

end

/-! ### An entry of vectors in POST (R264, R267) -/

/-- An entry of vectors is itself a trigger only where fails trigger (R268). -/
theorem capRaw_vector (hs : b.get (FLD f) CAP_CFG.SRC = 0) (ht : b.get (FLD f) CAP_TRG.TSRC ≠ 5) (word time fails : Nat) :
    b.capRaw f word time fails = b.capPush f word time false := by
  have hhit : (b.get (FLD f) CAP_TRG.TSRC == 5) = false := beq_false_of_ne ht
  simp only [capRaw, hs, hhit, Nat.zero_ne_one, OfNat.zero_ne_ofNat, or_self, if_false, Bool.false_and]

/-- Without a trigger there is nothing to decide. -/
theorem capDecide_none (h : (b.cap f).trigs = []) (time : Nat) : b.capDecide f time false = b := by
  simp only [capDecide, h, List.filter_nil, List.isEmpty_nil, Bool.not_false, Bool.and_self, if_true]

theorem cap_set (b : Block) (f base : Nat) (F : Fld) (v : Nat) : (b.set base F v).cap f = b.cap f := rfl

/-- The block in which post word `c.entry - c.trigEntry` of the record in progress stands at its place in the slot and is counted. -/
def postStored (b : Block) (f word : Nat) : Block :=
  let c := b.cap f
  let pre := b.get (FLD f) CAP_LEN.PRE
  let off := c.entry - c.trigEntry
  (b.sramSet f (c.slot * b.slotLen f + 1 + pre + off) word).set (FLD f) CAP_STAT.KEPT (pre + off + 1)

/-- Nothing but the capture SRAM changes in the engine. -/
theorem cap_postStored (b : Block) (f word : Nat) : ∃ m, (b.postStored f word).cap f = { b.cap f with sram := m } :=
  ⟨_, b.cap_updCap_self f (fun c => { c with sram := Sparse.set 0 _ word c.sram })⟩

/-- Nothing but KEPT changes among the registers. -/
theorem get_postStored (b : Block) {f : Nat} {F : Fld} (h : F.off ≠ CAP_STAT.KEPT.off ∨ F.lo ≠ CAP_STAT.KEPT.lo) (hlo : F.lo < 64)
    (word : Nat) : (b.postStored f word).get (FLD f) F = b.get (FLD f) F := by
  refine get_set_ne _ _ ?_
  simp only [fkey, CAP_STAT.KEPT] at h ⊢
  omega

/-- In POST, in buffer mode, the word goes to its place behind the ring. -/
theorem capStore_post (hst : b.get (FLD f) CAP_STAT.STATE = 3) (hstream : b.flag (FLD f) CAP_CFG.STREAM = false) (word : Nat) :
    b.capStore f word = b.postStored f word := by
  simp only [capStore, hst, hstream, Bool.false_eq_true, if_false, if_true]
  rfl

/-- With no mask no word is tested. -/
theorem capMask_off (h : b.flag (FLD f) CAP_CFG.MASK_EN = false) (word : Nat) : b.capMask f word = b :=
  if_pos (.inl ((Bool.not_eq_true' _).mpr h))

/-- In POST, in buffer mode, with no mask and no trigger left, an entry before the last one of its record is stored and counted. -/
theorem capPush_post (hst : b.get (FLD f) CAP_STAT.STATE = 3) (hmask : b.flag (FLD f) CAP_CFG.MASK_EN = false)
    (hstream : b.flag (FLD f) CAP_CFG.STREAM = false) (htrigs : (b.cap f).trigs = []) (hend : (b.cap f).ending = 0)
    (hlast : (b.cap f).entry - (b.cap f).trigEntry + 1 ≠ b.get (FLD f) CAP_LEN.POST) (word time : Nat) :
    b.capPush f word time false = (b.postStored f word).updCap f (fun c => { c with entry := c.entry + 1 }) := by
  obtain ⟨m, hcap⟩ := b.cap_postStored f word
  have hst' : (b.postStored f word).get (FLD f) CAP_STAT.STATE = 3 := (b.get_postStored (by decide) (by decide) word).trans hst
  have hpost' : (b.postStored f word).get (FLD f) CAP_LEN.POST = _ := b.get_postStored (by decide) (by decide) word
  have hmask' : (b.postStored f word).flag (FLD f) CAP_CFG.MASK_EN = false := by
    rw [flag, b.get_postStored (by decide) (by decide), ← flag, hmask]
  simp only [capPush, capDecide_none htrigs, capStore_post hst hstream, capMask_off hmask', hcap, hend, get_updCap, cap_updCap_self, hst',
    hpost', hlast, and_false, if_false, if_true, Bool.not_and_self, Bool.false_and, Bool.false_eq_true, OfNat.zero_ne_ofNat]

/-- The next entry of vectors offered to such an engine. -/
theorem capTake_post (ha : b.capActive f = true ∧ (b.cap f).ending = 0) (hsrc : b.get (FLD f) CAP_CFG.SRC = 0)
    (hst : b.get (FLD f) CAP_STAT.STATE = 3) (htsrc : b.get (FLD f) CAP_TRG.TSRC ≠ 5) (hmask : b.flag (FLD f) CAP_CFG.MASK_EN = false)
    (hstream : b.flag (FLD f) CAP_CFG.STREAM = false) (htrigs : (b.cap f).trigs = [])
    (hlast : (b.cap f).entry - (b.cap f).trigEntry + 1 ≠ b.get (FLD f) CAP_LEN.POST) {e : Nat × Nat × Nat} {rest : List (Nat × Nat × Nat)}
    (hf : (b.cap f).feed = e :: rest) (code : Nat) :
    b.capTake f code =
      let c := b.cap f
      let pre := b.get (FLD f) CAP_LEN.PRE
      let off := c.entry - c.trigEntry
      let b := b.updCap f (fun c => { c with feed := rest })
      ((b.sramSet f (c.slot * b.slotLen f + 1 + pre + off) e.1).set (FLD f) CAP_STAT.KEPT (pre + off + 1)).updCap f
        (fun c => { c with entry := c.entry + 1 }) := by
  let d := b.updCap f (fun c => { c with feed := rest })
  have hne : b.get (FLD f) CAP_CFG.SRC ≠ 1 := by omega
  have taken : d.cap f = { b.cap f with feed := rest } := cap_updCap_self _ _ _
  calc b.capTake f code = d.capRaw f e.1 e.2.1 e.2.2 := capTake_offered ha hne hf code
    _ = d.capPush f e.1 e.2.1 false := capRaw_vector (b := d) hsrc htsrc _ _ _
    _ = (d.postStored f e.1).updCap f (fun c => { c with entry := c.entry + 1 }) :=
      capPush_post (b := d) hst hmask hstream (by rw [taken]; exact htrigs) (by rw [taken]; exact ha.2) (by rw [taken]; exact hlast) _ _
    _ = _ := by simp only [postStored, taken, d, get_updCap]

/-! ### Triggers and the timeout (R268 to R270) -/

/-- The triggers that name the next entry, where it is known. -/
theorem capTriggerNow_next (ha : b.capActive f = true) {t : Nat} (hn : b.capNextTime f = some t) :
    b.capTriggerNow f = b.capDecide f t false := by
  simp only [capTriggerNow, hn, ha, if_true]

theorem capTriggerNow_none (h : b.capActive f = false ∨ b.capNextTime f = none) : b.capTriggerNow f = b := by
  unfold capTriggerNow
  split
  · next hn => exact if_neg (ne_true_of_eq_false (h.resolve_right (by simp [hn])))
  · rfl

theorem capTimeout_none (h : (b.cap f).fullTick = none) : b.capTimeout f = b := by
  simp only [capTimeout, h]

theorem capTimeout_full {t : Nat} (h : (b.cap f).fullTick = some t) :
    b.capTimeout f =
      if b.get (FLD f) CAP_CFG.MODE = 2 ∧ b.get (FLD f) CAP_STAT.STATE = 2 ∧ b.atBoundary = true ∧
          t + b.get (FLD f) CAP_TRG.TOUT ≤ b.time.ticks then
        ((b.updCap f (fun c => { c with fullTick := none })).capTrig f (b.time.lastB * 20000) true).count (FLD f) CAP_EVCNT.FORCED 1
      else b := by
  simp only [capTimeout, h]

/-- What a change of the engine does depends on the engine it meets alone. -/
theorem updCap_congr {g h : CapSt → CapSt} (e : g (b.cap f) = h (b.cap f)) : b.updCap f g = b.updCap f h := by
  simp only [updCap, e]

/-- An entry that is no trigger itself: what the triggers that name it do (R269). -/
theorem capDecide_named (b : Block) (f t : Nat) :
    b.capDecide f t false =
      let c := b.cap f
      let due := c.trigs.filter (fun x => decide (x.1 ≤ t))
      if due = [] then b
      else
        let b := b.updCap f (fun c => { c with trigs := c.trigs.filter (fun x => !decide (x.1 ≤ t)) })
        let st := b.get (FLD f) CAP_STAT.STATE
        if (st = 1 ∨ st = 2) ∧ b.get (FLD f) CAP_LEN.PRE ≤ c.entry - c.recStart then
          let tk := b.tickAt t
          let ring := if b.flag (FLD f) CAP_CFG.STREAM = true then b.ringWords f else []
          let b := (b.set (FLD f) CAP_STAT.STATE 3).updCap f (fun x => { x with
            trigEntry := c.entry, trigTick := tk, forced := due.all (fun x => x.2), fullTick := none, waiting := c.waiting ++ ring })
          ((b.set (FLD f) CAP_LAST.ENTRY c.entry).set (FLD f) CAP_LAST.TICK (tk % 65536)).arrive (272 + 8 * f + 4)
        else if st = 1 then b.count (FLD f) CAP_EVCNT.EARLY_TRIG 1
        else if st = 4 then b.count (FLD f) CAP_EVCNT.REARM_MISS 1
        else b := by
  have none_due : ∀ l : List (Nat × Bool), (l.isEmpty && !false) = true ↔ l = [] := fun l => by
    rw [Bool.not_false, Bool.and_true, List.isEmpty_iff]
  refine if_congr (none_due _) rfl (if_congr Iff.rfl ?_ rfl)
  refine congrArg (fun d : Block => ((d.set (FLD f) CAP_LAST.ENTRY _).set (FLD f) CAP_LAST.TICK _).arrive _) (updCap_congr ?_)
  rw [cap_set, cap_updCap_self]
  rfl

end

end Block

/-! ### The spill chain (R271) -/

section
variable {s : State} {f : Nat}

/-- While the memory takes no request words that wait only wake it (R14, R350). -/
theorem spillWrite_asleep (ht : s.blk.hbmTakes = false) :
    spillWrite s f = s.on (fun b => if (b.cap f).waiting = [] ∧ (b.cap f).tail = [] then b else b.hbmKnock) := by
  simp only [spillWrite, ht, Bool.not_false, if_true, Bool.and_eq_true, List.isEmpty_iff]
  exact (apply_ite (fun b => { s with blk := b }) ((s.blk.cap f).waiting = [] ∧ (s.blk.cap f).tail = []) s.blk s.blk.hbmKnock).symm

variable (ht : s.blk.hbmTakes = true)
include ht

/-- What a stopped record left goes to its places first (R273). -/
theorem spillWrite_tail (hl : (s.blk.cap f).tail ≠ []) :
    spillWrite s f = { s with
      blk := ((((s.blk.cap f).tail.map (fun x => x.1 / 4096)).eraseDups.foldl (fun b p => b.hbmReq 1 p f) s.blk).updCap f
        (fun c => { c with tail := [] })).spillNext f
      mem := placeWords s.mem (s.blk.cap f).tail } := by
  simp only [spillWrite, ht, List.isEmpty_eq_false_iff.mpr hl, Bool.not_true, Bool.not_false, Bool.false_eq_true, if_false, if_true]

variable (hl : (s.blk.cap f).tail = [])
include hl

/-- In buffer mode there is nothing to write. -/
theorem spillWrite_buffer (hs : s.blk.flag (FLD f) CAP_CFG.STREAM = false) : spillWrite s f = s := by
  simp only [spillWrite, ht, hl, hs, List.isEmpty_nil, Bool.not_true, Bool.not_false, Bool.false_eq_true, if_false, if_true]

variable (hs : s.blk.flag (FLD f) CAP_CFG.STREAM = true)
include hs

/-- Of a streaming record without a page only what follows a write is done. -/
theorem spillWrite_noPage (hp : (s.blk.cap f).page = none) : spillWrite s f = s.on (fun b => b.spillNext f) := by
  simp only [spillWrite, ht, hl, hs, hp, List.isEmpty_nil, Bool.not_true, Bool.false_eq_true, if_false]

/-- With one the words that wait are written, up to the end of that page. -/
theorem spillWrite_page {p : Nat} (hp : (s.blk.cap f).page = some p) :
    spillWrite s f =
      let b := s.blk
      let c := b.cap f
      let ws := c.waiting.take (4096 - c.word)
      { s with
        blk := ((if ws = [] then b else (b.hbmReq 1 p f).set (FLD f) CAP_STAT.KEPT (b.get (FLD f) CAP_STAT.KEPT + ws.length)).updCap f
          (fun c => { c with waiting := c.waiting.drop ws.length, word := c.word + ws.length })).spillNext f
        mem := Memory.setWords s.mem .pages (p * 4096 + c.word) ws } := by
  simp only [spillWrite, ht, hl, hs, hp, List.isEmpty_nil, Bool.not_true, Bool.false_eq_true, if_false, List.isEmpty_iff]

end

end Sys2Proof.Machine
end

section
/-!
PROOFS. The capture engines.
-/
namespace Sys2Proof.Proofs
open Sys2Proof.Machine

/-- Settles O29: a request is cited by who holds the engine and by what is due, an entry and a trigger by what comes next,
and a spill write by what waits and where. -/
theorem captureEnginesArmTakeAndEndRecords : Obligations.CaptureEnginesArmTakeAndEndRecords := by
  intro s f code b c pre off err ask active stream spilled
  refine ⟨fun h => ?free, fun h => ?held, rfl, fun h => exec_self_of_on (·.capArmApply f) rfl (Block.capArmApply_none h),
    fun h => exec_of_on (·.capArmApply f) rfl (Block.capArmApply_due h),
    fun ha hs i t hn => exec_of_on (·.capTake f code) rfl (Block.capTake_sample ha hs hn code),
    fun ha hs e rest hf => ⟨exec_of_on (·.capTake f code) rfl (Block.capTake_offered ha hs hf code),
      fun hsrc hst htsrc hmask hstream htrigs hlast => exec_of_on (·.capTake f code) rfl
        (Block.capTake_post ha hsrc hst htsrc hmask (eq_false_of_ne_true hstream) htrigs hlast hf code)⟩,
    fun h => exec_self_of_on (·.capTake f code) rfl (Block.capTake_none h code),
    fun ha t hn => exec_of_on (·.capTriggerNow f) rfl ((Block.capTriggerNow_next ha hn).trans (Block.capDecide_named _ _ _)),
    fun h => exec_self_of_on (·.capTriggerNow f) rfl (Block.capTriggerNow_none h),
    fun t h => exec_of_on (·.capTimeout f) rfl (Block.capTimeout_full h),
    fun h => exec_self_of_on (·.capTimeout f) rfl (Block.capTimeout_none h),
    fun h => exec_of_on (·.capStopApply f) rfl (Block.capStopApply_due h),
    fun h => exec_self_of_on (·.capStopApply f) rfl (Block.capStopApply_none h),
    fun ht => congrArg _ (spillWrite_asleep ht), fun ht hl => congrArg _ (spillWrite_tail ht hl),
    fun ht hl hs => congrArg _ (spillWrite_buffer ht hl (eq_false_of_ne_true hs)),
    fun ht hl hs hp => congrArg _ (spillWrite_noPage ht hl hs hp), fun ht hl hs p hp => congrArg _ (spillWrite_page ht hl hs hp), rfl⟩
  case free =>
    have granted : ∀ n ≠ 1, s.on (fun b => b.capHost f n) = ask n := fun n hn =>
      State.on_congr ((Block.capHost_free h n).trans (if_neg fun hc => hn hc.1))
    have arm : s.on (fun b => b.capHost f 1) = if stream ∧ b.seqHeld (16 * f + 6) = true then err else ask 1 := by
      split
      · next hc => exact State.on_congr ((Block.capHost_free h 1).trans (if_pos ⟨rfl, hc⟩))
      · next hc => exact State.on_congr ((Block.capHost_free h 1).trans (if_neg fun hd => hc hd.2))
    exact ⟨congrArg _ (granted 2 (by decide)), congrArg _ (granted 3 (by decide)), congrArg _ arm⟩
  case held =>
    have refused : ∀ n, s.on (fun b => b.capHost f n) = err := fun n => State.on_congr (Block.capHost_held h n)
    exact ⟨congrArg _ (refused 1), congrArg _ (refused 2), congrArg _ (refused 3)⟩

end Sys2Proof.Proofs
end

section
/-!
SUPPORT. The device power supplies (R281 to R289), with their conditions as propositions.
-/
namespace Sys2Proof.Machine.Block

theorem dpsConnect_eq (b : Block) (r : Nat) :
    b.dpsConnect r =
      if b.flag (DPS r) DPS_STAT.WAIT = true ∧ (b.dps r).waitLeft = 0 ∧ b.atBoundary = true then
        let b := (b.setFlag (DPS r) DPS_STAT.WAIT false).setFlag (DPS r) DPS_STAT.OUT_SW true
        let b := b.updDps r (fun d => { d with gateHeld := !b.flag (DPS r) DPS_CTRL.BOOST })
        (if b.held then b.dpsClrStart r else b.dpsRamp r).dpsSync r
      else b := by
  simp only [dpsConnect, Bool.and_eq_true, beq_iff_eq, and_assoc]

theorem dpsDisconnect_eq (b : Block) (r : Nat) :
    b.dpsDisconnect r =
      if ((b.dps r).ending = true ∨ (b.dps r).bolt = 2) ∧ (b.dps r).pos = 0 ∧ b.atBoundary = true then
        let b := b.setFlag (DPS r) DPS_STAT.OUT_SW false
        let b := b.updDps r (fun d => { d with ending := false, bolt := if d.bolt = 2 then 0 else d.bolt, clrRamp := false, gateHeld := true })
        let b := (if (b.dps r).out = 0 then b else b.dpsOut r 0).dpsMove r false
        ((b.setFlag (DPS r) DPS_STAT.GATE_LIM false).dpsSync r).endReaction
      else b := by
  simp only [dpsDisconnect, Bool.and_eq_true, Bool.or_eq_true, beq_iff_eq, and_assoc]

/-- OVR of a conversion, spelt out (R66, R292). -/
theorem dpsOver_eq (vc ic : Nat) :
    dpsOver vc ic = (vc % 2 ^ 18 == 0 || vc % 2 ^ 18 == 262143 || ic % 2 ^ 18 == 131071 || ic % 2 ^ 18 == 131072) := by
  simp only [dpsOver, List.contains_cons, List.contains_nil, Bool.or_false, Bool.or_assoc]

theorem senseOpen_eq (b : Block) (r : Nat) :
    b.senseOpen r =
      if b.flag (DPS r) DPS_CTRL.EN = true ∧ b.flag (DPS r) DPS_STAT.SENSE_OPEN = false then
        let b := (b.setFlag (DPS r) DPS_STAT.SENSE_OPEN true).count (DPS r) DPS_EVCNT.SENSE_OPEN 1
        ((b.dpsSync r).setLive (322 + r) true).fault (322 + r) 1
      else b := by
  simp only [senseOpen, Bool.and_eq_true, Bool.not_eq_true']

/-- A regulator enters its clamp only from outside it, and at a load that reaches the clamp in force (R282). -/
theorem not_clamped_iff {b : Block} {r load : Nat} :
    ¬ (b.flag (DPS r) DPS_STAT.CLAMP = true ∨ load < b.dpsClamp r) ↔ b.flag (DPS r) DPS_STAT.CLAMP = false ∧ b.dpsClamp r ≤ load := by
  rw [not_or, Bool.not_eq_true, Nat.not_lt]

theorem dpsOverload_some {b : Block} {r t : Nat} (h : (b.dps r).clampAt = some t) :
    b.dpsOverload r =
      if b.flag (DPS r) DPS_STAT.CLAMP = true ∧ (b.dps r).clampRaised = false ∧ t + 1000000 < b.time.now then
        (b.updDps r (fun d => { d with clampRaised := true })).fault (322 + r) 2
      else b := by
  simp only [dpsOverload, h, Bool.and_eq_true, Bool.not_eq_true', decide_eq_true_eq, and_assoc]

theorem dpsOverload_none {b : Block} {r : Nat} (h : (b.dps r).clampAt = none) : b.dpsOverload r = b := by
  simp only [dpsOverload, h]

theorem gateLimit_eq (b : Block) (r : Nat) :
    b.gateLimit r =
      if b.flag (DPS r) DPS_CTRL.BOOST = true ∧ b.flag (DPS r) DPS_STAT.OUT_SW = true then
        (b.setFlag (DPS r) DPS_STAT.GATE_LIM true).fault (322 + r) 3
      else b := by
  simp only [gateLimit, Bool.and_eq_true]

end Sys2Proof.Machine.Block
end

section
/-!
PROOFS. A step of the block; the device power supplies.
-/
namespace Sys2Proof.Proofs
open Sys2Proof.Machine

/-- Settles O51: the two cases are those of `step`, on the queue. -/
theorem aStepRunsTheFrontCommand : Obligations.AStepRunsTheFrontCommand := by
  intro s c rest
  constructor
  · intro h
    rw [step, h]
  · intro h
    rw [step, h]

/-- Settles O22: each command is one guarded change of the block, with OVR spelt out; a clamp is entered where it does not already act and
the load is not below it. -/
theorem suppliesConnectConvertAndAreWatched : Obligations.SuppliesConnectConvertAndAreWatched := by
  intro s r vc ic load t0 clamp b connect opens convert sense enters v c gate
  refine ⟨fun h => exec_of_on (·.dpsConnect r) rfl ((Block.dpsConnect_eq _ _).trans (if_pos h)),
    fun h => exec_self_of_on (·.dpsConnect r) rfl ((Block.dpsConnect_eq _ _).trans (if_neg h)),
    fun h => exec_of_on (·.dpsDisconnect r) rfl ((Block.dpsDisconnect_eq _ _).trans (if_pos h)),
    fun h => exec_self_of_on (·.dpsDisconnect r) rfl ((Block.dpsDisconnect_eq _ _).trans (if_neg h)),
    fun h => exec_of_on (·.dpsConversion r vc ic clamp) rfl ((if_pos h).trans ?_),
    fun h => exec_self_of_on (·.dpsConversion r vc ic clamp) rfl (if_neg h),
    fun h => exec_of_on (·.senseOpen r) rfl ((Block.senseOpen_eq _ _).trans (if_pos h)),
    fun h => exec_self_of_on (·.senseOpen r) rfl ((Block.senseOpen_eq _ _).trans (if_neg h)),
    fun h => exec_of_on (·.dpsClampEnter r load) rfl (if_neg (Block.not_clamped_iff.mpr h)),
    fun h => exec_self_of_on (·.dpsClampEnter r load) rfl (if_pos (not_not.mp (mt Block.not_clamped_iff.mp h))), rfl,
    fun h => exec_of_on (·.dpsOverload r) rfl (Block.dpsOverload_some h),
    fun h => exec_self_of_on (·.dpsOverload r) rfl (Block.dpsOverload_none h),
    fun h => exec_of_on (·.gateLimit r) rfl ((Block.gateLimit_eq _ _).trans (if_pos h)),
    fun h => exec_self_of_on (·.gateLimit r) rfl ((Block.gateLimit_eq _ _).trans (if_neg h)),
    fun h => exec_of_on Block.boltGroups rfl (if_pos h),
    fun h => exec_self_of_on Block.boltGroups rfl (if_neg (Bool.not_eq_true _ ▸ h))⟩
  simp only [Block.dpsOver_eq, v, c]

end Sys2Proof.Proofs
end

section
/-!
SUPPORT. The result ring and wafers (R301 to R306), with their conditions as propositions.
-/
namespace Sys2Proof.Machine
namespace Block

theorem ringWrite_some {b : Block} {r : QRec} {rest : List QRec} (h : ringNext [] b.res.queue = some (r, rest))
    (hf : b.flag 0 RES_CTRL.EN = true ∧ b.get 0 RES_PROD.COUNT - b.get 0 RES_CONS.COUNT < b.ringSize) :
    b.ringWrite = ((({ b with res := { b.res with queue := rest } }).set 0 RES_STAT.QLEVEL rest.length).ringPut r).endReaction := by
  rw [ringWrite, if_pos hf, h]

theorem ringWrite_none {b : Block}
    (h : ¬ (b.flag 0 RES_CTRL.EN = true ∧ b.get 0 RES_PROD.COUNT - b.get 0 RES_CONS.COUNT < b.ringSize) ∨
      ringNext [] b.res.queue = none) : b.ringWrite = b := by
  unfold ringWrite
  split
  · next hf => rw [h.resolve_left (not_not.mpr hf)]
  · rfl

/-- Setting EN while it is 1 changes nothing (R304). -/
theorem resCtrl_set {b : Block} {v : Nat} (h : bit v 0 = true) :
    b.resCtrl v =
      if b.flag 0 RES_CTRL.EN = true then b else ((b.set 0 RES_CTRL.EN 1).set 0 RES_PROD.COUNT 0).set 0 RES_CONS.COUNT 0 := by
  rw [resCtrl, if_pos h]

/-- EN is not cleared while records wait (R304). -/
theorem resCtrl_clear {b : Block} {v : Nat} (h : bit v 0 = false) :
    b.resCtrl v = if b.flag 0 RES_CTRL.EN = true ∧ b.res.queue ≠ [] then b.fault 411 0 else b.set 0 RES_CTRL.EN 0 := by
  simp only [resCtrl, h, Bool.false_eq_true, if_false, Bool.not_eq_true', List.isEmpty_eq_false_iff]

/-- The module is busy or has records queued, as a proposition (R305). -/
theorem not_quiet_iff (b : Block) :
    ((!b.moduleIdle) = true ∨ (!b.res.queue.isEmpty) = true) ↔ ¬ (b.moduleIdle = true ∧ b.res.queue = []) := by
  rw [Bool.not_eq_true', Bool.not_eq_true', List.isEmpty_eq_false_iff, not_and_or, Bool.not_eq_true]

theorem waferOpen_busy {b : Block} (h : ¬ (b.moduleIdle = true ∧ b.res.queue = [])) (q id : Nat) : b.waferOpen q id = b.complete q 0 0x04 :=
  if_pos ((not_quiet_iff b).mpr h)

/-- In an idle module with no record queued a wafer opens with every account at zero (R305). -/
theorem waferOpen_quiet {b : Block} (h : b.moduleIdle = true ∧ b.res.queue = []) (q id : Nat) :
    b.waferOpen q id =
      let b := (List.range 256).foldl (fun b s =>
        let b := (b.set (16 * s) SITE_ACC0.BINNED 0).set (16 * s) SITE_ACC0.BIN 0
        let b := (b.set (16 * s) SITE_ACC0.FLAGS 0).set (16 * s) SITE_ACC0.RECORDS 0
        (b.set (16 * s) SITE_ACC1.PFAIL 0).set (16 * s) SITE_ACC1.VFAIL 0) b
      let b := { b with res := { b.res with waferId := id, waferTick := b.tick, digested := 0, digest := [0, 0, 0, 0] } }
      ((b.set 0 RES_WAFER.ID id).set 0 RES_STAT.WAFER 1).complete q 0 0 :=
  if_neg (mt (not_quiet_iff b).mp (not_not.mpr h))

/-- The refusals of WAFER_SIGN in their order, with every test a proposition (R306, R439, R445). -/
theorem waferSign_eq (b : Block) (q : Nat) :
    b.waferSign q =
      if b.krRefuse q 0x31 1 ≠ 0 then b.complete q 0 (b.krRefuse q 0x31 1)
      else if b.kr.att = none then b.complete q 0 0x63
      else if b.flag 0 RES_STAT.WAFER = false then b.complete q 0 0x0D
      else if ¬ (b.moduleIdle = true ∧ b.res.queue = []) then b.complete q 0 0x04
      else if b.freeSlot = none then b.takeSlot q b.waferBody
      else (b.takeSlot q b.waferBody).set 0 RES_STAT.WAFER 0 := by
  simp only [waferSign, Option.isNone_iff_eq_none, not_and_or, Bool.not_eq_true', Bool.not_eq_true, List.isEmpty_eq_false_iff, ne_eq]

theorem waferSignDone_runs {b : Block} {k : Nat} (h : b.slotRuns k 0x31 = true) :
    b.waferSignDone k =
      let body := (b.slot k).aux
      let b := b.hostWrite (b.slotWord k 2) (body ++ (List.range 2136).map (Config.signature body))
      ((b.opres k 0 (body.getD 7 0)).npart k 1).slotEnd k 0 := by
  simp only [waferSignDone, h, Bool.not_true, Bool.false_eq_true, if_false]

theorem waferSignDone_none {b : Block} {k : Nat} (h : b.slotRuns k 0x31 = false) : b.waferSignDone k = b := by
  simp only [waferSignDone, h, Bool.not_false, if_true]

end Block

section
variable {q : Fin 64} {s : State} {ws : List Nat}

theorem exec_waferOpen (h : s.blk.cmdOf q 0x30 = some ws) : exec (.waferOpen q) s = .next (s.on (·.waferOpen q (ws.getD 1 0))) :=
  exec_of_on _ rfl (by simp only [h])

theorem exec_waferOpen_none (h : s.blk.cmdOf q 0x30 = none) : exec (.waferOpen q) s = .next s :=
  exec_self_of_on _ rfl (by simp only [h])

theorem exec_waferSign (h : s.blk.cmdOf q 0x31 = some ws) : exec (.waferSign q) s = .next (s.on (·.waferSign q)) :=
  exec_of_on _ rfl (by simp only [h])

theorem exec_waferSign_none (h : s.blk.cmdOf q 0x31 = none) : exec (.waferSign q) s = .next s :=
  exec_self_of_on _ rfl (by simp only [h])

end

end Sys2Proof.Machine
end

section
/-!
PROOFS. The result ring and the wafers.
-/
namespace Sys2Proof.Proofs
open Sys2Proof.Machine

/-- Settles O30: the ring moves where a slot is free and a record may go; a wafer is opened and signed by what its command finds, refusal
by refusal. -/
theorem resultsReachTheRingAndWafersAreSigned : Obligations.ResultsReachTheRingAndWafersAreSigned := by
  intro s q k v r rest ws b free quiet
  exact ⟨fun hf hn => exec_of_on Block.ringWrite rfl (Block.ringWrite_some hn hf),
    fun h => exec_self_of_on Block.ringWrite rfl (Block.ringWrite_none h), rfl,
    fun h => exec_of_on (·.resCtrl v.toNat) rfl (Block.resCtrl_set h),
    fun h => exec_of_on (·.resCtrl v.toNat) rfl (Block.resCtrl_clear h),
    fun hc h => (exec_waferOpen hc).trans (congrArg _ (State.on_congr (Block.waferOpen_quiet h _ _))),
    fun hc h => (exec_waferOpen hc).trans (congrArg _ (State.on_congr (Block.waferOpen_busy h _ _))),
    exec_waferOpen_none,
    fun hc => (exec_waferSign hc).trans (congrArg _ (State.on_congr (Block.waferSign_eq _ _))),
    exec_waferSign_none,
    fun h => exec_of_on (·.waferSignDone k) rfl (Block.waferSignDone_runs h),
    fun h => exec_self_of_on (·.waferSignDone k) rfl (Block.waferSignDone_none h)⟩

end Sys2Proof.Proofs
end

section
/-!
SUPPORT. Single bits of a number: which bits the operations on one bit leave.
-/
namespace Sys2Proof

theorem bit_eq_testBit (n i : Nat) : bit n i = n.testBit i := by
  rw [bit, Nat.testBit_eq_decide_div_mod_eq]
  rfl

/-- The bits of a number without its bit `i`. -/
theorem testBit_clrBit (n i k : Nat) : (clrBit n i).testBit k = (n.testBit k && decide (k ≠ i)) := by
  unfold clrBit
  split
  · next h =>
    have hodd : n / 2 ^ i % 2 = 1 := by simpa only [bit, beq_iff_eq] using h
    have hr : n % 2 ^ i < 2 ^ i := Nat.mod_lt _ (Nat.two_pow_pos i)
    have hn : n = 2 ^ i * (n / 2 ^ i) + n % 2 ^ i := (Nat.div_add_mod n (2 ^ i)).symm
    generalize n / 2 ^ i = d at hn hodd
    generalize n % 2 ^ i = r at hn hr
    obtain ⟨e, rfl⟩ : ∃ e, d = 2 * e + 1 := ⟨d / 2, by omega⟩
    have hsub : n - 2 ^ i = 2 ^ i * (2 * e) + r := by rw [hn, Nat.mul_succ]; omega
    rw [hsub, hn, Nat.testBit_two_pow_mul_add _ hr, Nat.testBit_two_pow_mul_add _ hr]
    obtain hk | rfl | hk := Nat.lt_trichotomy k i
    · simp [hk, Nat.ne_of_lt hk]
    · simp
    · obtain ⟨m, rfl⟩ : ∃ m, k = i + (m + 1) := ⟨k - i - 1, by omega⟩
      have he : (2 * e + 1) / 2 = e := by omega
      simp [Nat.testBit_succ, he]
  · next h =>
    rw [bit_eq_testBit, Bool.not_eq_true] at h
    by_cases hk : k = i
    · rw [hk, h, Bool.false_and]
    · simp [hk]

end Sys2Proof
end

section
/-!
SUPPORT. Fault collection (R303, R393 to R404), with its conditions as propositions; the bits of FC_STICKY that a write leaves.
-/
namespace Sys2Proof.Machine.Block

/-- The use of FC_WIN reports a failed complement (R394, R397). -/
theorem bucketDrain_eq (b : Block) (n : Nat) :
    b.bucketDrain n =
      if b.get (8 * n) FC_STATE.BUCKET ≠ 0 ∧ b.drainWin n ≤ Sparse.get 0 n b.flt.drain then
        let b := if b.fcCfgOk n then b else b.fault 419 0
        ({ b with flt := { b.flt with drain := Sparse.set 0 n 0 b.flt.drain } }).set (8 * n) FC_STATE.BUCKET (b.get (8 * n) FC_STATE.BUCKET - 1)
      else b := by
  cases h : b.fcCfgOk n <;> simp [bucketDrain, faultIf, h]

/-! ### FC_CFG (R397) -/

/-- The upper half of a 64-bit word needs no cut to 32 bits. -/
theorem upper_half (v : Word) : v.toNat / 2 ^ 32 % 2 ^ 32 = v.toNat / 2 ^ 32 := by omega

theorem fcCfgWrite_bad {v : Word} (h : ¬ v.toNat % 2 ^ 32 + v.toNat / 2 ^ 32 = 2 ^ 32 - 1) (b : Block) (n : Nat) :
    b.fcCfgWrite n v.toNat = b.fault 402 0 := by
  rw [fcCfgWrite, upper_half, if_pos h]

theorem fcCfgWrite_ignored {v : Word} (h : v.toNat % 2 ^ 32 + v.toNat / 2 ^ 32 = 2 ^ 32 - 1) {n : Nat} (hn : 419 ≤ n ∧ n ≤ 422) (b : Block) :
    b.fcCfgWrite n v.toNat = b := by
  rw [fcCfgWrite, upper_half, if_neg (not_not.mpr h), if_pos hn]

theorem fcCfgWrite_taken {v : Word} (h : v.toNat % 2 ^ 32 + v.toNat / 2 ^ 32 = 2 ^ 32 - 1) {n : Nat} (hn : ¬ (419 ≤ n ∧ n ≤ 422)) (b : Block) :
    b.fcCfgWrite n v.toNat =
      let low := v.toNat % 2 ^ 32
      let b := ((b.set (8 * n) FC_CFG.BASE (bits low 0 2)).set (8 * n) FC_CFG.PROMO (bits low 2 2)).set (8 * n) FC_CFG.N (bits low 8 8)
      let b := if bits low 4 2 = 3 then b else b.set (8 * n) FC_CFG.SCOPE (bits low 4 2)
      let b := if bits low 16 16 = 0 then b else b.set (8 * n) FC_CFG.WIN (bits low 16 16)
      let b := b.set (8 * n) FC_CFG.NCFG (2 ^ 32 - 1 - (b.get (8 * n) FC_CFG.BASE + 4 * b.get (8 * n) FC_CFG.PROMO +
        16 * b.get (8 * n) FC_CFG.SCOPE + 256 * b.get (8 * n) FC_CFG.N + 65536 * b.get (8 * n) FC_CFG.WIN))
      if (bits low 4 2 == 3 || bits low 16 16 == 0) = true then b.fault 402 0 else b := by
  rw [fcCfgWrite, upper_half, if_neg (not_not.mpr h), if_neg hn]
  rfl

/-! ### FC_STICKY (R393, R398) -/

/-- A write of HELD moves no sequencer: the unit of a source is the same. -/
theorem faultUnit_set_held (b : Block) {n : Nat} (hn : n < 640) (v k : Nat) : (b.set (8 * n) FC_STATE.HELD v).faultUnit k = b.faultUnit k := by
  have hsub : (b.set (8 * n) FC_STATE.HELD v).flag 0 RM_SEQMAP.SUB = b.flag 0 RM_SEQMAP.SUB :=
    congrArg (· != 0) (get_set_ne _ _ (by simp only [fkey, RM_SEQMAP.SUB, FC_STATE.HELD]; omega))
  have hfield : (b.set (8 * n) FC_STATE.HELD v).get 0 RM_SEQMAP.FIELD = b.get 0 RM_SEQMAP.FIELD :=
    get_set_ne _ _ (by simp only [fkey, RM_SEQMAP.FIELD, FC_STATE.HELD]; omega)
  simp only [faultUnit, hsub, hfield]

/-- A cleared sticky bit ends a Degraded hold of its source while the live bit is 0 (R393, R398). -/
theorem stickyClear_eq (b : Block) {n : Nat} (hn : n < 640) :
    b.stickyClear n =
      let c := b.set (8 * (n / 64)) FC_STICKY.BITS (clrBit (b.get (8 * (n / 64)) FC_STICKY.BITS) (n % 64))
      if (c.flt.degraded.any (fun x => x.1 == n) && !c.flag (8 * n) FC_STATE.LIVE) = true then
        let d := { c with flt := { c.flt with degraded := c.flt.degraded.filter (fun y => y.1 != n) } }
        (if d.get (8 * n) FC_STATE.HELD = 1 then d.set (8 * n) FC_STATE.HELD 0 else d).degradedEnd (d.faultUnit n)
      else c := by
  unfold stickyClear
  generalize b.set (8 * (n / 64)) FC_STICKY.BITS (clrBit (b.get (8 * (n / 64)) FC_STICKY.BITS) (n % 64)) = c
  simp only [← List.isSome_find?]
  cases hf : c.flt.degraded.find? (fun x => x.1 == n) with
  | none => rfl
  | some x =>
    obtain rfl : x.1 = n := beq_iff_eq.mp (List.find?_some hf :)
    cases c.flag (8 * x.1) FC_STATE.LIVE with
    | true => rfl
    | false =>
      simp only [Option.isSome_some, Bool.not_false, Bool.and_self, Bool.false_eq_true, if_true, if_false]
      split
      · rw [faultUnit_set_held _ hn]
      · rfl

/-- With nothing held Degraded a write of FC_STICKY clears bits of that register alone. -/
theorem stickyClear_of_none {b : Block} (h : b.flt.degraded = []) (i : Nat) {k : Nat} (hk : k < 64) :
    b.stickyClear (64 * i + k) = b.set (8 * i) FC_STICKY.BITS (clrBit (b.get (8 * i) FC_STICKY.BITS) k) := by
  have hdiv : (64 * i + k) / 64 = i := by omega
  have hmod : (64 * i + k) % 64 = k := by omega
  simp only [stickyClear, hdiv, hmod, set_flt, h, List.find?_nil]

/-- The bits of FC_STICKY after a write of it, bit by bit as the write goes through them. -/
theorem stickyFold_get (i v : Nat) (l : List Nat) (hl : ∀ k ∈ l, k < 64) : ∀ b : Block, b.flt.degraded = [] →
    let c := l.foldl (fun b k => if bit v k then b.stickyClear (64 * i + k) else b) b
    (∀ j < 64, (c.get (8 * i) FC_STICKY.BITS).testBit j = ((b.get (8 * i) FC_STICKY.BITS).testBit j && !(v.testBit j && l.contains j))) ∧
    ∀ base F, fkey base F ≠ fkey (8 * i) FC_STICKY.BITS → c.get base F = b.get base F := by
  induction l with
  | nil => intro b _; exact ⟨fun j _ => by simp, fun _ _ _ => rfl⟩
  | cons k l ih =>
    intro b hb
    rw [List.foldl_cons]
    have hk : k < 64 := hl k List.mem_cons_self
    have hl' : ∀ j ∈ l, j < 64 := fun j hj => hl j (List.mem_cons_of_mem _ hj)
    by_cases hv : bit v k = true
    · simp only [hv, if_true]
      rw [stickyClear_of_none hb i hk]
      obtain ⟨hbits, hrest⟩ := ih hl' (b.set (8 * i) FC_STICKY.BITS (clrBit (b.get (8 * i) FC_STICKY.BITS) k)) hb
      refine ⟨fun j hj => ?_, fun base F hne => (hrest base F hne).trans (get_set_ne _ _ hne)⟩
      have hw : j < FC_STICKY.BITS.w := hj
      rw [hbits j hj, get_set_self, Nat.testBit_mod_two_pow, testBit_clrBit]
      rw [bit_eq_testBit] at hv
      by_cases hjk : j = k
      · subst hjk; simp [hv]
      · simp [hw, hjk]
    · simp only [hv, Bool.false_eq_true, if_false]
      obtain ⟨hbits, hrest⟩ := ih hl' b hb
      refine ⟨fun j hj => ?_, hrest⟩
      rw [hbits j hj]
      rw [bit_eq_testBit, Bool.not_eq_true] at hv
      by_cases hjk : j = k
      · subst hjk; simp [hv]
      · simp [hjk]

/-! ### Recovery (R403) -/

/-- The bolt that a recovery names does not depend on its result. -/
theorem recoverTarget_set_result (b : Block) (n : Nat) : (b.set 0 FC_RECOVER.RESULT n).recoverTarget = b.recoverTarget := by
  have hs : (b.set 0 FC_RECOVER.RESULT n).get 0 FC_RECOVER.SCOPE = b.get 0 FC_RECOVER.SCOPE := get_set_ne _ _ (by decide)
  have hu : (b.set 0 FC_RECOVER.RESULT n).get 0 FC_RECOVER.UNIT = b.get 0 FC_RECOVER.UNIT := get_set_ne _ _ (by decide)
  simp only [recoverTarget, hs, hu, set_flt]

/-- A bolt matches a recovery by its scope and, below the module's, its unit. -/
theorem recoverMatch_iff {b : Block} {x : BoltRec} :
    (x.scope == b.get 0 FC_RECOVER.SCOPE && x.unit == (if x.scope = 3 then x.unit else b.get 0 FC_RECOVER.UNIT)) = true ↔
      x.scope = b.get 0 FC_RECOVER.SCOPE ∧ (x.scope = 3 ∨ x.unit = b.get 0 FC_RECOVER.UNIT) := by
  rw [Bool.and_eq_true, beq_iff_eq, beq_iff_eq]
  by_cases h : x.scope = 3 <;> simp [h]

theorem recoverTarget_some {b : Block} {r : BoltRec} (h : b.recoverTarget = some r) :
    r ∈ b.flt.bolts ∧ r.scope = b.get 0 FC_RECOVER.SCOPE ∧ (r.scope = 3 ∨ r.unit = b.get 0 FC_RECOVER.UNIT) :=
  ⟨List.mem_of_find?_eq_some h, recoverMatch_iff.mp (List.find?_some h :)⟩

theorem recoverTarget_none {b : Block} (h : b.recoverTarget = none) :
    ∀ x ∈ b.flt.bolts, ¬ (x.scope = b.get 0 FC_RECOVER.SCOPE ∧ (x.scope = 3 ∨ x.unit = b.get 0 FC_RECOVER.UNIT)) :=
  fun x hx hm => List.find?_eq_none.mp h x hx (recoverMatch_iff.mpr hm)

/-- A recovery applied (R403): its result, and where that is 1 what the end of the bolt frees. -/
theorem recoveryApply_due {b : Block} (hr : b.flt.recover = true) (hb : b.atBoundary = true) :
    b.recoveryApply =
      let c := ({ b with flt := { b.flt with recover := false } }).set 0 FC_RECOVER.RESULT b.recoverResult
      match b.recoverTarget with
      | some r =>
        if b.recoverResult = 1 then
          let c := { c with flt := { c.flt with bolts := c.flt.bolts.filter (fun x => x != r) } }
          let c := (c.scopeSlices (r.scope, r.unit)).foldl slcRecover c
          let c := (c.scopeRegs (r.scope, r.unit)).foldl dpsRecover c
          (r.srcs.foldl (fun c s => c.set (8 * s) FC_STATE.HELD 0) c).aliveSync.arrive 633
        else c
      | none => c := by
  have ht : Block.recoverTarget { b with flt := { b.flt with recover := false } } = b.recoverTarget := rfl
  simp only [recoveryApply, hr, hb, Bool.and_self, if_true, recoverTarget_set_result, ht]
  rfl

/-! ### The heartbeat and notifications (R303, R404) -/

theorem heartbeatLoss_eq (b : Block) :
    b.heartbeatLoss =
      if b.flag 0 FC_ALIVE.HB = true ∧ b.flt.heartbeat + 200000 ≤ b.time.now then ((b.setFlag 0 FC_ALIVE.HB false).aliveSync).fault 423 0
      else b := by
  simp only [heartbeatLoss, Bool.and_eq_true, decide_eq_true_eq]

/-- The oldest waiting notification takes an entry, a reserved one only when the others are full (R303). -/
theorem notifEnqueue_cons {b : Block} {x : Notif} {rest : List Notif} (h : b.res.waiting = x :: rest) :
    b.notifEnqueue =
      if 4032 ≤ b.queueUsed ∧ 64 ≤ b.reservedUsed then b
      else (({ b with res := { b.res with waiting := rest } }).enqueueNotif x (decide (4032 ≤ b.queueUsed))).endReaction := by
  simp only [notifEnqueue, h]
  by_cases hq : b.queueUsed < 4032
  · simp only [hq, if_true, Nat.not_le.mpr hq, false_and, if_false, decide_false]
  · by_cases hr : b.reservedUsed < 64
    · simp only [hq, hr, if_true, if_false, Nat.not_le.mpr hr, and_false, Nat.le_of_not_lt hq, decide_true]
    · simp only [hq, hr, if_false, Nat.le_of_not_lt hq, Nat.le_of_not_lt hr, and_self, if_true]

theorem notifEnqueue_nil {b : Block} (h : b.res.waiting = []) : b.notifEnqueue = b := by
  simp only [notifEnqueue, h]

end Sys2Proof.Machine.Block
end

section
/-!
PROOFS. Fault collection.
-/
namespace Sys2Proof.Proofs
open Sys2Proof.Machine

/-- Settles O38: most commands are one guarded change of the block. A write of FC_STICKY goes through its bits one by one; a recovery is
judged before its result is stored, which changes neither the bolt that it names nor the judgement. -/
theorem faultCollectionDrainsConfiguresAndRecovers : Obligations.FaultCollectionDrainsConfiguresAndRecovers := by
  intro s n i v b low good drained lost own
  refine ⟨fun h => exec_of_on (·.bucketDrain n) rfl ((Block.bucketDrain_eq _ _).trans (if_pos h)),
    fun h => exec_of_on (·.bucketDrain n) rfl ((Block.bucketDrain_eq _ _).trans (if_neg h)), rfl,
    fun h => exec_of_on (·.fcCfgWrite n v.toNat) rfl (Block.fcCfgWrite_bad h _ _),
    fun h hn => exec_of_on (·.fcCfgWrite n v.toNat) rfl (Block.fcCfgWrite_ignored h hn _),
    fun h hn => exec_of_on (·.fcCfgWrite n v.toNat) rfl (Block.fcCfgWrite_taken h hn _),
    exec_of_on (·.stickyWrite i v.toNat) rfl ?sticky, fun h => ?bits, rfl,
    fun h => exec_of_on Block.recoveryApply rfl (if_neg (Bool.not_eq_true _ ▸ h)),
    fun hr hb => exec_of_on Block.recoveryApply rfl (Block.recoveryApply_due hr hb),
    fun r h => Block.recoverTarget_some h, Block.recoverTarget_none,
    fun h => exec_of_on Block.aliveToggle rfl (if_pos h), fun h => exec_of_on Block.aliveToggle rfl (if_neg h),
    fun h => exec_of_on Block.heartbeatLoss rfl ((Block.heartbeatLoss_eq _).trans (if_pos h)),
    fun h => exec_of_on Block.heartbeatLoss rfl ((Block.heartbeatLoss_eq _).trans (if_neg h)),
    exec_of_on Block.notifEnqueue rfl ?notify⟩
  case sticky =>
    refine List.foldl_ext _ _ _ fun b k hk => ?_
    have hn : 64 * i.val + k < 640 := by
      have := List.mem_range.mp hk
      omega
    rw [Block.stickyClear_eq b hn]
    cases bit v.toNat k <;> rfl
  case bits =>
    obtain ⟨hbits, hrest⟩ := Block.stickyFold_get i v.toNat (List.range 64) (fun k hk => List.mem_range.mp hk) s.blk h
    refine ⟨_, rfl, fun k hk => ?_, fun base F hF => hrest base F (by simpa using hF), rfl, rfl⟩
    rw [bit_eq_testBit, bit_eq_testBit, bit_eq_testBit]
    refine (hbits k hk).trans ?_
    simp [b, hk]
  case notify =>
    cases hw : s.blk.res.waiting with
    | nil => exact Block.notifEnqueue_nil hw
    | cons x rest => exact Block.notifEnqueue_cons hw

end Sys2Proof.Proofs
end

section
/-!
SUPPORT. The Ethernet ports and the step, holdover and link changes of the PTP clock (R325 to R333), with their conditions as propositions.
-/
namespace Sys2Proof.Machine.Block

/-! ### Ports and forwarding -/

theorem ethRx_down {b : Block} {p : Nat} (h : b.ethUp p = false) (fr : EthFrame) : b.ethRx p fr = b := by
  simp only [ethRx, h, Bool.not_false, if_true]

/-- On a port that is up a frame is discarded for the first reason that applies, else it waits (R325, R326, R328). -/
theorem ethRx_up {b : Block} {p : Nat} (h : b.ethUp p = true) (fr : EthFrame) :
    b.ethRx p fr =
      if fr.bad.val = 1 then b.count (8 * p) ETH_STAT.BAD_FCS 1
      else if fr.bad.val = 2 then (b.count (8 * p) ETH_STAT.FEC_UNCORR 1).arrive 586
      else if 9216 < fr.len then b
      else if 65536 < b.ethQueued p + fr.len then (b.count (8 * p) ETH_STAT.DROPS 1).arrive 587
      else b.updEth p (fun d => { d with
        left := if ethKindOf fr = .sync true then d.left.filter (fun x => x.1 != fr.ident) else d.left
        queue := d.queue ++ [(fr, b.time.now)] }) := by
  simp only [ethRx, h, Bool.not_true, Bool.false_eq_true, if_false, ethForget]
  split_ifs <;> rfl

theorem ethForward_some {b : Block} {p : Nat} {x : EthFrame × Nat} (hu : b.ethUp (1 - p) = true) (hx : b.ethNext p = some x) (res : Nat) :
    b.ethForward p res =
      let r := (b.updEth p (fun d => { d with queue := d.queue.erase x })).ethCorrect p x.1 res
      r.1.ethSend (1 - p) r.2 := by
  simp only [ethForward, hu, hx, Bool.not_true, Bool.false_eq_true, if_false]

/-- No frame leaves through a port that is down, or where none may go. -/
theorem ethForward_none {b : Block} {p : Nat} (h : b.ethUp (1 - p) = false ∨ b.ethNext p = none) (res : Nat) : b.ethForward p res = b := by
  unfold ethForward
  split
  · rfl
  · next hu => rw [h.resolve_left (fun hd => hu (by rw [hd]; rfl))]

/-- The first Follow_Up of direction `p` that has waited 1 s for its Sync (R328). -/
def followUpOld (b : Block) (p : Nat) : Option (EthFrame × Nat) :=
  (b.eth p).queue.find? (fun x => ethKindOf x.1 == .followUp && !b.ethReady p x.1 && decide (x.2 + 100000000 ≤ b.time.now))

theorem followUpTimeout_some {b : Block} {p : Nat} {x : EthFrame × Nat} (hu : b.ethUp (1 - p) = true) (hx : b.followUpOld p = some x) :
    b.followUpTimeout p =
      ((b.updEth p (fun d => { d with queue := d.queue.erase x })).ethSend (1 - p) x.1).count 0 PTP_EVCNT.FU_UNMATCHED 1 := by
  rw [followUpOld] at hx
  simp only [followUpTimeout, hu, hx, Bool.not_true, Bool.false_eq_true, if_false]

theorem followUpTimeout_none {b : Block} {p : Nat} (h : b.ethUp (1 - p) = false ∨ b.followUpOld p = none) : b.followUpTimeout p = b := by
  unfold followUpTimeout
  split
  · rfl
  · next hu =>
    have hx := h.resolve_left (fun hd => hu (by rw [hd]; rfl))
    rw [followUpOld] at hx
    rw [hx]

/-! ### The clock -/

/-- A change of the link, the port numbered as the command numbers it (R333). -/
theorem ethLink_changed {b : Block} {p : Fin 2} {up : Bool} (h : b.ethUp p ≠ up) :
    b.ethLink p up =
      let b := (b.setFlag (8 * p) ETH_STAT.UP up).setFlag 0 (if p = 0 then PTP_STAT.LINK_A else PTP_STAT.LINK_B) up
      let b := b.arrive (584 + p)
      if b.ethUp 0 = false ∧ b.ethUp 1 = false then b.ptpHold else b := by
  have hp : (p = 0) = ((p : Nat) = 0) := propext Fin.ext_iff
  simp only [ethLink, if_neg h, hp, Bool.and_eq_true, Bool.not_eq_true']

theorem ptpStep_some {b : Block} {ofs : Int} {t : Nat} (h : b.ptp.step = some (ofs, t)) :
    b.ptpStep =
      if b.atBoundary = true ∧ t < b.time.lastB then
        let b := { b with ptp := { b.ptp with step := none } }
        let b := ((b.ptpSet (b.ptpClock - ofs * 2 ^ 16)).count 0 PTP_EVCNT.STEPS 1).arrive 578
        if (b.ptp.t0Due || (b.ptp.relocked && b.flag 0 PTP_T0_S.VALID)) = true then
          b.anchorLatch (b.ptpClock - Int.ofNat (b.time.now - b.time.zero) * 10 * 2 ^ 32)
        else { b with ptp := { b.ptp with relocked := false } }
      else b := by
  simp only [ptpStep, h, Bool.and_eq_true, decide_eq_true_eq]

theorem ptpStep_none {b : Block} (h : b.ptp.step = none) : b.ptpStep = b := by
  simp only [ptpStep, h]

/-- Want of messages or of both ports takes a LOCKED clock to HOLDOVER (R330). -/
theorem ptpHoldover_some {b : Block} {m : PtpMaster} {n : Nat} (h : b.ptp.master = some (m, n)) :
    b.ptpHoldover =
      let ann := (b.ptp.heard.filter (fun x => x.2.1.sender == m.sender)).foldl (fun n x => max n x.2.2) 0
      if (ann + 3 * m.interval ≤ b.time.now ∨ b.ptp.lastSync + 4 * b.ptp.syncIntv ≤ b.time.now ∨ (b.ethUp 0 = false ∧ b.ethUp 1 = false)) ∧
          b.get 0 PTP_STAT.STATE = 2 then
        ((b.set 0 PTP_STAT.STATE 3).count 0 PTP_EVCNT.HOLDOVERS 1).arrive 579
      else b := by
  simp only [ptpHoldover, h, ptpHold, ite_and, Bool.or_eq_true, Bool.and_eq_true, Bool.not_eq_true', decide_eq_true_eq, or_assoc]

theorem ptpHoldover_none {b : Block} (h : b.ptp.master = none) : b.ptpHoldover = b := by
  simp only [ptpHoldover, h]

end Sys2Proof.Machine.Block
end

section
/-!
PROOFS. Network time: frames and links.
-/
namespace Sys2Proof.Proofs
open Sys2Proof.Machine

/-- Settles O34: a frame goes where its port is up and it may leave; the clock's commands are guarded changes of the block. -/
theorem framesPassAndLinksComeAndGo : Obligations.FramesPassAndLinksComeAndGo := by
  intro s p fr res up b next old
  exact ⟨fun h => exec_self_of_on (·.ethRx p fr) rfl (Block.ethRx_down h fr),
    fun h => exec_of_on (·.ethRx p fr) rfl (Block.ethRx_up h fr),
    fun x hu hx => exec_of_on (·.ethForward p res) rfl (Block.ethForward_some hu hx res),
    fun h => exec_self_of_on (·.ethForward p res) rfl (Block.ethForward_none h res),
    fun x hu hx => exec_of_on (·.followUpTimeout p) rfl (Block.followUpTimeout_some hu hx),
    fun h => exec_self_of_on (·.followUpTimeout p) rfl (Block.followUpTimeout_none h),
    fun h => exec_self_of_on (·.ethLink p up) rfl (if_pos h), fun h => exec_of_on (·.ethLink p up) rfl (Block.ethLink_changed h),
    fun ofs t h => exec_of_on Block.ptpStep rfl (Block.ptpStep_some h), fun h => exec_self_of_on Block.ptpStep rfl (Block.ptpStep_none h),
    fun m n h => exec_of_on Block.ptpHoldover rfl (Block.ptpHoldover_some h),
    fun h => exec_self_of_on Block.ptpHoldover rfl (Block.ptpHoldover_none h),
    fun h => exec_of_on Block.ptpRelock rfl (if_neg h), fun h => exec_self_of_on Block.ptpRelock rfl (if_pos h), rfl⟩

end Sys2Proof.Proofs
end

section
/-!
SUPPORT. The messages of the PTP master and the exchanges under way (R329, R330).
-/
namespace Sys2Proof.Machine.Block

/-- A message that names no exchange under way changes nothing. -/
theorem exchUpd_none {b : Block} {p : PtpExch → Bool} (h : ∀ x ∈ b.ptp.exchs, p x = false) (g : PtpExch → PtpExch) : b.exchUpd p g = b := by
  have hd : b.ptp.exchs.dropWhile (fun x => !p x) = [] := List.dropWhile_eq_nil_iff.mpr fun x hx => by rw [h x hx]; rfl
  rw [exchUpd, hd]

/-- A message is for the first exchange that it names, and leaves those around it (R330). -/
theorem exchUpd_first {b : Block} {p : PtpExch → Bool} {before after : List PtpExch} {x : PtpExch} (h : b.ptp.exchs = before ++ x :: after)
    (hb : ∀ w ∈ before, p w = false) (hx : p x = true) (g : PtpExch → PtpExch) : b.exchUpd p g = b.exchSet before (g x) after := by
  have hb' : ∀ w ∈ before, (!p w) = true := fun w hw => by rw [hb w hw]; rfl
  have hd : b.ptp.exchs.dropWhile (fun x => !p x) = x :: after := by
    rw [h, List.dropWhile_append_of_pos hb', List.dropWhile_cons_of_neg (by simp [hx])]
  have ht : b.ptp.exchs.takeWhile (fun x => !p x) = before := by
    rw [h, List.takeWhile_append_of_pos hb', List.takeWhile_cons_of_neg (by simp [hx]), List.append_nil]
  rw [exchUpd, hd, ht]

/-- An exchange that lacks t4 waits (R330). -/
theorem exchSet_waits {x : PtpExch} (h : x.t4 = none) (b : Block) (before after : List PtpExch) :
    b.exchSet before x after = { b with ptp := { b.ptp with exchs := before ++ x :: after } } := by
  unfold exchSet
  rw [h]
  cases x.t1 <;> rfl

/-! ### Sync -/

theorem ptpSync_other {b : Block} {p : Nat} {m : PtpSync} (h : ¬ b.fromMaster p m.sender m.domain = true) : b.ptpSync p m = b := if_neg h

/-- A Sync of the master is noted with its time and interval (R330). -/
def syncHeard (b : Block) (m : PtpSync) : Block := { b with ptp := { b.ptp with lastSync := b.time.now, syncIntv := m.interval } }

/-- No second Delay_Req goes out within 62.5 ms (R329). -/
theorem ptpSync_early {b : Block} {p : Nat} {m : PtpSync} (h : b.fromMaster p m.sender m.domain = true)
    (hr : ¬ b.ptp.lastReq.all (fun t => decide (t + 6250000 ≤ b.time.now)) = true) : b.ptpSync p m = b.syncHeard m :=
  (if_pos h).trans (if_neg hr)

/-- A Sync begins an exchange with the Delay_Req that answers it (R329, R330). -/
theorem ptpSync_begins {b : Block} {p : Nat} {m : PtpSync} (h : b.fromMaster p m.sender m.domain = true)
    (hr : b.ptp.lastReq.all (fun t => decide (t + 6250000 ≤ b.time.now)) = true) :
    b.ptpSync p m =
      let n := b.ptp.reqSeq
      let t2 := b.ptpNow16 + m.fine
      let b := b.syncHeard m
      let b := ({ b with ptp := { b.ptp with lastReq := some b.time.now, reqSeq := (n + 1) % 65536 } }).ethSend p
        { len := 64, bad := 0, dst := 0x011B19000000, tags := [], etype := 0x88F7, kind := .delayReq, ident := n, corr := 0 }
      { b with ptp := { b.ptp with exchs := b.ptp.exchs ++
        [{ seq := m.seq, t1 := if m.twoStep then none else some m.t1, corr := m.corr, t2 := t2, reqSeq := some n, t3 := b.ptpNow16 }] } } :=
  (if_pos h).trans ((if_pos hr).trans (exchSet_waits rfl _ _ _))

/-! ### Follow_Up and Delay_Resp -/

/-- A Follow_Up names an exchange of its Sync that has no t1 (R330). -/
theorem followUp_not_for {x : PtpExch} {z : PtpFollowUp} (h : x.seq ≠ z.seq ∨ x.t1 ≠ none) : (x.seq == z.seq && x.t1.isNone) = false := by
  rw [Bool.and_eq_false_iff, beq_eq_false_iff_ne, Option.isNone_eq_false_iff, Option.isSome_iff_ne_none]
  exact h

theorem ptpFollowUp_none {b : Block} {p : Nat} {z : PtpFollowUp}
    (h : b.fromMaster p z.sender z.domain = false ∨ ∀ x ∈ b.ptp.exchs, x.seq ≠ z.seq ∨ x.t1 ≠ none) : b.ptpFollowUp p z = b := by
  unfold ptpFollowUp
  split
  · next hm => exact exchUpd_none (fun x hx => followUp_not_for (h.resolve_left (Bool.not_eq_false _ ▸ hm) x hx)) _
  · rfl

theorem ptpFollowUp_first {b : Block} {p : Nat} {z : PtpFollowUp} {before after : List PtpExch} {x : PtpExch}
    (hm : b.fromMaster p z.sender z.domain = true) (h : b.ptp.exchs = before ++ x :: after) (hb : ∀ w ∈ before, w.seq ≠ z.seq ∨ w.t1 ≠ none)
    (hs : x.seq = z.seq) (ht : x.t1 = none) :
    b.ptpFollowUp p z = b.exchSet before { x with t1 := some z.t1, corr := x.corr + z.corr } after :=
  (if_pos hm).trans (exchUpd_first h (fun w hw => followUp_not_for (hb w hw)) (by simp [hs, ht]) _)

theorem ptpDelayResp_none {b : Block} {p : Nat} {d : PtpDelayResp}
    (h : b.fromMaster p d.sender d.domain = false ∨ ∀ x ∈ b.ptp.exchs, x.reqSeq ≠ some d.seq) : b.ptpDelayResp p d = b := by
  unfold ptpDelayResp
  split
  · next hm => exact exchUpd_none (fun x hx => beq_eq_false_iff_ne.mpr (h.resolve_left (Bool.not_eq_false _ ▸ hm) x hx)) _
  · rfl

theorem ptpDelayResp_first {b : Block} {p : Nat} {d : PtpDelayResp} {before after : List PtpExch} {x : PtpExch}
    (hm : b.fromMaster p d.sender d.domain = true) (h : b.ptp.exchs = before ++ x :: after) (hb : ∀ w ∈ before, w.reqSeq ≠ some d.seq)
    (hs : x.reqSeq = some d.seq) : b.ptpDelayResp p d = b.exchSet before { x with t4 := some (d.t4 - d.corr) } after :=
  (if_pos hm).trans (exchUpd_first h (fun w hw => beq_eq_false_iff_ne.mpr (hb w hw)) (beq_iff_eq.mpr hs) _)

end Sys2Proof.Machine.Block
end

section
/-!
PROOFS. Network time: the messages of the master.
-/
namespace Sys2Proof.Proofs
open Sys2Proof.Machine

/-- Settles O35: a Sync begins an exchange, a Follow_Up and a Delay_Resp go to the first exchange that they name; what the statement
calls settling is `exchSet`. -/
theorem thePtpClockFollowsItsMaster : Obligations.ThePtpClockFollowsItsMaster := by
  intro s p m y z d b settle sync req heardSync
  have settles : ∀ (before : List PtpExch) (x : PtpExch) (after : List PtpExch) (b : Block),
      b.exchSet before x after = settle before x after b := by
    intro before ⟨_, t1, _, _, _, _, t4⟩ after b
    cases t1 <;> cases t4 <;> rfl
  exact ⟨fun h => exec_of_on (·.ptpAnnounce p m) rfl (if_pos h),
    fun h => exec_self_of_on (·.ptpAnnounce p m) rfl (if_neg (Bool.not_eq_true _ ▸ h)),
    fun h => exec_self_of_on (·.ptpSync p y) rfl (Block.ptpSync_other h),
    fun h hr => exec_of_on (·.ptpSync p y) rfl (Block.ptpSync_early h hr),
    fun h hr => exec_of_on (·.ptpSync p y) rfl (Block.ptpSync_begins h hr),
    fun h => exec_self_of_on (·.ptpFollowUp p z) rfl (Block.ptpFollowUp_none h),
    fun before x after hm h hb hs ht =>
      exec_of_on (·.ptpFollowUp p z) rfl ((Block.ptpFollowUp_first hm h hb hs ht).trans (settles _ _ _ _)),
    fun h => exec_self_of_on (·.ptpDelayResp p d) rfl (Block.ptpDelayResp_none h),
    fun before x after hm h hb hs =>
      exec_of_on (·.ptpDelayResp p d) rfl ((Block.ptpDelayResp_first hm h hb hs).trans (settles _ _ _ _))⟩

end Sys2Proof.Proofs
end

section
/-!
SUPPORT. The pattern memory controller (R334 to R351): grants, retirement and refetch of pages, by what each command finds.
-/
namespace Sys2Proof.Machine

/-! ### Grants -/

section
variable {s : State} {p : Nat}

/-- Nothing is granted while the controller is not in operation (R341). -/
theorem hbmGrant_stopped (h : s.blk.get 0 HBM_STAT.STATE ≠ 1) (bad err : Nat) : hbmGrant s p bad err = s := if_pos h

variable (h : s.blk.get 0 HBM_STAT.STATE = 1)
include h

/-- With no request to grant only refresh happens (R343). -/
theorem hbmGrant_none (hp : (s.blk.refresh p).pick p = none) (bad err : Nat) : hbmGrant s p bad err = s.on (fun b => b.refresh p) := by
  rw [hbmGrant, if_neg (not_not.mpr h)]
  simp only [hp]
  rfl

/-- The block after the grant of request `r`, its word aside (R341, R342). -/
def granted (b : Block) (p : Nat) (r : HReq) : Block :=
  let b := (b.refresh p).grantLatency r
  { b with hbm := { b.hbm with
    grants := Sparse.set 0 p ((Sparse.get 0 p b.hbm.grants + 1) % 16) b.hbm.grants, reqs := Block.reqTake r b.hbm.reqs } }

/-- A granted read may show replays or a persistent error, which retire its page (R335 to R338). -/
theorem hbmGrant_some {r : HReq} (hp : (s.blk.refresh p).pick p = some r) (bad err : Nat) :
    hbmGrant s p bad err =
      let b := granted s.blk p r
      if err = 0 ∨ Block.readPort r.port = false then { s with blk := b }
      else
        let b := b.replays p r.page (min err 3)
        if err = 4 then { s with
          blk := (b.pageRetire r.page).pageDamaged r.page
          mem := if b.fillsOnes r.page = true then Memory.setBytes s.mem (r.page * 32768 + 4 * (bad % 8192)) (2 ^ 32 - 1) 4 else s.mem }
        else if b.get 0 HBM_CTRL.RPLY_MAX ≤ b.get (16 * r.page) DIR_ENT0.RPLY then { s with blk := b.pageRetire r.page }
        else { s with blk := b } := by
  rw [hbmGrant, if_neg (not_not.mpr h)]
  simp only [hp, Bool.not_eq_true', granted]
  rfl

end

/-! ### Retirement of pages -/

theorem pageSwitch_clean {s : State} {n : Nat} {bads : List Nat} (h : bads = [] ∨ s.blk.pageMoves n = false) :
    pageSwitch s n bads = s.on (fun b => b.retireSwitch n) :=
  if_pos (by rwa [List.isEmpty_iff, Bool.not_eq_true'])

/-- Words that the copy found unreadable damage the page (R336, R338). -/
theorem pageSwitch_damaged {s : State} {n : Nat} {bads : List Nat} (hb : bads ≠ []) (hm : s.blk.pageMoves n = true) :
    pageSwitch s n bads = { s with
      blk := ((s.blk.replays (s.blk.pgPc n) n (3 * bads.length)).pageDamaged n).retireSwitch n
      mem := if s.blk.fillsOnes n = true then bads.foldl (fun m w => Memory.setBytes m (n * 32768 + 4 * (w % 8192)) (2 ^ 32 - 1) 4) s.mem else s.mem } :=
  if_neg (by rw [List.isEmpty_iff, hm]; simpa using hb)

namespace Block

theorem retireSwitch_copied {b : Block} {n : Nat} {c : Nat × Nat × Nat} (h : b.hbm.copying.find? (fun c => c.1 == n) = some c) :
    b.retireSwitch n =
      (let b := (b.pageMove n c.2.1 c.2.2).mapChanged
       { b with hbm := { b.hbm with copying := b.hbm.copying.filter (fun x => x.1 != n) } }) := by
  rw [retireSwitch, h]

/-- The next page of an evacuating pseudo-channel, counted, goes to a spare frame or is gone (R335, R348). -/
def evacuate (b : Block) (n : Nat) : Block :=
  match b.sparePc (b.pgPc n) with
  | none => (b.count 0 HBM_EVCNT.PG_RET 1).pageGone n
  | some pc => let r := (b.count 0 HBM_EVCNT.PG_RET 1).takeFrame pc; (r.1.pageMove n pc r.2).mapChanged

/-- The count of retired pages moves no pseudo-channel's spare frames. -/
theorem sparePc_count (b : Block) (p : Nat) : (b.count 0 HBM_EVCNT.PG_RET 1).sparePc p = b.sparePc p := by
  have hget : ∀ x F, fkey (16 * x) F ≠ fkey 0 HBM_EVCNT.PG_RET → (b.count 0 HBM_EVCNT.PG_RET 1).get (16 * x) F = b.get (16 * x) F :=
    fun x F h => get_set_ne _ _ h
  have hs : ∀ x, (b.count 0 HBM_EVCNT.PG_RET 1).get (16 * x) HBM_PC.STATE = b.get (16 * x) HBM_PC.STATE :=
    fun x => hget x _ (by simp only [fkey, HBM_PC.STATE, HBM_EVCNT.PG_RET]; omega)
  have hf : ∀ x, (b.count 0 HBM_EVCNT.PG_RET 1).get (16 * x) HBM_PC.SPARE_FREE = b.get (16 * x) HBM_PC.SPARE_FREE :=
    fun x => hget x _ (by simp only [fkey, HBM_PC.SPARE_FREE, HBM_EVCNT.PG_RET]; omega)
  simp only [sparePc, hs, hf]

theorem retireSwitch_evacuates {b : Block} {n : Nat} (h : b.hbm.copying.find? (fun c => c.1 == n) = none) :
    b.retireSwitch n =
      if b.get (16 * b.pgPc n) HBM_PC.STATE = 2 ∧ b.evacTurn n = true then (b.evacuate n).arrive (514 + b.pgPc n) else b := by
  simp only [retireSwitch, h, sparePc_count, evacuate] <;> rfl

/-! ### Refetch -/

theorem pageRefetch_free {b : Block} {q : Nat} {ws : List Nat} (h : b.cmdOf q 0x24 = some ws) (hf : b.freeSlot ≠ none) :
    b.pageRefetch q = { b.takeSlot q [] with hbm := { b.hbm with refBusy := b.hbm.refBusy ++ [bits (ws.getD 1 0) 0 20] } } := by
  obtain ⟨k, hk⟩ := Option.ne_none_iff_exists'.mp hf
  simp only [pageRefetch, h, hk]

theorem pageRefetch_full {b : Block} {q : Nat} {ws : List Nat} (h : b.cmdOf q 0x24 = some ws) (hf : b.freeSlot = none) :
    b.pageRefetch q = b.complete q 0 0x03 := by
  simp only [pageRefetch, h, hf, takeSlot_full hf]

theorem pageRefetch_none {b : Block} {q : Nat} (h : b.cmdOf q 0x24 = none) : b.pageRefetch q = b := by
  simp only [pageRefetch, h]

end Block

section
variable {s : State} {n : Nat} {data : List Nat}

theorem refetchDone_idle (h : ¬ s.blk.hbm.refBusy.contains n = true) (ok : Bool) : refetchDone s n data ok = s := if_neg h

variable (h : s.blk.hbm.refBusy.contains n = true)
include h

/-- A page protected meanwhile is not written (R339, R366). -/
theorem refetchDone_protected (hp : s.blk.pgProt n = true) (ok : Bool) :
    refetchDone s n data ok = s.on (fun b => match b.refetchSlot n with
      | some k => (b.refetched n).slotEnd k 0x32
      | none => b.refetched n) := by
  rw [refetchDone, if_pos h]
  simp only [hp, if_true]
  cases hk : s.blk.refetchSlot n <;> simp only [State.on, hk]

variable (hp : s.blk.pgProt n = false)
include hp

theorem refetchDone_good :
    refetchDone s n data true = { s with
      blk := (match s.blk.refetchSlot n with
        | some k => (((s.blk.refetched n).npart k 1).opres k 0 32768).slotEnd k 0
        | none => s.blk.refetched n)
      mem := Memory.setWords s.mem .pages (n * 4096) ((List.range 4096).map (fun i => data.getD i 0)) } := by
  rw [refetchDone, if_pos h]
  simp only [hp, Bool.false_eq_true, if_false, if_true] <;> rfl

theorem refetchDone_failed :
    refetchDone s n data false = s.on (fun b => match b.refetchSlot n with
      | some k => ({ b with hbm := { b.hbm with refBusy := b.hbm.refBusy.filter (· != n) } }).slotEnd k 0x09
      | none => b) := by
  rw [refetchDone, if_pos h]
  simp only [hp, Bool.false_eq_true, if_false]
  cases hk : s.blk.refetchSlot n <;> simp only [State.on, hk]

end

/-! ### Latency, refresh and the queues that the host reads -/

namespace Block

/-- No interval is owed in Quiet or of a retired pseudo-channel (R343, R350). -/
theorem refreshInterval_not_owed_iff {b : Block} {p : Nat} :
    (b.get 0 HBM_STAT.STATE = 4 ∨ b.get (16 * p) HBM_PC.STATE = 3) ↔ ¬ (b.get 0 HBM_STAT.STATE ≠ 4 ∧ b.get (16 * p) HBM_PC.STATE ≠ 3) := by
  rw [not_and_or, not_not, not_not]

theorem refqPop_nil {b : Block} (h : b.hbm.refq = []) : b.refqPop = { b with host := { b.host with lastRead := [0] } } := by
  simp only [refqPop, h]

theorem refqPop_cons {b : Block} {n : Nat} {rest : List Nat} (h : b.hbm.refq = n :: rest) :
    b.refqPop =
      let t := rest ++ b.hbm.refWait.take 1
      { b with
        hbm := { b.hbm with refq := t, refWait := b.hbm.refWait.drop 1 }
        host := { b.host with lastRead := [2 ^ 63 + t.length * 2 ^ 20 + n] } } := by
  simp only [refqPop, h]

end Block
end Sys2Proof.Machine
end

section
/-!
PROOFS. The pattern memory controller: grants, retirement and refetch.
-/
namespace Sys2Proof.Proofs
open Sys2Proof.Machine

/-- Settles O36: a grant by what is picked, a switch by what is copied, a refetch by its slot and by whether its page is still to be
written; the rest are guarded changes of the block. -/
theorem grantsRetirementAndRefetchOfPages : Obligations.GrantsRetirementAndRefetchOfPages := by
  intro s p bad err page bads q data ok port ws b hit pg busy mayRef empty refetched
  refine ⟨fun h => congrArg _ (hbmGrant_stopped h bad err), fun h hp => congrArg _ (hbmGrant_none h hp bad err),
    fun r h hp => congrArg _ (hbmGrant_some h hp bad err), fun h => congrArg _ (pageSwitch_clean h),
    fun hb hm => congrArg _ (pageSwitch_damaged hb hm), fun c h => Block.retireSwitch_copied h, fun h => ?evacuates,
    fun h hf => exec_of_on (·.pageRefetch q) rfl (Block.pageRefetch_free h hf),
    fun h hf => exec_of_on (·.pageRefetch q) rfl (Block.pageRefetch_full h hf),
    fun h => exec_self_of_on (·.pageRefetch q) rfl (Block.pageRefetch_none h),
    fun h => congrArg _ (refetchDone_idle h ok), fun h hp => congrArg _ (refetchDone_protected h hp ok),
    fun h hp => ⟨congrArg _ (refetchDone_good h hp), congrArg _ (refetchDone_failed h hp)⟩,
    fun hp h => exec_of_on (·.latencyFault port) rfl (if_pos ⟨hp, h⟩), fun h => exec_self_of_on (·.latencyFault port) rfl (if_neg ?late),
    fun h => exec_of_on (·.refreshInterval p) rfl (if_neg (mt Block.refreshInterval_not_owed_iff.mp (not_not.mpr h))),
    fun h => exec_self_of_on (·.refreshInterval p) rfl (if_pos (Block.refreshInterval_not_owed_iff.mpr h)),
    fun h => exec_of_on (·.pcEvacuated p) rfl (if_pos h), fun h => exec_self_of_on (·.pcEvacuated p) rfl (if_neg h),
    fun h => exec_of_on Block.refqPop rfl (Block.refqPop_nil h), fun n rest h => exec_of_on Block.refqPop rfl (Block.refqPop_cons h), rfl⟩
  case evacuates => exact Block.retireSwitch_evacuates h
  case late =>
    rintro ⟨hp, hany⟩
    obtain h | h := h
    · omega
    · exact Bool.false_ne_true (h.symm.trans hany)

end Sys2Proof.Proofs
end

section
/-!
SUPPORT. The pattern memory controller (R343 to R350): temperature, training and Quiet, with their conditions as propositions.
-/
namespace Sys2Proof.Machine.Block

/-- A readout is asked for the temperature that raises nothing, and not for the one that does (R345). -/
theorem hbmTemp_eq (b : Block) (t : Int) :
    b.hbmTemp t =
      let b := (b.set 0 HBM_TEMP.NOW (ofSigned 8 t)).set 0 HBM_TEMP.TICK b.tick16
      let b := if toSigned 8 (b.get 0 HBM_TEMP.MAX) < t then b.set 0 HBM_TEMP.MAX (ofSigned 8 t) else b
      let b := if 85 < t then b.setFlag 0 HBM_STAT.HOT true else if t ≤ 83 then b.setFlag 0 HBM_STAT.HOT false else b
      let b := (List.range 32).foldl (fun b p =>
        if b.get (16 * p) HBM_PC.STATE ≠ 3 ∧
            Int.ofNat (b.get 0 HBM_CTRL.RT_DT) < 4 * (t - toSigned 8 (b.get (16 * p) HBM_PC.TTEMP)).natAbs then
          b.setFlag (16 * p) HBM_PC.RT_DUE true else b) b
      if t ≤ 95 then { b with hbm := { b.hbm with hotOver := false } }
      else if b.hbm.hotOver = true then b else ({ b with hbm := { b.hbm with hotOver := true } }).fault 393 0 := by
  simp only [hbmTemp, ← Int.not_lt, ite_not]

/-! ### Training -/

section
variable {b : Block} {q : Nat} {ws : List Nat}

theorem hbmTrain_none (h : b.cmdOf q 0x28 = none) : b.hbmTrain q = b := by
  simp only [hbmTrain, h]

theorem hbmTrain_refused (h : b.cmdOf q 0x28 = some ws) (hr : b.moduleIdle = false ∨ b.get 0 HBM_STAT.STATE ≠ 1) :
    b.hbmTrain q = b.complete q 0 0x04 := by
  simp only [hbmTrain, h]
  exact if_pos (by rwa [Bool.not_eq_true'])

variable (h : b.cmdOf q 0x28 = some ws) (hi : b.moduleIdle = true) (ho : b.get 0 HBM_STAT.STATE = 1)
include h hi ho

theorem hbmTrain_full (hf : b.freeSlot = none) : b.hbmTrain q = b.complete q 0 0x03 := by
  simp only [hbmTrain, h, hi, ho, hf, takeSlot_full hf, Bool.not_true, Bool.false_eq_true, ne_eq, not_true_eq_false, or_self, if_false]

theorem hbmTrain_taken {k : Nat} (hf : b.freeSlot = some k) :
    b.hbmTrain q =
      let b := (b.takeSlot q []).workStart none 7 0
      { b with hbm := { b.hbm with trainSlot := some k } } := by
  simp only [hbmTrain, h, hi, ho, hf, Bool.not_true, Bool.false_eq_true, ne_eq, not_true_eq_false, or_self, if_false]

end

/-- Retraining waits for an idle boundary of the module in operation (R346). -/
theorem hbmRetrain_eq (b : Block) :
    b.hbmRetrain =
      if b.trainDue = true ∧ b.moduleIdle = true ∧ b.bwork = [] ∧ b.atBoundary = true ∧ b.get 0 HBM_STAT.STATE = 1 then
        (b.hbmState 2).workStart none 7 0
      else b := by
  simp only [hbmRetrain, atBoundary, Bool.and_eq_true, List.isEmpty_iff, beq_iff_eq, and_assoc]

/-- The slot whose training has ended, if one asked for it, ends too (R346). -/
def trainSlotEnd (b : Block) : Block :=
  match b.hbm.trainSlot with
  | some k => ({ b with hbm := { b.hbm with trainSlot := none } }).slotEnd k 0
  | none => b

/-- Training at start-up or in operation judges each pseudo-channel and ends its slot (R347). -/
theorem trainDone_due {b : Block} (h : b.get 0 HBM_STAT.STATE = 0 ∨ b.get 0 HBM_STAT.STATE = 2) (eyes : List (Nat × Nat)) :
    b.trainDone eyes = ((((List.range 32).foldl (fun c p => trainResult (b.get 0 HBM_STAT.STATE == 0) (eyes.getD p (0, 0)) c p)
      b).hbmCounts.hbmState 1).workEnd 7 0).trainSlotEnd := by
  rw [trainDone, if_pos h]
  dsimp only
  generalize Block.workEnd _ 7 0 = c
  rfl

theorem trainDone_not {b : Block} (h0 : b.get 0 HBM_STAT.STATE ≠ 0) (h2 : b.get 0 HBM_STAT.STATE ≠ 2) (eyes : List (Nat × Nat)) :
    b.trainDone eyes = b := if_neg (not_or.mpr ⟨h0, h2⟩)

/-! ### Quiet -/

/-- Quiet may be entered, as a proposition (R350). -/
theorem quietOk_iff (b : Block) :
    b.quietOk = true ↔ b.get 0 HBM_STAT.STATE = 1 ∧ b.moduleIdle = true ∧ b.hbm.reqs = [] ∧ b.hbm.refetch = [] ∧ b.bwork = [] ∧
      ∀ p, p < 32 → b.get (16 * p) HBM_PC.STATE ≠ 2 := by
  simp only [quietOk, Bool.and_eq_true, beq_iff_eq, List.isEmpty_iff, List.all_eq_true, List.mem_range, bne_iff_ne, and_assoc]

/-- The entry ends in Quiet unless a request has come (R350). -/
theorem quietEntered_eq {b : Block} (h : b.get 0 HBM_STAT.STATE = 3) : b.quietEntered = b.hbmState (if b.hbm.reqs = [] then 4 else 5) := by
  simp only [quietEntered, if_pos h, List.isEmpty_iff]
  exact (apply_ite b.hbmState _ _ _).symm

end Sys2Proof.Machine.Block
end

section
/-!
PROOFS. The pattern memory controller: training and Quiet.
-/
namespace Sys2Proof.Proofs
open Sys2Proof.Machine

/-- Settles O37: each command is a guarded change of the block; HBM_TRAIN by what its command finds. -/
theorem patternMemoryTrainsAndRests : Obligations.PatternMemoryTrainsAndRests := by
  intro s q t eyes ws b st goTo retrain quiet
  refine ⟨exec_of_on (·.hbmTemp t) rfl (Block.hbmTemp_eq s.blk t),
    fun h => exec_self_of_on (·.hbmTrain q) rfl (Block.hbmTrain_none h),
    fun h hr => exec_of_on (·.hbmTrain q) rfl (Block.hbmTrain_refused h hr),
    fun h hi ho hf => exec_of_on (·.hbmTrain q) rfl (Block.hbmTrain_full h hi ho hf),
    fun k h hi ho hf => exec_of_on (·.hbmTrain q) rfl (Block.hbmTrain_taken h hi ho hf),
    fun h => exec_of_on Block.hbmRetrain rfl ((Block.hbmRetrain_eq _).trans (if_pos h)),
    fun h => exec_self_of_on Block.hbmRetrain rfl ((Block.hbmRetrain_eq _).trans (if_neg h)),
    fun h => exec_of_on (·.trainDone eyes) rfl ((Block.trainDone_due h eyes).trans ?_),
    fun h0 h2 => exec_self_of_on (·.trainDone eyes) rfl (Block.trainDone_not h0 h2 eyes),
    fun h => exec_of_on Block.quietWrite rfl (if_pos ((Block.quietOk_iff _).mpr h)),
    fun h => exec_of_on Block.quietWrite rfl (if_neg (mt (Block.quietOk_iff _).mp h)),
    fun h => exec_of_on Block.wakeWrite rfl (if_pos h), fun h => exec_self_of_on Block.wakeWrite rfl (if_neg h),
    fun h => exec_of_on Block.quietEntered rfl (Block.quietEntered_eq h), fun h => exec_self_of_on Block.quietEntered rfl (if_neg h),
    fun h => exec_of_on Block.quietExited rfl (if_pos h), fun h => exec_self_of_on Block.quietExited rfl (if_neg h)⟩
  dsimp only [Block.hbmState, goTo, st, b]
  generalize Block.workEnd _ 7 0 = c
  rfl

end Sys2Proof.Proofs
end

section
/-!
SUPPORT. Words written bit by bit: setting and clearing the bits that a write names, as operations on the whole word.
-/
namespace Sys2Proof

/-- The bits of a number with its bit `i` set. -/
theorem testBit_setBit (n i k : Nat) : (setBit n i).testBit k = (n.testBit k || decide (k = i)) := by
  unfold setBit
  split
  · next h =>
    rw [bit_eq_testBit] at h
    by_cases hk : k = i
    · rw [hk, h, Bool.true_or]
    · simp [hk]
  · next h =>
    have heven : n / 2 ^ i % 2 = 0 := by simpa only [bit, beq_iff_eq, Nat.mod_two_not_eq_one] using h
    have hr : n % 2 ^ i < 2 ^ i := Nat.mod_lt _ (Nat.two_pow_pos i)
    have hn : n = 2 ^ i * (n / 2 ^ i) + n % 2 ^ i := (Nat.div_add_mod n (2 ^ i)).symm
    generalize n / 2 ^ i = d at hn heven
    generalize n % 2 ^ i = r at hn hr
    obtain ⟨e, rfl⟩ : ∃ e, d = 2 * e := ⟨d / 2, by omega⟩
    have hadd : n + 2 ^ i = 2 ^ i * (2 * e + 1) + r := by rw [hn, Nat.mul_succ]; omega
    rw [hadd, hn, Nat.testBit_two_pow_mul_add _ hr, Nat.testBit_two_pow_mul_add _ hr]
    obtain hk | rfl | hk := Nat.lt_trichotomy k i
    · simp [hk, Nat.ne_of_lt hk]
    · simp
    · obtain ⟨m, rfl⟩ : ∃ m, k = i + (m + 1) := ⟨k - i - 1, by omega⟩
      have he : (2 * e + 1) / 2 = e := by omega
      simp [Nat.testBit_succ, he]

theorem testBit_foldl_clrBit (v j : Nat) (l : List Nat) (n : Nat) :
    (l.foldl (fun w k => if bit v k then clrBit w k else w) n).testBit j = (n.testBit j && !(v.testBit j && l.contains j)) := by
  induction l generalizing n with
  | nil => simp
  | cons k l ih =>
    rw [List.foldl_cons, ih, bit_eq_testBit]
    by_cases hjk : j = k
    · subst hjk; cases hv : v.testBit j <;> simp [testBit_clrBit]
    · cases v.testBit k <;> simp [testBit_clrBit, hjk]

theorem testBit_foldl_setBit (v j : Nat) (l : List Nat) (n : Nat) :
    (l.foldl (fun w k => if bit v k then setBit w k else w) n).testBit j = (n.testBit j || (v.testBit j && l.contains j)) := by
  induction l generalizing n with
  | nil => simp
  | cons k l ih =>
    rw [List.foldl_cons, ih, bit_eq_testBit]
    by_cases hjk : j = k
    · subst hjk; cases hv : v.testBit j <;> simp [testBit_setBit]
    · cases v.testBit k <;> simp [testBit_setBit, hjk]

/-- Clearing in a 64-bit word the bits that `v` names. -/
theorem foldl_clrBit_eq (n : Nat) (v : Word) :
    ((List.range 64).foldl (fun w k => if bit v.toNat k then clrBit w k else w) n) % 2 ^ 64 = n &&& (2 ^ 64 - 1 - v.toNat) := by
  refine Nat.eq_of_testBit_eq fun j => ?_
  rw [Nat.testBit_mod_two_pow, testBit_foldl_clrBit, Nat.testBit_and, Nat.sub_sub, Nat.add_comm 1, Nat.testBit_two_pow_sub_succ v.isLt]
  by_cases hj : j < 64 <;> simp [hj]

/-- Setting in a word the bits that `v` names. -/
theorem foldl_setBit_eq (n : Nat) (v : Word) :
    (List.range 64).foldl (fun w k => if bit v.toNat k then setBit w k else w) n = n ||| v.toNat := by
  refine Nat.eq_of_testBit_eq fun j => ?_
  rw [testBit_foldl_setBit, Nat.testBit_or]
  by_cases hj : j < 64
  · simp [hj]
  · have hv : v.toNat.testBit j = false := Nat.testBit_lt_two_pow (v.isLt.trans_le (Nat.pow_le_pow_right (by decide) (Nat.le_of_not_lt hj)))
    simp [hv]

end Sys2Proof
end

section
/-!
SUPPORT. The interrupt controller's words (R379 to R389): what a write of one leaves in it and around it.
-/
namespace Sys2Proof.Machine

/-- A change of one field leaves every other field, the queue and the memories. -/
theorem yields_set {i : Instr} {s : State} {base n : Nat} {F : Fld} {g : Block → Nat} (hi : exec i s = .next (s.on (fun b => b.set base F (g b))))
    (hn : g s.blk % 2 ^ F.w = n) :
    Yields (exec i s) (fun t => t.blk.get base F = n ∧ SameRegsBut [fkey base F] s t ∧ SameStore s t) :=
  ⟨_, hi, (Block.get_set_self _ _ _ _).trans hn, fun _ _ h => Block.get_set_ne _ _ (List.mem_singleton.not.mp h), sameStore_on _ _⟩

namespace Block

theorem icRaise_event {v : Nat} (h : 658 ≤ v % 1024) (b : Block) : b.icRaise v = b.arrive (v % 1024) := if_pos h

theorem icRaise_other {v : Nat} (h : v % 1024 < 658) (b : Block) : b.icRaise v = b.fault 401 0 := if_neg (Nat.not_le.mpr h)

/-- Sources newly enabled count at their vectors (R383, R389). -/
theorem icEnSet_eq (b : Block) (i : Nat) (v : Word) :
    b.icEnSet i v.toNat =
      ((List.range 64).foldl (fun c k => let n := 64 * i + k
        if bit (b.get (8 * i) IC_EN.BITS ||| v.toNat) k = true ∧ bit (b.get (8 * i) IC_EN.BITS) k = false ∧ c.icPend n = true ∧
          18 ≤ c.icRoute n then c.icArr (c.icRoute n - 18) else c)
        (b.set (8 * i) IC_EN.BITS (b.get (8 * i) IC_EN.BITS ||| v.toNat))).wakeAll := by
  simp only [icEnSet, icEnSetTo, foldl_setBit_eq, Bool.and_eq_true, Bool.not_eq_true', decide_eq_true_eq, and_assoc]

/-- The vectors that stand unmasked once `v` is: it, and those that stood so before (R387). -/
theorem mem_unmasked_msixMask (b : Block) (v y : Nat) : y ∈ (b.msixMask (some v) false).host.unmasked ↔ y = v ∨ y ∈ b.host.unmasked := by
  by_cases h : v ∈ b.host.unmasked
  · simp only [msixMask, List.contains_iff_mem, h, Bool.false_eq_true, if_false, if_true]
    exact ⟨.inr, fun hy => hy.elim (fun e => e ▸ h) id⟩
  · simp only [msixMask, List.contains_iff_mem, h, Bool.false_eq_true, if_false, List.mem_append, List.mem_singleton, or_comm]

end Block
end Sys2Proof.Machine
end

section
/-!
PROOFS. The event and interrupt controller.
-/
namespace Sys2Proof.Proofs
open Sys2Proof.Machine

/-- Settles O31: a write bit by bit is one operation on the word, and the rest are guarded changes of the block. -/
theorem interruptWordsChangeBitByBit : Obligations.InterruptWordsChangeBitByBit := by
  intro s i n v x m b old en idle target
  refine ⟨yields_set rfl (foldl_clrBit_eq _ _), yields_set rfl (foldl_clrBit_eq _ _), exec_of_on (·.icEnSet i v.toNat) rfl (Block.icEnSet_eq _ _ _),
    yields_set rfl (foldl_clrBit_eq _ _), yields_set rfl (congrArg (· % 2 ^ 64) (foldl_setBit_eq _ _)),
    fun h => exec_of_on (·.icRaise v.toNat) rfl (Block.icRaise_event h _), fun h => exec_of_on (·.icRaise v.toNat) rfl (Block.icRaise_other h _),
    fun h => exec_of_on (·.icRouteWrite n v.toNat) rfl (if_pos h),
    fun h => exec_of_on (·.icRouteWrite n v.toNat) rfl (if_neg (Nat.not_le.mpr h)), rfl, rfl, _, rfl, ?_⟩
  have hmem : ∀ y, y ∈ (s.blk.msixMask (some x.val) false).host.unmasked ↔ y = x.val ∨ y ∈ s.blk.host.unmasked :=
    s.blk.mem_unmasked_msixMask x
  exact ⟨(hmem _).mpr (.inl rfl), fun y hy => (hmem y).trans (or_iff_right hy), rfl⟩

end Sys2Proof.Proofs
end

section
/-!
SUPPORT. The supervisor port (R456 to R464): frames with VAUX and without, and the replies by what a frame asks.
-/
namespace Sys2Proof.Machine

/-! ### Frames with VAUX and without -/

section
variable {i : Instr} {s : State} (f : Block → Block) (hi : exec i s = .next (s.on (fun b => b.onKeeper f)))
include hi

/-- With VAUX the Keeper acts (R456). -/
theorem exec_keeper_on (hv : s.blk.keeper.vaux = true) {g : Block → Block} (h : f s.blk = g s.blk) : exec i s = .next (s.on g) :=
  exec_of_on (fun b => b.onKeeper f) hi ((if_pos hv).trans h)

/-- Without VAUX it does nothing. -/
theorem exec_keeper_off (hv : s.blk.keeper.vaux = false) : exec i s = .next s :=
  exec_self_of_on (fun b => b.onKeeper f) hi (if_neg (Bool.not_eq_true _ ▸ hv))

end

/-- A field of a frame that is not 0 is not 0 as a number either. -/
theorem toNat_ne_zero {w : Nat} {a : BitVec w} (h : a ≠ 0) : a.toNat ≠ 0 := fun h0 => h (BitVec.eq_of_toNat_eq h0)

namespace Block

/-! ### NOP, READ and READ_NEXT (R460, R461) -/

/-- The Keeper's address register takes `a` (R461). -/
def spSeen (b : Block) (a : Nat) (past : Bool) : Block := { b with keeper := { b.keeper with addr := a, past := past } }

theorem spRead_past (b : Block) (a : Nat) (err : Bool) : b.spRead a true err = (b.spSeen a true).spFrame 3 a 0xFFFF false := rfl

/-- A word of the window that keeps its parity error is answered as such (R456). -/
theorem spRead_broken {a : Nat} (h : 0x800 ≤ a) (b : Block) :
    b.spRead a false true = (b.spSeen a false).ramErr.spFrame 8 a 0xFFFF false := by
  simp only [spRead, h, decide_true, Bool.and_self, Bool.false_eq_true, if_false, if_true, spSeen]

theorem spRead_word {a : Nat} {err : Bool} (h : err = false ∨ a < 0x800) (b : Block) :
    b.spRead a false err = (b.spSeen a false).spFrame 0 a ((b.spSeen a false).spWord a) false := by
  have hc : (err && decide (0x800 ≤ a)) = false := by
    rw [Bool.and_eq_false_iff, decide_eq_false_iff_not, Nat.not_le]
    exact h
  simp only [spRead, hc, Bool.false_eq_true, if_false, spSeen]

variable {a : BitVec 12} {d : BitVec 16} (b : Block) (e : Bool)

theorem sspNop_bad (h : a ≠ 0 ∨ d ≠ 0) : b.sspNop a.toNat d.toNat = b.spFrame 4 a.toNat 0 false :=
  if_neg fun ⟨ha, hd⟩ => h.elim (fun h => toNat_ne_zero h ha) (fun h => toNat_ne_zero h hd)

theorem sspRead_bad (h : d ≠ 0) : b.sspRead a.toNat d.toNat e = b.spFrame 4 a.toNat 0 false := if_pos (toNat_ne_zero h)

/-- A READ with its field 0 reads its address, inside a block or outside. -/
theorem sspRead_zero {p : Bool} (h : spInBlock a.toNat = !p) : b.sspRead a.toNat (0 : BitVec 16).toNat e = b.spRead a.toNat p e := by
  rw [sspRead, if_neg (by decide), h, Bool.not_not]

/-- The window of the retention RAM is a block (R461, R464). -/
theorem spInBlock_window (h : 0x800 ≤ a.toNat) : spInBlock a.toNat = true := by
  have ha : a.toNat ≤ 0xFFF := by omega
  simp only [spInBlock, h, ha, decide_true, Bool.and_self, Bool.or_true]

theorem sspReadNext_bad (h : a ≠ 0 ∨ d ≠ 0) : b.sspReadNext a.toNat d.toNat e = b.spFrame 4 a.toNat 0 false :=
  if_pos (h.imp toNat_ne_zero toNat_ne_zero)

/-- READ_NEXT reads the next word; past the end of the block it started in it stays so (R461). -/
theorem sspReadNext_zero {p : Bool} (h : (b.keeper.past || b.keeper.addr == 0xFFF || !spInBlock (min (b.keeper.addr + 1) 0xFFF)) = p) :
    b.sspReadNext (0 : BitVec 12).toNat (0 : BitVec 16).toNat e = b.spRead (min (b.keeper.addr + 1) 0xFFF) p e := by
  simp only [sspReadNext, h]
  exact if_neg (by decide)

/-- The next word lies outside the block of the read before, as a proposition. -/
theorem spGone_iff :
    (b.keeper.past || b.keeper.addr == 0xFFF || !spInBlock (min (b.keeper.addr + 1) 0xFFF)) = true ↔
      b.keeper.past = true ∨ b.keeper.addr = 0xFFF ∨ spInBlock (min (b.keeper.addr + 1) 0xFFF) = false := by
  simp only [Bool.or_eq_true, beq_iff_eq, Bool.not_eq_true', or_assoc]

/-! ### WRITE, BOLT_ARM and BOLT (R460, R462, R463) -/

/-- The scratch area takes half a word (R462). -/
theorem sspWrite_scratch (h : 0xC00 ≤ a.toNat) (hp : b.get 0 SP_PAGE.PAGE = 3) :
    b.sspWrite a.toNat d.toNat =
      let i := b.spRamIx a.toNat
      let w := b.krWord i
      (b.krPut i (if a.toNat % 2 = 0 then w / 2 ^ 16 * 2 ^ 16 + d.toNat else d.toNat * 2 ^ 16 + w % 2 ^ 16)).spFrame 0 a.toNat d.toNat false := by
  have h3 : a.toNat ≠ 3 := by omega
  simp only [sspWrite, h3, h, hp, and_self, if_true, if_false]

theorem sspWrite_refused (h3 : a ≠ 3) (h : a.toNat < 0xC00 ∨ b.get 0 SP_PAGE.PAGE ≠ 3) :
    b.sspWrite a.toNat d.toNat = b.spFrame 5 a.toNat d.toNat false := by
  have ha : ¬ a.toNat = 3 := fun e => h3 (BitVec.eq_of_toNat_eq e)
  rw [sspWrite, if_neg ha, if_neg (fun ⟨hlo, hp⟩ => h.elim (Nat.not_lt.mpr hlo) (· hp))]

theorem sspBoltArm_open (h : d ≠ 0xB01D) : b.sspBoltArm (0 : BitVec 12).toNat d.toNat = b.freed.spFrame b.free 0 0 false :=
  (if_neg (by decide)).trans (if_neg fun e => h (BitVec.eq_of_toNat_eq e))

/-- A BOLT needs an arm and the main rails (R463). -/
theorem sspBolt_refused (h : b.keeper.armed = false ∨ b.flag 0 SP_STAT.MAIN = false) :
    b.sspBolt (0 : BitVec 12).toNat d.toNat = b.spFrame 6 0 0 false :=
  (if_neg (by decide)).trans (if_pos (by rwa [Bool.or_eq_true, Bool.not_eq_true', Bool.not_eq_true']))

theorem sspBolt_armed (ha : b.keeper.armed = true) (hm : b.flag 0 SP_STAT.MAIN = true) :
    b.sspBolt (0 : BitVec 12).toNat d.toNat =
      if d.toNat = 0x4FE2 then (b.spFrame 0 0 0 false).fault 424 0 else b.freed.spFrame b.free 0 0 false := by
  rw [sspBolt, if_neg (by decide), if_neg (by simp [ha, hm])]

/-! ### Discarded frames (R458, R459) -/

theorem sspDiscard_short {n : Nat} (h : n < 32) : b.sspDiscard n false = (b.bump 0 SP_ERR.SHORT).spFrame 1 0 0 false :=
  (if_neg (by decide)).trans (if_pos h)

theorem sspDiscard_long {n : Nat} (h : 32 < n) : b.sspDiscard n false = (b.bump 0 SP_ERR.LONG).spFrame 2 0 0 false :=
  (if_neg (by decide)).trans ((if_neg (Nat.not_lt.mpr h.le)).trans (if_pos h))

/-! ### The host's accesses (R457) -/

theorem kpRead_eq : b.kpRead e = ((if e then b.ramErr else b).kpNext, if e then 0xFFFFFFFF else b.krWord (b.get 0 KP_RA.ADDR)) := rfl

end Block
end Sys2Proof.Machine
end

section
/-!
PROOFS. The supervisor port.
-/
namespace Sys2Proof.Proofs
open Sys2Proof.Machine

/-- Settles O47: without VAUX every frame does nothing; with it each is cited by what it asks and by what the Keeper finds. -/
theorem supervisorPortFramesAndReplies : Obligations.SupervisorPortFramesAndReplies := by
  intro s a d e edges soon n v b reply seen broken next gone
  -- the statement's words for a reply, for the address register and for a parity error are the model's operations
  have hreply : reply = fun status a d armed b => b.spFrame status a d armed := rfl
  have hseen : seen = fun a past b => b.spSeen a past := rfl
  have hbroken : broken = Block.ramErr := rfl
  clear_value reply seen broken
  subst hreply hseen hbroken
  have within : ¬ gone → (b.keeper.past || b.keeper.addr == 0xFFF || !Block.spInBlock next) = false :=
    fun h => Bool.not_eq_true _ ▸ mt (Block.spGone_iff b).mp h
  refine ⟨fun hv => ⟨exec_keeper_off (·.sspNop a.toNat d.toNat) rfl hv, exec_keeper_off (·.sspRead a.toNat d.toNat e) rfl hv,
      exec_keeper_off (·.sspReadNext a.toNat d.toNat e) rfl hv, exec_keeper_off (·.sspWrite a.toNat d.toNat) rfl hv,
      exec_keeper_off (·.sspBoltArm a.toNat d.toNat) rfl hv, exec_keeper_off (·.sspBolt a.toNat d.toNat) rfl hv,
      exec_keeper_off (·.sspDiscard edges soon) rfl hv, exec_keeper_off (·.keeperServe n) rfl hv⟩,
    fun hv => ?frames, rfl, fun h => exec_of_on (fun b => b.kpWrite (v.toNat % 2 ^ 32)) rfl (if_pos h),
    fun h => exec_of_on (fun b => b.kpWrite (v.toNat % 2 ^ 32)) rfl (if_neg (Nat.not_le.mpr h))⟩
  exact ⟨exec_keeper_on (·.sspNop 0 0) rfl hv rfl,
    fun h => exec_keeper_on (·.sspNop a.toNat d.toNat) rfl hv (Block.sspNop_bad _ h),
    fun hb h => exec_keeper_on (·.sspRead a.toNat (0 : BitVec 16).toNat e) rfl hv ((Block.sspRead_zero _ _ hb).trans (Block.spRead_word h _)),
    fun hb => exec_keeper_on (·.sspRead a.toNat (0 : BitVec 16).toNat e) rfl hv ((Block.sspRead_zero _ _ hb).trans (Block.spRead_past _ _ _)),
    fun h => exec_keeper_on (·.sspRead a.toNat (0 : BitVec 16).toNat true) rfl hv
      ((Block.sspRead_zero _ _ (Block.spInBlock_window h)).trans (Block.spRead_broken h _)),
    fun h => exec_keeper_on (·.sspRead a.toNat d.toNat e) rfl hv (Block.sspRead_bad _ _ h),
    fun hg h => exec_keeper_on (·.sspReadNext (0 : BitVec 12).toNat (0 : BitVec 16).toNat e) rfl hv
      ((Block.sspReadNext_zero _ _ (within hg)).trans (Block.spRead_word h _)),
    fun hg => exec_keeper_on (·.sspReadNext (0 : BitVec 12).toNat (0 : BitVec 16).toNat e) rfl hv
      ((Block.sspReadNext_zero _ _ ((Block.spGone_iff b).mpr hg)).trans (Block.spRead_past _ _ _)),
    fun hg h => exec_keeper_on (·.sspReadNext (0 : BitVec 12).toNat (0 : BitVec 16).toNat true) rfl hv
      ((Block.sspReadNext_zero _ _ (within hg)).trans (Block.spRead_broken h _)),
    fun h => exec_keeper_on (·.sspReadNext a.toNat d.toNat e) rfl hv (Block.sspReadNext_bad _ _ h),
    exec_keeper_on (·.sspWrite (3 : BitVec 12).toNat d.toNat) rfl hv rfl,
    fun h hp => exec_keeper_on (·.sspWrite a.toNat d.toNat) rfl hv (Block.sspWrite_scratch _ h hp),
    fun h3 h => exec_keeper_on (·.sspWrite a.toNat d.toNat) rfl hv (Block.sspWrite_refused _ h3 h),
    exec_keeper_on (·.sspBoltArm (0 : BitVec 12).toNat (0xB01D : BitVec 16).toNat) rfl hv rfl,
    fun h => exec_keeper_on (·.sspBoltArm (0 : BitVec 12).toNat d.toNat) rfl hv (Block.sspBoltArm_open _ h),
    fun h ha hm => exec_keeper_on (·.sspBolt (0 : BitVec 12).toNat d.toNat) rfl hv
      ((Block.sspBolt_armed _ ha hm).trans (if_neg fun e => h (BitVec.eq_of_toNat_eq e))),
    fun h => ⟨exec_keeper_on (·.sspBoltArm a.toNat d.toNat) rfl hv (if_pos (toNat_ne_zero h)),
      exec_keeper_on (·.sspBolt a.toNat d.toNat) rfl hv (if_pos (toNat_ne_zero h))⟩,
    fun ha hm => exec_keeper_on (·.sspBolt (0 : BitVec 12).toNat (0x4FE2 : BitVec 16).toNat) rfl hv
      ((Block.sspBolt_armed _ ha hm).trans (if_pos rfl)),
    fun h => exec_keeper_on (·.sspBolt (0 : BitVec 12).toNat d.toNat) rfl hv (Block.sspBolt_refused _ h),
    exec_keeper_on (·.sspDiscard edges true) rfl hv rfl,
    fun h => exec_keeper_on (·.sspDiscard edges false) rfl hv (Block.sspDiscard_short _ h),
    fun h => exec_keeper_on (·.sspDiscard edges false) rfl hv (Block.sspDiscard_long _ h),
    exec_keeper_on (·.sspDiscard 32 false) (g := id) rfl hv rfl,
    fun h => exec_keeper_on (·.keeperServe n) (g := id) rfl hv (if_neg h),
    fun hn h => exec_keeper_on (·.keeperServe n) rfl hv (if_pos ⟨hn, h⟩)⟩

end Sys2Proof.Proofs
end

section
/-!
SUPPORT. The link and the time exchange as their rules state them: when D3hot, L1 and an automatic exchange are entered.
-/
namespace Sys2Proof.Machine.Block

theorem d3Enter_eq (b : Block) : b.d3Enter =
    if b.host.linkUp = true ∧ b.host.d3 = false then
      let b := (List.range 64).foldl Block.msixEval { b with host := { b.host with d3Entering := true, l1 := false } }
      let b := { b with host := { b.host with d3Entering := false, d3 := true } }
      if b.quietOk then b.quietWrite else b
    else b := by
  simp only [d3Enter, Bool.and_eq_true, Bool.not_eq_true']

/-- Nothing is outstanding and every vector that could send is masked (R373). -/
def l1Quiet (b : Block) : Prop :=
  b.linkOpen = true ∧ b.host.comps = [] ∧ b.host.owed = [] ∧ b.res.queue = [] ∧ b.res.waiting = [] ∧ b.host.ptmBusy = false ∧
    (∀ v < 64, b.msixReady v = true → b.masked v = true)

theorem l1Quiet_iff (b : Block) :
    (b.linkOpen && b.host.comps.isEmpty && b.host.owed.isEmpty && b.res.queue.isEmpty && b.res.waiting.isEmpty && !b.host.ptmBusy &&
      (List.range 64).all (fun v => !b.msixReady v || b.masked v)) = true ↔ b.l1Quiet := by
  have hmask : (List.range 64).all (fun v => !b.msixReady v || b.masked v) = true ↔
      ∀ v < 64, b.msixReady v = true → b.masked v = true := by
    simp only [List.all_eq_true, List.mem_range, Bool.or_eq_true, Bool.not_eq_true', ← Bool.not_eq_true, imp_iff_not_or]
  simp only [l1Quiet, Bool.and_eq_true, List.isEmpty_iff, Bool.not_eq_true', hmask, and_assoc]

theorem l1Enter_of_quiet {b : Block} (h : b.l1Quiet) : b.l1Enter = { b with host := { b.host with l1 := true } } :=
  if_pos (b.l1Quiet_iff.2 h)

theorem l1Enter_of_not_quiet {b : Block} (h : ¬ b.l1Quiet) : b.l1Enter = b :=
  if_neg (mt b.l1Quiet_iff.1 h)

theorem ptmAuto_eq (b : Block) : b.ptmAuto =
    if b.flag 0 PTM_CTRL.AUTO = true ∧ b.host.ptmAt + b.get 0 PTM_CTRL.INTV * 100000 ≤ b.time.now then
      { b.ptmStart with host := { b.ptmStart.host with ptmAt := b.time.now } }
    else b := by
  simp only [ptmAuto, Bool.and_eq_true, decide_eq_true_eq]

end Sys2Proof.Machine.Block
end

section
/-!
PROOFS. The states of the link and the exchange of time.
-/
namespace Sys2Proof.Proofs
open Sys2Proof.Machine

/-- Settles O42: each command is one guarded operation on the block, and its guard is the statement's. -/
theorem linkPowerStatesAndTimeExchange : Obligations.LinkPowerStatesAndTimeExchange := by
  unfold Obligations.LinkPowerStatesAndTimeExchange
  intro s gen width host ofs b owed ask due quiet
  refine ⟨rfl, ?down, ?notUp, ?up, ?inReset, ?d3, ?notD3, ?d0, ?notD0, ?l1, ?notL1, rfl, rfl, ?auto, ?notAuto, ?done, ?notDone, rfl⟩
  case down => exact fun h => exec_of_on Block.linkDown rfl (if_pos h)
  case notUp => exact fun h => exec_self_of_on Block.linkDown rfl (if_neg (Bool.not_eq_true _ ▸ h))
  case up => exact fun h => exec_of_on (·.linkUp gen width) rfl (if_neg (Bool.not_eq_true _ ▸ h))
  case inReset => exact fun h => exec_self_of_on (·.linkUp gen width) rfl (if_pos h)
  case d3 => exact fun h => exec_of_on Block.d3Enter rfl ((Block.d3Enter_eq _).trans (if_pos h))
  case notD3 => exact fun h => exec_self_of_on Block.d3Enter rfl ((Block.d3Enter_eq _).trans (if_neg h))
  case d0 => exact fun h => exec_of_on Block.d0Return rfl (if_pos h)
  case notD0 => exact fun h => exec_self_of_on Block.d0Return rfl (if_neg (Bool.not_eq_true _ ▸ h))
  case l1 => exact fun h => exec_of_on Block.l1Enter rfl (Block.l1Enter_of_quiet h)
  case notL1 => exact fun h => exec_self_of_on Block.l1Enter rfl (Block.l1Enter_of_not_quiet h)
  case auto => exact fun h => exec_of_on Block.ptmAuto rfl ((Block.ptmAuto_eq _).trans (if_pos h))
  case notAuto => exact fun h => exec_self_of_on Block.ptmAuto rfl ((Block.ptmAuto_eq _).trans (if_neg h))
  case done => exact fun h => exec_of_on (·.ptmDone host ofs) rfl (if_pos h)
  case notDone => exact fun h => exec_self_of_on (·.ptmDone host ofs) rfl (if_neg (Bool.not_eq_true _ ▸ h))

end Sys2Proof.Proofs
end

section
/-!
SUPPORT. The fetch of an entry, the write of Q_CFG and the start of a long operation, with their conditions as propositions.
-/
namespace Sys2Proof.Machine
namespace Block

/-! ### Queue pairs (R360, R362, R377) -/

/-- SQ_FETCH fetches: READY, over an open link, from an idle pair with entries waiting. -/
def fetchable (b : Block) (q : Nat) : Bool :=
  b.flag 0 HQ_STAT.READY && b.linkOpen && b.qState q == 1 && b.get (32 * q) Q_STAT.SQ_HEAD != b.get (16 * q) Q_SQDB.INDEX

theorem sqFetch_not {b : Block} {q : Nat} (h : b.fetchable q = false) (entry : List Nat) (bad : Bool) : b.sqFetch q entry bad = b :=
  if_neg (ne_true_of_eq_false h)

theorem sqFetch_bad {b : Block} {q : Nat} (h : b.fetchable q = true) (entry : List Nat) : b.sqFetch q entry true = b.queueError q 2 0 :=
  (if_pos h).trans (if_pos rfl)

theorem sqFetch_good {b : Block} {q : Nat} (h : b.fetchable q = true) (entry : List Nat) :
    b.sqFetch q entry false = b.sqStart q ((List.range 8).map (fun i => entry.getD i 0)) :=
  (if_pos h).trans (if_neg Bool.false_ne_true)

theorem qSizes_eq (b : Block) (q v : Nat) : b.qSizes q v =
    let c := if 4 ≤ bits v 8 5 ∧ bits v 8 5 ≤ 16 then b.set (32 * q) Q_CFG.SQ_LOG2 (bits v 8 5) else b
    let c := if 4 ≤ bits v 16 5 ∧ bits v 16 5 ≤ 16 then c.set (32 * q) Q_CFG.CQ_LOG2 (bits v 16 5) else c
    if (4 ≤ bits v 8 5 ∧ bits v 8 5 ≤ 16) ∧ (4 ≤ bits v 16 5 ∧ bits v 16 5 ≤ 16) then c else c.fault 400 0 := by
  simp only [qSizes, logOk, Bool.and_eq_true, decide_eq_true_eq]

theorem qCfgWrite_disabled {b : Block} {q : Nat} (h : b.flag (32 * q) Q_CFG.EN = false) (v : Nat) : b.qCfgWrite q v =
    let b := b.qSizes q v
    if bit v 0 = true then
      let b := (b.setFlag (32 * q) Q_CFG.EN true).set (32 * q) Q_STAT.STATE 1
      let b := (((b.set (32 * q) Q_STAT.SQ_HEAD 0).set (32 * q) Q_STAT.CQ_TAIL 0).set (16 * q) Q_SQDB.INDEX 0).set (16 * q) Q_CQDB.INDEX 0
      { b with host := { b.host with cqOut := Sparse.set 0 q 0 b.host.cqOut, cqSeq := Sparse.set 0 q 0 b.host.cqSeq } }
    else b :=
  if_neg (ne_true_of_eq_false h)

theorem qCfgWrite_enable_again {b : Block} {q v : Nat} (h : b.flag (32 * q) Q_CFG.EN = true) (hv : bit v 0 = true) : b.qCfgWrite q v =
    if bits v 8 5 = b.get (32 * q) Q_CFG.SQ_LOG2 ∧ bits v 16 5 = b.get (32 * q) Q_CFG.CQ_LOG2 then b else b.fault 400 0 :=
  (if_pos h).trans (if_pos hv)

theorem qCfgWrite_disable {b : Block} {q v : Nat} (h : b.flag (32 * q) Q_CFG.EN = true) (hv : bit v 0 = false) : b.qCfgWrite q v =
    if b.pairIdle q = true then (((b.qSizes q v).setFlag (32 * q) Q_CFG.EN false).set (32 * q) Q_STAT.STATE 0).roleDrop q
    else b.fault 400 0 :=
  (if_pos h).trans (if_neg (ne_true_of_eq_false hv))

/-! ### Long operations (R367) -/

/-- What the start of operation `op` in slot `k` asks of the pattern memory. -/
def slotWork (op k : Nat) (b : Block) : Block :=
  if op = 0x28 then b.hbmState 2
  else if op = 0x25 then (b.dmaPlan k).1.foldl (fun b c => b.hbmReq 4 c.1 16) b
  else if op = 0x45 then (b.chain (b.slotWord k 1 % 2 ^ 20)).foldl (fun b p => b.hbmReq 5 p 16) b
  else b

theorem get_foldl_of {α : Type} {f : Block → α → Block} {base : Nat} {F : Fld} (h : ∀ b a, (f b a).get base F = b.get base F)
    (l : List α) (b : Block) : (l.foldl f b).get base F = b.get base F := by
  induction l generalizing b with
  | nil => rfl
  | cons a l ih => exact (ih (f b a)).trans (h b a)

section
variable {base : Nat} {F : Fld} (hstate : fkey base F ≠ fkey 0 HBM_STAT.STATE) (htick : fkey base F ≠ fkey 0 HBM_STAT.TICK)
include hstate htick

/-- The state of the pattern memory moves, with its tick, and no other field. -/
theorem get_hbmState (b : Block) (st : Nat) : (b.hbmState st).get base F = b.get base F :=
  (get_set_ne _ _ htick).trans (get_set_ne _ _ hstate)

theorem get_hbmReq (b : Block) (port page unit : Nat) : (b.hbmReq port page unit).get base F = b.get base F := by
  unfold hbmReq hbmKnock
  dsimp only
  split
  · exact get_hbmState hstate htick _ 5
  · rfl

theorem get_slotWork (op k : Nat) (b : Block) : (b.slotWork op k).get base F = b.get base F := by
  unfold slotWork
  split
  · exact get_hbmState hstate htick b 2
  split
  · exact get_foldl_of (fun _ _ => get_hbmReq hstate htick _ _ _ _) _ b
  split
  · exact get_foldl_of (fun _ _ => get_hbmReq hstate htick _ _ _ _) _ b
  · rfl

end

/-- The start of a QUEUED operation, with what it sets going. -/
theorem opStart_of_begins {b : Block} {k : Nat} (hq : b.get (8 * k) OPSTAT.STATE = 1)
    (hserve : ¬ (keyringOp (b.get (8 * k) OPSTAT.OPC) = true ∧ b.get 0 KR_STAT.STATE = 0))
    (htest : ¬ (b.get (8 * k) OPSTAT.OPC = 0x49 ∧ b.get 0 KR_STAT.STATE = 3)) :
    b.opStart k = ((b.slotState k 2).slotWork (b.get (8 * k) OPSTAT.OPC) k).krBegin k := by
  have hbegin : b.slotBegin k = (b.slotState k 2).slotWork (b.get (8 * k) OPSTAT.OPC) k :=
    if_neg (fun h => h.elim (fun h => h hq) hserve)
  have hstate : fkey (8 * k) OPSTAT.STATE ≠ fkey 0 HBM_STAT.STATE := by
    simp only [fkey, OPSTAT.STATE, HBM_STAT.STATE]
    omega
  have htick : fkey (8 * k) OPSTAT.STATE ≠ fkey 0 HBM_STAT.TICK := by
    simp only [fkey, OPSTAT.STATE, HBM_STAT.TICK]
    omega
  have hown : fkey (8 * k) OPSTAT.STATE ≠ fkey (8 * k) OPSTAT.TICK := by
    simp only [fkey, OPSTAT.STATE, OPSTAT.TICK]
    omega
  have hruns : (b.slotBegin k).get (8 * k) OPSTAT.STATE = 2 := by
    rw [hbegin, get_slotWork hstate htick]
    exact (get_set_ne _ _ hown).trans (get_set_self _ _ _ _)
  rw [← hbegin]
  exact (if_neg htest).trans (if_pos ⟨hq, hruns⟩)

/-- An operation on the pattern memory sets nothing of the Keyring or the flash going. -/
theorem krBegin_memory {b : Block} {k op : Nat} (h : b.get (8 * k) OPSTAT.OPC = op) (hop : op = 0x28 ∨ op = 0x25 ∨ op = 0x45) :
    b.krBegin k = b := by
  unfold krBegin
  rw [h]
  rcases hop with rfl | rfl | rfl <;> rfl

/-- The operation's own opcode names what it sets going. -/
theorem krBegin_slotWork (b : Block) {k op : Nat} (hk : k < 256) (hop : b.get (8 * k) OPSTAT.OPC = op) :
    (b.slotWork op k).krBegin k =
      if op = 0x28 then b.hbmState 2
      else if op = 0x25 then (b.dmaPlan k).1.foldl (fun b c => b.hbmReq 4 c.1 16) b
      else if op = 0x45 then (b.chain (b.slotWord k 1 % 2 ^ 20)).foldl (fun b p => b.hbmReq 5 p 16) b
      else if op = 0x49 then b.set 0 KR_STAT.STATE 0
      else if op = 0x43 ∨ op = 0x48 then b.flashAsk 4 k
      else if op = 0x4A ∧ b.fwCode k = 0 then b.flashAsk 2 k
      else if op = 0x4B ∧ (b.slot k).aux.getD 0 0 = 0 then b.flashAsk 3 k
      else if op = 0x4C then b.flashAsk 5 k
      else b := by
  have hstate : fkey (8 * k) OPSTAT.OPC ≠ fkey 0 HBM_STAT.STATE := by
    simp only [fkey, OPSTAT.OPC, HBM_STAT.STATE]
    omega
  have htick : fkey (8 * k) OPSTAT.OPC ≠ fkey 0 HBM_STAT.TICK := by
    simp only [fkey, OPSTAT.OPC, HBM_STAT.TICK]
    omega
  have hkept : (b.slotWork op k).get (8 * k) OPSTAT.OPC = op := (get_slotWork hstate htick op k b).trans hop
  by_cases hmem : op = 0x28 ∨ op = 0x25 ∨ op = 0x45
  · rw [krBegin_memory hkept hmem]
    rcases hmem with rfl | rfl | rfl <;> rfl
  · obtain ⟨h28, h25, h45⟩ : op ≠ 0x28 ∧ op ≠ 0x25 ∧ op ≠ 0x45 := by simpa only [not_or] using hmem
    simp only [slotWork, h28, h25, h45, if_false, krBegin, hop]

/-- The mark of the start leaves the slot's opcode. -/
theorem opc_slotState (b : Block) (k st : Nat) : (b.slotState k st).get (8 * k) OPSTAT.OPC = b.get (8 * k) OPSTAT.OPC := by
  have hstate : fkey (8 * k) OPSTAT.OPC ≠ fkey (8 * k) OPSTAT.STATE := by
    simp only [fkey, OPSTAT.OPC, OPSTAT.STATE]
    omega
  have htick : fkey (8 * k) OPSTAT.OPC ≠ fkey (8 * k) OPSTAT.TICK := by
    simp only [fkey, OPSTAT.OPC, OPSTAT.TICK]
    omega
  exact (get_set_ne _ _ htick).trans (get_set_ne _ _ hstate)

/-- The start that is not due. -/
theorem opStart_of_not {b : Block} {k : Nat} (h : ¬ (b.get (8 * k) OPSTAT.STATE = 1 ∧
    ¬ (keyringOp (b.get (8 * k) OPSTAT.OPC) = true ∧ b.get 0 KR_STAT.STATE = 0) ∧
    ¬ (b.get (8 * k) OPSTAT.OPC = 0x49 ∧ b.get 0 KR_STAT.STATE = 3))) : b.opStart k = b := by
  unfold opStart
  split
  · rfl
  · next htest =>
    have hwait : b.get (8 * k) OPSTAT.STATE ≠ 1 ∨ (keyringOp (b.get (8 * k) OPSTAT.OPC) = true ∧ b.get 0 KR_STAT.STATE = 0) := by
      by_contra hc
      obtain ⟨hq, hserve⟩ := not_or.1 hc
      exact h ⟨not_not.1 hq, hserve, htest⟩
    have hbegin : b.slotBegin k = b := if_pos hwait
    rw [hbegin]
    exact if_neg (fun ⟨hq, hruns⟩ => by omega)

end Block
end Sys2Proof.Machine
end

section
/-!
PROOFS. Queue pairs and the start of long operations.
-/
namespace Sys2Proof.Proofs
open Sys2Proof.Machine

/-- Settles O41: the doorbells, the fetch and Q_CFG take one branch of their rule each; a QUEUED operation starts with its memory work and
then what the Keyring or the flash begins. -/
theorem queuePairsFetchCompleteAndReport : Obligations.QueuePairsFetchCompleteAndReport := by
  unfold Obligations.QueuePairsFetchCompleteAndReport
  intro s q k v entry bad b o ready ws opc fetchable sizes en same op begins
  have isReady : ready = true → ¬ (!s.blk.flag 0 HQ_STAT.READY) = true := fun h => Bool.not_eq_true' _ ▸ ne_false_of_eq_true h
  refine ⟨?early, ?sqdb, ?cqdb, ?noFetch, ?badFetch, ?fetch, ?cqWrite, ?disabled, ?again, ?changed, ?disable, ?busy, ?waits, ?starts, ?free,
    ?unfree⟩
  case early =>
    intro h
    have hno : (!s.blk.flag 0 HQ_STAT.READY) = true := Bool.not_eq_true' _ ▸ h
    exact ⟨exec_of_on (·.sqDoorbell q v.toNat) rfl (if_pos hno), exec_of_on (·.cqDoorbell q v.toNat) rfl (if_pos hno)⟩
  case sqdb => exact fun h => exec_of_on (·.sqDoorbell q v.toNat) rfl (if_neg (isReady h))
  case cqdb => exact fun h => exec_of_on (·.cqDoorbell q v.toNat) rfl (if_neg (isReady h))
  case noFetch => exact fun h => exec_of_on (·.sqFetch q _ bad) rfl (Block.sqFetch_not h _ bad)
  case badFetch => exact fun h => exec_of_on (·.sqFetch q _ true) rfl (Block.sqFetch_bad h _)
  case fetch => exact fun h => exec_of_on (·.sqFetch q _ false) rfl (Block.sqFetch_good h _)
  case cqWrite => exact rfl
  case disabled =>
    exact fun h => exec_of_on (·.qCfgWrite q v.toNat) rfl ((Block.qCfgWrite_disabled h _).trans (by rw [Block.qSizes_eq]))
  case again => exact fun h hv heq => exec_of_on (·.qCfgWrite q v.toNat) rfl ((Block.qCfgWrite_enable_again h hv).trans (if_pos heq))
  case changed => exact fun h hv hne => exec_of_on (·.qCfgWrite q v.toNat) rfl ((Block.qCfgWrite_enable_again h hv).trans (if_neg hne))
  case disable =>
    exact fun h hv hidle => exec_of_on (·.qCfgWrite q v.toNat) rfl
      ((Block.qCfgWrite_disable h hv).trans ((if_pos hidle).trans (by rw [Block.qSizes_eq])))
  case busy =>
    exact fun h hv hbusy => exec_of_on (·.qCfgWrite q v.toNat) rfl
      ((Block.qCfgWrite_disable h hv).trans (if_neg (ne_true_of_eq_false hbusy)))
  case waits => exact fun h => exec_of_on (·.opStart k) rfl (Block.opStart_of_not h)
  case starts =>
    intro ⟨hq, hserve, htest⟩
    exact exec_of_on (·.opStart k) rfl ((Block.opStart_of_begins hq hserve htest).trans
      (Block.krBegin_slotWork (s.blk.slotState k 2) k.isLt (s.blk.opc_slotState k 2)))
  case free => exact fun h => exec_of_on (·.slotFree k) rfl (if_pos h)
  case unfree => exact fun h => exec_self_of_on (·.slotFree k) rfl (if_neg (Nat.not_le.2 h))

end Sys2Proof.Proofs
end

section
/-!
SUPPORT. Nonces, locks and tokens of the Keyring, with their conditions as propositions (R438, R450).
-/
namespace Sys2Proof.Machine.Block

/-- A pair's nonce is valid for 10 s from its challenge. -/
theorem nonceOf_eq_some {b : Block} {q n : Nat} :
    b.nonceOf q = some n ↔ ∃ t0, Sparse.find q b.kr.nonces = some (n, t0) ∧ b.time.now < t0 + 1000000000 := by
  unfold nonceOf
  rcases Sparse.find q b.kr.nonces with _ | ⟨m, t⟩
  · simp only [reduceCtorEq, false_and, exists_false]
  · by_cases h : b.time.now < t + 1000000000 <;> simp [nonceLife, h]

/-- A pair's nonce stands 10 s after its challenge. -/
def nonceOver (b : Block) (q : Nat) : Prop :=
  ∃ m t0, Sparse.find q b.kr.nonces = some (m, t0) ∧ t0 + 1000000000 ≤ b.time.now

theorem nonceExpire_over {b : Block} {q : Nat} (h : b.nonceOver q) :
    b.nonceExpire q = b.updKr (fun r => { r with nonces := Sparse.del q r.nonces }) := by
  obtain ⟨m, t0, hfind, hlate⟩ := h
  simp only [nonceExpire, hfind]
  exact if_pos hlate

theorem nonceExpire_not_over {b : Block} {q : Nat} (h : ¬ b.nonceOver q) : b.nonceExpire q = b := by
  unfold nonceExpire
  split
  · next m t hfind => exact if_neg (fun hlate => h ⟨m, t, hfind, hlate⟩)
  · rfl

theorem lockExpire_eq (b : Block) (co : Bool) : b.lockExpire co =
    if b.flag 0 (if co then KR_STAT.LOCK_CO else KR_STAT.LOCK_USER) = true ∧
        (if co then b.kr.lockCo else b.kr.lockUser) + 6000000000 ≤ b.time.now then
      b.setFlag 0 (if co then KR_STAT.LOCK_CO else KR_STAT.LOCK_USER) false
    else b := by
  simp only [lockExpire, Bool.and_eq_true, decide_eq_true_eq]
  rfl

/-- A token opens the test modes with this module's serial number and the nonce of some pair. -/
theorem tokenOk_iff {b : Block} {tok : Option (Nat × Nat)} : b.tokenOk tok = true ↔
    ∃ i n p, tok = some (i, n) ∧ i = Config.serno % 2 ^ 64 ∧ p < 64 ∧ b.nonceOf p = some (n % 2 ^ 256) := by
  rcases tok with _ | ⟨i, n⟩
  · simp only [tokenOk, Bool.false_eq_true, reduceCtorEq, false_and, exists_false]
  · simp only [tokenOk, Bool.and_eq_true, beq_iff_eq, List.any_eq_true, List.mem_range, Option.some.injEq, Prod.mk.injEq]
    constructor
    · rintro ⟨hi, p, hp, hn⟩
      exact ⟨i, n, p, ⟨rfl, rfl⟩, hi, hp, hn⟩
    · rintro ⟨_, _, p, ⟨rfl, rfl⟩, hi, hp, hn⟩
      exact ⟨hi, p, hp, hn⟩

end Sys2Proof.Machine.Block
end

section
/-!
PROOFS. The Keyring: login, self-test and unlock.
-/
namespace Sys2Proof.Proofs
open Sys2Proof.Machine

/-- Settles O48: a service is what the Keyring lets through, carried out on the words of its command; nonces, locks and ends are guarded
changes of the block. -/
theorem loginSelfTestAndUnlock : Obligations.LoginSelfTestAndUnlock := by
  intro s q nonce resp co tok k b refuse serve fail expired opens
  have short : ∀ {i opc need f} g, exec i s = .next (s.on (fun b => b.krShort q opc need f)) → (∀ ws, f ws b = g ws b) →
      exec i s = .next (serve true opc need g) := fun g hi h => exec_of_on _ (exec_krShort hi h) rfl
  have long : ∀ {i opc need f} g, exec i s = .next (s.on (fun b => b.krLong q opc need f)) → (∀ ws, f ws b = g ws b) →
      exec i s = .next (serve false opc need g) := fun g hi h => exec_of_on _ (exec_krLong hi h) rfl
  refine ⟨short _ rfl fun _ => rfl, short _ rfl fun ws => ?login, fun n => Block.nonceOf_eq_some, short _ rfl fun _ => rfl,
    fun h => exec_of_on (·.nonceExpire q) rfl (Block.nonceExpire_over h),
    fun h => exec_self_of_on (·.nonceExpire q) rfl (Block.nonceExpire_not_over h),
    fun h => exec_of_on (·.lockExpire co) rfl ((Block.lockExpire_eq _ co).trans (if_pos h)),
    fun h => exec_self_of_on (·.lockExpire co) rfl ((Block.lockExpire_eq _ co).trans (if_neg h)), long _ rfl fun _ => rfl,
    fun h => exec_of_on (·.selftestDone k true) rfl ((if_pos h).trans (if_pos rfl)),
    fun h => exec_of_on (·.selftestDone k false) rfl ((if_pos h).trans (if_neg Bool.false_ne_true)),
    fun h ok => exec_self_of_on (·.selftestDone k ok) rfl (if_neg (ne_true_of_eq_false h)), rfl, long _ rfl fun _ => rfl,
    Block.tokenOk_iff, fun h => exec_of_on (·.unlockDone k) rfl (if_pos h),
    fun h => exec_self_of_on (·.unlockDone k) rfl (if_neg (ne_true_of_eq_false h))⟩
  case login =>
    unfold Block.krLogin
    cases b.nonceOf q <;> rfl

end Sys2Proof.Proofs
end

section
/-!
SUPPORT. Reset, start-up and supplies (R354, R436, R437, R466 to R473), with the condition of each operation as a proposition.
-/
namespace Sys2Proof.Machine

/-! ### The memories over a reset of core logic -/

/-- A range that is zeroed reads zero; the other bytes are as before. -/
theorem Memory.byte_zeroBytes (m : List Host.Cell) (lo hi a : Nat) :
    byte (zeroBytes m lo hi) a = if lo ≤ a ∧ a < hi then 0 else byte m a := by
  have hkey := Sparse.find_filter_key (fun k => !(decide (lo ≤ k) && decide (k < hi))) a m
  have hin : (!(decide (lo ≤ a) && decide (a < hi))) = true ↔ ¬ (lo ≤ a ∧ a < hi) := by
    rw [Bool.not_eq_true', Bool.eq_false_iff, Ne, Bool.and_eq_true, decide_eq_true_eq, decide_eq_true_eq]
  simp only [byte, Sparse.get, zeroBytes, hkey, hin]
  split <;> rename_i h <;> simp [h]

/-- Dictionaries and DDS lists read zero after a reset of core logic; every other byte is as before. -/
theorem byte_memReset (m : List Host.Cell) (a : Nat) : Memory.byte (memReset m) a =
    if ((Ram.dict 0).base ≤ a ∧ a < (Ram.dict 16).base) ∨ ((Ram.dds 0 0).base ≤ a ∧ a < (Ram.dds 16 0).base) then 0
    else Memory.byte m a := by
  rw [memReset, Memory.byte_zeroBytes, Memory.byte_zeroBytes]
  by_cases hdds : (Ram.dds 0 0).base ≤ a ∧ a < (Ram.dds 16 0).base
  · rw [if_pos hdds, if_pos (.inr hdds)]
  · simp only [if_neg hdds, or_iff_left hdds]

namespace Block

/-! ### The registers over a reset of core logic -/

/-- The fields of `l` taken over from `b`. -/
def copyFields (b : Block) (l : List (Nat × Fld)) (n : Block) : Block := l.foldl (fun n x => n.set x.1 x.2 (b.get x.1 x.2)) n

theorem get_copyFields_ne (b : Block) {l : List (Nat × Fld)} {base : Nat} {F : Fld} (h : fkey base F ∉ l.map (fun x => fkey x.1 x.2))
    (n : Block) : (b.copyFields l n).get base F = n.get base F := by
  induction l generalizing n with
  | nil => rfl
  | cons x l ih =>
    obtain ⟨hx, hl⟩ := not_or.1 (List.mem_cons.not.1 h)
    exact (ih hl _).trans (get_set_ne _ _ hx)

theorem get_copyFields (b : Block) {l : List (Nat × Fld)} (hnd : (l.map (fun x => fkey x.1 x.2)).Nodup) {x : Nat × Fld} (hx : x ∈ l)
    (n : Block) : (b.copyFields l n).get x.1 x.2 = b.get x.1 x.2 % 2 ^ x.2.w := by
  induction l generalizing n with
  | nil => exact absurd hx List.not_mem_nil
  | cons y l ih =>
    obtain ⟨hy, hl⟩ := List.nodup_cons.1 hnd
    rcases List.mem_cons.1 hx with rfl | hx
    · exact (get_copyFields_ne b hy _).trans (get_set_self _ _ _ _)
    · exact ih hl hx _

/-- No two of the kept fields stand at one place. -/
theorem keptFields_nodup : (keptFields.map (fun x => fkey x.1 x.2)).Nodup := by decide +kernel

/-- What a reset keeps of its registers and engines, before LOCAL_SCOPE, clearing and a Grave state are looked at (R354). -/
def keptOver (b : Block) : Block :=
  let n := b.copyFields keptFields {}
  { n with
    time := { n.time with
      now := b.time.now, lastB := b.time.now, zero := b.time.now, ticks := b.time.ticks, warmPin := b.time.warmPin
      syncs := b.time.syncs, freeCount := b.time.freeCount }
    kr := { n.kr with co := b.kr.co, user := b.kr.user, kek := b.kr.kek, att := b.kr.att, cert := b.kr.cert }
    keeper := b.keeper
    host := { n.host with msgs := b.host.msgs, pme := b.host.pme, out := b.host.out }
    flt := { n.flt with grave := b.flt.grave, heartbeat := b.flt.heartbeat, saves := b.flt.saves } }

/-- LOCAL_SCOPE ends where the main rails are gone (R323). -/
def scopeReset (b : Block) (main : Bool) : Block := if main then b else b.setFlag 0 SYNC_STAT.LOCAL_SCOPE false

theorem get_scopeReset_ne (b : Block) (main : Bool) {base : Nat} {F : Fld} (h : fkey base F ≠ fkey 0 SYNC_STAT.LOCAL_SCOPE) :
    (b.scopeReset main).get base F = b.get base F := by
  cases main
  · exact get_set_ne _ _ h
  · rfl

/-- What the Keeper and the host interface hold is not touched by the end of LOCAL_SCOPE. -/
theorem scopeReset_keeper_host (b : Block) (main : Bool) : (b.scopeReset main).keeper = b.keeper ∧ (b.scopeReset main).host = b.host := by
  cases main <;> exact ⟨rfl, rfl⟩

theorem copyFields_host (b : Block) (l : List (Nat × Fld)) (n : Block) : (b.copyFields l n).host = n.host := by
  induction l generalizing n with
  | nil => rfl
  | cons x l ih => exact ih _

theorem coreReset_eq (b : Block) : b.coreReset =
    let n := b.keptOver.scopeReset (b.flag 0 SP_STAT.MAIN)
    let n := if n.flag 0 CLR_STAT.CLR_IN then n.resetHeld else n
    if b.flt.grave then ((n.set 0 FC_FIRST.STATE 2).set 0 FC_FIRST.CLASS 3).boltModule else n := rfl

/-- A kept field after a reset of core logic. -/
theorem get_keptOver_scopeReset (b : Block) {x : Nat × Fld} (hx : x ∈ keptFields) :
    (b.keptOver.scopeReset (b.flag 0 SP_STAT.MAIN)).get x.1 x.2 =
      if fkey x.1 x.2 = fkey 0 SYNC_STAT.LOCAL_SCOPE ∧ b.flag 0 SP_STAT.MAIN = false then 0 else b.get x.1 x.2 % 2 ^ x.2.w := by
  have hkept : b.keptOver.get x.1 x.2 = b.get x.1 x.2 % 2 ^ x.2.w := get_copyFields b keptFields_nodup hx {}
  by_cases hkey : fkey x.1 x.2 = fkey 0 SYNC_STAT.LOCAL_SCOPE
  · have hlocal : ((0, SYNC_STAT.LOCAL_SCOPE) : Nat × Fld) ∈ keptFields := by simp [keptFields]
    obtain rfl : x = (0, SYNC_STAT.LOCAL_SCOPE) := List.inj_on_of_nodup_map keptFields_nodup hx hlocal hkey
    cases hmain : b.flag 0 SP_STAT.MAIN with
    | true => exact hkept.trans (if_neg (fun h => Bool.false_ne_true h.2.symm)).symm
    | false => exact (get_set_self _ _ _ _).trans (if_pos ⟨rfl, rfl⟩).symm
  · exact ((get_scopeReset_ne _ _ hkey).trans hkept).trans (if_neg (fun h => hkey h.1)).symm

/-- Every other field is at its reset value. -/
theorem get_keptOver_scopeReset_ne (b : Block) {base : Nat} {F : Fld} (h : fkey base F ∉ keptFields.map (fun x => fkey x.1 x.2)) :
    (b.keptOver.scopeReset (b.flag 0 SP_STAT.MAIN)).get base F = ({} : Block).get base F := by
  have hlocal : fkey 0 SYNC_STAT.LOCAL_SCOPE ∈ keptFields.map (fun x => fkey x.1 x.2) :=
    List.mem_map.2 ⟨(0, SYNC_STAT.LOCAL_SCOPE), by simp [keptFields], rfl⟩
  have hne : fkey base F ≠ fkey 0 SYNC_STAT.LOCAL_SCOPE := fun hkey => h (hkey ▸ hlocal)
  exact (get_scopeReset_ne _ _ hne).trans (get_copyFields_ne b h {})

/-- With clearing released and no Grave state a reset leaves what it keeps. -/
theorem coreReset_plain {b : Block} (hgrave : b.flt.grave = false) (hclr : b.flag 0 CLR_STAT.CLR_IN = false) :
    b.coreReset = b.keptOver.scopeReset (b.flag 0 SP_STAT.MAIN) := by
  have hin : ((0, CLR_STAT.CLR_IN) : Nat × Fld) ∈ keptFields := by simp [keptFields]
  have hne : fkey 0 CLR_STAT.CLR_IN ≠ fkey 0 SYNC_STAT.LOCAL_SCOPE := by decide
  have hget : b.get 0 CLR_STAT.CLR_IN = 0 := bne_eq_false_iff_eq.1 hclr
  have hlow : (b.keptOver.scopeReset (b.flag 0 SP_STAT.MAIN)).flag 0 CLR_STAT.CLR_IN = false := by
    have hkept := b.get_keptOver_scopeReset hin
    rw [if_neg (fun h => hne h.1), hget] at hkept
    exact bne_eq_false_iff_eq.2 hkept
  rw [coreReset_eq]
  dsimp only
  rw [hlow, hgrave]
  rfl

/-- A reset of core logic is due: once the ramps have ended, or 10 ms after what brought it (R354). -/
theorem resetDue_iff {b : Block} :
    b.resetDue = true ↔ ∃ t, b.host.perstAt = some t ∧ (b.rampsRun = false ∨ t + 1000000 ≤ b.time.now) := by
  simp only [resetDue, Option.any_eq_true, Bool.or_eq_true, Bool.not_eq_true', decide_eq_true_eq]

/-! ### Start-up (R436, R437) -/

/-- PERST_N goes up. -/
def perstUp (b : Block) : Block := { b with host := { b.host with perst := false } }

/-- The Keyring is tested, and the identities are read. -/
def bootTested (o : BootOutcome) (b : Block) : Block :=
  (((((b.set 0 KR_STAT.STATE 1).updKr (fun r => { r with drbg := true })).arrive 594)).set 0 BF_ID.ID0 (o.id0.getD 0)).set 0 BF_ID.ID1
    (o.id1.getD 0)

/-- The stages of start-up once PERST_N is up. -/
def bootStages (o : BootOutcome) (b : Block) : Block :=
  if o.fuseOk = false then b.bootHalt 1
  else if o.katOk = false then (((b.updKr (fun r => { r with katBad := true })).set 0 KR_STAT.STATE 2).fault 422 0).bootHalt 2
  else if o.id0 = none ∧ o.id1 = none then (bootTested o b).bootHalt 4
  else
    let r := bootTry o (bootTested o b).bootOrder (bootTested o b)
    match r.2 with
    | none => r.1.bootHalt 3
    | some (i, img) => (r.1.bootFirmware i img).bootRun o

theorem perstDeassert_eq (b : Block) (o : BootOutcome) : b.perstDeassert o =
    if b.host.perst = true ∧ b.host.perstAt = none ∧ b.keeper.vaux = true ∧ b.flag 0 SP_STAT.MAIN = true then bootStages o b.perstUp
    else b := by
  have hguard : (!b.host.perst || b.host.perstAt.isSome || !b.keeper.vaux || !b.flag 0 SP_STAT.MAIN) = true ↔
      ¬ (b.host.perst = true ∧ b.host.perstAt = none ∧ b.keeper.vaux = true ∧ b.flag 0 SP_STAT.MAIN = true) := by
    cases b.host.perst <;> cases b.host.perstAt <;> cases b.keeper.vaux <;> simp
  simp only [perstDeassert, hguard, ite_not, bootStages, Bool.not_eq_true', Bool.and_eq_true, Option.isNone_iff_eq_none]
  rfl

section
variable {o : BootOutcome} (b : Block)

theorem bootStages_fuses (hf : o.fuseOk = false) : bootStages o b = b.bootHalt 1 := if_pos hf

theorem bootStages_kat (hf : o.fuseOk = true) (hk : o.katOk = false) :
    bootStages o b = (((b.updKr (fun r => { r with katBad := true })).set 0 KR_STAT.STATE 2).fault 422 0).bootHalt 2 :=
  (if_neg (ne_false_of_eq_true hf)).trans (if_pos hk)

variable (hf : o.fuseOk = true) (hk : o.katOk = true)
include hf hk

theorem bootStages_noId (h0 : o.id0 = none) (h1 : o.id1 = none) : bootStages o b = (bootTested o b).bootHalt 4 :=
  (if_neg (ne_false_of_eq_true hf)).trans ((if_neg (ne_false_of_eq_true hk)).trans (if_pos ⟨h0, h1⟩))

/-- With fuses, known-answer test and an identity the images are tried. -/
theorem bootStages_tries (hid : o.id0 ≠ none ∨ o.id1 ≠ none) : bootStages o b =
    let r := bootTry o (bootTested o b).bootOrder (bootTested o b)
    match r.2 with
    | none => r.1.bootHalt 3
    | some (i, img) => (r.1.bootFirmware i img).bootRun o :=
  (if_neg (ne_false_of_eq_true hf)).trans ((if_neg (ne_false_of_eq_true hk)).trans (if_neg (fun h => hid.elim (· h.1) (· h.2))))

theorem bootStages_noImage (hid : o.id0 ≠ none ∨ o.id1 ≠ none)
    (ht : (bootTry o (bootTested o b).bootOrder (bootTested o b)).2 = none) :
    bootStages o b = (bootTry o (bootTested o b).bootOrder (bootTested o b)).1.bootHalt 3 := by
  rw [bootStages_tries b hf hk hid]
  simp only [ht]

theorem bootStages_runs (hid : o.id0 ≠ none ∨ o.id1 ≠ none) {i : Nat} {img : SignedImage}
    (ht : (bootTry o (bootTested o b).bootOrder (bootTested o b)).2 = some (i, img)) :
    bootStages o b = ((bootTry o (bootTested o b).bootOrder (bootTested o b)).1.bootFirmware i img).bootRun o := by
  rw [bootStages_tries b hf hk hid]
  simp only [ht]

end

/-- Stages 3 to 8 before the number of the last one is set. -/
def bootSettled (b : Block) (o : BootOutcome) : Block :=
  let b := ((b.bootRows o).bootPatch o).bootMap o
  let b := (((List.range 4).foldl (fun b d => b.laneEye d (o.d2dEyes.getD d 0)) (b.trainDone o.eyes)).bootClear o).bootCal o
  (b.bootTests o).warmInit

theorem bootRun_eq (b : Block) (o : BootOutcome) : b.bootRun o = (b.bootSettled o).set 0 BOOT_PROG.STAGE 8 := rfl

/-- Start-up that is through ends at stage 8. -/
theorem stage_bootRun (b : Block) (o : BootOutcome) : (b.bootRun o).get 0 BOOT_PROG.STAGE = 8 := by
  rw [bootRun_eq, get_set_self]
  rfl

/-- Start-up may report READY (R347, R437). -/
def mayReady (b : Block) : Prop :=
  b.host.perst = false ∧ b.get 0 BOOT_PROG.STAGE = 8 ∧ b.flag 0 HQ_STAT.READY = false ∧ ∀ p < 32, b.get (16 * p) HBM_PC.STATE ≠ 2

theorem mayReady_iff (b : Block) :
    (!b.host.perst && b.get 0 BOOT_PROG.STAGE == 8 && !b.flag 0 HQ_STAT.READY &&
      (List.range 32).all (fun p => b.get (16 * p) HBM_PC.STATE != 2)) = true ↔ b.mayReady := by
  simp only [mayReady, Bool.and_eq_true, Bool.not_eq_true', beq_iff_eq, List.all_eq_true, List.mem_range, bne_iff_ne, and_assoc]

theorem bootReady_not {b : Block} (h : ¬ b.mayReady) (ms : Nat) : b.bootReady ms = b := if_neg (mt b.mayReady_iff.1 h)

/-! ### Supplies (R466 to R469) -/

theorem mainValid_eq (b : Block) : b.mainValid =
    if b.keeper.vaux = true ∧ b.flag 0 SP_STAT.MAIN = false then
      let b := b.setFlag 0 SP_STAT.MAIN true
      { b with flt := { b.flt with grave := false } }
    else b := by
  simp only [mainValid, Bool.and_eq_true, Bool.not_eq_true']

theorem railFault_running {b : Block} (h : b.flag 0 SP_STAT.MAIN = true) (hp : b.host.perst = false) : b.railFault =
    let b := (b.setFlag 0 SP_STAT.MAIN false).fault 426 0
    { b with host := { b.host with perstAt := some b.time.now, linkUp := false, l1 := false } } :=
  (if_pos h).trans (if_neg (ne_true_of_eq_false hp))

theorem railFault_inReset {b : Block} (h : b.flag 0 SP_STAT.MAIN = true) (hp : b.host.perst = true) :
    b.railFault = b.setFlag 0 SP_STAT.MAIN false :=
  (if_pos h).trans (if_pos hp)

theorem railOrder_eq (b : Block) : b.railOrder =
    if b.flag 0 SP_STAT.MAIN = false ∧ b.keeper.vaux = true then b.set 48 FC_STICKY.BITS (setBit (b.get 48 FC_STICKY.BITS) 42) else b := by
  unfold railOrder
  cases b.flag 0 SP_STAT.MAIN <;> cases b.keeper.vaux <;> rfl

end Block

theorem exec_coreReset {s : State} (h : s.blk.resetDue = true) : exec .coreReset s = .next s.coreReset := congrArg _ (if_pos h)

theorem State.coreReset_on (s : State) (f : Block → Block) :
    (s.on f).coreReset = { s with blk := (f s.blk).coreReset, mem := memReset s.mem } := rfl

theorem vauxLoss_powered {s : State} (h : s.blk.keeper.vaux = true) :
    vauxLoss s = { s with blk := (s.blk.keeperClear false).coreReset, mem := memReset s.mem } := by
  rw [vauxLoss, if_pos h]
  exact State.coreReset_on s _

end Sys2Proof.Machine
end

section
/-!
PROOFS. Reset, start-up and supplies.
-/
namespace Sys2Proof.Proofs
open Sys2Proof.Machine

/-- Settles O44: start-up is its stages in order, the reset of core logic a block built from the kept fields, and each event of the supplies
a guarded change of the block. -/
theorem resetStartUpAndSupplies : Obligations.ResetStartUpAndSupplies := by
  intro s o ms rail d b startable awake tested halt tried stages willReady due main
  have starts : startable → ∀ {g : Block → Block}, Block.bootStages o s.blk.perstUp = g s.blk →
      exec (.perstDeassert o) s = .next (s.on g) := fun h _ hg =>
    exec_of_on (·.perstDeassert o) rfl (((Block.perstDeassert_eq _ _).trans (if_pos h)).trans hg)
  refine ⟨?assert, ?again, ?noStart, ?fuses, ?kat, ?noId, ?noImage, ?runs, ?ready, ?notReady, ?reset, ?fields, ?memory, ?notDue, ?mainUp,
    ?noMainUp, ?railFault, ?railGone, ?noRail, ?order, ?noOrder, rfl, ?vaux, ?vauxAgain, ?loss, ?noLoss⟩
  case assert => exact fun h => exec_of_on Block.perstAssert rfl (if_neg (ne_true_of_eq_false h))
  case again => exact fun h => exec_self_of_on Block.perstAssert rfl (if_pos h)
  case noStart => exact fun h => exec_self_of_on (·.perstDeassert o) rfl ((Block.perstDeassert_eq _ _).trans (if_neg h))
  case fuses => exact fun h hf => starts h (Block.bootStages_fuses _ hf)
  case kat => exact fun h hf hk => starts h (Block.bootStages_kat _ hf hk)
  case noId => exact fun h hf hk h0 h1 => starts h (Block.bootStages_noId _ hf hk h0 h1)
  case noImage => exact fun h hf hk hid ht => starts h (Block.bootStages_noImage _ hf hk hid ht)
  case runs =>
    intro h hf hk hid i img ht
    have hrun := Block.bootStages_runs s.blk.perstUp hf hk hid ht
    exact ⟨starts h hrun, _, starts h (g := fun b => (Block.bootFirmware (Block.bootTry o (tested b).bootOrder (tested b)).1 i img).bootRun o)
      hrun, Block.stage_bootRun _ o⟩
  case ready =>
    refine fun h => exec_of_on (·.bootReady ms) rfl ?_
    dsimp only [Block.bootReady, Block.arriveIf]
    refine (if_pos (s.blk.mayReady_iff.2 h)).trans ?_
    generalize Block.calSync _ = c
    rfl
  case notReady => exact fun h => exec_self_of_on (·.bootReady ms) rfl (Block.bootReady_not h ms)
  case reset => exact fun h => exec_coreReset (Block.resetDue_iff.2 h)
  case fields =>
    intro h hgrave hclr
    refine ⟨_, exec_coreReset (Block.resetDue_iff.2 h), ?_⟩
    have hblk : s.coreReset.blk = s.blk.keptOver.scopeReset main := Block.coreReset_plain hgrave hclr
    obtain ⟨hkeeper, hhost⟩ := s.blk.keptOver.scopeReset_keeper_host main
    have hperst : (s.blk.copyFields Block.keptFields {}).host.perst = true := by rw [Block.copyFields_host]
    refine ⟨?_, ?_, fun x hx => ?_, fun base F hF => ?_⟩
    · exact hblk.symm ▸ hkeeper
    · exact hblk.symm ▸ hhost.symm ▸ hperst
    · exact hblk.symm ▸ s.blk.get_keptOver_scopeReset hx
    · exact hblk.symm ▸ s.blk.get_keptOver_scopeReset_ne hF
  case memory =>
    exact fun h => ⟨_, exec_coreReset (Block.resetDue_iff.2 h), byte_memReset s.mem⟩
  case notDue => exact fun h => congrArg _ (if_neg (mt Block.resetDue_iff.1 h))
  case mainUp => exact fun h => exec_of_on Block.mainValid rfl ((Block.mainValid_eq _).trans (if_pos h))
  case noMainUp => exact fun h => exec_self_of_on Block.mainValid rfl ((Block.mainValid_eq _).trans (if_neg h))
  case railFault => exact fun h hp => exec_of_on Block.railFault rfl (Block.railFault_running h hp)
  case railGone => exact fun h hp => exec_of_on Block.railFault rfl (Block.railFault_inReset h hp)
  case noRail => exact fun h => exec_self_of_on Block.railFault rfl (if_neg (ne_true_of_eq_false h))
  case order => exact fun h => exec_of_on Block.railOrder rfl ((Block.railOrder_eq _).trans (if_pos h))
  case noOrder => exact fun h => exec_self_of_on Block.railOrder rfl ((Block.railOrder_eq _).trans (if_neg h))
  case vaux =>
    intro h
    have hexec : exec .vauxPowerUp s = .next (s.on (fun b => b.keeperClear true)) :=
      exec_of_on Block.vauxUp rfl (if_neg (ne_true_of_eq_false h))
    exact ⟨hexec, _, hexec, rfl, rfl⟩
  case vauxAgain => exact fun h => exec_self_of_on Block.vauxUp rfl (if_pos h)
  case loss => exact fun h => congrArg Host.Outcome.next (vauxLoss_powered h)
  case noLoss => exact fun h => congrArg _ (if_neg (ne_true_of_eq_false h))

end Sys2Proof.Proofs
end
